-- ==== Sys2Proof/Word.lean ====
section
/-! DEFINITION. Word: the data of the ARM1176JZF-S. A word is 32 bits (R44, R49); bytes and halfwords are its parts. -/

namespace Sys2Proof

/-- A 32-bit word: a core register, a virtual or physical address, a system register, an ARM instruction. -/
abbrev Word := BitVec 32

/-- A byte of memory. -/
abbrev Byte := BitVec 8

/-- A halfword: a Thumb instruction. -/
abbrev Half := BitVec 16

/-- A doubleword: the raw bits of a double-precision register. -/
abbrev DWord := BitVec 64

end Sys2Proof
end

