-- ==== Sys2Proof/Config.lean ====
section
/-! DEFINITION. Config: what an implementation of the ARM1176JZF-S fixes (the parameters of R12 to R14, with the spec's
defaults), and the free values: constants without a body for what the spec leaves open, so that no proof can see them. -/

namespace Sys2Proof.Config

/-- The size of a cache (R12). -/
inductive CacheSize where
  | kb4 | kb8 | kb16 | kb32 | kb64
  deriving DecidableEq, Repr

/-- Its code in the Cache Type Register (R112), the same as in the Cache Size Mask Register (R362). -/
def CacheSize.code : CacheSize → Nat
  | .kb4 => 3 | .kb8 => 4 | .kb16 => 5 | .kb32 => 6 | .kb64 => 7

/-- log2 of the number of 32-byte lines in one of the four ways (R226, Table 3-68). -/
def CacheSize.setBits (c : CacheSize) : Nat := c.code + 2

/-- How much TCM a side is configured with (R755, Table 7-1). -/
inductive TcmConfig where
  | none | kb4 | kb8 | kb16 | kb32 | kb64
  deriving DecidableEq, Repr

/-- The number of TCMs of the side. -/
def TcmConfig.count : TcmConfig → Nat
  | .none => 0 | .kb4 => 1 | .kb8 => 2 | .kb16 => 2 | .kb32 => 2 | .kb64 => 2

/-- log2 of the size of each in bytes. -/
def TcmConfig.sizeLog : TcmConfig → Nat
  | .none => 12 | .kb4 => 12 | .kb8 => 12 | .kb16 => 13 | .kb32 => 14 | .kb64 => 15

/-- The size of each in bytes. -/
def TcmConfig.bytes (c : TcmConfig) : Nat := 2 ^ c.sizeLog

/-- The Size field of the Region Register of each (R303). -/
def TcmConfig.code : TcmConfig → Word
  | .none => 0 | .kb4 => 3 | .kb8 => 3 | .kb16 => 4 | .kb32 => 5 | .kb64 => 6

/-- The field of the Cache Size Mask Register (R362). -/
def TcmConfig.mask : TcmConfig → Word
  | .none => 0 | .kb4 => 3 | .kb8 => 4 | .kb16 => 5 | .kb32 => 6 | .kb64 => 7

/-- The revisions of R14. -/
inductive FpsidRevision where
  | r0p0 | r0p1 | r0p4
  deriving DecidableEq, Repr

/-- FPSID[3:0] of each; r0p4 is that of the later ones too (decision D22). -/
def FpsidRevision.code : FpsidRevision → BitVec 4
  | .r0p0 => 3 | .r0p1 => 4 | .r0p4 => 5

/-- The named parameters of R12 and R14. -/
structure Params where
  icache : CacheSize
  dcache : CacheSize
  itcm : TcmConfig
  dtcm : TcmConfig
  fpsidRevision : FpsidRevision
  deriving DecidableEq, Repr

/-- A side has TCMs: otherwise there is no DMA (R780). -/
def Params.hasTcm (p : Params) : Bool := p.itcm != .none || p.dtcm != .none

/-- The defaults: 16KB caches, two 8KB TCMs on each side, revision 0x5 (decision D22). -/
def Params.default : Params where
  icache := .kb16
  dcache := .kb16
  itcm := .kb16
  dtcm := .kb16
  fpsidRevision := .r0p4

/-- The System Validation Cache Size Mask Register at reset: the implemented sizes (R362). -/
def Params.sizeMask (p : Params) : Word :=
  (p.dtcm.mask <<< 12) ||| (p.itcm.mask <<< 8) ||| (BitVec.ofNat 32 p.dcache.code <<< 4) ||| BitVec.ofNat 32 p.icache.code

/-- The words the spec leaves open (`any value`, `a draw`), one for each number of the state's counter of draws. -/
opaque freeWord : Nat → Word

/-- Whether STR and STM of R15 store the instruction's address plus 12 instead of plus 8: the open parameter
`stored_pc_offset` of R1149 (decision D47), fixed for an implementation. -/
opaque storedPcIsPlus12 : Bool

end Sys2Proof.Config
end

