-- ==== Sys2Proof/Syntax.lean ====
section
/-! DEFINITION. Syntax: the instructions of the ARM1176JZF-S, one constructor for each row of spec/opcode_table.json, in
the table's order (ARM unconditional, VFP11, ARM conditional, Thumb). A constructor's arguments are the row's fields,
named after them; the immediates that BKPT and SMC carry in two parts (`source_fields` of their rows) are one argument. -/

namespace Sys2Proof

/-- The fifteen conditions of R823. The sixteenth code, 0b1111, is not a condition (R825): it selects the unconditional
instruction space, so it has no constructor here. -/
inductive Cond where
  | eq | ne | hs | lo | mi | pl | vs | vc | hi | ls | ge | lt | gt | le | al
  deriving DecidableEq, Repr

/-- The four shift types of R830 (`type`, bits [6:5]). -/
inductive ShiftTy where
  | lsl | lsr | asr | ror
  deriving DecidableEq, Repr

/-- The number of an ARM register in an encoding: R0 to R15 (R838's `nnnn`, `dddd`, `mmmm`, `ssss`). -/
abbrev RegNo := BitVec 4

/-- The number of a low register in a Thumb encoding: R0 to R7 (R1341). -/
abbrev LowReg := BitVec 3

/-- The two instruction sets that this model executes (R1340, R820); Jazelle state is outside it (R9). -/
inductive Isa where
  | arm | thumb
  deriving DecidableEq, Repr

/-- One instruction, as its row of the opcode table gives it. -/
inductive Instr where
  /-- CPS (ARM, R1266). -/
  | cps (imod : BitVec 2) (mmod : Bool) (aBit : Bool) (iBit : Bool) (fBit : Bool) (mode : BitVec 5)
  /-- SETEND (ARM, R1267). -/
  | setend (e : Bool)
  /-- CLREX (ARM, R1245). -/
  | clrex
  /-- PLD (ARM, R1186). -/
  | pldImm (u : Bool) (rn : RegNo) (imm : BitVec 12)
  /-- PLD (ARM, R1186). -/
  | pldReg (u : Bool) (rn : RegNo) (amount : BitVec 5) (ty : ShiftTy) (rm : RegNo)
  /-- SRS (ARM, R1197). -/
  | srs (p : Bool) (u : Bool) (wb : Bool) (mode : BitVec 5)
  /-- RFE (ARM, R1196). -/
  | rfe (p : Bool) (u : Bool) (wb : Bool) (rn : RegNo)
  /-- BLX (ARM, R1125). -/
  | blxImm (h : Bool) (imm : BitVec 24)
  /-- MCRR2 (ARM, R1311). -/
  | mcrr2 (rn : RegNo) (rd : RegNo) (cp : BitVec 4) (op : BitVec 4) (crm : BitVec 4)
  /-- MRRC2 (ARM, R1311). -/
  | mrrc2 (rn : RegNo) (rd : RegNo) (cp : BitVec 4) (op : BitVec 4) (crm : BitVec 4)
  /-- STC2 (ARM, R1311). -/
  | stc2Offset (u : Bool) (nBit : Bool) (wb : Bool) (rn : RegNo) (crd : BitVec 4) (cp : BitVec 4) (imm : BitVec 8)
  /-- STC2 (ARM, R1311). -/
  | stc2Post (u : Bool) (nBit : Bool) (rn : RegNo) (crd : BitVec 4) (cp : BitVec 4) (imm : BitVec 8)
  /-- STC2 (ARM, R1311). -/
  | stc2Unindexed (nBit : Bool) (rn : RegNo) (crd : BitVec 4) (cp : BitVec 4) (opt : BitVec 8)
  /-- LDC2 (ARM, R1311). -/
  | ldc2Offset (u : Bool) (nBit : Bool) (wb : Bool) (rn : RegNo) (crd : BitVec 4) (cp : BitVec 4) (imm : BitVec 8)
  /-- LDC2 (ARM, R1311). -/
  | ldc2Post (u : Bool) (nBit : Bool) (rn : RegNo) (crd : BitVec 4) (cp : BitVec 4) (imm : BitVec 8)
  /-- LDC2 (ARM, R1311). -/
  | ldc2Unindexed (nBit : Bool) (rn : RegNo) (crd : BitVec 4) (cp : BitVec 4) (opt : BitVec 8)
  /-- CDP2 (ARM, R1311). -/
  | cdp2 (op1 : BitVec 4) (crn : BitVec 4) (crd : BitVec 4) (cp : BitVec 4) (op2 : BitVec 3) (crm : BitVec 4)
  /-- MCR2 (ARM, R1311). -/
  | mcr2 (op1 : BitVec 3) (crn : BitVec 4) (rd : RegNo) (cp : BitVec 4) (op2 : BitVec 3) (crm : BitVec 4)
  /-- MRC2 (ARM, R1311). -/
  | mrc2 (op1 : BitVec 3) (crn : BitVec 4) (rd : RegNo) (cp : BitVec 4) (op2 : BitVec 3) (crm : BitVec 4)
  /-- UNDEFINED (ARM, R842). -/
  | undefinedArm (ignored : BitVec 28)
  /-- FMACS (VFP, R1449). -/
  | fmacs (c : Cond) (dBit : Bool) (fn : BitVec 4) (fd : BitVec 4) (nBit : Bool) (mBit : Bool) (fm : BitVec 4)
  /-- FMACD (VFP, R1449). -/
  | fmacd (c : Cond) (fn : BitVec 4) (fd : BitVec 4) (fm : BitVec 4)
  /-- FNMACS (VFP, R1450). -/
  | fnmacs (c : Cond) (dBit : Bool) (fn : BitVec 4) (fd : BitVec 4) (nBit : Bool) (mBit : Bool) (fm : BitVec 4)
  /-- FNMACD (VFP, R1450). -/
  | fnmacd (c : Cond) (fn : BitVec 4) (fd : BitVec 4) (fm : BitVec 4)
  /-- FMSCS (VFP, R1451). -/
  | fmscs (c : Cond) (dBit : Bool) (fn : BitVec 4) (fd : BitVec 4) (nBit : Bool) (mBit : Bool) (fm : BitVec 4)
  /-- FMSCD (VFP, R1451). -/
  | fmscd (c : Cond) (fn : BitVec 4) (fd : BitVec 4) (fm : BitVec 4)
  /-- FNMSCS (VFP, R1452). -/
  | fnmscs (c : Cond) (dBit : Bool) (fn : BitVec 4) (fd : BitVec 4) (nBit : Bool) (mBit : Bool) (fm : BitVec 4)
  /-- FNMSCD (VFP, R1452). -/
  | fnmscd (c : Cond) (fn : BitVec 4) (fd : BitVec 4) (fm : BitVec 4)
  /-- FMULS (VFP, R1447). -/
  | fmuls (c : Cond) (dBit : Bool) (fn : BitVec 4) (fd : BitVec 4) (nBit : Bool) (mBit : Bool) (fm : BitVec 4)
  /-- FMULD (VFP, R1447). -/
  | fmuld (c : Cond) (fn : BitVec 4) (fd : BitVec 4) (fm : BitVec 4)
  /-- FNMULS (VFP, R1448). -/
  | fnmuls (c : Cond) (dBit : Bool) (fn : BitVec 4) (fd : BitVec 4) (nBit : Bool) (mBit : Bool) (fm : BitVec 4)
  /-- FNMULD (VFP, R1448). -/
  | fnmuld (c : Cond) (fn : BitVec 4) (fd : BitVec 4) (fm : BitVec 4)
  /-- FADDS (VFP, R1445). -/
  | fadds (c : Cond) (dBit : Bool) (fn : BitVec 4) (fd : BitVec 4) (nBit : Bool) (mBit : Bool) (fm : BitVec 4)
  /-- FADDD (VFP, R1445). -/
  | faddd (c : Cond) (fn : BitVec 4) (fd : BitVec 4) (fm : BitVec 4)
  /-- FSUBS (VFP, R1446). -/
  | fsubs (c : Cond) (dBit : Bool) (fn : BitVec 4) (fd : BitVec 4) (nBit : Bool) (mBit : Bool) (fm : BitVec 4)
  /-- FSUBD (VFP, R1446). -/
  | fsubd (c : Cond) (fn : BitVec 4) (fd : BitVec 4) (fm : BitVec 4)
  /-- FDIVS (VFP, R1453). -/
  | fdivs (c : Cond) (dBit : Bool) (fn : BitVec 4) (fd : BitVec 4) (nBit : Bool) (mBit : Bool) (fm : BitVec 4)
  /-- FDIVD (VFP, R1453). -/
  | fdivd (c : Cond) (fn : BitVec 4) (fd : BitVec 4) (fm : BitVec 4)
  /-- FCPYS (VFP, R1455). -/
  | fcpys (c : Cond) (dBit : Bool) (fd : BitVec 4) (mBit : Bool) (fm : BitVec 4)
  /-- FCPYD (VFP, R1455). -/
  | fcpyd (c : Cond) (fd : BitVec 4) (fm : BitVec 4)
  /-- FABSS (VFP, R1456). -/
  | fabss (c : Cond) (dBit : Bool) (fd : BitVec 4) (mBit : Bool) (fm : BitVec 4)
  /-- FABSD (VFP, R1456). -/
  | fabsd (c : Cond) (fd : BitVec 4) (fm : BitVec 4)
  /-- FNEGS (VFP, R1457). -/
  | fnegs (c : Cond) (dBit : Bool) (fd : BitVec 4) (mBit : Bool) (fm : BitVec 4)
  /-- FNEGD (VFP, R1457). -/
  | fnegd (c : Cond) (fd : BitVec 4) (fm : BitVec 4)
  /-- FSQRTS (VFP, R1454). -/
  | fsqrts (c : Cond) (dBit : Bool) (fd : BitVec 4) (mBit : Bool) (fm : BitVec 4)
  /-- FSQRTD (VFP, R1454). -/
  | fsqrtd (c : Cond) (fd : BitVec 4) (fm : BitVec 4)
  /-- FCMPS (VFP, R1458). -/
  | fcmps (c : Cond) (dBit : Bool) (fd : BitVec 4) (mBit : Bool) (fm : BitVec 4)
  /-- FCMPD (VFP, R1458). -/
  | fcmpd (c : Cond) (fd : BitVec 4) (fm : BitVec 4)
  /-- FCMPES (VFP, R1459). -/
  | fcmpes (c : Cond) (dBit : Bool) (fd : BitVec 4) (mBit : Bool) (fm : BitVec 4)
  /-- FCMPED (VFP, R1459). -/
  | fcmped (c : Cond) (fd : BitVec 4) (fm : BitVec 4)
  /-- FCMPZS (VFP, R1460). -/
  | fcmpzs (c : Cond) (dBit : Bool) (fd : BitVec 4)
  /-- FCMPZD (VFP, R1460). -/
  | fcmpzd (c : Cond) (fd : BitVec 4)
  /-- FCMPEZS (VFP, R1461). -/
  | fcmpezs (c : Cond) (dBit : Bool) (fd : BitVec 4)
  /-- FCMPEZD (VFP, R1461). -/
  | fcmpezd (c : Cond) (fd : BitVec 4)
  /-- FCVTDS (VFP, R1462). -/
  | fcvtds (c : Cond) (fd : BitVec 4) (mBit : Bool) (fm : BitVec 4)
  /-- FCVTSD (VFP, R1463). -/
  | fcvtsd (c : Cond) (dBit : Bool) (fd : BitVec 4) (fm : BitVec 4)
  /-- FUITOS (VFP, R1464). -/
  | fuitos (c : Cond) (dBit : Bool) (fd : BitVec 4) (mBit : Bool) (fm : BitVec 4)
  /-- FUITOD (VFP, R1464). -/
  | fuitod (c : Cond) (fd : BitVec 4) (mBit : Bool) (fm : BitVec 4)
  /-- FSITOS (VFP, R1465). -/
  | fsitos (c : Cond) (dBit : Bool) (fd : BitVec 4) (mBit : Bool) (fm : BitVec 4)
  /-- FSITOD (VFP, R1465). -/
  | fsitod (c : Cond) (fd : BitVec 4) (mBit : Bool) (fm : BitVec 4)
  /-- FTOUIS (VFP, R1466). -/
  | ftouis (c : Cond) (dBit : Bool) (fd : BitVec 4) (mBit : Bool) (fm : BitVec 4)
  /-- FTOUID (VFP, R1466). -/
  | ftouid (c : Cond) (dBit : Bool) (fd : BitVec 4) (fm : BitVec 4)
  /-- FTOUIZS (VFP, R1467). -/
  | ftouizs (c : Cond) (dBit : Bool) (fd : BitVec 4) (mBit : Bool) (fm : BitVec 4)
  /-- FTOUIZD (VFP, R1467). -/
  | ftouizd (c : Cond) (dBit : Bool) (fd : BitVec 4) (fm : BitVec 4)
  /-- FTOSIS (VFP, R1468). -/
  | ftosis (c : Cond) (dBit : Bool) (fd : BitVec 4) (mBit : Bool) (fm : BitVec 4)
  /-- FTOSID (VFP, R1468). -/
  | ftosid (c : Cond) (dBit : Bool) (fd : BitVec 4) (fm : BitVec 4)
  /-- FTOSIZS (VFP, R1469). -/
  | ftosizs (c : Cond) (dBit : Bool) (fd : BitVec 4) (mBit : Bool) (fm : BitVec 4)
  /-- FTOSIZD (VFP, R1469). -/
  | ftosizd (c : Cond) (dBit : Bool) (fd : BitVec 4) (fm : BitVec 4)
  /-- FLDS (VFP, R1475). -/
  | flds (c : Cond) (u : Bool) (dBit : Bool) (rn : RegNo) (fd : BitVec 4) (imm : BitVec 8)
  /-- FLDD (VFP, R1476). -/
  | fldd (c : Cond) (u : Bool) (rn : RegNo) (fd : BitVec 4) (imm : BitVec 8)
  /-- FSTS (VFP, R1477). -/
  | fsts (c : Cond) (u : Bool) (dBit : Bool) (rn : RegNo) (fd : BitVec 4) (imm : BitVec 8)
  /-- FSTD (VFP, R1478). -/
  | fstd (c : Cond) (u : Bool) (rn : RegNo) (fd : BitVec 4) (imm : BitVec 8)
  /-- FLDMS (VFP, R1479). -/
  | fldmsIa (c : Cond) (dBit : Bool) (wb : Bool) (rn : RegNo) (fd : BitVec 4) (imm : BitVec 8)
  /-- FLDMS (VFP, R1479). -/
  | fldmsDb (c : Cond) (dBit : Bool) (rn : RegNo) (fd : BitVec 4) (imm : BitVec 8)
  /-- FLDMD (VFP, R1480). -/
  | fldmdIa (c : Cond) (wb : Bool) (rn : RegNo) (fd : BitVec 4) (immHi : BitVec 7)
  /-- FLDMD (VFP, R1480). -/
  | fldmdDb (c : Cond) (rn : RegNo) (fd : BitVec 4) (immHi : BitVec 7)
  /-- FLDMX (VFP, R1481). -/
  | fldmxIa (c : Cond) (wb : Bool) (rn : RegNo) (fd : BitVec 4) (immHi : BitVec 7)
  /-- FLDMX (VFP, R1481). -/
  | fldmxDb (c : Cond) (rn : RegNo) (fd : BitVec 4) (immHi : BitVec 7)
  /-- FSTMS (VFP, R1482). -/
  | fstmsIa (c : Cond) (dBit : Bool) (wb : Bool) (rn : RegNo) (fd : BitVec 4) (imm : BitVec 8)
  /-- FSTMS (VFP, R1482). -/
  | fstmsDb (c : Cond) (dBit : Bool) (rn : RegNo) (fd : BitVec 4) (imm : BitVec 8)
  /-- FSTMD (VFP, R1483). -/
  | fstmdIa (c : Cond) (wb : Bool) (rn : RegNo) (fd : BitVec 4) (immHi : BitVec 7)
  /-- FSTMD (VFP, R1483). -/
  | fstmdDb (c : Cond) (rn : RegNo) (fd : BitVec 4) (immHi : BitVec 7)
  /-- FSTMX (VFP, R1484). -/
  | fstmxIa (c : Cond) (wb : Bool) (rn : RegNo) (fd : BitVec 4) (immHi : BitVec 7)
  /-- FSTMX (VFP, R1484). -/
  | fstmxDb (c : Cond) (rn : RegNo) (fd : BitVec 4) (immHi : BitVec 7)
  /-- FMSTAT (VFP, R1498). -/
  | fmstat (c : Cond)
  /-- FMSR (VFP, R1490). -/
  | fmsr (c : Cond) (fn : BitVec 4) (rd : RegNo) (nBit : Bool)
  /-- FMRS (VFP, R1491). -/
  | fmrs (c : Cond) (fn : BitVec 4) (rd : RegNo) (nBit : Bool)
  /-- FMDLR (VFP, R1492). -/
  | fmdlr (c : Cond) (fn : BitVec 4) (rd : RegNo)
  /-- FMRDL (VFP, R1493). -/
  | fmrdl (c : Cond) (fn : BitVec 4) (rd : RegNo)
  /-- FMDHR (VFP, R1494). -/
  | fmdhr (c : Cond) (fn : BitVec 4) (rd : RegNo)
  /-- FMRDH (VFP, R1495). -/
  | fmrdh (c : Cond) (fn : BitVec 4) (rd : RegNo)
  /-- FMXR (VFP, R1496). -/
  | fmxr (c : Cond) (sysReg : BitVec 4) (rd : RegNo)
  /-- FMRX (VFP, R1497). -/
  | fmrx (c : Cond) (sysReg : BitVec 4) (rd : RegNo)
  /-- FMDRR (VFP, R1499). -/
  | fmdrr (c : Cond) (rn : RegNo) (rd : RegNo) (fm : BitVec 4)
  /-- FMRRD (VFP, R1500). -/
  | fmrrd (c : Cond) (rn : RegNo) (rd : RegNo) (fm : BitVec 4)
  /-- FMSRR (VFP, R1501). -/
  | fmsrr (c : Cond) (rn : RegNo) (rd : RegNo) (mBit : Bool) (fm : BitVec 4)
  /-- FMRRS (VFP, R1502). -/
  | fmrrs (c : Cond) (rn : RegNo) (rd : RegNo) (mBit : Bool) (fm : BitVec 4)
  /-- MRS (ARM, R1263). -/
  | mrs (c : Cond) (r : Bool) (rd : RegNo)
  /-- MSR (ARM, R1264). -/
  | msrReg (c : Cond) (r : Bool) (fields : BitVec 4) (rm : RegNo)
  /-- BX (ARM, R1126). -/
  | bx (c : Cond) (rm : RegNo)
  /-- BXJ (ARM, R1127). -/
  | bxj (c : Cond) (rm : RegNo)
  /-- BLX (ARM, R1128). -/
  | blxReg (c : Cond) (rm : RegNo)
  /-- CLZ (ARM, R924). -/
  | clz (c : Cond) (rd : RegNo) (rm : RegNo)
  /-- QADD (ARM, R975). -/
  | qadd (c : Cond) (rn : RegNo) (rd : RegNo) (rm : RegNo)
  /-- QSUB (ARM, R976). -/
  | qsub (c : Cond) (rn : RegNo) (rd : RegNo) (rm : RegNo)
  /-- QDADD (ARM, R977). -/
  | qdadd (c : Cond) (rn : RegNo) (rd : RegNo) (rm : RegNo)
  /-- QDSUB (ARM, R978). -/
  | qdsub (c : Cond) (rn : RegNo) (rd : RegNo) (rm : RegNo)
  /-- BKPT (ARM, R1270). -/
  | bkpt (imm : BitVec 16)
  /-- SMC (ARM, R1269). -/
  | smc (c : Cond) (imm : BitVec 16)
  /-- SMLAxy (ARM, R971). -/
  | smlaXY (c : Cond) (rd : RegNo) (rn : RegNo) (rs : RegNo) (y : Bool) (x : Bool) (rm : RegNo)
  /-- SMLAWy (ARM, R973). -/
  | smlawY (c : Cond) (rd : RegNo) (rn : RegNo) (rs : RegNo) (y : Bool) (rm : RegNo)
  /-- SMULWy (ARM, R972). -/
  | smulwY (c : Cond) (rd : RegNo) (rs : RegNo) (y : Bool) (rm : RegNo)
  /-- SMLALxy (ARM, R974). -/
  | smlalXY (c : Cond) (rdHi : RegNo) (rdLo : RegNo) (rs : RegNo) (y : Bool) (x : Bool) (rm : RegNo)
  /-- SMULxy (ARM, R970). -/
  | smulXY (c : Cond) (rd : RegNo) (rs : RegNo) (y : Bool) (x : Bool) (rm : RegNo)
  /-- MUL (ARM, R963). -/
  | mul (c : Cond) (sf : Bool) (rd : RegNo) (rs : RegNo) (rm : RegNo)
  /-- MLA (ARM, R964). -/
  | mla (c : Cond) (sf : Bool) (rd : RegNo) (rn : RegNo) (rs : RegNo) (rm : RegNo)
  /-- UMAAL (ARM, R969). -/
  | umaal (c : Cond) (rdHi : RegNo) (rdLo : RegNo) (rs : RegNo) (rm : RegNo)
  /-- UMULL (ARM, R965). -/
  | umull (c : Cond) (sf : Bool) (rdHi : RegNo) (rdLo : RegNo) (rs : RegNo) (rm : RegNo)
  /-- UMLAL (ARM, R966). -/
  | umlal (c : Cond) (sf : Bool) (rdHi : RegNo) (rdLo : RegNo) (rs : RegNo) (rm : RegNo)
  /-- SMULL (ARM, R967). -/
  | smull (c : Cond) (sf : Bool) (rdHi : RegNo) (rdLo : RegNo) (rs : RegNo) (rm : RegNo)
  /-- SMLAL (ARM, R968). -/
  | smlal (c : Cond) (sf : Bool) (rdHi : RegNo) (rdLo : RegNo) (rs : RegNo) (rm : RegNo)
  /-- SWP (ARM, R1235). -/
  | swp (c : Cond) (rn : RegNo) (rd : RegNo) (rm : RegNo)
  /-- SWPB (ARM, R1236). -/
  | swpb (c : Cond) (rn : RegNo) (rd : RegNo) (rm : RegNo)
  /-- STREX (ARM, R1238). -/
  | strex (c : Cond) (rn : RegNo) (rd : RegNo) (rm : RegNo)
  /-- LDREX (ARM, R1237). -/
  | ldrex (c : Cond) (rn : RegNo) (rd : RegNo)
  /-- STREXD (ARM, R1244). -/
  | strexd (c : Cond) (rn : RegNo) (rd : RegNo) (rm : RegNo)
  /-- LDREXD (ARM, R1243). -/
  | ldrexd (c : Cond) (rn : RegNo) (rd : RegNo)
  /-- STREXB (ARM, R1240). -/
  | strexb (c : Cond) (rn : RegNo) (rd : RegNo) (rm : RegNo)
  /-- LDREXB (ARM, R1239). -/
  | ldrexb (c : Cond) (rn : RegNo) (rd : RegNo)
  /-- STREXH (ARM, R1242). -/
  | strexh (c : Cond) (rn : RegNo) (rd : RegNo) (rm : RegNo)
  /-- LDREXH (ARM, R1241). -/
  | ldrexh (c : Cond) (rn : RegNo) (rd : RegNo)
  /-- STRH (ARM, R1163). -/
  | strhImm (c : Cond) (p : Bool) (u : Bool) (wb : Bool) (rn : RegNo) (rd : RegNo) (immH : BitVec 4) (immL : BitVec 4)
  /-- STRH (ARM, R1163). -/
  | strhReg (c : Cond) (p : Bool) (u : Bool) (wb : Bool) (rn : RegNo) (rd : RegNo) (rm : RegNo)
  /-- LDRD (ARM, R1164). -/
  | ldrdImm (c : Cond) (p : Bool) (u : Bool) (wb : Bool) (rn : RegNo) (rd : RegNo) (immH : BitVec 4) (immL : BitVec 4)
  /-- LDRD (ARM, R1164). -/
  | ldrdReg (c : Cond) (p : Bool) (u : Bool) (wb : Bool) (rn : RegNo) (rd : RegNo) (rm : RegNo)
  /-- STRD (ARM, R1165). -/
  | strdImm (c : Cond) (p : Bool) (u : Bool) (wb : Bool) (rn : RegNo) (rd : RegNo) (immH : BitVec 4) (immL : BitVec 4)
  /-- STRD (ARM, R1165). -/
  | strdReg (c : Cond) (p : Bool) (u : Bool) (wb : Bool) (rn : RegNo) (rd : RegNo) (rm : RegNo)
  /-- LDRH (ARM, R1160). -/
  | ldrhImm (c : Cond) (p : Bool) (u : Bool) (wb : Bool) (rn : RegNo) (rd : RegNo) (immH : BitVec 4) (immL : BitVec 4)
  /-- LDRH (ARM, R1160). -/
  | ldrhReg (c : Cond) (p : Bool) (u : Bool) (wb : Bool) (rn : RegNo) (rd : RegNo) (rm : RegNo)
  /-- LDRSB (ARM, R1162). -/
  | ldrsbImm (c : Cond) (p : Bool) (u : Bool) (wb : Bool) (rn : RegNo) (rd : RegNo) (immH : BitVec 4) (immL : BitVec 4)
  /-- LDRSB (ARM, R1162). -/
  | ldrsbReg (c : Cond) (p : Bool) (u : Bool) (wb : Bool) (rn : RegNo) (rd : RegNo) (rm : RegNo)
  /-- LDRSH (ARM, R1161). -/
  | ldrshImm (c : Cond) (p : Bool) (u : Bool) (wb : Bool) (rn : RegNo) (rd : RegNo) (immH : BitVec 4) (immL : BitVec 4)
  /-- LDRSH (ARM, R1161). -/
  | ldrshReg (c : Cond) (p : Bool) (u : Bool) (wb : Bool) (rn : RegNo) (rd : RegNo) (rm : RegNo)
  /-- NOP (ARM, R1271). -/
  | nop (c : Cond)
  /-- YIELD (ARM, R1271). -/
  | yield (c : Cond)
  /-- NOP__reserved_hint (ARM, R1271). -/
  | nopReservedHint (c : Cond) (hint : BitVec 8)
  /-- MSR (ARM, R1265). -/
  | msrImm (c : Cond) (r : Bool) (fields : BitVec 4) (rot : BitVec 4) (imm : BitVec 8)
  /-- CPY (ARM, R922). -/
  | cpy (c : Cond) (rd : RegNo) (rm : RegNo)
  /-- AND (ARM, R908). -/
  | andImm (c : Cond) (sf : Bool) (rn : RegNo) (rd : RegNo) (rot : BitVec 4) (imm : BitVec 8)
  /-- AND (ARM, R908). -/
  | andShift (c : Cond) (sf : Bool) (rn : RegNo) (rd : RegNo) (amount : BitVec 5) (ty : ShiftTy) (rm : RegNo)
  /-- AND (ARM, R908). -/
  | andRegShift (c : Cond) (sf : Bool) (rn : RegNo) (rd : RegNo) (rs : RegNo) (ty : ShiftTy) (rm : RegNo)
  /-- EOR (ARM, R909). -/
  | eorImm (c : Cond) (sf : Bool) (rn : RegNo) (rd : RegNo) (rot : BitVec 4) (imm : BitVec 8)
  /-- EOR (ARM, R909). -/
  | eorShift (c : Cond) (sf : Bool) (rn : RegNo) (rd : RegNo) (amount : BitVec 5) (ty : ShiftTy) (rm : RegNo)
  /-- EOR (ARM, R909). -/
  | eorRegShift (c : Cond) (sf : Bool) (rn : RegNo) (rd : RegNo) (rs : RegNo) (ty : ShiftTy) (rm : RegNo)
  /-- SUB (ARM, R910). -/
  | subImm (c : Cond) (sf : Bool) (rn : RegNo) (rd : RegNo) (rot : BitVec 4) (imm : BitVec 8)
  /-- SUB (ARM, R910). -/
  | subShift (c : Cond) (sf : Bool) (rn : RegNo) (rd : RegNo) (amount : BitVec 5) (ty : ShiftTy) (rm : RegNo)
  /-- SUB (ARM, R910). -/
  | subRegShift (c : Cond) (sf : Bool) (rn : RegNo) (rd : RegNo) (rs : RegNo) (ty : ShiftTy) (rm : RegNo)
  /-- RSB (ARM, R911). -/
  | rsbImm (c : Cond) (sf : Bool) (rn : RegNo) (rd : RegNo) (rot : BitVec 4) (imm : BitVec 8)
  /-- RSB (ARM, R911). -/
  | rsbShift (c : Cond) (sf : Bool) (rn : RegNo) (rd : RegNo) (amount : BitVec 5) (ty : ShiftTy) (rm : RegNo)
  /-- RSB (ARM, R911). -/
  | rsbRegShift (c : Cond) (sf : Bool) (rn : RegNo) (rd : RegNo) (rs : RegNo) (ty : ShiftTy) (rm : RegNo)
  /-- ADD (ARM, R912). -/
  | addImm (c : Cond) (sf : Bool) (rn : RegNo) (rd : RegNo) (rot : BitVec 4) (imm : BitVec 8)
  /-- ADD (ARM, R912). -/
  | addShift (c : Cond) (sf : Bool) (rn : RegNo) (rd : RegNo) (amount : BitVec 5) (ty : ShiftTy) (rm : RegNo)
  /-- ADD (ARM, R912). -/
  | addRegShift (c : Cond) (sf : Bool) (rn : RegNo) (rd : RegNo) (rs : RegNo) (ty : ShiftTy) (rm : RegNo)
  /-- ADC (ARM, R913). -/
  | adcImm (c : Cond) (sf : Bool) (rn : RegNo) (rd : RegNo) (rot : BitVec 4) (imm : BitVec 8)
  /-- ADC (ARM, R913). -/
  | adcShift (c : Cond) (sf : Bool) (rn : RegNo) (rd : RegNo) (amount : BitVec 5) (ty : ShiftTy) (rm : RegNo)
  /-- ADC (ARM, R913). -/
  | adcRegShift (c : Cond) (sf : Bool) (rn : RegNo) (rd : RegNo) (rs : RegNo) (ty : ShiftTy) (rm : RegNo)
  /-- SBC (ARM, R914). -/
  | sbcImm (c : Cond) (sf : Bool) (rn : RegNo) (rd : RegNo) (rot : BitVec 4) (imm : BitVec 8)
  /-- SBC (ARM, R914). -/
  | sbcShift (c : Cond) (sf : Bool) (rn : RegNo) (rd : RegNo) (amount : BitVec 5) (ty : ShiftTy) (rm : RegNo)
  /-- SBC (ARM, R914). -/
  | sbcRegShift (c : Cond) (sf : Bool) (rn : RegNo) (rd : RegNo) (rs : RegNo) (ty : ShiftTy) (rm : RegNo)
  /-- RSC (ARM, R915). -/
  | rscImm (c : Cond) (sf : Bool) (rn : RegNo) (rd : RegNo) (rot : BitVec 4) (imm : BitVec 8)
  /-- RSC (ARM, R915). -/
  | rscShift (c : Cond) (sf : Bool) (rn : RegNo) (rd : RegNo) (amount : BitVec 5) (ty : ShiftTy) (rm : RegNo)
  /-- RSC (ARM, R915). -/
  | rscRegShift (c : Cond) (sf : Bool) (rn : RegNo) (rd : RegNo) (rs : RegNo) (ty : ShiftTy) (rm : RegNo)
  /-- TST (ARM, R916). -/
  | tstImm (c : Cond) (rn : RegNo) (rot : BitVec 4) (imm : BitVec 8)
  /-- TST (ARM, R916). -/
  | tstShift (c : Cond) (rn : RegNo) (amount : BitVec 5) (ty : ShiftTy) (rm : RegNo)
  /-- TST (ARM, R916). -/
  | tstRegShift (c : Cond) (rn : RegNo) (rs : RegNo) (ty : ShiftTy) (rm : RegNo)
  /-- TEQ (ARM, R917). -/
  | teqImm (c : Cond) (rn : RegNo) (rot : BitVec 4) (imm : BitVec 8)
  /-- TEQ (ARM, R917). -/
  | teqShift (c : Cond) (rn : RegNo) (amount : BitVec 5) (ty : ShiftTy) (rm : RegNo)
  /-- TEQ (ARM, R917). -/
  | teqRegShift (c : Cond) (rn : RegNo) (rs : RegNo) (ty : ShiftTy) (rm : RegNo)
  /-- CMP (ARM, R918). -/
  | cmpImm (c : Cond) (rn : RegNo) (rot : BitVec 4) (imm : BitVec 8)
  /-- CMP (ARM, R918). -/
  | cmpShift (c : Cond) (rn : RegNo) (amount : BitVec 5) (ty : ShiftTy) (rm : RegNo)
  /-- CMP (ARM, R918). -/
  | cmpRegShift (c : Cond) (rn : RegNo) (rs : RegNo) (ty : ShiftTy) (rm : RegNo)
  /-- CMN (ARM, R919). -/
  | cmnImm (c : Cond) (rn : RegNo) (rot : BitVec 4) (imm : BitVec 8)
  /-- CMN (ARM, R919). -/
  | cmnShift (c : Cond) (rn : RegNo) (amount : BitVec 5) (ty : ShiftTy) (rm : RegNo)
  /-- CMN (ARM, R919). -/
  | cmnRegShift (c : Cond) (rn : RegNo) (rs : RegNo) (ty : ShiftTy) (rm : RegNo)
  /-- ORR (ARM, R920). -/
  | orrImm (c : Cond) (sf : Bool) (rn : RegNo) (rd : RegNo) (rot : BitVec 4) (imm : BitVec 8)
  /-- ORR (ARM, R920). -/
  | orrShift (c : Cond) (sf : Bool) (rn : RegNo) (rd : RegNo) (amount : BitVec 5) (ty : ShiftTy) (rm : RegNo)
  /-- ORR (ARM, R920). -/
  | orrRegShift (c : Cond) (sf : Bool) (rn : RegNo) (rd : RegNo) (rs : RegNo) (ty : ShiftTy) (rm : RegNo)
  /-- MOV (ARM, R921). -/
  | movImm (c : Cond) (sf : Bool) (rd : RegNo) (rot : BitVec 4) (imm : BitVec 8)
  /-- MOV (ARM, R921). -/
  | movShift (c : Cond) (sf : Bool) (rd : RegNo) (amount : BitVec 5) (ty : ShiftTy) (rm : RegNo)
  /-- MOV (ARM, R921). -/
  | movRegShift (c : Cond) (sf : Bool) (rd : RegNo) (rs : RegNo) (ty : ShiftTy) (rm : RegNo)
  /-- BIC (ARM, R923). -/
  | bicImm (c : Cond) (sf : Bool) (rn : RegNo) (rd : RegNo) (rot : BitVec 4) (imm : BitVec 8)
  /-- BIC (ARM, R923). -/
  | bicShift (c : Cond) (sf : Bool) (rn : RegNo) (rd : RegNo) (amount : BitVec 5) (ty : ShiftTy) (rm : RegNo)
  /-- BIC (ARM, R923). -/
  | bicRegShift (c : Cond) (sf : Bool) (rn : RegNo) (rd : RegNo) (rs : RegNo) (ty : ShiftTy) (rm : RegNo)
  /-- MVN (ARM, R921). -/
  | mvnImm (c : Cond) (sf : Bool) (rd : RegNo) (rot : BitVec 4) (imm : BitVec 8)
  /-- MVN (ARM, R921). -/
  | mvnShift (c : Cond) (sf : Bool) (rd : RegNo) (amount : BitVec 5) (ty : ShiftTy) (rm : RegNo)
  /-- MVN (ARM, R921). -/
  | mvnRegShift (c : Cond) (sf : Bool) (rd : RegNo) (rs : RegNo) (ty : ShiftTy) (rm : RegNo)
  /-- LDRT (ARM, R1155). -/
  | ldrtImm (c : Cond) (u : Bool) (rn : RegNo) (rd : RegNo) (imm : BitVec 12)
  /-- LDRT (ARM, R1155). -/
  | ldrtReg (c : Cond) (u : Bool) (rn : RegNo) (rd : RegNo) (amount : BitVec 5) (ty : ShiftTy) (rm : RegNo)
  /-- LDRBT (ARM, R1156). -/
  | ldrbtImm (c : Cond) (u : Bool) (rn : RegNo) (rd : RegNo) (imm : BitVec 12)
  /-- LDRBT (ARM, R1156). -/
  | ldrbtReg (c : Cond) (u : Bool) (rn : RegNo) (rd : RegNo) (amount : BitVec 5) (ty : ShiftTy) (rm : RegNo)
  /-- STRT (ARM, R1157). -/
  | strtImm (c : Cond) (u : Bool) (rn : RegNo) (rd : RegNo) (imm : BitVec 12)
  /-- STRT (ARM, R1157). -/
  | strtReg (c : Cond) (u : Bool) (rn : RegNo) (rd : RegNo) (amount : BitVec 5) (ty : ShiftTy) (rm : RegNo)
  /-- STRBT (ARM, R1158). -/
  | strbtImm (c : Cond) (u : Bool) (rn : RegNo) (rd : RegNo) (imm : BitVec 12)
  /-- STRBT (ARM, R1158). -/
  | strbtReg (c : Cond) (u : Bool) (rn : RegNo) (rd : RegNo) (amount : BitVec 5) (ty : ShiftTy) (rm : RegNo)
  /-- LDR (ARM, R1150). -/
  | ldrImm (c : Cond) (p : Bool) (u : Bool) (wb : Bool) (rn : RegNo) (rd : RegNo) (imm : BitVec 12)
  /-- LDR (ARM, R1150). -/
  | ldrReg (c : Cond) (p : Bool) (u : Bool) (wb : Bool) (rn : RegNo) (rd : RegNo) (amount : BitVec 5) (ty : ShiftTy) (rm : RegNo)
  /-- LDRB (ARM, R1152). -/
  | ldrbImm (c : Cond) (p : Bool) (u : Bool) (wb : Bool) (rn : RegNo) (rd : RegNo) (imm : BitVec 12)
  /-- LDRB (ARM, R1152). -/
  | ldrbReg (c : Cond) (p : Bool) (u : Bool) (wb : Bool) (rn : RegNo) (rd : RegNo) (amount : BitVec 5) (ty : ShiftTy) (rm : RegNo)
  /-- STR (ARM, R1153). -/
  | strImm (c : Cond) (p : Bool) (u : Bool) (wb : Bool) (rn : RegNo) (rd : RegNo) (imm : BitVec 12)
  /-- STR (ARM, R1153). -/
  | strReg (c : Cond) (p : Bool) (u : Bool) (wb : Bool) (rn : RegNo) (rd : RegNo) (amount : BitVec 5) (ty : ShiftTy) (rm : RegNo)
  /-- STRB (ARM, R1154). -/
  | strbImm (c : Cond) (p : Bool) (u : Bool) (wb : Bool) (rn : RegNo) (rd : RegNo) (imm : BitVec 12)
  /-- STRB (ARM, R1154). -/
  | strbReg (c : Cond) (p : Bool) (u : Bool) (wb : Bool) (rn : RegNo) (rd : RegNo) (amount : BitVec 5) (ty : ShiftTy) (rm : RegNo)
  /-- SADD16 (ARM, R1024). -/
  | sadd16 (c : Cond) (rn : RegNo) (rd : RegNo) (rm : RegNo)
  /-- QADD16 (ARM, R1025). -/
  | qadd16 (c : Cond) (rn : RegNo) (rd : RegNo) (rm : RegNo)
  /-- SHADD16 (ARM, R1026). -/
  | shadd16 (c : Cond) (rn : RegNo) (rd : RegNo) (rm : RegNo)
  /-- UADD16 (ARM, R1027). -/
  | uadd16 (c : Cond) (rn : RegNo) (rd : RegNo) (rm : RegNo)
  /-- UQADD16 (ARM, R1028). -/
  | uqadd16 (c : Cond) (rn : RegNo) (rd : RegNo) (rm : RegNo)
  /-- UHADD16 (ARM, R1029). -/
  | uhadd16 (c : Cond) (rn : RegNo) (rd : RegNo) (rm : RegNo)
  /-- SADDSUBX (ARM, R1030). -/
  | saddsubx (c : Cond) (rn : RegNo) (rd : RegNo) (rm : RegNo)
  /-- QADDSUBX (ARM, R1031). -/
  | qaddsubx (c : Cond) (rn : RegNo) (rd : RegNo) (rm : RegNo)
  /-- SHADDSUBX (ARM, R1032). -/
  | shaddsubx (c : Cond) (rn : RegNo) (rd : RegNo) (rm : RegNo)
  /-- UADDSUBX (ARM, R1033). -/
  | uaddsubx (c : Cond) (rn : RegNo) (rd : RegNo) (rm : RegNo)
  /-- UQADDSUBX (ARM, R1034). -/
  | uqaddsubx (c : Cond) (rn : RegNo) (rd : RegNo) (rm : RegNo)
  /-- UHADDSUBX (ARM, R1035). -/
  | uhaddsubx (c : Cond) (rn : RegNo) (rd : RegNo) (rm : RegNo)
  /-- SSUBADDX (ARM, R1036). -/
  | ssubaddx (c : Cond) (rn : RegNo) (rd : RegNo) (rm : RegNo)
  /-- QSUBADDX (ARM, R1037). -/
  | qsubaddx (c : Cond) (rn : RegNo) (rd : RegNo) (rm : RegNo)
  /-- SHSUBADDX (ARM, R1038). -/
  | shsubaddx (c : Cond) (rn : RegNo) (rd : RegNo) (rm : RegNo)
  /-- USUBADDX (ARM, R1039). -/
  | usubaddx (c : Cond) (rn : RegNo) (rd : RegNo) (rm : RegNo)
  /-- UQSUBADDX (ARM, R1040). -/
  | uqsubaddx (c : Cond) (rn : RegNo) (rd : RegNo) (rm : RegNo)
  /-- UHSUBADDX (ARM, R1041). -/
  | uhsubaddx (c : Cond) (rn : RegNo) (rd : RegNo) (rm : RegNo)
  /-- SSUB16 (ARM, R1042). -/
  | ssub16 (c : Cond) (rn : RegNo) (rd : RegNo) (rm : RegNo)
  /-- QSUB16 (ARM, R1043). -/
  | qsub16 (c : Cond) (rn : RegNo) (rd : RegNo) (rm : RegNo)
  /-- SHSUB16 (ARM, R1044). -/
  | shsub16 (c : Cond) (rn : RegNo) (rd : RegNo) (rm : RegNo)
  /-- USUB16 (ARM, R1045). -/
  | usub16 (c : Cond) (rn : RegNo) (rd : RegNo) (rm : RegNo)
  /-- UQSUB16 (ARM, R1046). -/
  | uqsub16 (c : Cond) (rn : RegNo) (rd : RegNo) (rm : RegNo)
  /-- UHSUB16 (ARM, R1047). -/
  | uhsub16 (c : Cond) (rn : RegNo) (rd : RegNo) (rm : RegNo)
  /-- SADD8 (ARM, R1048). -/
  | sadd8 (c : Cond) (rn : RegNo) (rd : RegNo) (rm : RegNo)
  /-- QADD8 (ARM, R1049). -/
  | qadd8 (c : Cond) (rn : RegNo) (rd : RegNo) (rm : RegNo)
  /-- SHADD8 (ARM, R1050). -/
  | shadd8 (c : Cond) (rn : RegNo) (rd : RegNo) (rm : RegNo)
  /-- UADD8 (ARM, R1051). -/
  | uadd8 (c : Cond) (rn : RegNo) (rd : RegNo) (rm : RegNo)
  /-- UQADD8 (ARM, R1052). -/
  | uqadd8 (c : Cond) (rn : RegNo) (rd : RegNo) (rm : RegNo)
  /-- UHADD8 (ARM, R1053). -/
  | uhadd8 (c : Cond) (rn : RegNo) (rd : RegNo) (rm : RegNo)
  /-- SSUB8 (ARM, R1054). -/
  | ssub8 (c : Cond) (rn : RegNo) (rd : RegNo) (rm : RegNo)
  /-- QSUB8 (ARM, R1055). -/
  | qsub8 (c : Cond) (rn : RegNo) (rd : RegNo) (rm : RegNo)
  /-- SHSUB8 (ARM, R1056). -/
  | shsub8 (c : Cond) (rn : RegNo) (rd : RegNo) (rm : RegNo)
  /-- USUB8 (ARM, R1057). -/
  | usub8 (c : Cond) (rn : RegNo) (rd : RegNo) (rm : RegNo)
  /-- UQSUB8 (ARM, R1058). -/
  | uqsub8 (c : Cond) (rn : RegNo) (rd : RegNo) (rm : RegNo)
  /-- UHSUB8 (ARM, R1059). -/
  | uhsub8 (c : Cond) (rn : RegNo) (rd : RegNo) (rm : RegNo)
  /-- PKHBT (ARM, R1088). -/
  | pkhbt (c : Cond) (rn : RegNo) (rd : RegNo) (amount : BitVec 5) (rm : RegNo)
  /-- PKHTB (ARM, R1089). -/
  | pkhtb (c : Cond) (rn : RegNo) (rd : RegNo) (amount : BitVec 5) (rm : RegNo)
  /-- SSAT16 (ARM, R1085). -/
  | ssat16 (c : Cond) (sat : BitVec 4) (rd : RegNo) (rm : RegNo)
  /-- USAT16 (ARM, R1086). -/
  | usat16 (c : Cond) (sat : BitVec 4) (rd : RegNo) (rm : RegNo)
  /-- SSAT (ARM, R1083). -/
  | ssat (c : Cond) (sat : BitVec 5) (rd : RegNo) (amount : BitVec 5) (sh : Bool) (rm : RegNo)
  /-- USAT (ARM, R1084). -/
  | usat (c : Cond) (sat : BitVec 5) (rd : RegNo) (amount : BitVec 5) (sh : Bool) (rm : RegNo)
  /-- SEL (ARM, R1087). -/
  | sel (c : Cond) (rn : RegNo) (rd : RegNo) (rm : RegNo)
  /-- REV (ARM, R1090). -/
  | rev (c : Cond) (rd : RegNo) (rm : RegNo)
  /-- REV16 (ARM, R1091). -/
  | rev16 (c : Cond) (rd : RegNo) (rm : RegNo)
  /-- REVSH (ARM, R1092). -/
  | revsh (c : Cond) (rd : RegNo) (rm : RegNo)
  /-- SXTB16 (ARM, R1068). -/
  | sxtb16 (c : Cond) (rd : RegNo) (rot : BitVec 2) (rm : RegNo)
  /-- SXTB (ARM, R1069). -/
  | sxtb (c : Cond) (rd : RegNo) (rot : BitVec 2) (rm : RegNo)
  /-- SXTH (ARM, R1070). -/
  | sxth (c : Cond) (rd : RegNo) (rot : BitVec 2) (rm : RegNo)
  /-- UXTB16 (ARM, R1071). -/
  | uxtb16 (c : Cond) (rd : RegNo) (rot : BitVec 2) (rm : RegNo)
  /-- UXTB (ARM, R1072). -/
  | uxtb (c : Cond) (rd : RegNo) (rot : BitVec 2) (rm : RegNo)
  /-- UXTH (ARM, R1073). -/
  | uxth (c : Cond) (rd : RegNo) (rot : BitVec 2) (rm : RegNo)
  /-- SXTAB16 (ARM, R1062). -/
  | sxtab16 (c : Cond) (rn : RegNo) (rd : RegNo) (rot : BitVec 2) (rm : RegNo)
  /-- SXTAB (ARM, R1063). -/
  | sxtab (c : Cond) (rn : RegNo) (rd : RegNo) (rot : BitVec 2) (rm : RegNo)
  /-- SXTAH (ARM, R1064). -/
  | sxtah (c : Cond) (rn : RegNo) (rd : RegNo) (rot : BitVec 2) (rm : RegNo)
  /-- UXTAB16 (ARM, R1065). -/
  | uxtab16 (c : Cond) (rn : RegNo) (rd : RegNo) (rot : BitVec 2) (rm : RegNo)
  /-- UXTAB (ARM, R1066). -/
  | uxtab (c : Cond) (rn : RegNo) (rd : RegNo) (rot : BitVec 2) (rm : RegNo)
  /-- UXTAH (ARM, R1067). -/
  | uxtah (c : Cond) (rn : RegNo) (rd : RegNo) (rot : BitVec 2) (rm : RegNo)
  /-- SMUAD (ARM, R1074). -/
  | smuad (c : Cond) (rd : RegNo) (rs : RegNo) (x : Bool) (rm : RegNo)
  /-- SMUSD (ARM, R1075). -/
  | smusd (c : Cond) (rd : RegNo) (rs : RegNo) (x : Bool) (rm : RegNo)
  /-- SMLAD (ARM, R1076). -/
  | smlad (c : Cond) (rd : RegNo) (rn : RegNo) (rs : RegNo) (x : Bool) (rm : RegNo)
  /-- SMLSD (ARM, R1077). -/
  | smlsd (c : Cond) (rd : RegNo) (rn : RegNo) (rs : RegNo) (x : Bool) (rm : RegNo)
  /-- SMLALD (ARM, R1078). -/
  | smlald (c : Cond) (rdHi : RegNo) (rdLo : RegNo) (rs : RegNo) (x : Bool) (rm : RegNo)
  /-- SMLSLD (ARM, R1079). -/
  | smlsld (c : Cond) (rdHi : RegNo) (rdLo : RegNo) (rs : RegNo) (x : Bool) (rm : RegNo)
  /-- SMMUL (ARM, R1080). -/
  | smmul (c : Cond) (rd : RegNo) (rs : RegNo) (r : Bool) (rm : RegNo)
  /-- SMMLA (ARM, R1081). -/
  | smmla (c : Cond) (rd : RegNo) (rn : RegNo) (rs : RegNo) (r : Bool) (rm : RegNo)
  /-- SMMLS (ARM, R1082). -/
  | smmls (c : Cond) (rd : RegNo) (rn : RegNo) (rs : RegNo) (r : Bool) (rm : RegNo)
  /-- USAD8 (ARM, R1060). -/
  | usad8 (c : Cond) (rd : RegNo) (rs : RegNo) (rm : RegNo)
  /-- USADA8 (ARM, R1061). -/
  | usada8 (c : Cond) (rd : RegNo) (rn : RegNo) (rs : RegNo) (rm : RegNo)
  /-- LDM (ARM, R1190). -/
  | ldm1 (c : Cond) (p : Bool) (u : Bool) (wb : Bool) (rn : RegNo) (regs : BitVec 16)
  /-- LDM (ARM, R1192). -/
  | ldm3 (c : Cond) (p : Bool) (u : Bool) (wb : Bool) (rn : RegNo) (regs : BitVec 15)
  /-- LDM (ARM, R1191). -/
  | ldm2 (c : Cond) (p : Bool) (u : Bool) (rn : RegNo) (regs : BitVec 15)
  /-- STM (ARM, R1193). -/
  | stm1 (c : Cond) (p : Bool) (u : Bool) (wb : Bool) (rn : RegNo) (regs : BitVec 16)
  /-- STM (ARM, R1194). -/
  | stm2 (c : Cond) (p : Bool) (u : Bool) (rn : RegNo) (regs : BitVec 16)
  /-- B (ARM, R1123). -/
  | b (c : Cond) (imm : BitVec 24)
  /-- BL (ARM, R1124). -/
  | bl (c : Cond) (imm : BitVec 24)
  /-- MCRR (ARM, R1306). -/
  | mcrr (c : Cond) (rn : RegNo) (rd : RegNo) (cp : BitVec 4) (op : BitVec 4) (crm : BitVec 4)
  /-- MRRC (ARM, R1307). -/
  | mrrc (c : Cond) (rn : RegNo) (rd : RegNo) (cp : BitVec 4) (op : BitVec 4) (crm : BitVec 4)
  /-- STC (ARM, R1309). -/
  | stcOffset (c : Cond) (u : Bool) (nBit : Bool) (wb : Bool) (rn : RegNo) (crd : BitVec 4) (cp : BitVec 4) (imm : BitVec 8)
  /-- STC (ARM, R1309). -/
  | stcPost (c : Cond) (u : Bool) (nBit : Bool) (rn : RegNo) (crd : BitVec 4) (cp : BitVec 4) (imm : BitVec 8)
  /-- STC (ARM, R1309). -/
  | stcUnindexed (c : Cond) (nBit : Bool) (rn : RegNo) (crd : BitVec 4) (cp : BitVec 4) (opt : BitVec 8)
  /-- LDC (ARM, R1308). -/
  | ldcOffset (c : Cond) (u : Bool) (nBit : Bool) (wb : Bool) (rn : RegNo) (crd : BitVec 4) (cp : BitVec 4) (imm : BitVec 8)
  /-- LDC (ARM, R1308). -/
  | ldcPost (c : Cond) (u : Bool) (nBit : Bool) (rn : RegNo) (crd : BitVec 4) (cp : BitVec 4) (imm : BitVec 8)
  /-- LDC (ARM, R1308). -/
  | ldcUnindexed (c : Cond) (nBit : Bool) (rn : RegNo) (crd : BitVec 4) (cp : BitVec 4) (opt : BitVec 8)
  /-- CDP (ARM, R1302). -/
  | cdp (c : Cond) (op1 : BitVec 4) (crn : BitVec 4) (crd : BitVec 4) (cp : BitVec 4) (op2 : BitVec 3) (crm : BitVec 4)
  /-- MCR (ARM, R1304). -/
  | mcr (c : Cond) (op1 : BitVec 3) (crn : BitVec 4) (rd : RegNo) (cp : BitVec 4) (op2 : BitVec 3) (crm : BitVec 4)
  /-- MRC (ARM, R1305). -/
  | mrc (c : Cond) (op1 : BitVec 3) (crn : BitVec 4) (rd : RegNo) (cp : BitVec 4) (op2 : BitVec 3) (crm : BitVec 4)
  /-- SVC (ARM, R1268). -/
  | svc (c : Cond) (imm : BitVec 24)
  /-- MOV__2 (Thumb, R1351). -/
  | tMov2 (rn : LowReg) (rd : LowReg)
  /-- LSL__1 (Thumb, R1345). -/
  | tLsl1 (imm : BitVec 5) (rm : LowReg) (rd : LowReg)
  /-- LSR__1 (Thumb, R1346). -/
  | tLsr1 (imm : BitVec 5) (rm : LowReg) (rd : LowReg)
  /-- ASR__1 (Thumb, R1347). -/
  | tAsr1 (imm : BitVec 5) (rm : LowReg) (rd : LowReg)
  /-- ADD__3 (Thumb, R1348). -/
  | tAdd3 (rm : LowReg) (rn : LowReg) (rd : LowReg)
  /-- SUB__3 (Thumb, R1349). -/
  | tSub3 (rm : LowReg) (rn : LowReg) (rd : LowReg)
  /-- ADD__1 (Thumb, R1350). -/
  | tAdd1 (imm : BitVec 3) (rn : LowReg) (rd : LowReg)
  /-- SUB__1 (Thumb, R1352). -/
  | tSub1 (imm : BitVec 3) (rn : LowReg) (rd : LowReg)
  /-- MOV__1 (Thumb, R1353). -/
  | tMov1 (rd : LowReg) (imm : BitVec 8)
  /-- CMP__1 (Thumb, R1354). -/
  | tCmp1 (rn : LowReg) (imm : BitVec 8)
  /-- ADD__2 (Thumb, R1355). -/
  | tAdd2 (rd : LowReg) (imm : BitVec 8)
  /-- SUB__2 (Thumb, R1356). -/
  | tSub2 (rd : LowReg) (imm : BitVec 8)
  /-- AND (Thumb, R1357). -/
  | tAnd (rm : LowReg) (rd : LowReg)
  /-- EOR (Thumb, R1358). -/
  | tEor (rm : LowReg) (rd : LowReg)
  /-- LSL__2 (Thumb, R1359). -/
  | tLsl2 (rm : LowReg) (rd : LowReg)
  /-- LSR__2 (Thumb, R1360). -/
  | tLsr2 (rm : LowReg) (rd : LowReg)
  /-- ASR__2 (Thumb, R1361). -/
  | tAsr2 (rm : LowReg) (rd : LowReg)
  /-- ADC (Thumb, R1362). -/
  | tAdc (rm : LowReg) (rd : LowReg)
  /-- SBC (Thumb, R1363). -/
  | tSbc (rm : LowReg) (rd : LowReg)
  /-- ROR (Thumb, R1364). -/
  | tRor (rm : LowReg) (rd : LowReg)
  /-- TST (Thumb, R1365). -/
  | tTst (rm : LowReg) (rd : LowReg)
  /-- NEG (Thumb, R1366). -/
  | tNeg (rm : LowReg) (rd : LowReg)
  /-- CMP__2 (Thumb, R1367). -/
  | tCmp2 (rm : LowReg) (rd : LowReg)
  /-- CMN (Thumb, R1368). -/
  | tCmn (rm : LowReg) (rd : LowReg)
  /-- ORR (Thumb, R1369). -/
  | tOrr (rm : LowReg) (rd : LowReg)
  /-- MUL (Thumb, R1370). -/
  | tMul (rm : LowReg) (rd : LowReg)
  /-- BIC (Thumb, R1371). -/
  | tBic (rm : LowReg) (rd : LowReg)
  /-- MVN (Thumb, R1372). -/
  | tMvn (rm : LowReg) (rd : LowReg)
  /-- ADD__4 (Thumb, R1380). -/
  | tAdd4 (h1 : Bool) (h2 : Bool) (rm : LowReg) (rd : LowReg)
  /-- CMP__3 (Thumb, R1381). -/
  | tCmp3 (h1 : Bool) (h2 : Bool) (rm : LowReg) (rn : LowReg)
  /-- CPY (Thumb, R1382). -/
  | tCpy (rm : LowReg) (rd : LowReg)
  /-- MOV__3 (Thumb, R1382). -/
  | tMov3 (h1 : Bool) (h2 : Bool) (rm : LowReg) (rd : LowReg)
  /-- BX (Thumb, R1383). -/
  | tBx (h2 : Bool) (rm : LowReg)
  /-- BLX__2 (Thumb, R1384). -/
  | tBlx2 (h2 : Bool) (rm : LowReg)
  /-- LDR__3 (Thumb, R1385). -/
  | tLdr3 (rd : LowReg) (imm : BitVec 8)
  /-- STR__2 (Thumb, R1386). -/
  | tStr2 (rm : LowReg) (rn : LowReg) (rd : LowReg)
  /-- STRH__2 (Thumb, R1387). -/
  | tStrh2 (rm : LowReg) (rn : LowReg) (rd : LowReg)
  /-- STRB__2 (Thumb, R1388). -/
  | tStrb2 (rm : LowReg) (rn : LowReg) (rd : LowReg)
  /-- LDRSB (Thumb, R1389). -/
  | tLdrsb (rm : LowReg) (rn : LowReg) (rd : LowReg)
  /-- LDR__2 (Thumb, R1390). -/
  | tLdr2 (rm : LowReg) (rn : LowReg) (rd : LowReg)
  /-- LDRH__2 (Thumb, R1391). -/
  | tLdrh2 (rm : LowReg) (rn : LowReg) (rd : LowReg)
  /-- LDRB__2 (Thumb, R1392). -/
  | tLdrb2 (rm : LowReg) (rn : LowReg) (rd : LowReg)
  /-- LDRSH (Thumb, R1393). -/
  | tLdrsh (rm : LowReg) (rn : LowReg) (rd : LowReg)
  /-- STR__1 (Thumb, R1394). -/
  | tStr1 (imm : BitVec 5) (rn : LowReg) (rd : LowReg)
  /-- LDR__1 (Thumb, R1395). -/
  | tLdr1 (imm : BitVec 5) (rn : LowReg) (rd : LowReg)
  /-- STRB__1 (Thumb, R1396). -/
  | tStrb1 (imm : BitVec 5) (rn : LowReg) (rd : LowReg)
  /-- LDRB__1 (Thumb, R1397). -/
  | tLdrb1 (imm : BitVec 5) (rn : LowReg) (rd : LowReg)
  /-- STRH__1 (Thumb, R1398). -/
  | tStrh1 (imm : BitVec 5) (rn : LowReg) (rd : LowReg)
  /-- LDRH__1 (Thumb, R1399). -/
  | tLdrh1 (imm : BitVec 5) (rn : LowReg) (rd : LowReg)
  /-- STR__3 (Thumb, R1400). -/
  | tStr3 (rd : LowReg) (imm : BitVec 8)
  /-- LDR__4 (Thumb, R1401). -/
  | tLdr4 (rd : LowReg) (imm : BitVec 8)
  /-- ADD__5 (Thumb, R1402). -/
  | tAdd5 (rd : LowReg) (imm : BitVec 8)
  /-- ADD__6 (Thumb, R1403). -/
  | tAdd6 (rd : LowReg) (imm : BitVec 8)
  /-- ADD__7 (Thumb, R1404). -/
  | tAdd7 (imm : BitVec 7)
  /-- SUB__4 (Thumb, R1405). -/
  | tSub4 (imm : BitVec 7)
  /-- SXTH (Thumb, R1406). -/
  | tSxth (rm : LowReg) (rd : LowReg)
  /-- SXTB (Thumb, R1407). -/
  | tSxtb (rm : LowReg) (rd : LowReg)
  /-- UXTH (Thumb, R1408). -/
  | tUxth (rm : LowReg) (rd : LowReg)
  /-- UXTB (Thumb, R1409). -/
  | tUxtb (rm : LowReg) (rd : LowReg)
  /-- PUSH (Thumb, R1418). -/
  | tPush (r : Bool) (regs : BitVec 8)
  /-- POP (Thumb, R1419). -/
  | tPop (r : Bool) (regs : BitVec 8)
  /-- SETEND (Thumb, R1423). -/
  | tSetend (e : Bool)
  /-- CPS (Thumb, R1422). -/
  | tCps (imod : Bool) (aBit : Bool) (iBit : Bool) (fBit : Bool)
  /-- REV (Thumb, R1410). -/
  | tRev (rm : LowReg) (rd : LowReg)
  /-- REV16 (Thumb, R1411). -/
  | tRev16 (rm : LowReg) (rd : LowReg)
  /-- REVSH (Thumb, R1412). -/
  | tRevsh (rm : LowReg) (rd : LowReg)
  /-- BKPT (Thumb, R1421). -/
  | tBkpt (imm : BitVec 8)
  /-- STMIA (Thumb, R1417). -/
  | tStmia (rn : LowReg) (regs : BitVec 8)
  /-- LDMIA (Thumb, R1416). -/
  | tLdmia (rn : LowReg) (regs : BitVec 8)
  /-- SVC (Thumb, R1420). -/
  | tSvc (imm : BitVec 8)
  /-- UNDEFINED (Thumb, R844). -/
  | tUndefined (ignored : BitVec 8)
  /-- B__1 (Thumb, R1414). -/
  | tB1 (c : Cond) (imm : BitVec 8)
  /-- B__2 (Thumb, R1415). -/
  | tB2 (imm : BitVec 11)
  /-- BLX__1__suffix (Thumb, R1413). -/
  | tBlx1Suffix (immHi : BitVec 10)
  /-- BL_BLX_prefix (Thumb, R1413). -/
  | tBlBlxPrefix (imm : BitVec 11)
  /-- BL_suffix (Thumb, R1413). -/
  | tBlSuffix (imm : BitVec 11)
  deriving DecidableEq, Repr

/-- What the decoder answers for the bits of one instruction (R821, R844, R845). -/
inductive Decoded where
  /-- The row's instruction, every should-be bit as it should be. -/
  | instr (i : Instr)
  /-- The row's instruction, with a should-be-zero bit set or a should-be-one bit clear: R845 refuses it (U54). -/
  | shouldBe (i : Instr)
  /-- BKPT with a condition other than AL: R825 makes it Unpredictable, and it is refused (U54). -/
  | bkptCond
  /-- No row matches and the word carries this condition: Undefined when the condition passes (R844). -/
  | unallocated (c : Cond)
  /-- No row of the Thumb table matches: Undefined (R844, R1342). -/
  | unallocatedThumb
  deriving DecidableEq, Repr

end Sys2Proof
end

