-- ==== Sys2Proof/Machine/State.lean ====
section
/-! DEFINITION. State: every piece of state the spec gives the ARM1176JZF-S, as plain data, the reasons a step can stop,
and the state after reset. INVENTORY.md lists the fields with the rules that name them. -/

namespace Sys2Proof.Machine

/-- The eight modes of R45. -/
inductive Mode where
  | usr | fiq | irq | svc | mon | abt | und | sys
  deriving DecidableEq, Repr

/-- A program status register (R57): the reserved bits are not stored and read as zero (R58, decision D4). -/
structure Psr where
  n : Bool
  z : Bool
  c : Bool
  v : Bool
  q : Bool
  j : Bool
  ge : BitVec 4
  e : Bool
  a : Bool
  i : Bool
  f : Bool
  t : Bool
  mode : Mode
  deriving DecidableEq, Repr

/-- The six saved program status registers (R48, R68), with the reserved bits zero. -/
structure Spsrs where
  fiq : Word
  irq : Word
  svc : Word
  mon : Word
  abt : Word
  und : Word
  deriving DecidableEq, Repr

/-- The CP15 registers of which each world has its own copy (R103, R106). -/
structure Cp15Banked where
  /-- The banked bits of the Control Register (R140): FA, TR, EE, VE, XP, U, V, I, Z, R, S, C, A, M. -/
  sctlr : Word
  ttbr0 : Word
  ttbr1 : Word
  ttbcr : Word
  dacr : Word
  dfsr : Word
  ifsr : Word
  far : Word
  ifar : Word
  par : Word
  /-- Cache Dirty Status, bit 0 (R248). -/
  cacheDirty : Bool
  /-- TCM Selection: false selects TCM 0, true TCM 1 (R307). -/
  tcmSelect : Bool
  prrr : Word
  nmrr : Word
  vbar : Word
  fcse : Word
  contextId : Word
  tidUserRw : Word
  tidUserRo : Word
  tidPriv : Word
  ppmr : Word
  deriving DecidableEq, Repr

/-- One lockable TLB entry, in the three registers through which software sees it (R371 to R373). -/
structure TlbEntry where
  va : Word
  pa : Word
  attr : Word
  deriving DecidableEq, Repr

/-- One DMA channel (R324 to R329, R783). -/
structure DmaChannel where
  control : Word
  intStart : Word
  extStart : Word
  intEnd : Word
  status : Word
  context : Word
  /-- The channel was started by a User mode process (R324, bit UM). -/
  startedFromUser : Bool
  /-- The transfer's own position while the channel runs: the Start registers keep their values until it stops (R325). -/
  curInt : Word
  curExt : Word
  /-- The channel asserts nDMAIRQ, and nDMASIRQ: the pin of the world it had when the interrupt came, until Clear (R788). -/
  irq : Bool
  sirq : Bool
  /-- The channel asserts nDMAEXTERRIRQ (R788, decision D41). -/
  externalError : Bool
  deriving DecidableEq, Repr

/-- One TCM: its Region Register and its NS access bit (R303 to R306). -/
structure Tcm where
  region : Word
  nsAccess : Bool
  deriving DecidableEq, Repr

/-- The CP15 registers with one copy (R103, R106), and the TLB lockdown entries. -/
structure Cp15Common where
  /-- The "Secure modify only" bits of the Control Register (R140): FI, L4, RR, B. -/
  sctlr : Word
  actlr : Word
  cpacr : Word
  scr : Word
  sder : Word
  nsacr : Word
  dLock : Word
  iLock : Word
  dtcm : Vector Tcm 2
  itcm : Vector Tcm 2
  cbor : Word
  tlbLockdown : Word
  dma : Vector DmaChannel 2
  dmaUser : BitVec 2
  dmaSelect : Bool
  mvbar : Word
  /-- The V bit of the Access Validation Control Register (R352). -/
  savc : Bool
  pmnc : Word
  /-- nPMUIRQ is asserted (R355). -/
  pmuInterrupt : Bool
  /-- The fraction of CCNT when it counts every 64th cycle (R355, bit D). -/
  ccntPrescale : BitVec 6
  ccnt : Word
  pmn : Vector Word 2
  cacheSizeMask : Word
  iMasterValid : Vector Word 8
  dMasterValid : Vector Word 8
  tlbIndex : BitVec 3
  tlbLock : Vector TlbEntry 8
  deriving DecidableEq, Repr

/-- A watchpoint that the running instruction has triggered (R434, R442): the lowest matching address, and whether the
access was a store. -/
structure WatchHit where
  mva : Word
  write : Bool
  deriving DecidableEq, Repr

/-- The CP14 debug registers and the hidden state of the debug unit (R400 to R471). -/
structure Debug where
  dscr : Word
  rdtr : Word
  wdtr : Word
  wfar : Word
  vcr : Word
  dsccr : Word
  dsmcr : Word
  bvr : Vector Word 6
  bcr : Vector Word 6
  wvr : Vector Word 2
  wcr : Vector Word 2
  /-- The ITR, and the InstCompl flag: the instruction last issued from it has completed (R464). -/
  itr : Word
  instCompl : Bool
  /-- What the program counter sample register gives: the last instruction committed for execution (R468). -/
  sample : Word
  /-- The DBGTAP controller: its instruction register and the selected scan chain (R461). -/
  tapInstr : BitVec 5
  tapChain : BitVec 5
  /-- A Halt request of the debugger that has not been acted on (R440, D18). -/
  haltRequest : Bool
  /-- In Debug state: the processor was in Thumb, or Jazelle, state when it was entered (R450). -/
  enteredThumb : Bool
  enteredJazelle : Bool
  /-- In Debug state: the CPSR has been written since it was entered; the PC has been written since, and after the
  last write of the CPSR (R451). -/
  cpsrWritten : Bool
  pcWritten : Bool
  /-- In Debug state: an instruction has written flags, or GE or Q, of the CPSR (R451). -/
  flagsWritten : Bool
  /-- The watchpoint that the instruction now executing has triggered; none between instructions. -/
  watchHit : Option WatchHit
  /-- The address of the last vectored IRQ entry in each world, which the Vector Catch Register compares (R436). -/
  lastIrqSecure : Word
  lastIrqNonSecure : Word
  deriving DecidableEq, Repr

/-- The VFP11 (R480 to R498): thirty-two single-precision registers, which are also the sixteen doubles, and the system
registers that can change. -/
structure Vfp where
  s : Vector Word 32
  fpscr : Word
  fpexc : Word
  fpinst : Word
  fpinst2 : Word
  deriving DecidableEq, Repr

/-! Memory and the platform -/

/-- The main memory types (R570). -/
inductive MemType where
  | stronglyOrdered | device | normal
  deriving DecidableEq, Repr

/-- The attributes of an access (R570, R671): the policies are 00 Noncacheable, 01 Write-Back Write-Allocate, 10
Write-Through, 11 Write-Back. -/
structure Attrs where
  ty : MemType
  shared : Bool
  inner : BitVec 2
  outer : BitVec 2
  /-- The ports show Inner Strongly Ordered and Outer Noncacheable, whatever the type: an access with the MMU off (R578). -/
  flat : Bool := false
  deriving DecidableEq, Repr

/-- The four ports of the level two interface (R795). -/
inductive Port where
  | instruction | data | peripheral | dma
  deriving DecidableEq, Repr

/-- The lock type of a transfer, AxLOCK (R797). -/
inductive Lock where
  | normal | exclusive | locked
  deriving DecidableEq, Repr

/-- The bursts that the processor makes, AxBURST (R34, R797). -/
inductive Burst where
  | fixed | incr | wrap
  deriving DecidableEq, Repr

/-- What the platform is told of a transfer (R636, R797). -/
structure Request where
  port : Port
  write : Bool
  pa : Word
  /-- Bytes of one beat, and the number of beats. -/
  size : Nat
  beats : Nat
  burst : Burst := .incr
  /-- WRITEBACK: the data port writes a line of the data cache back (R34). -/
  writeback : Bool := false
  /-- The bytes of a beat that a write stores. -/
  strobes : BitVec 8
  /-- AxPROT[1], AxPROT[0] and AxPROT[2] (R800). -/
  ns : Bool
  priv : Bool
  instr : Bool
  lock : Lock
  /-- Memory type, cache attributes and the Shared bit (R799). -/
  attrs : Attrs
  deriving DecidableEq, Repr

/-- How a slave answers an access it does not complete (R634). -/
inductive BusError where
  | decerr | slverr
  deriving DecidableEq, Repr

/-- A transfer that the level two interface has made: the bytes written, or read, each with its physical address (R556), in
ascending order of address, and the error it was answered with. -/
structure Transfer where
  request : Request
  data : List Host.Cell
  error : Option BusError
  deriving DecidableEq, Repr

/-- A range of physical addresses, both ends included. -/
structure Span where
  first : Nat
  last : Nat
  deriving DecidableEq, Repr

/-- A choice of transfers by what the platform is told of them: `none` leaves a property open (R542, R636). -/
structure Region where
  span : Span
  port : Option Port := none
  write : Option Bool := none
  ns : Option Bool := none
  priv : Option Bool := none
  instr : Option Bool := none
  lock : Option Lock := none
  ty : Option MemType := none
  shared : Option Bool := none
  inner : Option (BitVec 2) := none
  outer : Option (BitVec 2) := none
  deriving DecidableEq, Repr

/-- Transfers that the platform answers with an error (R547, R634). -/
structure ErrorRegion where
  region : Region
  error : BusError
  deriving DecidableEq, Repr

/-- The inputs of the processor and the choices of its platform. They are the environment's: no instruction writes them. -/
structure Pins where
  nIRQ : Bool
  nFIQ : Bool
  /-- IRQADDR[31:2] and IRQADDRV of the VIC port (R1580, R1581). -/
  irqAddr : BitVec 30
  irqAddrV : Bool
  vinithi : Bool
  bigendinit : Bool
  ubitinit : Bool
  initram : Bool
  cp15sdisable : Bool
  dbgen : Bool
  spiden : Bool
  spniden : Bool
  edbgrq : Bool
  /-- DBGVERSION[3:0] and DBGMANID[10:0] (R421). -/
  dbgVersion : BitVec 4
  dbgManId : BitVec 11
  /-- The parameters of the implementation (R12). -/
  params : Config.Params
  /-- Where the slaves decode AxPROT[1]: Secure and Non-secure accesses reach different bytes (R542, D32). -/
  split : List Span
  /-- Where the external memory answers an error. -/
  errors : List ErrorRegion
  /-- Where the slave has no exclusive monitor and answers OKAY to an exclusive access (R626). -/
  noMonitor : List Region
  /-- Devices whose reads the platform answers with any value, and that keep nothing of what is stored (R636). -/
  devices : List Region
  /-- Translation table walks follow the EE bit (the open parameter of D38; the spec's default is false). -/
  walkFollowsEE : Bool
  deriving DecidableEq, Repr

/-- A pending imprecise external abort (R1564): which error, whether a write caused it, and the world of the core that
caused it (R692). -/
structure PendingAbort where
  error : BusError
  write : Bool
  secure : Bool
  deriving DecidableEq, Repr

/-- How far the IMB sequence has covered a byte that was stored to (R612): nothing yet, Data Synchronization Barrier done,
instruction cache line invalidated, branch target cache flushed. -/
inductive StaleStage where
  | stored | drained | invalidated | flushed
  deriving DecidableEq, Repr

/-- A byte of memory written since the last IMB sequence that covers it (R610, R612), as a fetch with one NS attribute and
one value of MVA bits [13:12] sees it: fetches that differ in these find different lines of the instruction cache (R700,
R746). -/
structure StaleCode where
  /-- The key of the byte in memory. -/
  key : Nat
  ns : Bool
  colour : BitVec 2
  stage : StaleStage
  /-- The ways in which an old line has not been invalidated since the bytes were drained (R234). -/
  ways : BitVec 4
  /-- The eightbyte blocks of modified virtual addresses for which the branch target cache has been flushed by entry, and
  those of them after whose flush the prefetch buffer has been flushed (R258). -/
  entries : List Word
  ready : List Word
  deriving DecidableEq, Repr

/-- A line of the data cache (R752). Lines that were never filled, or have been invalidated, are not listed. -/
structure CacheLine where
  way : BitVec 2
  /-- The set index: bits of the modified virtual address it was filled through. -/
  set : Nat
  /-- The physical tag with the address bits below it: the physical address divided by 32. -/
  line : Nat
  /-- The NS tag. -/
  ns : Bool
  /-- Dirty state of the lower, and of the upper, half line (R742). -/
  dirtyLow : Bool
  dirtyHigh : Bool
  /-- The 32 bytes, that of the lowest address in the lowest bits. -/
  data : BitVec 256
  /-- The attributes of the access that filled the line, which a write-back carries (R799). -/
  attrs : Attrs
  deriving DecidableEq, Repr

/-- The descriptor words that a translation has read (R706, D37): the TLB may hold what they said. -/
structure WalkRecord where
  /-- The walk was of the Non-secure world's tables. -/
  nonSecure : Bool
  /-- The key in memory of the first-level descriptor, and of the second-level one where there was one: none for a word
  that a device answered. -/
  key1 : Option Nat
  key2 : Option Nat
  /-- First and last modified virtual address that the entry maps. -/
  first : Nat
  last : Nat
  /-- The entry is not global, and belongs to this ASID. -/
  asid : Option (BitVec 8)
  /-- The first-level, or the second-level, descriptor word has been written since the entry was made. -/
  stale1 : Bool
  stale2 : Bool
  deriving DecidableEq, Repr

/-- The state of the machine. -/
structure State where
  /-- The core registers of all banks, R15 apart; `slot` in Ops says which is which (R48, R49). -/
  gpr : Vector Word 32
  /-- R15: the address of the next instruction (R54). -/
  pc : Word
  cpsr : Psr
  spsr : Spsrs
  secure : Cp15Banked
  nonSecure : Cp15Banked
  cp15 : Cp15Common
  dbg : Debug
  vfp : Vfp
  pins : Pins
  /-- Memory: external bytes and TCM bytes, in one canonical list (see Memory). -/
  mem : List Host.Cell
  /-- The local exclusive monitor (R620). -/
  exclLocal : Bool
  /-- The global exclusive monitor: the tagged physical address and size (R620, D31). -/
  exclGlobal : Option (Word × Nat)
  pendingAbort : Option PendingAbort
  codeStale : List StaleCode
  /-- The data cache (R742 to R752). -/
  dcache : List CacheLine
  walks : List WalkRecord
  /-- The data transfers made with the platform on the data, peripheral and DMA ports, the latest first (R636). -/
  transfers : List Transfer
  /-- How many vectored IRQ entries have been notified to the VIC (`irq_acknowledged` of R1581). -/
  irqAcks : Nat
  /-- The model's own: the instruction now executing has run past address 0xFFFFFFFF (U3). -/
  wrapped : Bool
  /-- The model's own: the instruction now executing has written the PC (event 0x0D of R358). -/
  jumped : Bool
  /-- The model's own: how many free values have been drawn. -/
  draws : Nat
  deriving DecidableEq, Repr

/-- Why the machine stops with a fault. -/
inductive Fault where
  /-- `step`, in a state whose pc is not aligned for its instruction set: R54 says the PC never is. Safe: no run from
  reset reaches it. -/
  | misalignedPc
  deriving DecidableEq, Repr

/-- Why the model gives a step no meaning. Every one of these is safe: the model stops where the hardware would go on. -/
inductive Refusal where
  /-- An arm of `exec` that has no meaning yet. -/
  | notModelled (mnemonic : String)
  /-- Writes of the CPSR: the mode field is none of the eight modes (U1, R46). -/
  | illegalMode
  /-- Uses of the SPSR in User and System mode, which have none (U2, R53). -/
  | noSpsr
  /-- A write that enables a breakpoint with a reserved meaning (U21, R433). -/
  | reservedBreakpoint
  /-- A restart from Debug state after the PC or CPSR writes that Table 13-25 calls Unpredictable (U22, R451). -/
  | unpredictableRestart
  /-- WriteDSCR of the debugger clearing DSCR[13] while an issued instruction has not completed (R465). -/
  | debugCommunications
  /-- A debugger's request to a reserved register of scan chain 7 (R467). -/
  | reservedDebugRegister
  /-- A VFP arithmetic instruction under a LEN and STRIDE that Table 20-7 calls Unpredictable (U32, R494). -/
  | vfpVectorShape
  /-- A VFP vector instruction whose destination overlaps a source without being identical (U33, R504). -/
  | vfpVectorOverlap
  /-- A VFP load or store multiple with an Unpredictable count (U34, R531). -/
  | vfpRegisterCount
  /-- A VFP two-register transfer with an Unpredictable register (U36, R531). -/
  | vfpRegisterPair
  /-- LDRD or STRD at an address that is not doubleword aligned, U = 0 and A = 0 (U40, R563). -/
  | legacyDoubleword
  /-- A data access wider than a byte with CPSR.E = 1 and U = 0, or E = 1 and B = 1 (U41, R551). -/
  | reservedEndianness
  /-- A legacy load of the PC from an address that is not word aligned (U42, R565). -/
  | legacyPcLoad
  /-- An unaligned access to Device or Strongly Ordered memory (U43, R566). -/
  | unalignedDevice
  /-- A fetch of a byte written since the last IMB sequence that covers it (U46, R610). -/
  | staleCode
  /-- An exclusive access to Device or Strongly Ordered memory (U47, R625). -/
  | exclusiveDevice
  /-- A translation that a lockdown entry and the tables, two lockdown entries, or the sixteen copies of a supersection or
  large page descriptor, answer differently (U49, R648, R661, R705). -/
  | tlbConflict
  /-- A translation through descriptor words written since the TLB last dropped them (R648, D37). -/
  | staleTranslation
  /-- A descriptor with a reserved TEX, C, B encoding (U51, R670). -/
  | reservedMemoryType
  /-- A DMA transfer between TCM and a page marked Device, or one the registers of which changed under it (U52, U53). -/
  | dmaUnpredictable
  /-- Should-be bits of an instruction, or register combinations, that the architecture makes Unpredictable (U54). -/
  | unpredictableEncoding
  /-- A branch to ARM state with target bits [1:0] = 0b10 (U55). -/
  | branchTarget
  /-- A step whose instruction sequence or data access runs past address 0xFFFFFFFF (U3, R56, R540, D3). -/
  | addressWrap
  /-- A coprocessor access under the reserved access field 0b10 (U56, R1310). -/
  | reservedAccess
  /-- An instruction in Jazelle state (D24, R9). -/
  | jazelle
  /-- A write of the System Validation Cache Size Mask Register with its write enable (D14, R362). -/
  | validationSizes
  deriving DecidableEq, Repr

/-- A DMA channel at reset: R324 gives the control register 0x08000000 and R328 the status Idle; the addresses and the
context have no reset value (DESIGN CHOICE: zero). -/
def DmaChannel.reset : DmaChannel where
  control := 0x08000000#32
  intStart := 0
  extStart := 0
  intEnd := 0
  status := 0
  context := 0
  startedFromUser := false
  curInt := 0
  curExt := 0
  irq := false
  sirq := false
  externalError := false

/-- The inputs at reset: interrupts and debug requests inactive (nIRQ and nFIQ HIGH), every configuration input LOW, and
a platform whose external memory answers every access (DESIGN CHOICE). -/
def Pins.reset : Pins where
  nIRQ := true
  nFIQ := true
  irqAddr := 0
  irqAddrV := false
  vinithi := false
  bigendinit := false
  ubitinit := false
  initram := false
  cp15sdisable := false
  dbgen := false
  spiden := false
  spniden := false
  edbgrq := false
  dbgVersion := 0
  dbgManId := 0x787
  params := Config.Params.default
  split := []
  errors := []
  noMonitor := []
  devices := []
  walkFollowsEE := false

/-- The banked bits of the Control Register at reset, from the pins: EE, U and V (R142); the rest are 0. -/
def resetControl (p : Pins) : Word :=
  (if p.ubitinit && p.bigendinit then 0x02000000#32 else 0) ||| (if p.ubitinit then 0x00400000#32 else 0) |||
  (if p.vinithi then 0x00002000#32 else 0)

/-- A world's CP15 registers at reset: both copies take the printed values (R106, decision D10). -/
def Cp15Banked.reset (p : Pins) : Cp15Banked where
  sctlr := resetControl p
  ttbr0 := 0
  ttbr1 := 0
  ttbcr := 0
  dacr := 0
  dfsr := 0
  ifsr := 0
  far := 0
  ifar := 0
  par := 0
  cacheDirty := false
  tcmSelect := false
  prrr := 0x00098AA4#32
  nmrr := 0x44E048E0#32
  vbar := 0
  fcse := 0
  contextId := 0
  tidUserRw := 0
  tidUserRo := 0
  tidPriv := 0
  ppmr := 0

/-- TCM `k` of a side at reset: its size, base 0, enabled or not; one that does not exist reads as zero (R303, R304). -/
def Tcm.reset (c : Config.TcmConfig) (k : Nat) (enabled : Bool) : Tcm where
  region := if k < c.count then (c.code <<< 2) ||| (if enabled then 1 else 0) else 0
  nsAccess := false

/-- The common CP15 registers at reset (R106): B from the pins (R142), Instruction TCM 0 enabled when INITRAM is HIGH
(R304, decision D40), no valid TLB entry (decision D52). -/
def Cp15Common.reset (p : Pins) : Cp15Common where
  sctlr := if p.bigendinit && !p.ubitinit then 0x00000080#32 else 0
  actlr := 0x00000007#32
  cpacr := 0
  scr := 0
  sder := 0
  nsacr := 0
  dLock := 0xFFFFFFF0#32
  iLock := 0xFFFFFFF0#32
  dtcm := #v[Tcm.reset p.params.dtcm 0 false, Tcm.reset p.params.dtcm 1 false]
  itcm := #v[Tcm.reset p.params.itcm 0 p.initram, Tcm.reset p.params.itcm 1 false]
  cbor := 0
  tlbLockdown := 0
  dma := Vector.replicate 2 DmaChannel.reset
  dmaUser := 0
  dmaSelect := false
  mvbar := 0
  savc := false
  pmnc := 0
  pmuInterrupt := false
  ccntPrescale := 0
  ccnt := 0
  pmn := Vector.replicate 2 0
  cacheSizeMask := p.params.sizeMask
  iMasterValid := Vector.replicate 8 0
  dMasterValid := Vector.replicate 8 0
  tlbIndex := 0
  tlbLock := Vector.replicate 8 { va := 0, pa := 0, attr := 0 }

/-- The debug unit after a power-on reset (R426). -/
def Debug.reset : Debug where
  dscr := 0x00000002#32
  rdtr := 0
  wdtr := 0
  wfar := 0
  vcr := 0
  dsccr := 0
  dsmcr := 0
  bvr := Vector.replicate 6 0
  bcr := Vector.replicate 6 0
  wvr := Vector.replicate 2 0
  wcr := Vector.replicate 2 0
  itr := 0
  instCompl := true
  sample := 0
  tapInstr := 0b11110
  tapChain := 3
  haltRequest := false
  enteredThumb := false
  enteredJazelle := false
  cpsrWritten := false
  pcWritten := false
  flagsWritten := false
  watchHit := none
  lastIrqSecure := 0
  lastIrqNonSecure := 0

/-- The VFP11 at reset (R490, Table 20-3). The data registers and FPINST2 have no reset value (DESIGN CHOICE: zero). -/
def Vfp.reset : Vfp where
  s := Vector.replicate 32 0
  fpscr := 0
  fpexc := 0
  fpinst := 0xEE000A00#32
  fpinst2 := 0

/-- The machine right after a power-on reset with these inputs (R69, R1550, R1640). The core registers, the SPSRs and the
flags N, Z, C, V, Q, GE have no reset value (R70; DESIGN CHOICE: zero). -/
def State.resetWith (p : Pins) : State where
  gpr := Vector.replicate 32 0
  pc := if p.vinithi then 0xFFFF0000#32 else 0
  cpsr := { n := false, z := false, c := false, v := false, q := false, j := false, ge := 0,
            e := p.ubitinit && p.bigendinit, a := true, i := true, f := true, t := false, mode := .svc }
  spsr := { fiq := 0, irq := 0, svc := 0, mon := 0, abt := 0, und := 0 }
  secure := Cp15Banked.reset p
  nonSecure := Cp15Banked.reset p
  cp15 := Cp15Common.reset p
  dbg := Debug.reset
  vfp := Vfp.reset
  pins := p
  mem := []
  exclLocal := false
  exclGlobal := none
  pendingAbort := none
  codeStale := []
  dcache := []
  walks := []
  transfers := []
  irqAcks := 0
  wrapped := false
  jumped := false
  draws := 0

/-- The machine right after reset. -/
def State.reset : State := State.resetWith Pins.reset

end Sys2Proof.Machine
end

