-- ==== Sys2Proof/Machine/Ops.lean ====
section
/-! DEFINITION. Ops: what every meaning is written with: the ways a step ends, the register banks, the status
registers, the worlds, the condition check, writing the PC, taking an exception and returning from one. -/

namespace Sys2Proof.Machine

/-- How a meaning ends before its last line: with an exception entered, a refusal or a fault. -/
inductive Stop where
  | took (s : State)
  | refused (r : Refusal)
  | fault (f : Fault)

/-- A part of a meaning: it reads and changes the state, and may end the instruction. -/
abbrev Exec (α : Type) := StateT State (Except Stop) α

/-- End with a refusal. -/
def refuse {α : Type} (r : Refusal) : Exec α := fun _ => .error (.refused r)

/-- End with this next state, computed from the present one. -/
def endWith {α : Type} (f : State → State) : Exec α := fun s => .error (.took (f s))

/-- Read something off the state. -/
def look {α : Type} (f : State → α) : Exec α := fun s => .ok (f s, s)

/-- Change the state. -/
def update (f : State → State) : Exec Unit := fun s => .ok ((), f s)

/-- The outcome of an instruction whose meaning is `m`. -/
def outcome (m : Exec Unit) (s : State) : Host.Outcome State Fault Refusal :=
  match m s with
  | .ok (_, t) => .next t
  | .error (.took t) => .next t
  | .error (.refused r) => .refused r
  | .error (.fault f) => .fault f

/-- A free value: the next draw. -/
def draw : Exec Word := fun s => .ok (Config.freeWord s.draws, { s with draws := s.draws + 1 })

/-- A word with only bit `k` set, where `b` holds. -/
def bitAt (b : Bool) (k : Nat) : Word := if b then 1#32 <<< k else 0

/-! Modes and status registers -/

/-- The mode numbers of R45. -/
def Mode.toBits : Mode → BitVec 5
  | .usr => 0b10000 | .fiq => 0b10001 | .irq => 0b10010 | .svc => 0b10011
  | .mon => 0b10110 | .abt => 0b10111 | .und => 0b11011 | .sys => 0b11111

/-- The mode a number stands for (R45, R46). -/
def Mode.ofBits? (b : BitVec 5) : Option Mode :=
  if b = 0b10000 then some .usr else if b = 0b10001 then some .fiq else if b = 0b10010 then some .irq
  else if b = 0b10011 then some .svc else if b = 0b10110 then some .mon else if b = 0b10111 then some .abt
  else if b = 0b11011 then some .und else if b = 0b11111 then some .sys else none

/-- The bits a status register has: all but the reserved ones (R57, R58). -/
def psrMask : Word := 0xF90F03FF#32

/-- The layout of R57. -/
def Psr.toWord (p : Psr) : Word :=
  bitAt p.n 31 ||| bitAt p.z 30 ||| bitAt p.c 29 ||| bitAt p.v 28 ||| bitAt p.q 27 ||| bitAt p.j 24 |||
  (p.ge.setWidth 32 <<< 16) ||| bitAt p.e 9 ||| bitAt p.a 8 ||| bitAt p.i 7 ||| bitAt p.f 6 ||| bitAt p.t 5 |||
  p.mode.toBits.setWidth 32

/-- The bits of `v` that `mask` selects, the others from `p`; none where the mode field selected is not a mode. The mask
holds all of the mode and GE fields or none of a field's bits, or whole bytes of them. -/
def Psr.merge (p : Psr) (v mask : Word) : Option Psr :=
  let bit (old : Bool) (k : Nat) : Bool := if mask.getLsbD k then v.getLsbD k else old
  let rest (m : Mode) : Psr :=
    { n := bit p.n 31, z := bit p.z 30, c := bit p.c 29, v := bit p.v 28, q := bit p.q 27, j := bit p.j 24,
      ge := if mask.getLsbD 16 then v.extractLsb' 16 4 else p.ge,
      e := bit p.e 9, a := bit p.a 8, i := bit p.i 7, f := bit p.f 6, t := bit p.t 5, mode := m }
  if mask.getLsbD 0 then (Mode.ofBits? (v.extractLsb' 0 5)).map rest else some (rest p.mode)

/-- The SPSR of a mode; User and System mode have none (R53). -/
def Spsrs.get? (r : Spsrs) : Mode → Option Word
  | .fiq => some r.fiq | .irq => some r.irq | .svc => some r.svc | .mon => some r.mon
  | .abt => some r.abt | .und => some r.und | .usr => none | .sys => none

/-- The SPSRs with that of a mode replaced. -/
def Spsrs.put (r : Spsrs) (m : Mode) (v : Word) : Spsrs :=
  match m with
  | .fiq => { r with fiq := v } | .irq => { r with irq := v } | .svc => { r with svc := v }
  | .mon => { r with mon := v } | .abt => { r with abt := v } | .und => { r with und := v }
  | .usr => r | .sys => r

/-- The SPSR of the current mode, refused where there is none (U2). -/
def currentSpsr : Exec Word := fun s =>
  match s.spsr.get? s.cpsr.mode with
  | some v => .ok (v, s)
  | none => .error (.refused .noSpsr)

/-- Any mode but User (R45). -/
def State.privileged (s : State) : Bool := s.cpsr.mode != .usr

/-! Worlds and control bits -/

/-- R41. -/
def State.isSecure (s : State) : Bool := s.cpsr.mode == .mon || !s.cp15.scr.getLsbD 0

/-- The banked registers of a world. -/
def State.bankOf (s : State) (nonSecure : Bool) : Cp15Banked := if nonSecure then s.nonSecure else s.secure

/-- Change the banked registers of a world. -/
def State.setBankOf (s : State) (nonSecure : Bool) (f : Cp15Banked → Cp15Banked) : State :=
  if nonSecure then { s with nonSecure := f s.nonSecure } else { s with secure := f s.secure }

/-- The copy the hardware uses: that of the current world (R104). -/
def State.bank (s : State) : Cp15Banked := s.bankOf (!s.isSecure)

/-- A banked bit of the Control Register in the current world (R140). -/
def State.sctlr (s : State) (k : Nat) : Bool := s.bank.sctlr.getLsbD k

/-- The B bit (R140): the memory is BE-32. -/
def State.bigEndian32 (s : State) : Bool := s.cp15.sctlr.getLsbD 7

/-! Debug state and permission -/

/-- The processor is in Debug state (R446). -/
def State.halted (s : State) : Bool := s.dbg.dscr.getLsbD 0

/-- Instructions are Thumb instructions; those of Debug state are ARM instructions always (R447). -/
def State.thumb (s : State) : Bool := s.cpsr.t && !s.halted

/-- Invasive debug is permitted in this world and mode (R405). -/
def State.debugPermittedIn (s : State) (secure : Bool) (m : Mode) : Bool :=
  s.pins.dbgen && (!secure || s.pins.spiden || (m == .usr && s.cp15.sder.getLsbD 0))

/-- Invasive debug is permitted now (R405). -/
def State.debugPermitted (s : State) : Bool := s.debugPermittedIn s.isSecure s.cpsr.mode

/-- Non-invasive debug is permitted now (R405). -/
def State.tracePermitted (s : State) : Bool :=
  s.pins.dbgen && (!s.isSecure || s.pins.spniden || (s.cpsr.mode == .usr && s.cp15.sder.getLsbD 1))

/-- The debug mode that DSCR[15:14] selects, as read (R403). -/
def State.debugMode (s : State) : BitVec 2 := if s.pins.dbgen then s.dbg.dscr.extractLsb' 14 2 else 0

/-! Core registers -/

/-- The physical register that `R[n]` names in a mode (R49): R0 to R7; then R8 to R14 of User mode; R8 to R14 of FIQ
mode; R13 and R14 of IRQ, Supervisor, Abort, Undefined and Secure Monitor mode. R15 has no slot. -/
def slot (m : Mode) (n : BitVec 4) : Fin 32 :=
  if h : n.toNat < 8 then ⟨n.toNat, by omega⟩
  else match m with
    | .usr | .sys => ⟨n.toNat, by omega⟩
    | .fiq => ⟨n.toNat + 7, by omega⟩
    | .irq => if n.toNat < 13 then ⟨n.toNat, by omega⟩ else ⟨n.toNat + 9, by omega⟩
    | .svc => if n.toNat < 13 then ⟨n.toNat, by omega⟩ else ⟨n.toNat + 11, by omega⟩
    | .abt => if n.toNat < 13 then ⟨n.toNat, by omega⟩ else ⟨n.toNat + 13, by omega⟩
    | .und => if n.toNat < 13 then ⟨n.toNat, by omega⟩ else ⟨n.toNat + 15, by omega⟩
    | .mon => if n.toNat < 13 then ⟨n.toNat, by omega⟩ else ⟨min (n.toNat + 17) 31, by omega⟩

/-- Write one physical register. -/
def State.setSlot (s : State) (k : Fin 32) (v : Word) : State := { s with gpr := s.gpr.set k v }

/-- The value an instruction reads from R15 (R55): its address plus 8, in Thumb state plus 4. In Debug state: the frozen
PC plus the offset of the state it was entered from (R450), and any value once the PC or the CPSR, its flags included, has
been written (R451). DESIGN CHOICE (log 104): entered with J = 1 and T = 1, no offset, as from Jazelle state. -/
def State.readPc (s : State) : Word :=
  if s.halted then
    if s.dbg.pcWritten || s.dbg.cpsrWritten || s.dbg.flagsWritten then Config.freeWord s.draws
    else if s.dbg.enteredJazelle then s.pc
    else if s.dbg.enteredThumb then s.pc + 4 else s.pc + 8
  else if s.cpsr.t then s.pc + 4 else s.pc + 8

/-- `R[n]` of a mode, read (R49). -/
def State.regOf (s : State) (m : Mode) (n : BitVec 4) : Word := if n = 15 then s.readPc else s.gpr[slot m n]

/-- `R[n]` of the current mode, read. -/
def State.reg (s : State) (n : BitVec 4) : Word := s.regOf s.cpsr.mode n

/-- Write `R[n]` of a mode, n not 15 (a write of R15 is a branch and goes through `State.branchTo`). -/
def State.setRegOf (s : State) (m : Mode) (n : BitVec 4) (v : Word) : State := s.setSlot (slot m n) v

/-- Write `R[n]` of the current mode, n not 15. -/
def State.setReg (s : State) (n : BitVec 4) (v : Word) : State := s.setRegOf s.cpsr.mode n v

/-- Write the PC; a debugger that does so has provided the restart address (R451). -/
def State.branchTo (s : State) (a : Word) : State :=
  { s with pc := a, jumped := true, dbg := { s.dbg with pcWritten := s.dbg.pcWritten || s.halted } }

/-- Write flags, or GE or Q, of the CPSR: the mode and the masks stay. In Debug state a later read of the PC then gives any
value (R451); a restart address that has been provided stays so. -/
def State.setFlags (s : State) (p : Psr) : State :=
  { s with cpsr := p, dbg := { s.dbg with flagsWritten := s.dbg.flagsWritten || s.halted } }

/-- The length of an instruction of the current state (R43). -/
def State.instrLength (s : State) : Word := if s.thumb then 2 else 4

/-- Note that adding `n` to the address `a` has run past 0xFFFFFFFF (U3): the step is then refused. -/
def State.noteWrap (s : State) (a : Word) (n : Nat) : State :=
  { s with wrapped := s.wrapped || decide (2 ^ 32 ≤ a.toNat + n) }

/-- Go on to the next instruction: the PC is frozen in Debug state (R55, R450). -/
def State.next (s : State) : State :=
  if s.halted then s else { s.noteWrap s.pc s.instrLength.toNat with pc := s.pc + s.instrLength }

/-- Go on to the next instruction. -/
def advance : Exec Unit := update State.next

/-- Write one register and go on. -/
def finishReg (n : BitVec 4) (v : Word) : Exec Unit := update fun s => (s.setReg n v).next

/-- `BXWritePC` of R1121: bit 0 selects Thumb state; a target with bits [1:0] = 0b10 is refused (U55). -/
def bxWritePc (v : Word) : Exec Unit :=
  if v.getLsbD 0 then update fun s => { s with cpsr := { s.cpsr with t := true } }.branchTo (v &&& ~~~1#32)
  else if v.getLsbD 1 then refuse .branchTarget
  else update fun s => { s with cpsr := { s.cpsr with t := false } }.branchTo v

/-- Write the PC keeping the instruction set: the low bits that the PC does not have are dropped (R905, decision D44). In
Debug state they are those of the state that CPSR.T says execution resumes in (R454). -/
def State.branchKeep (s : State) (v : Word) : State :=
  s.branchTo (if s.cpsr.t then v &&& ~~~1#32 else v &&& ~~~3#32)

/-- Branch to an address computed from the PC. In Debug state, where the PC may read as any value (R451), the low bits that
it cannot hold are dropped (R567). -/
def State.branchBy (s : State) (a : Word) : State :=
  s.branchTo (if s.halted then (if s.cpsr.t then a &&& ~~~1#32 else a &&& ~~~3#32) else a)

/-! The condition field -/

/-- R823. -/
def Cond.passes (c : Cond) (p : Psr) : Bool :=
  match c with
  | .eq => p.z
  | .ne => !p.z
  | .hs => p.c
  | .lo => !p.c
  | .mi => p.n
  | .pl => !p.n
  | .vs => p.v
  | .vc => !p.v
  | .hi => p.c && !p.z
  | .ls => !p.c || p.z
  | .ge => p.n == p.v
  | .lt => p.n != p.v
  | .gt => !p.z && (p.n == p.v)
  | .le => p.z || (p.n != p.v)
  | .al => true

/-- An instruction whose condition fails only advances the PC (R824). -/
def conditional (c : Cond) (m : Exec Unit) : Exec Unit := fun s =>
  if Cond.passes c s.cpsr then m s else advance s

/-- The same for a branch, whose failed condition in Debug state leaves in the PC any value that it can hold (R451, R567). -/
def conditionalBranch (c : Cond) (m : Exec Unit) : Exec Unit := fun s =>
  if Cond.passes c s.cpsr then m s
  else if s.halted then (do let v ← draw; update fun s => s.branchKeep v) s
  else advance s

/-! Hidden state that exceptions and mode changes touch -/

/-- Bytes at one stage of the IMB sequence that satisfy a condition pass to the next (R612). -/
def State.passCode (s : State) (now next : StaleStage) (p : StaleCode → Bool) : State :=
  { s with codeStale := s.codeStale.map fun c => if c.stage = now && p c then { c with stage := next } else c }

/-- Flush Entire Branch Target Cache (R257). -/
def State.flushBranches (s : State) : State := s.passCode .invalidated .flushed fun _ => true

/-- The branch target cache is flushed where the core has gone from the Non-secure to the Secure state (R817). -/
def State.switchedFrom (t s : State) : State := if !s.isSecure && t.isSecure then t.flushBranches else t

/-- An imprecise external abort becomes pending (R1564; one at a time, the first); in Debug state it sets the sticky bit
DSCR[7], and is latched until DSCR[19] is set (R452, R453). -/
def State.impreciseAbort (s : State) (e : BusError) (write : Bool) : State :=
  let t := if s.halted then { s with dbg := { s.dbg with dscr := s.dbg.dscr ||| 0x80 } } else s
  if (s.halted && s.dbg.dscr.getLsbD 19) || s.pendingAbort.isSome then t
  else { t with pendingAbort := some { error := e, write := write, secure := s.isSecure } }

/-! Taking an exception (R1540 to R1562) -/

/-- What is taken; Reset apart, which is `State.reset`. The aborts say whether they are external (R1542). -/
inductive Exc where
  | undefined
  | svc
  | smc
  | prefetchAbort (external : Bool)
  | dataAbort (external : Bool)
  | irq
  | fiq
  deriving DecidableEq, Repr

/-- Routing to Secure Monitor mode by SCR[3:1] (R1542). -/
def Exc.toMonitor (x : Exc) (scr : Word) : Bool :=
  match x with
  | .smc => true
  | .prefetchAbort ext => ext && scr.getLsbD 3
  | .dataAbort ext => ext && scr.getLsbD 3
  | .fiq => scr.getLsbD 2
  | .irq => scr.getLsbD 1
  | .undefined => false
  | .svc => false

/-- The mode entered when not routed to Secure Monitor mode (R1540). -/
def Exc.mode : Exc → Mode
  | .undefined => .und
  | .svc => .svc
  | .smc => .mon
  | .prefetchAbort _ => .abt
  | .dataAbort _ => .abt
  | .irq => .irq
  | .fiq => .fiq

/-- The offset of the vector (R1540). -/
def Exc.offset : Exc → Word
  | .undefined => 0x04
  | .svc => 0x08
  | .smc => 0x08
  | .prefetchAbort _ => 0x0C
  | .dataAbort _ => 0x10
  | .irq => 0x18
  | .fiq => 0x1C

/-- What the banked R14 receives (R1545), from the address of the instruction the table names. -/
def Exc.link (x : Exc) (pc : Word) (thumb : Bool) : Word :=
  match x with
  | .undefined => pc + (if thumb then 2 else 4)
  | .svc => pc + (if thumb then 2 else 4)
  | .smc => pc + 4
  | .prefetchAbort _ => pc + 4
  | .dataAbort _ => pc + 8
  | .irq => pc + 4
  | .fiq => pc + 4

/-- Whether entry sets the A bit where the world allows it (R1544). -/
def Exc.masksAborts : Exc → Bool
  | .prefetchAbort _ => true
  | .dataAbort _ => true
  | .irq => true
  | .fiq => true
  | .undefined => false
  | .svc => false
  | .smc => false

/-- The base of a world's vector table (R1541). -/
def State.vectorBase (s : State) (nonSecure : Bool) : Word :=
  if (s.bankOf nonSecure).sctlr.getLsbD 13 then 0xFFFF0000#32 else (s.bankOf nonSecure).vbar

/-- The address an exception goes to (R1541, R1550 to R1560, R1580). -/
def Exc.vector (x : Exc) (s : State) (monitor nonSecure : Bool) : Word :=
  if monitor then s.cp15.mvbar + x.offset
  else if x = .irq && (s.bankOf nonSecure).sctlr.getLsbD 24 then s.pins.irqAddr.setWidth 32 <<< 2
  else s.vectorBase nonSecure + x.offset

/-- The CPSR after entry (R1544): `enabled` says that the world entered lets entry set F, and A. -/
def Exc.entryPsr (x : Exc) (p : Psr) (monitor setsF setsA ee : Bool) : Psr :=
  { p with
    mode := if monitor then .mon else x.mode
    t := false
    j := false
    i := true
    f := p.f || monitor || (x = .fiq && setsF)
    a := p.a || monitor || (x.masksAborts && setsA)
    e := ee }

/-- The common entry sequence (R1544). An exception taken in Secure Monitor mode clears SCR.NS first (R1561). A vectored
IRQ entry is notified to the VIC (R1581). -/
def enterException (x : Exc) (s : State) : State :=
  let monitor := x.toMonitor s.cp15.scr
  let scr := if s.cpsr.mode = .mon then s.cp15.scr &&& ~~~1#32 else s.cp15.scr
  let nonSecure := !monitor && scr.getLsbD 0
  let mode := if monitor then .mon else x.mode
  let target := x.vector s monitor nonSecure
  let vectored := x = .irq && !monitor && (s.bankOf nonSecure).sctlr.getLsbD 24
  let t : State := { s with
    gpr := s.gpr.set (slot mode 14) (x.link s.pc s.thumb)
    spsr := s.spsr.put mode s.cpsr.toWord
    cpsr := x.entryPsr s.cpsr monitor (!nonSecure || scr.getLsbD 4) (!nonSecure || scr.getLsbD 5)
      ((s.bankOf nonSecure).sctlr.getLsbD 25)
    cp15 := { s.cp15 with scr := scr }
    pc := target
    irqAcks := s.irqAcks + vectored.toNat
    dbg := { s.dbg with
      lastIrqSecure := if vectored && !nonSecure then target else s.dbg.lastIrqSecure
      lastIrqNonSecure := if vectored && nonSecure then target else s.dbg.lastIrqNonSecure } }
  t.switchedFrom s

/-- An Undefined instruction exception; in Debug state only the sticky bit DSCR[8] is set (R452). -/
def State.undefined (s : State) : State :=
  if s.halted then { s with dbg := { s.dbg with dscr := s.dbg.dscr ||| 0x100 } } else enterException .undefined s

/-- End the instruction with the Undefined instruction exception. -/
def takeUndefined {α : Type} : Exec α := endWith State.undefined

/-! Returning from an exception (R905, R1570) -/

/-- What the world lets a whole-CPSR write change (R905). -/
def State.returnMask (s : State) (v : Word) : Word :=
  if s.isSecure then psrMask
  else
    psrMask &&& ~~~(bitAt (!s.cp15.scr.getLsbD 5) 8) &&& ~~~(bitAt (!s.cp15.scr.getLsbD 4) 6) &&&
      ~~~(if v.extractLsb' 0 5 = 0b10110#5 then 0x1F#32 else 0)

/-- Write the CPSR; a debugger that does so must write the PC afterwards (R451). -/
def State.setCpsr (s : State) (p : Psr) : State :=
  let t : State := { s with cpsr := p, dbg := { s.dbg with
      cpsrWritten := s.dbg.cpsrWritten || s.halted
      pcWritten := s.dbg.pcWritten && !s.halted } }
  t.switchedFrom s

/-- The state of an instruction that is ignored as a whole, `before` being the state it began in (R448). -/
def State.ignoredSince (s before : State) : State := { before with draws := s.draws }

/-- `CPSRWriteByReturn` of R905: refused where the mode field is no mode (U1); ignored, with all of the instruction that
began in state `before`, where it would take Debug state to where debug is not permitted (R448). -/
def cpsrWriteByReturn (before : State) (v : Word) : Exec Unit := fun s =>
  if (Mode.ofBits? (v.extractLsb' 0 5)).isNone then .error (.refused .illegalMode)
  else match s.cpsr.merge v (s.returnMask v) with
    | none => .error (.refused .illegalMode)
    | some p =>
      let t := s.setCpsr p
      if s.halted && !t.debugPermitted then .error (.took (s.ignoredSince before)) else .ok ((), t)

/-- The exception return of a data-processing instruction with S = 1 and Rd = R15, and of LDM (3) and RFE, begun in state
`before`: the status from `psr`, then the PC with the low bits dropped that the new instruction set does not have (R905,
R1192). -/
def exceptionReturn (before : State) (psr target : Word) : Exec Unit := do
  cpsrWriteByReturn before psr
  update fun s => s.branchTo (if s.cpsr.t then target &&& ~~~1#32 else target &&& ~~~3#32)

end Sys2Proof.Machine
end

