-- ==== Sys2Proof/Machine/Flags.lean ====
section
/-! DEFINITION. Flags: the flag computations of the data-processing, multiply and media instructions (R903, R904, R60,
R61). Arithmetic is exact on integers and narrowed at the end. -/

namespace Sys2Proof.Machine

/-- The result of an addition with its carry and signed overflow. -/
structure Sum where
  value : Word
  carry : Bool
  overflow : Bool
  deriving DecidableEq, Repr

/-- `AddWithCarry` of R903. -/
def addWithCarry (x y : Word) (cin : Bool) : Sum :=
  let u := x.toNat + y.toNat + cin.toNat
  let i := x.toInt + y.toInt + (cin.toNat : Int)
  { value := BitVec.ofNat 32 u
    carry := decide (2 ^ 32 ≤ u)
    overflow := decide (i < -2 ^ 31) || decide (2 ^ 31 ≤ i) }

/-- N and Z of a result. -/
def Psr.setNZ (p : Psr) (r : Word) : Psr := { p with n := r.getLsbD 31, z := r == 0 }

/-- The flags of a logical opcode: V is unchanged (R901). -/
def Psr.logical (p : Psr) (r : Word) (shifterCarry : Bool) : Psr := { p.setNZ r with c := shifterCarry }

/-- The flags of an arithmetic opcode (R901). -/
def Psr.arithmetic (p : Psr) (r : Sum) : Psr := { p.setNZ r.value with c := r.carry, v := r.overflow }

/-- Four flags, N first. -/
def Psr.setNZCV (p : Psr) (v : BitVec 4) : Psr :=
  { p with n := v.getLsbD 3, z := v.getLsbD 2, c := v.getLsbD 1, v := v.getLsbD 0 }

/-- N and Z of a 64-bit product. -/
def Psr.setNZ64 (p : Psr) (r : DWord) : Psr := { p with n := r.getLsbD 63, z := r == 0 }

/-- The Q flag is sticky (R60). -/
def Psr.stickQ (p : Psr) (q : Bool) : Psr := { p with q := p.q || q }

/-- Clamp an integer to a range, and say whether it was outside. -/
def clamp (lo hi x : Int) : Int × Bool := if x < lo then (lo, true) else if hi < x then (hi, true) else (x, false)

/-- `SignedSat` to `n` bits (n at least 1). -/
def signedSat (x : Int) (n : Nat) : Int × Bool := clamp (-(2 ^ (n - 1))) (2 ^ (n - 1) - 1) x

/-- `UnsignedSat` to `n` bits. -/
def unsignedSat (x : Int) (n : Nat) : Int × Bool := clamp 0 (2 ^ n - 1) x

/-- The signed value lies outside `n` bits. -/
def outside (x : Int) (n : Nat) : Bool := decide (x < -(2 ^ (n - 1))) || decide (2 ^ (n - 1) - 1 < x)

/-- The four flags become free values: R15 as the destination of a coprocessor read that has no meaning for the flags
(U20, R414). -/
def openFlags : Exec Unit := do
  let v ← draw
  update fun s => s.setFlags (s.cpsr.setNZCV (v.extractLsb' 0 4))

end Sys2Proof.Machine
end

