-- ==== Sys2Proof/Machine/Operands.lean ====
section
/-! DEFINITION. Operands: the shifter operand in its eleven forms (R902), the addressing modes of the loads and stores
(R1142 to R1145), the fields of the status register instructions, and the register names of Thumb instructions. -/

namespace Sys2Proof.Machine

/-- An operand with the shifter's carry-out. -/
structure Shifted where
  value : Word
  carry : Bool
  deriving DecidableEq, Repr

/-- Form 1 of R902: an immediate rotated right by twice the rotation. -/
def shiftedImm (rot : BitVec 4) (imm : BitVec 8) (c : Bool) : Shifted :=
  let v := (imm.setWidth 32).rotateRight (2 * rot.toNat)
  { value := v, carry := if rot = 0 then c else v.getLsbD 31 }

/-- Forms 2 to 7 of R902: a register shifted by a constant, where an amount of 0 means 32 for LSR and ASR and RRX for
ROR. -/
def shiftedConst (ty : ShiftTy) (amount : BitVec 5) (v : Word) (c : Bool) : Shifted :=
  let a := amount.toNat
  match ty with
  | .lsl => if a = 0 then { value := v, carry := c } else { value := v <<< a, carry := v.getLsbD (32 - a) }
  | .lsr => if a = 0 then { value := 0, carry := v.getLsbD 31 } else { value := v >>> a, carry := v.getLsbD (a - 1) }
  | .asr =>
    if a = 0 then { value := v.sshiftRight 31, carry := v.getLsbD 31 }
    else { value := v.sshiftRight a, carry := v.getLsbD (a - 1) }
  | .ror =>
    if a = 0 then { value := bitAt c 31 ||| (v >>> 1), carry := v.getLsbD 0 }
    else { value := v.rotateRight a, carry := v.getLsbD (a - 1) }

/-- Forms 8 to 11 of R902: a register shifted by the low byte of another. -/
def shiftedReg (ty : ShiftTy) (by' : Word) (v : Word) (c : Bool) : Shifted :=
  let s := (by'.extractLsb' 0 8).toNat
  if s = 0 then { value := v, carry := c }
  else match ty with
    | .lsl =>
      if s < 32 then { value := v <<< s, carry := v.getLsbD (32 - s) }
      else { value := 0, carry := s = 32 && v.getLsbD 0 }
    | .lsr =>
      if s < 32 then { value := v >>> s, carry := v.getLsbD (s - 1) }
      else { value := 0, carry := s = 32 && v.getLsbD 31 }
    | .asr =>
      if s < 32 then { value := v.sshiftRight s, carry := v.getLsbD (s - 1) }
      else { value := v.sshiftRight 31, carry := v.getLsbD 31 }
    | .ror =>
      if s % 32 = 0 then { value := v, carry := v.getLsbD 31 }
      else { value := v.rotateRight (s % 32), carry := v.getLsbD (s % 32 - 1) }

/-- The number of a low register (R1341). -/
def low (r : LowReg) : RegNo := r.setWidth 4

/-- The number of a register named by an H bit and three bits (R1341). -/
def high (h : Bool) (r : LowReg) : RegNo := BitVec.ofBool h ++ r

/-- Base plus or minus offset (the U bit). -/
def offsetFrom (u : Bool) (base offset : Word) : Word := if u then base + offset else base - offset

/-- The bits an MSR field mask selects (R1264, Table 1-14). -/
def fieldMask (fields : BitVec 4) : Word :=
  (if fields.getLsbD 0 then 0x000000FF#32 else 0) ||| (if fields.getLsbD 1 then 0x0000FF00#32 else 0) |||
  (if fields.getLsbD 2 then 0x00FF0000#32 else 0) ||| (if fields.getLsbD 3 then 0xFF000000#32 else 0)

/-- The registers of a list, lowest number first. -/
def listed (regs : BitVec 16) : List RegNo :=
  (List.finRange 16).filterMap fun (k : Fin 16) => if regs.getLsbD k.val then some (BitVec.ofNat 4 k.val) else none

/-- Four in the width of a word, times a count. -/
def wordsLong (n : Nat) : Word := BitVec.ofNat 32 (4 * n)

end Sys2Proof.Machine
end

