-- ==== Sys2Proof/Machine/DataProc.lean ====
section
/-! DEFINITION. DataProc: the ARM data-processing instructions (R900 to R930), over one template for each of the five
kinds of opcode (R901) and the three kinds of operand (R902). -/

namespace Sys2Proof.Machine

/-- An operand as a function of the state before the instruction. -/
abbrev Operand := State → Shifted

/-- Form 1 of R902. -/
def immOperand (rot : BitVec 4) (imm : BitVec 8) : Operand := fun s => shiftedImm rot imm s.cpsr.c

/-- Forms 2 to 7 of R902. -/
def constOperand (ty : ShiftTy) (amount : BitVec 5) (rm : RegNo) : Operand := fun s =>
  shiftedConst ty amount (s.reg rm) s.cpsr.c

/-- Forms 8 to 11 of R902. -/
def regOperand (ty : ShiftTy) (rs rm : RegNo) : Operand := fun s => shiftedReg ty (s.reg rs) (s.reg rm) s.cpsr.c

/-- R15 in a register field where the architecture makes it Unpredictable (U54). -/
def noPc (rs : List RegNo) : Exec Unit := fun s =>
  if rs.contains 15 then .error (.refused .unpredictableEncoding) else .ok ((), s)

/-- Write the result and, with S = 1, the flags; R15 is a branch, or with S = 1 an exception return (R901, R905). -/
def finishDp (sf : Bool) (rd : RegNo) (r : Word) (flags : Psr → Psr) : Exec Unit :=
  if rd = 15 then
    if sf then do
      let v ← currentSpsr
      let before ← look id
      exceptionReturn before v r
    else update fun s => s.branchKeep r
  else update fun s =>
    let t := s.setReg rd r
    (if sf then t.setFlags (flags t.cpsr) else t).next

/-- AND, EOR, ORR, BIC. -/
def dpLogical (sf : Bool) (rd rn : RegNo) (f : Word → Word → Word) (o : Operand) : Exec Unit := do
  let b ← look o
  let r ← look fun s => f (s.reg rn) b.value
  finishDp sf rd r fun p => p.logical r b.carry

/-- MOV, MVN. -/
def dpMove (sf : Bool) (rd : RegNo) (f : Word → Word) (o : Operand) : Exec Unit := do
  let b ← look o
  finishDp sf rd (f b.value) fun p => p.logical (f b.value) b.carry

/-- ADD, ADC, SUB, SBC, RSB, RSC: `f` also gets the carry flag. -/
def dpArithmetic (sf : Bool) (rd rn : RegNo) (f : Word → Word → Bool → Sum) (o : Operand) : Exec Unit := do
  let b ← look o
  let r ← look fun s => f (s.reg rn) b.value s.cpsr.c
  finishDp sf rd r.value fun p => p.arithmetic r

/-- TST, TEQ. -/
def dpTest (rn : RegNo) (f : Word → Word → Word) (o : Operand) : Exec Unit := do
  let b ← look o
  update fun s => (s.setFlags (s.cpsr.logical (f (s.reg rn) b.value) b.carry)).next

/-- CMP, CMN. -/
def dpCompare (rn : RegNo) (f : Word → Word → Sum) (o : Operand) : Exec Unit := do
  let b ← look o
  update fun s => (s.setFlags (s.cpsr.arithmetic (f (s.reg rn) b.value))).next

/-- AND, immediate operand (R908). -/
def execAndImm (c : Cond) (sf : Bool) (rn rd : RegNo) (rot : BitVec 4) (imm : BitVec 8) (s : State) :
    Host.Outcome State Fault Refusal :=
  outcome (conditional c (dpLogical sf rd rn (fun a b => a &&& b) (immOperand rot imm))) s

/-- AND, register operand shifted by a constant (R908). -/
def execAndShift (c : Cond) (sf : Bool) (rn rd : RegNo) (amount : BitVec 5) (ty : ShiftTy) (rm : RegNo) (s : State) :
    Host.Outcome State Fault Refusal :=
  outcome (conditional c (dpLogical sf rd rn (fun a b => a &&& b) (constOperand ty amount rm))) s

/-- AND, register operand shifted by a register (R908). -/
def execAndRegShift (c : Cond) (sf : Bool) (rn rd : RegNo) (rs : RegNo) (ty : ShiftTy) (rm : RegNo) (s : State) :
    Host.Outcome State Fault Refusal :=
  outcome (conditional c (do
    noPc [rd, rn, rs, rm]
    dpLogical sf rd rn (fun a b => a &&& b) (regOperand ty rs rm))) s

/-- EOR, immediate operand (R909). -/
def execEorImm (c : Cond) (sf : Bool) (rn rd : RegNo) (rot : BitVec 4) (imm : BitVec 8) (s : State) :
    Host.Outcome State Fault Refusal :=
  outcome (conditional c (dpLogical sf rd rn (fun a b => a ^^^ b) (immOperand rot imm))) s

/-- EOR, register operand shifted by a constant (R909). -/
def execEorShift (c : Cond) (sf : Bool) (rn rd : RegNo) (amount : BitVec 5) (ty : ShiftTy) (rm : RegNo) (s : State) :
    Host.Outcome State Fault Refusal :=
  outcome (conditional c (dpLogical sf rd rn (fun a b => a ^^^ b) (constOperand ty amount rm))) s

/-- EOR, register operand shifted by a register (R909). -/
def execEorRegShift (c : Cond) (sf : Bool) (rn rd : RegNo) (rs : RegNo) (ty : ShiftTy) (rm : RegNo) (s : State) :
    Host.Outcome State Fault Refusal :=
  outcome (conditional c (do
    noPc [rd, rn, rs, rm]
    dpLogical sf rd rn (fun a b => a ^^^ b) (regOperand ty rs rm))) s

/-- SUB, immediate operand (R910). -/
def execSubImm (c : Cond) (sf : Bool) (rn rd : RegNo) (rot : BitVec 4) (imm : BitVec 8) (s : State) :
    Host.Outcome State Fault Refusal :=
  outcome (conditional c (dpArithmetic sf rd rn (fun a b _ => addWithCarry a (~~~b) true) (immOperand rot imm))) s

/-- SUB, register operand shifted by a constant (R910). -/
def execSubShift (c : Cond) (sf : Bool) (rn rd : RegNo) (amount : BitVec 5) (ty : ShiftTy) (rm : RegNo) (s : State) :
    Host.Outcome State Fault Refusal :=
  outcome (conditional c (dpArithmetic sf rd rn (fun a b _ => addWithCarry a (~~~b) true) (constOperand ty amount rm))) s

/-- SUB, register operand shifted by a register (R910). -/
def execSubRegShift (c : Cond) (sf : Bool) (rn rd : RegNo) (rs : RegNo) (ty : ShiftTy) (rm : RegNo) (s : State) :
    Host.Outcome State Fault Refusal :=
  outcome (conditional c (do
    noPc [rd, rn, rs, rm]
    dpArithmetic sf rd rn (fun a b _ => addWithCarry a (~~~b) true) (regOperand ty rs rm))) s

/-- RSB, immediate operand (R911). -/
def execRsbImm (c : Cond) (sf : Bool) (rn rd : RegNo) (rot : BitVec 4) (imm : BitVec 8) (s : State) :
    Host.Outcome State Fault Refusal :=
  outcome (conditional c (dpArithmetic sf rd rn (fun a b _ => addWithCarry (~~~a) b true) (immOperand rot imm))) s

/-- RSB, register operand shifted by a constant (R911). -/
def execRsbShift (c : Cond) (sf : Bool) (rn rd : RegNo) (amount : BitVec 5) (ty : ShiftTy) (rm : RegNo) (s : State) :
    Host.Outcome State Fault Refusal :=
  outcome (conditional c (dpArithmetic sf rd rn (fun a b _ => addWithCarry (~~~a) b true) (constOperand ty amount rm))) s

/-- RSB, register operand shifted by a register (R911). -/
def execRsbRegShift (c : Cond) (sf : Bool) (rn rd : RegNo) (rs : RegNo) (ty : ShiftTy) (rm : RegNo) (s : State) :
    Host.Outcome State Fault Refusal :=
  outcome (conditional c (do
    noPc [rd, rn, rs, rm]
    dpArithmetic sf rd rn (fun a b _ => addWithCarry (~~~a) b true) (regOperand ty rs rm))) s

/-- ADD, immediate operand (R912). -/
def execAddImm (c : Cond) (sf : Bool) (rn rd : RegNo) (rot : BitVec 4) (imm : BitVec 8) (s : State) :
    Host.Outcome State Fault Refusal :=
  outcome (conditional c (dpArithmetic sf rd rn (fun a b _ => addWithCarry a b false) (immOperand rot imm))) s

/-- ADD, register operand shifted by a constant (R912). -/
def execAddShift (c : Cond) (sf : Bool) (rn rd : RegNo) (amount : BitVec 5) (ty : ShiftTy) (rm : RegNo) (s : State) :
    Host.Outcome State Fault Refusal :=
  outcome (conditional c (dpArithmetic sf rd rn (fun a b _ => addWithCarry a b false) (constOperand ty amount rm))) s

/-- ADD, register operand shifted by a register (R912). -/
def execAddRegShift (c : Cond) (sf : Bool) (rn rd : RegNo) (rs : RegNo) (ty : ShiftTy) (rm : RegNo) (s : State) :
    Host.Outcome State Fault Refusal :=
  outcome (conditional c (do
    noPc [rd, rn, rs, rm]
    dpArithmetic sf rd rn (fun a b _ => addWithCarry a b false) (regOperand ty rs rm))) s

/-- ADC, immediate operand (R913). -/
def execAdcImm (c : Cond) (sf : Bool) (rn rd : RegNo) (rot : BitVec 4) (imm : BitVec 8) (s : State) :
    Host.Outcome State Fault Refusal :=
  outcome (conditional c (dpArithmetic sf rd rn (fun a b c => addWithCarry a b c) (immOperand rot imm))) s

/-- ADC, register operand shifted by a constant (R913). -/
def execAdcShift (c : Cond) (sf : Bool) (rn rd : RegNo) (amount : BitVec 5) (ty : ShiftTy) (rm : RegNo) (s : State) :
    Host.Outcome State Fault Refusal :=
  outcome (conditional c (dpArithmetic sf rd rn (fun a b c => addWithCarry a b c) (constOperand ty amount rm))) s

/-- ADC, register operand shifted by a register (R913). -/
def execAdcRegShift (c : Cond) (sf : Bool) (rn rd : RegNo) (rs : RegNo) (ty : ShiftTy) (rm : RegNo) (s : State) :
    Host.Outcome State Fault Refusal :=
  outcome (conditional c (do
    noPc [rd, rn, rs, rm]
    dpArithmetic sf rd rn (fun a b c => addWithCarry a b c) (regOperand ty rs rm))) s

/-- SBC, immediate operand (R914). -/
def execSbcImm (c : Cond) (sf : Bool) (rn rd : RegNo) (rot : BitVec 4) (imm : BitVec 8) (s : State) :
    Host.Outcome State Fault Refusal :=
  outcome (conditional c (dpArithmetic sf rd rn (fun a b c => addWithCarry a (~~~b) c) (immOperand rot imm))) s

/-- SBC, register operand shifted by a constant (R914). -/
def execSbcShift (c : Cond) (sf : Bool) (rn rd : RegNo) (amount : BitVec 5) (ty : ShiftTy) (rm : RegNo) (s : State) :
    Host.Outcome State Fault Refusal :=
  outcome (conditional c (dpArithmetic sf rd rn (fun a b c => addWithCarry a (~~~b) c) (constOperand ty amount rm))) s

/-- SBC, register operand shifted by a register (R914). -/
def execSbcRegShift (c : Cond) (sf : Bool) (rn rd : RegNo) (rs : RegNo) (ty : ShiftTy) (rm : RegNo) (s : State) :
    Host.Outcome State Fault Refusal :=
  outcome (conditional c (do
    noPc [rd, rn, rs, rm]
    dpArithmetic sf rd rn (fun a b c => addWithCarry a (~~~b) c) (regOperand ty rs rm))) s

/-- RSC, immediate operand (R915). -/
def execRscImm (c : Cond) (sf : Bool) (rn rd : RegNo) (rot : BitVec 4) (imm : BitVec 8) (s : State) :
    Host.Outcome State Fault Refusal :=
  outcome (conditional c (dpArithmetic sf rd rn (fun a b c => addWithCarry (~~~a) b c) (immOperand rot imm))) s

/-- RSC, register operand shifted by a constant (R915). -/
def execRscShift (c : Cond) (sf : Bool) (rn rd : RegNo) (amount : BitVec 5) (ty : ShiftTy) (rm : RegNo) (s : State) :
    Host.Outcome State Fault Refusal :=
  outcome (conditional c (dpArithmetic sf rd rn (fun a b c => addWithCarry (~~~a) b c) (constOperand ty amount rm))) s

/-- RSC, register operand shifted by a register (R915). -/
def execRscRegShift (c : Cond) (sf : Bool) (rn rd : RegNo) (rs : RegNo) (ty : ShiftTy) (rm : RegNo) (s : State) :
    Host.Outcome State Fault Refusal :=
  outcome (conditional c (do
    noPc [rd, rn, rs, rm]
    dpArithmetic sf rd rn (fun a b c => addWithCarry (~~~a) b c) (regOperand ty rs rm))) s

/-- TST, immediate operand (R916). -/
def execTstImm (c : Cond) (rn : RegNo) (rot : BitVec 4) (imm : BitVec 8) (s : State) :
    Host.Outcome State Fault Refusal :=
  outcome (conditional c (dpTest rn (fun a b => a &&& b) (immOperand rot imm))) s

/-- TST, register operand shifted by a constant (R916). -/
def execTstShift (c : Cond) (rn : RegNo) (amount : BitVec 5) (ty : ShiftTy) (rm : RegNo) (s : State) :
    Host.Outcome State Fault Refusal :=
  outcome (conditional c (dpTest rn (fun a b => a &&& b) (constOperand ty amount rm))) s

/-- TST, register operand shifted by a register (R916). -/
def execTstRegShift (c : Cond) (rn : RegNo) (rs : RegNo) (ty : ShiftTy) (rm : RegNo) (s : State) :
    Host.Outcome State Fault Refusal :=
  outcome (conditional c (do
    noPc [rn, rs, rm]
    dpTest rn (fun a b => a &&& b) (regOperand ty rs rm))) s

/-- TEQ, immediate operand (R917). -/
def execTeqImm (c : Cond) (rn : RegNo) (rot : BitVec 4) (imm : BitVec 8) (s : State) :
    Host.Outcome State Fault Refusal :=
  outcome (conditional c (dpTest rn (fun a b => a ^^^ b) (immOperand rot imm))) s

/-- TEQ, register operand shifted by a constant (R917). -/
def execTeqShift (c : Cond) (rn : RegNo) (amount : BitVec 5) (ty : ShiftTy) (rm : RegNo) (s : State) :
    Host.Outcome State Fault Refusal :=
  outcome (conditional c (dpTest rn (fun a b => a ^^^ b) (constOperand ty amount rm))) s

/-- TEQ, register operand shifted by a register (R917). -/
def execTeqRegShift (c : Cond) (rn : RegNo) (rs : RegNo) (ty : ShiftTy) (rm : RegNo) (s : State) :
    Host.Outcome State Fault Refusal :=
  outcome (conditional c (do
    noPc [rn, rs, rm]
    dpTest rn (fun a b => a ^^^ b) (regOperand ty rs rm))) s

/-- CMP, immediate operand (R918). -/
def execCmpImm (c : Cond) (rn : RegNo) (rot : BitVec 4) (imm : BitVec 8) (s : State) :
    Host.Outcome State Fault Refusal :=
  outcome (conditional c (dpCompare rn (fun a b => addWithCarry a (~~~b) true) (immOperand rot imm))) s

/-- CMP, register operand shifted by a constant (R918). -/
def execCmpShift (c : Cond) (rn : RegNo) (amount : BitVec 5) (ty : ShiftTy) (rm : RegNo) (s : State) :
    Host.Outcome State Fault Refusal :=
  outcome (conditional c (dpCompare rn (fun a b => addWithCarry a (~~~b) true) (constOperand ty amount rm))) s

/-- CMP, register operand shifted by a register (R918). -/
def execCmpRegShift (c : Cond) (rn : RegNo) (rs : RegNo) (ty : ShiftTy) (rm : RegNo) (s : State) :
    Host.Outcome State Fault Refusal :=
  outcome (conditional c (do
    noPc [rn, rs, rm]
    dpCompare rn (fun a b => addWithCarry a (~~~b) true) (regOperand ty rs rm))) s

/-- CMN, immediate operand (R919). -/
def execCmnImm (c : Cond) (rn : RegNo) (rot : BitVec 4) (imm : BitVec 8) (s : State) :
    Host.Outcome State Fault Refusal :=
  outcome (conditional c (dpCompare rn (fun a b => addWithCarry a b false) (immOperand rot imm))) s

/-- CMN, register operand shifted by a constant (R919). -/
def execCmnShift (c : Cond) (rn : RegNo) (amount : BitVec 5) (ty : ShiftTy) (rm : RegNo) (s : State) :
    Host.Outcome State Fault Refusal :=
  outcome (conditional c (dpCompare rn (fun a b => addWithCarry a b false) (constOperand ty amount rm))) s

/-- CMN, register operand shifted by a register (R919). -/
def execCmnRegShift (c : Cond) (rn : RegNo) (rs : RegNo) (ty : ShiftTy) (rm : RegNo) (s : State) :
    Host.Outcome State Fault Refusal :=
  outcome (conditional c (do
    noPc [rn, rs, rm]
    dpCompare rn (fun a b => addWithCarry a b false) (regOperand ty rs rm))) s

/-- ORR, immediate operand (R920). -/
def execOrrImm (c : Cond) (sf : Bool) (rn rd : RegNo) (rot : BitVec 4) (imm : BitVec 8) (s : State) :
    Host.Outcome State Fault Refusal :=
  outcome (conditional c (dpLogical sf rd rn (fun a b => a ||| b) (immOperand rot imm))) s

/-- ORR, register operand shifted by a constant (R920). -/
def execOrrShift (c : Cond) (sf : Bool) (rn rd : RegNo) (amount : BitVec 5) (ty : ShiftTy) (rm : RegNo) (s : State) :
    Host.Outcome State Fault Refusal :=
  outcome (conditional c (dpLogical sf rd rn (fun a b => a ||| b) (constOperand ty amount rm))) s

/-- ORR, register operand shifted by a register (R920). -/
def execOrrRegShift (c : Cond) (sf : Bool) (rn rd : RegNo) (rs : RegNo) (ty : ShiftTy) (rm : RegNo) (s : State) :
    Host.Outcome State Fault Refusal :=
  outcome (conditional c (do
    noPc [rd, rn, rs, rm]
    dpLogical sf rd rn (fun a b => a ||| b) (regOperand ty rs rm))) s

/-- MOV, immediate operand (R921). -/
def execMovImm (c : Cond) (sf : Bool) (rd : RegNo) (rot : BitVec 4) (imm : BitVec 8) (s : State) :
    Host.Outcome State Fault Refusal :=
  outcome (conditional c (dpMove sf rd (fun b => b) (immOperand rot imm))) s

/-- MOV, register operand shifted by a constant (R921). -/
def execMovShift (c : Cond) (sf : Bool) (rd : RegNo) (amount : BitVec 5) (ty : ShiftTy) (rm : RegNo) (s : State) :
    Host.Outcome State Fault Refusal :=
  outcome (conditional c (dpMove sf rd (fun b => b) (constOperand ty amount rm))) s

/-- MOV, register operand shifted by a register (R921). -/
def execMovRegShift (c : Cond) (sf : Bool) (rd : RegNo) (rs : RegNo) (ty : ShiftTy) (rm : RegNo) (s : State) :
    Host.Outcome State Fault Refusal :=
  outcome (conditional c (do
    noPc [rd, rs, rm]
    dpMove sf rd (fun b => b) (regOperand ty rs rm))) s

/-- BIC, immediate operand (R923). -/
def execBicImm (c : Cond) (sf : Bool) (rn rd : RegNo) (rot : BitVec 4) (imm : BitVec 8) (s : State) :
    Host.Outcome State Fault Refusal :=
  outcome (conditional c (dpLogical sf rd rn (fun a b => a &&& ~~~b) (immOperand rot imm))) s

/-- BIC, register operand shifted by a constant (R923). -/
def execBicShift (c : Cond) (sf : Bool) (rn rd : RegNo) (amount : BitVec 5) (ty : ShiftTy) (rm : RegNo) (s : State) :
    Host.Outcome State Fault Refusal :=
  outcome (conditional c (dpLogical sf rd rn (fun a b => a &&& ~~~b) (constOperand ty amount rm))) s

/-- BIC, register operand shifted by a register (R923). -/
def execBicRegShift (c : Cond) (sf : Bool) (rn rd : RegNo) (rs : RegNo) (ty : ShiftTy) (rm : RegNo) (s : State) :
    Host.Outcome State Fault Refusal :=
  outcome (conditional c (do
    noPc [rd, rn, rs, rm]
    dpLogical sf rd rn (fun a b => a &&& ~~~b) (regOperand ty rs rm))) s

/-- MVN, immediate operand (R921). -/
def execMvnImm (c : Cond) (sf : Bool) (rd : RegNo) (rot : BitVec 4) (imm : BitVec 8) (s : State) :
    Host.Outcome State Fault Refusal :=
  outcome (conditional c (dpMove sf rd (fun b => ~~~b) (immOperand rot imm))) s

/-- MVN, register operand shifted by a constant (R921). -/
def execMvnShift (c : Cond) (sf : Bool) (rd : RegNo) (amount : BitVec 5) (ty : ShiftTy) (rm : RegNo) (s : State) :
    Host.Outcome State Fault Refusal :=
  outcome (conditional c (dpMove sf rd (fun b => ~~~b) (constOperand ty amount rm))) s

/-- MVN, register operand shifted by a register (R921). -/
def execMvnRegShift (c : Cond) (sf : Bool) (rd : RegNo) (rs : RegNo) (ty : ShiftTy) (rm : RegNo) (s : State) :
    Host.Outcome State Fault Refusal :=
  outcome (conditional c (do
    noPc [rd, rs, rm]
    dpMove sf rd (fun b => ~~~b) (regOperand ty rs rm))) s

/-- CPY: MOV of a register without shift or flags (R922). -/
def execCpy (c : Cond) (rd : RegNo) (rm : RegNo) (s : State) : Host.Outcome State Fault Refusal :=
  outcome (conditional c (dpMove false rd (fun b => b) (constOperand .lsl 0 rm))) s

/-- The number of zero bits above the most significant one (R924). -/
def leadingZeros (v : Word) : Nat → Nat
  | 0 => 32
  | n + 1 => if v.getLsbD n then 31 - n else leadingZeros v n

/-- CLZ (R924). -/
def execClz (c : Cond) (rd : RegNo) (rm : RegNo) (s : State) : Host.Outcome State Fault Refusal :=
  outcome (conditional c (do
    noPc [rd, rm]
    let v ← look fun s => s.reg rm
    finishReg rd (BitVec.ofNat 32 (leadingZeros v 32)))) s

end Sys2Proof.Machine
end

