-- ==== Sys2Proof/Machine/Branch.lean ====
section
/-! DEFINITION. Branch: the ARM branches (R1120 to R1131). -/

namespace Sys2Proof.Machine

/-- A branch offset: 24 bits in words. -/
def branchOffset (imm : BitVec 24) : Word := imm.signExtend 32 <<< 2

/-- Put the address of the next instruction in R14, with these low bits (R1121). -/
def link (back : Word) (bits : Word) : Exec Unit := update fun s => s.setReg 14 ((s.readPc - back) ||| bits)

/-- Put the address of the next ARM instruction in R14 and enter Thumb state at a target (R1125). -/
def linkToThumb (target : Word) : Exec Unit := update fun s =>
  { s.setReg 14 (s.readPc - 4) with cpsr := { s.cpsr with t := true } }.branchBy target

/-- B (R1123). -/
def execB (c : Cond) (imm : BitVec 24) (s : State) : Host.Outcome State Fault Refusal :=
  outcome (conditionalBranch c (update fun s => s.branchBy (s.readPc + branchOffset imm))) s

/-- BL (R1124). -/
def execBl (c : Cond) (imm : BitVec 24) (s : State) : Host.Outcome State Fault Refusal :=
  outcome (conditionalBranch c (do
      let target ← look fun s => s.readPc + branchOffset imm
      link 4 0
      update fun s => s.branchBy target)) s

/-- BLX, immediate form: always to Thumb state (R1125). -/
def execBlxImm (h : Bool) (imm : BitVec 24) (s : State) : Host.Outcome State Fault Refusal :=
  outcome (do
      let target ← look fun s => s.readPc + branchOffset imm + bitAt h 1
      linkToThumb target) s

/-- BX (R1126). -/
def execBx (c : Cond) (rm : RegNo) (s : State) : Host.Outcome State Fault Refusal :=
  outcome (conditionalBranch c (do
      let v ← look fun s => s.reg rm
      bxWritePc v)) s

/-- BXJ: as BX, since the Jazelle extension is disabled (R1127, decision D45). -/
def execBxj (c : Cond) (rm : RegNo) (s : State) : Host.Outcome State Fault Refusal :=
  outcome (conditionalBranch c (do
      noPc [rm]
      let v ← look fun s => s.reg rm
      bxWritePc v)) s

/-- BLX, register form: the target is read before R14 is written (R1128). -/
def execBlxReg (c : Cond) (rm : RegNo) (s : State) : Host.Outcome State Fault Refusal :=
  outcome (conditionalBranch c (do
      noPc [rm]
      let v ← look fun s => s.reg rm
      link 4 0
      bxWritePc v)) s

end Sys2Proof.Machine
end

