-- ==== Sys2Proof/Machine/Memory.lean ====
section
/-! DEFINITION. Memory: the list of bytes and its canonical form, which byte an access reaches (a TCM or the external
memory, R542, R547, R760), what the platform answers (R636), and what a write does to the hidden structures: instruction
bytes that are not yet to be executed (R610) and descriptors the TLB may hold (R706). -/

namespace Sys2Proof.Machine

/-- The byte under a key. An unlisted byte reads as zero (DESIGN CHOICE: the spec gives memory no reset contents). -/
def Memory.read : List Host.Cell → Nat → Byte
  | [], _ => 0
  | (a, b) :: m, k => if k = a then b else if k < a then 0 else Memory.read m k

/-- Write the byte under a key, keeping the keys rising and listing no zero. -/
def Memory.write : List Host.Cell → Nat → Byte → List Host.Cell
  | [], k, v => if v = 0 then [] else [(k, v)]
  | (a, b) :: m, k, v =>
    if k < a then if v = 0 then (a, b) :: m else (k, v) :: (a, b) :: m
    else if k = a then if v = 0 then m else (k, v) :: m
    else (a, b) :: Memory.write m k v

/-- The canonical form: keys strictly rising, no byte equal to what an unlisted byte reads as. -/
def Memory.wf : List Host.Cell → Bool
  | [] => true
  | [(_, b)] => b != 0
  | (a, b) :: (a', b') :: m => b != 0 && decide (a < a') && Memory.wf ((a', b') :: m)

/-- The little-endian word under four keys. -/
def Memory.word (m : List Host.Cell) (k : Nat) : Word :=
  Memory.read m (k + 3) ++ Memory.read m (k + 2) ++ Memory.read m (k + 1) ++ Memory.read m k

/-! The platform (R542, R634, R636) -/

/-- An address lies in a range. -/
def Span.holds (r : Span) (pa : Word) : Bool := decide (r.first ≤ pa.toNat) && decide (pa.toNat ≤ r.last)

/-- A property of a transfer is one a region asks for. -/
def asked {α : Type} [DecidableEq α] (want : Option α) (have_ : α) : Bool :=
  match want with
  | none => true
  | some a => a = have_

/-- A transfer's byte at an address belongs to a region of the platform. -/
def Region.covers (r : Region) (q : Request) (pa : Word) : Bool :=
  r.span.holds pa && asked r.port q.port && asked r.write q.write && asked r.ns q.ns && asked r.priv q.priv &&
    asked r.instr q.instr && asked r.lock q.lock && asked r.ty q.attrs.ty && asked r.shared q.attrs.shared &&
    asked r.inner q.attrs.inner && asked r.outer q.attrs.outer

/-- The error with which the platform answers a transfer at one of its bytes (R634). -/
def State.busError (s : State) (q : Request) (pa : Word) : Option BusError :=
  (s.pins.errors.find? (·.region.covers q pa)).map (·.error)

/-- The error with which it answers a transfer of `n` bytes from an address up: that of the first byte with one. -/
def State.transferError (s : State) (q : Request) (pa : Word) : Nat → Option BusError
  | 0 => none
  | n + 1 => (s.transferError q pa n).or (s.busError q (pa + BitVec.ofNat 32 n))

/-- The platform answers for a device at one of the `n` bytes of a transfer from an address up (R636). -/
def State.reachesDevice (s : State) (q : Request) (pa : Word) (n : Nat) : Bool :=
  (List.range n).any fun i => s.pins.devices.any (·.covers q (pa + BitVec.ofNat 32 i))

/-- Record a transfer (R636). -/
def State.noteTransfer (s : State) (q : Request) (data : List Host.Cell) (e : Option BusError) : State :=
  { s with transfers := { request := q, data := data, error := e } :: s.transfers }

/-- Put a byte among others that are in ascending order of address. -/
def putCell (c : Host.Cell) : List Host.Cell → List Host.Cell
  | [] => [c]
  | d :: ds => if c.1 ≤ d.1 then c :: d :: ds else d :: putCell c ds

/-- Bytes with their physical addresses, from one address up. -/
def cellsFrom (pa : Nat) : List Byte → List Host.Cell
  | [] => []
  | b :: bs => (pa, b) :: cellsFrom (pa + 1) bs

/-- Add a word to the latest transfer made for this request, if that has not moved the byte at this address yet; none where
there is no such transfer. -/
def joinTransfer (q : Request) (pa : Nat) (data : List Host.Cell) (e : Option BusError) :
    List Transfer → Option (List Transfer)
  | [] => none
  | t :: ts =>
    if t.request = q then
      if t.data.any (·.1 == pa) then none else some ({ t with data := data.foldr putCell t.data, error := t.error.or e } :: ts)
    else (joinTransfer q pa data e ts).map (t :: ·)

/-- Record a word, the first byte of which is at a physical address, of a transfer of several: `opens` says that it is the
first that its burst moves (R797). -/
def State.noteWord (s : State) (opens : Bool) (q : Request) (pa : Nat) (data : List Host.Cell) (e : Option BusError) :
    State :=
  { s with transfers := ((if opens then none else joinTransfer q pa data e s.transfers).getD
      ({ request := q, data := data, error := e } :: s.transfers)) }

/-! Where a byte is -/

/-- The slave at an address decodes the NS attribute (decision D32). -/
def State.splits (s : State) (pa : Word) : Bool := s.pins.split.any (·.holds pa)

/-- The key of an external byte: its physical address, and another where its slave tells Non-secure accesses apart (R542,
decision D32). -/
def State.extKey (s : State) (ns : Bool) (pa : Word) : Nat :=
  pa.toNat + (if ns && s.splits pa then 0x100000000 else 0)

/-- The key of a byte of a TCM (R755): the Data TCMs, then the Instruction TCMs. -/
def tcmKey (data second : Bool) (offset : Nat) : Nat :=
  0x200000000 + (if data then 0 else 0x100000) + (if second then 0x80000 else 0) + offset

/-- Steps 1 and 2 of `TcmHit` (R759), for a TCM of a configured size. -/
def Tcm.covers (t : Tcm) (c : Config.TcmConfig) (pa : Word) : Bool :=
  t.region.getLsbD 0 && (pa.toNat / c.bytes == t.region.toNat / c.bytes)

/-- `TcmHit` of R759, with the visibility of R768. -/
def Tcm.hit (t : Tcm) (c : Config.TcmConfig) (pa : Word) (ns : Bool) : Bool := t.covers c pa && (t.nsAccess == ns)

/-- What a side is configured with (R755). -/
def State.tcmConfig (s : State) (data : Bool) : Config.TcmConfig :=
  if data then s.pins.params.dtcm else s.pins.params.itcm

/-- The TCM of a side that serves an access (R760): which of the two, if one does. -/
def State.tcmOf (s : State) (data ns : Bool) (pa : Word) : Option Bool :=
  let t := if data then s.cp15.dtcm else s.cp15.itcm
  let c := s.tcmConfig data
  if decide (0 < c.count) && t[0].hit c pa ns then some false
  else if decide (1 < c.count) && t[1].hit c pa ns then some true
  else none

/-- The byte of a TCM of a side that serves an access, if one does. -/
def State.tcmByteOf (s : State) (data ns : Bool) (pa : Word) : Option Nat :=
  (s.tcmOf data ns pa).map fun second => tcmKey data second (pa.toNat % (s.tcmConfig data).bytes)

/-- The TCM byte that serves an access, if one does (R760). -/
def State.tcmByte (s : State) (instr ns : Bool) (pa : Word) : Option Nat :=
  if instr then s.tcmByteOf false ns pa else (s.tcmByteOf true ns pa).or (s.tcmByteOf false ns pa)

/-- The key of the byte that an access reaches, caches apart. -/
def State.byteKey (s : State) (instr ns : Bool) (pa : Word) : Nat :=
  (s.tcmByte instr ns pa).getD (s.extKey ns pa)

/-- The byte under a key is one of a TCM. -/
def isTcmKey (key : Nat) : Bool := decide (0x200000000 ≤ key)

/-! Cache geometry (R226, R742) -/

/-- log2 of the number of sets of a cache that is in use: with ACTLR.CZ at most 16KB (R145, R748), for the operations by
index too (DESIGN CHOICE, log 91). -/
def State.setBits (s : State) (data : Bool) : Nat :=
  let n := (if data then s.pins.params.dcache else s.pins.params.icache).setBits
  if s.cp15.actlr.getLsbD 6 then min n 7 else n

/-- The set of a cache that a modified virtual address indexes. -/
def State.setOf (s : State) (data : Bool) (mva : Word) : Nat := mva.toNat / 32 % 2 ^ s.setBits data

/-! What a write does besides -/

/-- The bytes of a table that say what the entry is: a descriptor word, or the sixteen copies of the descriptor of a
supersection, or of a large page (R661). -/
def WalkRecord.unit1 (r : WalkRecord) : Nat := if r.last - r.first = 0xFFFFFF then 64 else 4
def WalkRecord.unit2 (r : WalkRecord) : Nat := if r.last - r.first = 0xFFFF then 64 else 4

/-- A key lies in the same unit as that of a word that has been read. -/
def sameUnit (unit key : Nat) (read : Option Nat) : Bool := read.any fun k => k / unit == key / unit

/-- Mark the walks that read the descriptor a byte belongs to (R706). -/
def markWalks (key : Nat) (ws : List WalkRecord) : List WalkRecord :=
  ws.map fun r => { r with
    stale1 := r.stale1 || sameUnit r.unit1 key r.key1
    stale2 := r.stale2 || sameUnit r.unit2 key r.key2 }

/-- The NS attributes with which a fetch can reach the byte under a key: those of an external byte whose slave tells them
apart are in the key (R542). -/
def State.codeTags (s : State) (key : Nat) : List Bool :=
  if isTcmKey key then [false, true] else if 0x100000000 ≤ key then [true]
  else if s.splits (BitVec.ofNat 32 key) then [false] else [false, true]

/-- The values of MVA bits [13:12] that tell lines of the instruction cache apart (R700): one value stands for those that
do not. -/
def State.codeColours (s : State) : List (BitVec 2) :=
  if s.setBits false ≤ 7 then [0] else if s.setBits false = 8 then [0, 1] else [0, 1, 2, 3]

/-- The colour of an MVA among these. -/
def State.codeColour (s : State) (mva : Word) : BitVec 2 :=
  BitVec.ofNat 2 (s.setOf false mva / 2 ^ 7)

/-- What a byte that has just been written asks for before it may be executed (R610, R612): in a TCM no barrier of the
caches (R1671 row 11, R1680). -/
def State.staleEntries (s : State) (key : Nat) : List StaleCode :=
  (s.codeTags key).flatMap fun ns => s.codeColours.map fun colour =>
    { key := key, ns := ns, colour := colour, stage := if isTcmKey key then .invalidated else .stored, ways := 0xF
      entries := [], ready := [] }

/-- A byte has been written: it is not to be executed until an IMB sequence has covered it (R610), nor to be relied on as
a descriptor until the TLB has dropped what it said (R706). -/
def State.touch (s : State) (key : Nat) : State :=
  { s with
    codeStale := s.staleEntries key ++ s.codeStale.filter (fun c => c.key != key)
    walks := markWalks key s.walks }

/-- Write one byte of memory. -/
def State.storeByte (s : State) (key : Nat) (v : Byte) : State := { s.touch key with mem := Memory.write s.mem key v }

/-- A fetch through an MVA, with an NS attribute, reads this byte, and no IMB sequence has covered it yet (R610). -/
def State.isStaleCode (s : State) (ns : Bool) (mva : Word) (key : Nat) : Bool :=
  s.codeStale.any fun c => c.key == key && c.ns == ns && c.colour == s.codeColour mva && !c.ready.contains (mva >>> 3)

end Sys2Proof.Machine
end

