-- ==== Sys2Proof/Machine/Mmu.lean ====
section
/-! DEFINITION. Mmu: FCSE, the lockdown entries, the walk of the translation tables, domains, permissions and memory
attributes (R541, R640 to R700). Everything is a function of the state; a translation also returns the state in which it
is recorded (R706) and, with the P bit, locked down (R310, R705). -/

namespace Sys2Proof.Machine

/-- What a translation is for. -/
inductive Access where
  | read | write | execute
  deriving DecidableEq, Repr

/-- A TLB entry as it bears on one address (R705): the outcome of a walk, or a lockdown entry. -/
structure Mapping where
  /-- From a second-level descriptor. -/
  page : Bool
  /-- log2 of the size it maps. -/
  sizeLog : Nat
  pa : Word
  domain : BitVec 4
  apx : Bool
  ap : BitVec 2
  xn : Bool
  tex : BitVec 3
  c : Bool
  b : Bool
  sh : Bool
  ns : Bool
  global : Bool
  deriving DecidableEq, Repr

/-- A fault of the MMU: FSR bits [10,3:0], the domain where it is valid, and the answer of an external error (R690). -/
structure MmuFault where
  status : BitVec 5
  domain : Option (BitVec 4)
  error : Option BusError
  deriving DecidableEq, Repr

/-- What a successful translation gives (R650). -/
structure Translation where
  pa : Word
  attrs : Attrs
  /-- The attributes that the page marks the address with: those by which the data cache is looked up (R762). -/
  marked : Attrs
  ns : Bool
  domain : BitVec 4
  deriving DecidableEq, Repr

/-- A translation's result. -/
inductive Xlat where
  | ok (t : Translation) (s : State)
  | abort (f : MmuFault) (s : State)
  | refused (r : Refusal)

/-- The FCSE: R541, with the FCSE PID of a world. -/
def State.fcse (s : State) (ns : Bool) (va : Word) : Word :=
  if va.extractLsb' 25 7 = 0 then (s.bankOf ns).fcse ||| va else va

/-! The walk -/

/-- What a walk finds: a fault, or a mapping with its second-level descriptor word, zero where there is none. -/
inductive Found where
  | fault (f : MmuFault)
  | mapping (m : Mapping) (l2 : Word)
  deriving DecidableEq, Repr

/-- A walk: what it finds, and the keys of the descriptor words it read, those that a device answered apart. `paged` says
that it went on to the second level. -/
structure Walk where
  found : Found
  key1 : Option Nat := none
  key2 : Option Nat := none
  paged : Bool := false
  deriving DecidableEq, Repr

/-- The walks of a world read big-endian descriptors: with the open parameter of decision D38, where EE = 1, U = 1 and B = 0
(R652). -/
def State.reversesWalk (s : State) (ns : Bool) : Bool :=
  s.pins.walkFollowsEE && (s.bankOf ns).sctlr.getLsbD 25 && (s.bankOf ns).sctlr.getLsbD 22 && !s.bigEndian32

/-- A descriptor word (R651, R652), little-endian unless the world's walks are not. It is read from external memory, never from the data cache or a TCM (R201). -/
def State.descriptor (s : State) (ns : Bool) (key : Nat) : Word :=
  let w := Memory.word s.mem key
  if s.reversesWalk ns then
    w.extractLsb' 0 8 ++ w.extractLsb' 8 8 ++ w.extractLsb' 16 8 ++ w.extractLsb' 24 8
  else w

/-- R204. -/
def usesTtbr1 (b : Cp15Banked) (mva : Word) : Bool :=
  let n := (b.ttbcr.extractLsb' 0 3).toNat
  n != 0 && mva >>> (32 - n) != 0

/-- The address of the first-level descriptor (R653). -/
def firstLevelAddress (b : Cp15Banked) (mva : Word) : Word :=
  let n := (b.ttbcr.extractLsb' 0 3).toNat
  if usesTtbr1 b mva then (b.ttbr1 &&& 0xFFFFC000#32) ||| (mva >>> 20 <<< 2)
  else
    let tableMask := (0xFFFFFFFF#32 <<< (14 - n))
    (b.ttbr0 &&& tableMask) ||| ((mva >>> 20 <<< 2) &&& ~~~tableMask)

/-- The walks of the table in use are disabled (R203): a Section Translation fault (R691), which a VA to PA operation reports
as a TLB miss (R690). -/
def walkDisabled (b : Cp15Banked) (mva : Word) : Bool :=
  if usesTtbr1 b mva then b.ttbcr.getLsbD 5 else b.ttbcr.getLsbD 4

/-- The attributes that a Translation Table Base Register gives a walk (R200, R651): RGN, S and C. DESIGN CHOICE (log 78): Inner
Cacheable is shown as Write-Back. -/
def walkAttrs (b : Cp15Banked) (mva : Word) : Attrs :=
  let r := if usesTtbr1 b mva then b.ttbr1 else b.ttbr0
  { ty := .normal, shared := r.getLsbD 1, inner := if r.getLsbD 0 then 0b11 else 0b00, outer := r.extractLsb' 3 2 }

/-- The read of a descriptor (R651): on the Data Read/Write port, with the rights of the world of the request. DESIGN CHOICE
(log 78): privileged, whatever the privilege of the access. -/
def walkRequest (b : Cp15Banked) (ns : Bool) (mva a : Word) : Request where
  port := .data
  write := false
  pa := a
  size := 4
  beats := 1
  strobes := 0
  ns := ns
  priv := true
  instr := false
  lock := .normal
  attrs := walkAttrs b mva

/-- The error with which the read of a descriptor is answered. -/
def State.walkError (s : State) (ns : Bool) (mva a : Word) : Option BusError :=
  s.transferError (walkRequest (s.bankOf ns) ns mva a) a 4

/-- A device answers the read of the descriptor at an address (R636, R651). -/
def State.walksDevice (s : State) (ns : Bool) (mva a : Word) : Bool :=
  s.reachesDevice (walkRequest (s.bankOf ns) ns mva a) a 4

/-- The descriptor word that a walk reads at an address: a device's is any value, the `k`-th draw from now. -/
def State.walkWord (s : State) (ns : Bool) (mva a : Word) (k : Nat) : Word :=
  if s.walksDevice ns mva a then Config.freeWord (s.draws + k) else s.descriptor ns (s.extKey ns a)

/-- Its key in memory, where it is there. -/
def State.walkKey (s : State) (ns : Bool) (mva a : Word) : Option Nat :=
  if s.walksDevice ns mva a then none else some (s.extKey ns a)

/-- The draws of a walk are done with. -/
def State.drawWalk (s : State) : State :=
  { s with draws := if s.pins.devices.isEmpty then s.draws else s.draws + 2 }

/-- A first-level descriptor of a supersection (R661), and a second-level descriptor of a large page (R658, R659). -/
def isSupersection (d : Word) : Bool := d.extractLsb' 0 2 = 0b10#2 && d.getLsbD 18
def isLargePage (d : Word) : Bool := d.extractLsb' 0 2 = 0b01#2

/-- Of the sixteen words around a key, those from a multiple of sixteen words up, none is of the repeated kind, or all are
the same (R661): an entry loaded from any copy covers the part of this word too. -/
def State.copiesAgree (s : State) (ns : Bool) (repeated : Word → Bool) (key : Nat) : Bool :=
  let w (i : Nat) : Word := s.descriptor ns (key / 64 * 64 + 4 * i)
  !((List.range 16).any fun i => repeated (w i)) || (List.range 16).all fun i => w i == s.descriptor ns key

/-- A section or supersection descriptor (R655, R656, R660, R661). -/
def sectionMapping (xp : Bool) (d mva : Word) : Mapping where
  page := false
  sizeLog := if d.getLsbD 18 then 24 else 20
  pa := if d.getLsbD 18 then (d &&& 0xFF000000#32) ||| (mva &&& 0x00FFFFFF#32)
    else (d &&& 0xFFF00000#32) ||| (mva &&& 0x000FFFFF#32)
  domain := if d.getLsbD 18 then 0 else d.extractLsb' 5 4
  apx := xp && d.getLsbD 15
  ap := d.extractLsb' 10 2
  xn := xp && d.getLsbD 4
  tex := d.extractLsb' 12 3
  c := d.getLsbD 3
  b := d.getLsbD 2
  sh := xp && d.getLsbD 16
  ns := d.getLsbD 19
  global := !(xp && d.getLsbD 17)

/-- The subpage permissions of a backwards-compatible page (R658): AP0 in bits [5:4] up to AP3 in bits [11:10]. -/
def subpageAp (d : Word) (index : BitVec 2) : BitVec 2 := d.extractLsb' (4 + 2 * index.toNat) 2

/-- A page descriptor (R658, R659, R660), not of type 0b00. -/
def pageMapping (xp : Bool) (l1 d mva : Word) : Mapping :=
  let large := d.extractLsb' 0 2 = 0b01#2
  let extended := xp || d.extractLsb' 0 2 = 0b11#2
  { page := true
    sizeLog := if large then 16 else 12
    pa := if large then (d &&& 0xFFFF0000#32) ||| (mva &&& 0x0000FFFF#32)
      else (d &&& 0xFFFFF000#32) ||| (mva &&& 0x00000FFF#32)
    domain := l1.extractLsb' 5 4
    apx := xp && d.getLsbD 9
    ap := if xp then d.extractLsb' 4 2
      else if large then subpageAp d (mva.extractLsb' 14 2)
      else if extended then d.extractLsb' 4 2
      else subpageAp d (mva.extractLsb' 10 2)
    xn := xp && (if large then d.getLsbD 15 else d.getLsbD 0)
    tex := if large then d.extractLsb' 12 3 else if extended then d.extractLsb' 6 3 else 0
    c := d.getLsbD 3
    b := d.getLsbD 2
    sh := xp && d.getLsbD 10
    ns := l1.getLsbD 3
    global := !(xp && d.getLsbD 11) }

/-- In the Non-secure world the NS attribute is 1 whatever the descriptor says (R674). -/
def Mapping.forWorld (m : Mapping) (ns : Bool) : Mapping := { m with ns := ns || m.ns }

/-- A walk that ends in a fault. -/
def MmuFault.walk (f : MmuFault) (key1 key2 : Option Nat) (paged : Bool) : Walk :=
  { found := .fault f, key1 := key1, key2 := key2, paged := paged }

/-- Lines 8 to 13 of R650: the second level, from a coarse page table descriptor that was read under a key. -/
def State.walkPage (s : State) (ns : Bool) (mva l1 : Word) (key1 : Option Nat) : Walk :=
  let a := (l1 &&& 0xFFFFFC00#32) ||| ((mva >>> 12 &&& 0xFF#32) <<< 2)
  let k := s.walkKey ns mva a
  let domain := some (l1.extractLsb' 5 4)
  match s.walkError ns mva a with
  | some e => MmuFault.walk { status := 0b01110, domain := domain, error := some e } key1 k true
  | none =>
    let l2 := s.walkWord ns mva a 1
    if l2.extractLsb' 0 2 = 0b00#2 then MmuFault.walk { status := 0b00111, domain := domain, error := none } key1 k true
    else
      { found := .mapping ((pageMapping ((s.bankOf ns).sctlr.getLsbD 23) l1 l2 mva).forWorld ns) l2
        key1 := key1, key2 := k, paged := true }

/-- Lines 2 to 13 of R650, for a request of a world. -/
def State.walk (s : State) (ns : Bool) (mva : Word) : Walk :=
  let b := s.bankOf ns
  if walkDisabled b mva then MmuFault.walk { status := 0b00101, domain := none, error := none } none none false
  else
    let a := firstLevelAddress b mva
    let k := s.walkKey ns mva a
    match s.walkError ns mva a with
    | some e => MmuFault.walk { status := 0b01100, domain := none, error := some e } k none false
    | none =>
      let l1 := s.walkWord ns mva a 0
      if l1.extractLsb' 0 2 = 0b10#2 then
        { found := .mapping ((sectionMapping (b.sctlr.getLsbD 23) l1 mva).forWorld ns) 0, key1 := k }
      else if l1.extractLsb' 0 2 = 0b01#2 then s.walkPage ns mva l1 k
      else MmuFault.walk { status := 0b00101, domain := none, error := none } k none false

/-- The descriptors of supersections and large pages among the words that a walk read, or next to them, are repeated
sixteen times as they must be (R661, R658). -/
def State.copiesOk (s : State) (ns : Bool) (w : Walk) : Bool :=
  w.key1.all (s.copiesAgree ns isSupersection) && w.key2.all (s.copiesAgree ns isLargePage)

/-- A translation that would read a descriptor written since the TLB last dropped what it said (R706). -/
def State.isStaleWalk (s : State) (ns : Bool) (w : Walk) : Bool :=
  s.walks.any fun r => r.nonSecure == ns && [w.key1, w.key2].any fun k => k.any fun k =>
    (r.stale1 && sameUnit r.unit1 k r.key1) || (r.stale2 && sameUnit r.unit2 k r.key2)

/-! Lockdown entries -/

/-- log2 of the size of a lockdown entry (R372). -/
def TlbEntry.sizeLog (e : TlbEntry) : Nat :=
  if e.pa.extractLsb' 6 2 = 0b00#2 then 24 else if e.pa.extractLsb' 6 2 = 0b01#2 then 12
  else if e.pa.extractLsb' 6 2 = 0b10#2 then 16 else 20

/-- Whether a valid lockdown entry matches (R648). -/
def TlbEntry.covers (e : TlbEntry) (ns : Bool) (asid : BitVec 8) (mva : Word) : Bool :=
  e.pa.getLsbD 0 && (e.pa.getLsbD 8 == ns) && (mva >>> e.sizeLog == e.va >>> e.sizeLog) &&
    (e.va.getLsbD 9 || e.va.extractLsb' 0 8 == asid)

/-- A lockdown entry as it bears on an address (R371 to R373). DESIGN CHOICE (log 67): with SPV = 1 the sub-page permissions
count whatever XP and G are, in an entry of the size of a section or supersection those that MVA bits [11:10] choose; one
with G = 0 matches by its ASID; the S bit counts whatever XP is; and so does the APX bit, with SPV = 1 too. -/
def TlbEntry.mapping (e : TlbEntry) (mva : Word) : Mapping :=
  let low := (0xFFFFFFFF#32 <<< e.sizeLog)
  let index : BitVec 2 := if e.sizeLog = 16 then mva.extractLsb' 14 2 else mva.extractLsb' 10 2
  { page := e.sizeLog = 12 || e.sizeLog = 16
    sizeLog := e.sizeLog
    pa := (e.pa &&& low) ||| (mva &&& ~~~low)
    domain := e.attr.extractLsb' 7 4
    apx := e.pa.getLsbD 3
    ap := if e.attr.getLsbD 25 && index != 0 then e.attr.extractLsb' (24 + 2 * index.toNat) 2
      else e.pa.extractLsb' 1 2
    xn := e.attr.getLsbD 6
    tex := e.attr.extractLsb' 3 3
    c := e.attr.getLsbD 2
    b := e.attr.getLsbD 1
    sh := e.attr.getLsbD 0
    ns := e.pa.getLsbD 9
    global := e.va.getLsbD 9 }

/-- The lockdown entry that a walk's outcome makes (R310): the subpage permissions of a backwards-compatible page are
those of its descriptor word `l2`. DESIGN CHOICE (log 68): below the size of what the entry maps, the VA and PA fields keep
bits [31:12] of the addresses of the access that caused the walk. -/
def Mapping.toLock (m : Mapping) (ns : Bool) (asid : BitVec 8) (mva : Word) (subpages : Bool) (l2 : Word) : TlbEntry where
  va := (mva &&& 0xFFFFF000#32) ||| bitAt m.global 9 ||| (if m.global then 0 else asid.setWidth 32)
  pa := (m.pa &&& 0xFFFFF000#32) ||| bitAt m.ns 9 ||| bitAt ns 8 |||
    (if m.sizeLog = 24 then 0 else if m.sizeLog = 12 then 0x40#32 else if m.sizeLog = 16 then 0x80#32 else 0xC0#32) |||
    bitAt m.apx 3 ||| ((if subpages then subpageAp l2 0 else m.ap).setWidth 32 <<< 1) ||| 1#32
  attr := (if subpages then 0x02000000#32 ||| ((subpageAp l2 1).setWidth 32 <<< 26) |||
      ((subpageAp l2 2).setWidth 32 <<< 28) ||| ((subpageAp l2 3).setWidth 32 <<< 30) else 0) |||
    (m.domain.setWidth 32 <<< 7) ||| bitAt m.xn 6 ||| (m.tex.setWidth 32 <<< 3) ||| bitAt m.c 2 ||| bitAt m.b 1 |||
    bitAt m.sh 0

/-! Permissions and attributes -/

/-- Whether a privileged, or User, read and write are permitted (R665, R667), by APX, AP and the S and R bits. -/
def rights (apx : Bool) (ap : BitVec 2) (sBit rBit priv : Bool) : Bool × Bool :=
  if ap = 0b00#2 then
    if apx then (false, false)
    else if sBit && !rBit then (priv, false)
    else if rBit && !sBit then (true, false)
    else (false, false)
  else if ap = 0b01#2 then (priv, priv && !apx)
  else if ap = 0b10#2 then (true, priv && !apx)
  else (true, !apx)

/-- `Permitted` of R666, with R668. The S and R bits are those of the Control Register now, for a lockdown entry too, as
R667, R706 and R1671 say (DEDUCED, log 51: R143 has those of the time the entry was made). -/
def Mapping.permits (m : Mapping) (b : Cp15Banked) (acc : Access) (priv : Bool) : Bool :=
  let xp := b.sctlr.getLsbD 23
  let ap := if b.sctlr.getLsbD 29 && xp then m.ap ||| 1#2 else m.ap
  let r := rights m.apx ap (b.sctlr.getLsbD 8) (b.sctlr.getLsbD 9) priv
  match acc with
  | .read => r.1
  | .write => r.2
  | .execute => r.1 && !(xp && m.xn)

/-- Remapped attributes (R675, R676). -/
def remapped (b : Cp15Banked) (n : BitVec 3) (sh : Bool) : Attrs :=
  let field (w : Word) (base : Nat) : BitVec 2 := w.extractLsb' (base + 2 * n.toNat) 2
  let ty := field b.prrr 0
  if ty = 0b00#2 then { ty := .stronglyOrdered, shared := true, inner := 0, outer := 0 }
  else if ty = 0b01#2 then
    { ty := .device, shared := if sh then b.prrr.getLsbD 17 else b.prrr.getLsbD 16, inner := 0, outer := 0 }
  else
    { ty := .normal, shared := if sh then b.prrr.getLsbD 19 else b.prrr.getLsbD 18
      inner := field b.nmrr 0, outer := field b.nmrr 16 }

/-- Memory attributes of a mapping (R670, R671, R675); none for a reserved encoding. -/
def Mapping.attrs? (m : Mapping) (b : Cp15Banked) : Option Attrs :=
  let cb : BitVec 2 := BitVec.ofBool m.c ++ BitVec.ofBool m.b
  if b.sctlr.getLsbD 28 then some (remapped b (BitVec.ofBool (m.tex.getLsbD 0) ++ cb) m.sh)
  else if m.tex.getLsbD 2 then some { ty := .normal, shared := m.sh, inner := cb, outer := m.tex.extractLsb' 0 2 }
  else if m.tex = 0b000#3 then
    if cb = 0b00#2 then some { ty := .stronglyOrdered, shared := true, inner := 0, outer := 0 }
    else if cb = 0b01#2 then some { ty := .device, shared := true, inner := 0, outer := 0 }
    else some { ty := .normal, shared := m.sh, inner := cb, outer := cb }
  else if m.tex = 0b001#3 then
    if cb = 0b00#2 then some { ty := .normal, shared := m.sh, inner := 0, outer := 0 }
    else if cb = 0b11#2 then some { ty := .normal, shared := m.sh, inner := 0b01, outer := 0b01 }
    else none
  else if m.tex = 0b010#3 && cb = 0b00#2 then some { ty := .device, shared := false, inner := 0, outer := 0 }
  else none

/-- Attributes with the MMU off (R578, R677): without TEX remap the inner level is told Strongly Ordered and the outer one
Noncacheable. Data is of the Strongly Ordered type, and a fetch with the instruction cache off Normal Noncacheable (R1646;
DEDUCED, log 69). -/
def flatAttrs (b : Cp15Banked) (instr : Bool) : Attrs :=
  if b.sctlr.getLsbD 28 then remapped b 0 true
  else if instr && b.sctlr.getLsbD 12 then { ty := .normal, shared := false, inner := 0b10, outer := 0b10 }
  else { ty := if instr then .normal else .stronglyOrdered, shared := true, inner := 0, outer := 0, flat := true }

/-- The physical address lies in the region remapped to the peripheral port (R350). DESIGN CHOICE (log 52): a reserved
Size remaps nothing. -/
def inPeripheralPort (ppmr pa : Word) : Bool :=
  let size := (ppmr.extractLsb' 0 5).toNat
  decide (3 ≤ size) && decide (size ≤ 22) && (pa >>> (size + 9) == ppmr >>> (size + 9))

/-- Who makes an access: the peripheral port takes data accesses of the core only (R630, R796). -/
inductive Client where
  | data | fetch | dma
  deriving DecidableEq, Repr

/-- The attributes an access has in the end: the peripheral port remap has the highest priority for data accesses
(R350), and an address in a TCM is Normal, Noncacheable and Non-shared (R766), with the MMU off too (DEDUCED, log 92). -/
def State.finalAttrs (s : State) (ns : Bool) (who : Client) (nsattr : Bool) (pa : Word) (a : Attrs) : Attrs :=
  if (s.tcmByte (who = .fetch) nsattr pa).isSome then { ty := .normal, shared := false, inner := 0, outer := 0 }
  else if who = .data && inPeripheralPort (s.bankOf ns).ppmr pa then
    { ty := .device, shared := false, inner := 0, outer := 0 }
  else a

/-- The attributes by which the data cache is looked up: the page's, with the peripheral port remap before them. -/
def State.cacheAttrs (s : State) (ns : Bool) (pa : Word) (a : Attrs) : Attrs :=
  if inPeripheralPort (s.bankOf ns).ppmr pa then { ty := .device, shared := false, inner := 0, outer := 0 } else a

/-! Translation -/

/-- The aligned block of `2 ^ log` modified virtual addresses around one, as remembered with the words a walk of it read
(R706). -/
def walkRecord (ns : Bool) (asid : Option (BitVec 8)) (mva : Word) (log : Nat) (w : Walk) : WalkRecord :=
  let first := mva.toNat / 2 ^ log * 2 ^ log
  { nonSecure := ns, key1 := w.key1, key2 := w.key2, first := first, last := first + 2 ^ log - 1, asid := asid
    stale1 := false, stale2 := false }

/-- Remember the words that a walk has read, if it has read any from memory. -/
def State.addRecord (s : State) (r : WalkRecord) : State :=
  if (r.key1.isNone && r.key2.isNone) || s.walks.contains r then s else { s with walks := r :: s.walks }

/-- Remember the words a successful walk read. -/
def State.recordWalk (s : State) (ns : Bool) (asid : BitVec 8) (mva : Word) (m : Mapping) (w : Walk) : State :=
  s.addRecord (walkRecord ns (if m.global then none else some asid) mva m.sizeLog w)

/-- Remember the words that a walk without a mapping read: a first-level descriptor is about 1MB, a second-level one about
4KB. -/
def State.recordFault (s : State) (ns : Bool) (mva : Word) (w : Walk) : State :=
  s.addRecord (walkRecord ns none mva (if w.paged then 12 else 20) w)

/-- With the P bit, a walk's outcome, a page's with its descriptor word, goes to the lockdown entry of the victim, which
moves on (R310, decision D12); Non-secure walks only where NSACR.TL lets them (R647), and in Debug state none where DSMCR
disables loading (R419). -/
def State.lockWalk (s : State) (ns : Bool) (asid : BitVec 8) (mva : Word) (m : Mapping) (l2 : Word) : State :=
  if s.cp15.tlbLockdown.getLsbD 0 && (!ns || s.cp15.nsacr.getLsbD 17) && !(s.halted && !s.dbg.dsmcr.getLsbD 4) then
    let victim := s.cp15.tlbLockdown.extractLsb' 26 3
    let subpages := m.page && !(s.bankOf ns).sctlr.getLsbD 23 && l2.extractLsb' 0 2 != 0b11#2
    { s with cp15 := { s.cp15 with
        tlbLock := s.cp15.tlbLock.set victim.toNat (m.toLock ns asid mva subpages l2)
        tlbLockdown := (s.cp15.tlbLockdown &&& 0xE3FFFFFF#32) ||| ((victim + 1).setWidth 32 <<< 26) } }
  else s

/-- The Access Bit fault is on, and an entry with these permissions takes it (R668). -/
def Cp15Banked.accessFault (b : Cp15Banked) (m : Mapping) : Bool :=
  b.sctlr.getLsbD 23 && b.sctlr.getLsbD 29 && !m.ap.getLsbD 0

/-- Lines 14 to 20 of R650. DESIGN CHOICE (log 53): a VA to PA operation through a reserved encoding is refused like an
access (R260, R670). -/
def State.checkMapping (s : State) (ns : Bool) (m : Mapping) (acc : Access) (priv : Bool) (who : Client) : Xlat :=
  let b := s.bankOf ns
  let d := b.dacr.extractLsb' (2 * m.domain.toNat) 2
  let fault (onSection onPage : BitVec 5) : Xlat :=
    .abort { status := if m.page then onPage else onSection, domain := some m.domain, error := none } s
  if b.accessFault m then fault 0b00011 0b00110
  else if !d.getLsbD 0 then fault 0b01001 0b01011
  else if d = 0b01#2 && !m.permits b acc priv then fault 0b01101 0b01111
  else match m.attrs? b with
    | none => .refused .reservedMemoryType
    | some a =>
      .ok { pa := m.pa, attrs := s.finalAttrs ns who m.ns m.pa a, marked := s.cacheAttrs ns m.pa a, ns := m.ns,
            domain := m.domain } s

/-- The lockdown entries that match (R705): none in Debug state where DSMCR disables matching (R419). So an entry that software
wrote and the tables do not have is of no effect there (DEDUCED, log 90: R419 and R701 say too that no result changes). -/
def State.lockMatches (s : State) (ns : Bool) (asid : BitVec 8) (mva : Word) : List Mapping :=
  if s.halted && !s.dbg.dsmcr.getLsbD 6 then []
  else (s.cp15.tlbLock.toList.filter (·.covers ns asid mva)).map fun e => (e.mapping mva).forWorld ns

/-- Two mappings answer an address in the same way (R705): the size of what they map apart, all that an entry says of it is the
same, whether the access at hand depends on it or not (DESIGN CHOICE, log 89). -/
def Mapping.agrees (m m' : Mapping) : Bool :=
  { m with sizeLog := 0 } == { m' with sizeLog := 0 }

/-- What the lockdown entries and the tables say of an address, before domains and permissions are checked. -/
inductive Lookup where
  | found (m : Mapping) (s : State)
  | abort (f : MmuFault) (s : State)
  | refused (r : Refusal)

/-- Lines 2 to 13 of R650, with the lockdown entries first (R705), for a request of world `ns` with the MMU on. The words
that a walk reads count where a lockdown entry matches too: the TLB may hold what they said, or say. DESIGN CHOICE (log
70): a walk with the P bit whose entry takes an Access Bit fault is not loaded, and leaves the victim; (log 98) a walk in Debug
state counts as held by the TLB (R706) where DSMCR switches its loading off (R419) too. -/
def State.lookup (s : State) (ns : Bool) (asid : BitVec 8) (mva : Word) : Lookup :=
  let w := s.walk ns mva
  let t := s.drawWalk
  if s.isStaleWalk ns w then .refused .staleTranslation
  else if !s.copiesOk ns w then .refused .tlbConflict
  else match s.lockMatches ns asid mva, w.found with
    | [], .fault f => .abort f (t.recordFault ns mva w)
    | [], .mapping m l2 =>
      let u := t.recordWalk ns asid mva m w
      if (s.bankOf ns).accessFault m then .found m u else .found m (u.lockWalk ns asid mva m l2)
    | m :: ms, .fault _ => if ms.all (·.agrees m) then .found m t else .refused .tlbConflict
    | m :: ms, .mapping m' _ => if ms.all (·.agrees m) && m'.agrees m then .found m t else .refused .tlbConflict

/-- `Translate` of R650, and of R578 where the MMU is off, for a request of world `ns`. DESIGN CHOICE (log 82): with the MMU
off and a nonzero FCSE PID, which R578 excludes, the physical address is the modified virtual address. -/
def State.translate (s : State) (ns : Bool) (asid : BitVec 8) (mva : Word) (acc : Access) (priv : Bool) (who : Client) :
    Xlat :=
  let b := s.bankOf ns
  if !b.sctlr.getLsbD 0 then
    let a := flatAttrs b (who = .fetch)
    .ok { pa := mva, attrs := s.finalAttrs ns who ns mva a, marked := s.cacheAttrs ns mva a, ns := ns, domain := 0 } s
  else
    match s.lookup ns asid mva with
    | .found m t => t.checkMapping ns m acc priv who
    | .abort f t => .abort f t
    | .refused r => .refused r

/-- The ASID of a world (R346). -/
def State.asidOf (s : State) (ns : Bool) : BitVec 8 := (s.bankOf ns).contextId.extractLsb' 0 8

end Sys2Proof.Machine
end

