-- ==== Sys2Proof/Machine/Cache.lean ====
section
/-! DEFINITION. Cache: what the level two interface carries (R636, R795 to R800), and the data cache as state (R742 to R752):
its lines, hits, linefills, replacement and write-backs. Where the baseline of the spec keeps no copies and refuses
(R638), the model of the cache does what the quoted rules say. -/

namespace Sys2Proof.Machine

/-! Transfers -/

/-- The port of a data access of the core (R630, R796). -/
def Translation.port (x : Translation) : Port :=
  if x.attrs.ty = .device && !x.attrs.shared then .peripheral else .data

/-- The byte lanes of `n` bytes at an address on a bus of `w` bytes (R804, R806). -/
def laneStrobes (w : Nat) (pa : Word) (n : Nat) : BitVec 8 := BitVec.ofNat 8 ((2 ^ n - 1) <<< (pa.toNat % w))

/-- The address on the bus, and in a TCM, of an access of `n` bytes: with B = 1 a byte or halfword lies in the lanes of BE-32
(R550, R556, R628, R805). -/
def State.lanePa (s : State) (pa : Word) (n : Nat) : Word :=
  if s.bigEndian32 && decide (n < 4) then pa ^^^ BitVec.ofNat 32 (4 - n) else pa

/-- The request for a data access of `n` bytes. -/
def Translation.request (x : Translation) (write : Bool) (pa : Word) (n : Nat) (priv : Bool) (lock : Lock) : Request where
  port := x.port
  write := write
  pa := pa
  size := n
  beats := 1
  strobes := if write then laneStrobes (if x.port = .peripheral then 4 else 8) pa n else 0
  ns := x.ns
  priv := priv
  instr := false
  lock := lock
  attrs := x.attrs

/-- Read a byte of external memory: a device's is any value (R636). -/
def readExternal (q : Request) (pa : Word) : Exec Byte := fun s =>
  if s.pins.devices.any (·.covers q pa) then (do let w ← draw; pure (w.extractLsb' 0 8)) s
  else .ok (Memory.read s.mem (s.extKey q.ns pa), s)

/-- Write a byte of external memory, where it is not a device's. -/
def State.writeExternal (s : State) (q : Request) (pa : Word) (v : Byte) : State :=
  if s.pins.devices.any (·.covers q pa) then s else s.storeByte (s.extKey q.ns pa) v

/-! Lines -/

/-- Byte `i` of a line. -/
def CacheLine.byte (l : CacheLine) (i : Nat) : Byte := l.data.extractLsb' (8 * i) 8

/-- The line with byte `i` replaced. -/
def CacheLine.setByte (l : CacheLine) (i : Nat) (v : Byte) : CacheLine :=
  { l with data := (l.data &&& ~~~(0xFF#256 <<< (8 * i))) ||| (v.setWidth 256 <<< (8 * i)) }

/-- The half line that holds byte `i` is dirty. -/
def CacheLine.dirtyAt (l : CacheLine) (i : Nat) : Bool := if i < 16 then l.dirtyLow else l.dirtyHigh

/-- A half is dirty. -/
def CacheLine.dirty (l : CacheLine) : Bool := l.dirtyLow || l.dirtyHigh

/-- The physical address of its first byte. -/
def CacheLine.pa (l : CacheLine) : Word := BitVec.ofNat 32 (32 * l.line)

/-- The Master Valid bit of a line of a cache (R365, R366): one for eight lines, counted way by way. DESIGN CHOICE (log 54):
the spec does not say which eight. -/
def State.masterBit (s : State) (data : Bool) (way : BitVec 2) (set : Nat) : Nat :=
  (way.toNat * 2 ^ (if data then s.pins.params.dcache else s.pins.params.icache).setBits + set) / 8

/-- A Master Valid Register's value. -/
def State.masterValid (s : State) (data : Bool) (n : Nat) : Word :=
  ((if data then s.cp15.dMasterValid else s.cp15.iMasterValid)[n]?).getD 0

/-- A line counts as valid: its Master Valid bit is 1 (R365, R752). -/
def State.counts (s : State) (l : CacheLine) : Bool :=
  let k := s.masterBit true l.way l.set
  (s.masterValid true (k / 32)).getLsbD (k % 32)

/-- The valid line in a way of a set. -/
def State.lineIn (s : State) (way : BitVec 2) (set : Nat) : Option CacheLine :=
  s.dcache.find? fun l => l.way == way && l.set == set && s.counts l

/-- The line that an access hits (R746): valid, in the set of the MVA, with the physical tag and the NS tag. -/
def State.hitLine (s : State) (mva pa : Word) (ns : Bool) : Option CacheLine :=
  s.dcache.find? fun l => l.set == s.setOf true mva && l.line == pa.toNat / 32 && l.ns == ns && s.counts l

/-- The lists of lines without the one in a way of a set. -/
def State.dropLine (s : State) (way : BitVec 2) (set : Nat) : State :=
  { s with dcache := s.dcache.filter fun l => !(l.way == way && l.set == set) }

/-- Put a line in its place. -/
def State.putLine (s : State) (l : CacheLine) : State :=
  let t := s.dropLine l.way l.set
  { t with dcache := l :: t.dcache }

/-! Write-back -/

/-- The doubleword of a line that its write-back moves first, for the access, or the operation, at an address that causes
it (R803): of a whole line that of the address; of a half line its first, or its second where the address is there. -/
def CacheLine.firstDoubleword (l : CacheLine) (a : Word) : Nat :=
  let d := a.toNat % 32 / 8
  if l.dirtyLow then (if l.dirtyHigh || d = 1 then d else 0) else if d = 3 then 3 else 2

/-- The write-back of the dirty halves of a line (R803). -/
def CacheLine.request (l : CacheLine) (a : Word) : Request where
  port := .data
  write := true
  pa := l.pa + BitVec.ofNat 32 (8 * l.firstDoubleword a)
  size := 8
  beats := if l.dirtyLow && l.dirtyHigh then 4 else 2
  burst := if l.firstDoubleword a = (if l.dirtyLow then 0 else 2) then .incr else .wrap
  writeback := true
  strobes := 0xFF
  ns := l.ns
  priv := true
  instr := false
  lock := .normal
  attrs := l.attrs

/-- Write bytes from an address up; a byte that does not change leaves no trace. -/
def State.writeBytes (s : State) (q : Request) (pa : Word) : List Byte → State
  | [] => s
  | v :: vs =>
    let t := if Memory.read s.mem (s.extKey q.ns pa) = v then s else s.writeExternal q pa v
    t.writeBytes q (pa + 1) vs

/-- Write the dirty halves of a line back, for the access or operation at an address; an error becomes a pending imprecise
abort (R634). -/
def State.cleanLine (s : State) (l : CacheLine) (a : Word) : State :=
  if l.dirty then
    let q := l.request a
    let first := if l.dirtyLow then 0 else 16
    let pa := l.pa + BitVec.ofNat 32 first
    let bytes := (List.range (8 * q.beats)).map fun i => l.byte (first + i)
    match s.transferError q pa bytes.length with
    | some e => (s.noteTransfer q (cellsFrom pa.toNat bytes) (some e)).impreciseAbort e true
    | none => (s.writeBytes q pa bytes).noteTransfer q (cellsFrom pa.toNat bytes) none
  else s

/-- The line leaves the cache, for the access at an address. -/
def State.evictLine (s : State) (l : CacheLine) (a : Word) : State := (s.cleanLine l a).dropLine l.way l.set

/-! Linefill -/

/-- The level one data cache holds copies of such memory (R745). -/
def State.cacheable (s : State) (a : Attrs) : Bool :=
  a.ty == .normal && a.inner != 0 && !a.shared && s.sctlr 2 && s.sctlr 0

/-- Linefills are enabled for such lines (R308, R418, R455). -/
def State.fills (s : State) (ns : Bool) : Bool :=
  !s.cp15.cbor.getLsbD (if ns then 0 else 3) && !(s.halted && !s.dbg.dsccr.getLsbD 0)

/-- Stores to such memory that hit stay in the data cache (R745, R308, R418). -/
def State.writeBack (s : State) (x : Translation) : Bool :=
  x.marked.inner != 0b10 && !(s.cp15.cbor.getLsbD (if x.ns then 2 else 5)) && !(s.halted && !s.dbg.dsccr.getLsbD 2)

/-- The ways into which a line may be put (R300, R743): with all locked, way 0. -/
def State.openWays (s : State) : List (BitVec 2) :=
  let ws := [0#2, 1#2, 2#2, 3#2].filter fun w => !s.cp15.dLock.getLsbD w.toNat
  if ws.isEmpty then [0] else ws

/-- The way that a linefill takes (R743): the lowest that holds no valid line, else any. -/
def chooseWay (set : Nat) : Exec (BitVec 2) := fun s =>
  match s.openWays.find? fun w => (s.lineIn w set).isNone with
  | some w => .ok (w, s)
  | none => (do let d ← draw; pure (s.openWays.getD (d.toNat % s.openWays.length) 0)) s

/-- The first byte of the line that holds an address. -/
def lineBase (pa : Word) : Word := pa &&& ~~~31#32

/-- The request for a linefill (R803): from the doubleword of the access, wrapping in the line. -/
def Translation.fillRequest (x : Translation) (pa : Word) (priv : Bool) : Request :=
  { x.request false (pa &&& ~~~7#32) 8 priv .normal with
    port := .data
    beats := 4
    burst := if pa.extractLsb' 3 2 = 0 then .incr else .wrap
    attrs := x.marked }

/-- Read `n` bytes of a line. -/
def readLine (q : Request) (pa : Word) : Nat → Exec (BitVec 256)
  | 0 => pure 0
  | n + 1 => do
    let d ← readLine q pa n
    let b ← readExternal q (pa + BitVec.ofNat 32 n)
    pure (d ||| (b.setWidth 256 <<< (8 * n)))

/-- The Master Valid bit of a line that is filled becomes 1, and what lines of the same eight were left from before a reset
is not valid any more (DESIGN CHOICE, log 54). -/
def State.validate (s : State) (way : BitVec 2) (set : Nat) : State :=
  let k := s.masterBit true way set
  let v := s.masterValid true (k / 32)
  if v.getLsbD (k % 32) then s
  else { s with
    dcache := s.dcache.filter fun l => s.masterBit true l.way l.set != k
    cp15 := { s.cp15 with dMasterValid := s.cp15.dMasterValid.setIfInBounds (k / 32) (v ||| (1#32 <<< (k % 32))) } }

/-- Fill the line that holds a physical address (R743, R749), no transfer of which is answered with an error: the line
that makes room is written back. -/
def fillLine (x : Translation) (mva pa : Word) (priv : Bool) : Exec CacheLine := do
  let set ← look fun s => s.setOf true mva
  let way ← chooseWay set
  let q := x.fillRequest pa priv
  update fun s => match s.lineIn way set with
    | some l => s.evictLine l pa
    | none => s
  let data ← readLine q (lineBase pa) 32
  let l : CacheLine :=
    { way := way, set := set, line := pa.toNat / 32, ns := x.ns, dirtyLow := false, dirtyHigh := false, data := data
      attrs := x.marked }
  update fun s => ((s.noteTransfer q (cellsFrom (lineBase pa).toNat ((List.range 32).map l.byte)) none).validate way set).putLine l
  pure l

/-- Bytes of the line that are not dirty differ from memory: another agent, or an access that bypassed the cache, has
written them (R638). -/
def State.lineBehind (s : State) (l : CacheLine) : Bool :=
  (List.range 32).any fun i =>
    !l.dirtyAt i && Memory.read s.mem (s.extKey l.ns (l.pa + BitVec.ofNat 32 i)) != l.byte i

/-- Look an access up in the data cache. A line that memory has changed behind may have been replaced meanwhile, so that
the access sees the old bytes or the new ones (R585, R638, R786): a draw. -/
def lookupLine (mva pa : Word) (ns : Bool) : Exec (Option CacheLine) := fun s =>
  match s.hitLine mva pa ns with
  | none => .ok (none, s)
  | some l =>
    if s.lineBehind l then
      (do
        let w ← draw
        if w.getLsbD 0 then do
          update fun s => s.evictLine l pa
          pure none
        else pure (some l)) s
    else .ok (some l, s)

/-- A line that holds this byte of external memory dirty. -/
def State.dirtyLine (s : State) (key : Nat) : Option CacheLine :=
  s.dcache.find? fun l =>
    s.counts l && (List.range 32).any fun i => l.dirtyAt i && s.extKey l.ns (l.pa + BitVec.ofNat 32 i) == key

/-- The byte has been stored to Write-Back memory and not cleaned. -/
def State.isDirty (s : State) (key : Nat) : Bool := (s.dirtyLine key).isSome

end Sys2Proof.Machine
end

