-- ==== Sys2Proof/Machine/Dma.lean ====
section
/-! DEFINITION. Dma: the level one DMA (R320 to R329, R780 to R790): the commands, the channel states, and one step of the
engine. -/

namespace Sys2Proof.Machine

/-- A channel. -/
def State.channel (s : State) (c : Bool) : DmaChannel := if c then s.cp15.dma[1] else s.cp15.dma[0]

/-- Change a channel. -/
def State.setChannel (s : State) (c : Bool) (f : DmaChannel → DmaChannel) : State :=
  let d := f (s.channel c)
  { s with cp15 := { s.cp15 with dma := if c then s.cp15.dma.set 1 d else s.cp15.dma.set 0 d } }

/-- The Status field (R328): 0 Idle, 1 Queued, 2 Running, 3 Complete or Error. -/
def DmaChannel.state (d : DmaChannel) : BitVec 2 := d.status.extractLsb' 0 2

/-- The channel is Queued or Running. -/
def DmaChannel.busy (d : DmaChannel) : Bool := d.state = 1 || d.state = 2

/-- The Internal or External Address Error Status indicates an error (R328): bit 4 or 3 of the field is set. -/
def DmaChannel.failed (d : DmaChannel) : Bool := d.status.extractLsb' 5 2 != 0 || d.status.extractLsb' 10 2 != 0

/-- A channel in operation (R781). -/
def DmaChannel.inOperation (d : DmaChannel) : Bool := d.busy || (d.state = 3 && d.failed)

/-- A channel of the engine is Running or Queued. -/
def State.dmaBusy (s : State) : Bool := (s.channel false).busy || (s.channel true).busy

/-- The world of both channels (R783). -/
def State.dmaNs (s : State) : Bool := s.cp15.nsacr.getLsbD 18

/-- Transaction size in bytes (R324). -/
def DmaChannel.size (d : DmaChannel) : Nat := 2 ^ (d.control.extractLsb' 0 2).toNat

/-- The byte increment of the external address. -/
def DmaChannel.stride (d : DmaChannel) : Word := (d.control.extractLsb' 8 12).setWidth 32

/-- A transfer with User privilege (R324, R790). -/
def DmaChannel.userTransfer (d : DmaChannel) : Bool := d.control.getLsbD 26 || d.startedFromUser

/-- Changing a translation or a TCM region that a Running or Queued channel uses (R787, U53): a write of the value that is there
already changes nothing. -/
def dmaGuard (changes : Bool) : Exec Unit := fun s =>
  if changes && s.dmaBusy then .error (.refused .dmaUnpredictable) else .ok ((), s)

/-! Commands (R323, R781) -/

/-- The channel goes to Running, and its transfer starts at the programmed addresses. -/
def DmaChannel.run (d : DmaChannel) : DmaChannel :=
  { d with status := 2, curInt := d.intStart, curExt := d.extStart }

/-- A Queued channel starts when the other leaves operation. -/
def State.promote (s : State) (other : Bool) : State :=
  if (s.channel other).state = 1 && !(s.channel (!other)).inOperation then s.setChannel other DmaChannel.run else s

/-- An address or the stride is not a multiple of the transaction size. -/
def DmaChannel.badParameters (d : DmaChannel) : Bool :=
  let odd (w : Word) : Bool := w.toNat % d.size != 0
  odd d.intStart || odd d.extStart || odd d.intEnd || odd d.stride

/-- Start: of no effect where there is no DMA (R780). DESIGN CHOICE (log 20): one that fails for bad parameters while the
channel was in error leaves the other channel Queued, since R328 does not say whether BP counts as `with no error`; and a
Start without a Clear before drops the error bits of the status, which R781 has Clear do. -/
def State.dmaStart (s : State) (c : Bool) : State :=
  let d := { s.channel c with startedFromUser := !s.privileged }
  if d.busy || !s.pins.params.hasTcm then s
  else s.setChannel c fun _ =>
    if d.badParameters then { d with status := 0x1003#32 }
    else if (s.channel (!c)).inOperation then { d with status := 1 }
    else d.run

/-- The channel's interrupt is asserted (R320). DESIGN CHOICE (log 96): that is nDMAIRQ or nDMASIRQ (R788); a channel whose only
asserted output is nDMAEXTERRIRQ, after an external abort with IE and U clear, does not show. -/
def DmaChannel.interrupt (d : DmaChannel) : Bool := d.irq || d.sirq

/-- The transfer of a channel of world `ns` ends, with these error bits, and raises an interrupt or not: on the pin of that
world (R788). -/
def DmaChannel.finish (d : DmaChannel) (ns : Bool) (bits : Word) (raises : Bool) : DmaChannel :=
  { d with
    status := 3 ||| bits
    intStart := d.curInt
    extStart := d.curExt
    irq := d.irq || (raises && ns)
    sirq := d.sirq || (raises && !ns) }

/-- `complete`; Stop ends a Running channel in the same way. -/
def State.dmaComplete (s : State) (c : Bool) : State :=
  (s.setChannel c fun d => d.finish s.dmaNs 0 (d.control.getLsbD 29)).promote (!c)

/-- Stop. -/
def State.dmaStop (s : State) (c : Bool) : State :=
  let d := s.channel c
  if d.state = 2 then s.dmaComplete c
  else if d.state = 1 then (s.setChannel c fun d => { d with status := 0 }).promote (!c)
  else s

/-- Clear. -/
def State.dmaClear (s : State) (c : Bool) : State :=
  if (s.channel c).busy then s
  else (s.setChannel c fun d => { d with status := 0, irq := false, sirq := false, externalError := false }).promote (!c)

/-! The engine (R784) -/

/-- The U bit of a channel (R321). -/
def State.dmaUserBit (s : State) (c : Bool) : Bool := s.cp15.dmaUser.getLsbD (if c then 1 else 0)

/-- `fail`, with the error bits of the status and whether an external access was answered with an error. -/
def State.dmaFail (s : State) (c : Bool) (bits : Word) (external : Bool) : State :=
  s.setChannel c fun d =>
    { d.finish s.dmaNs bits (d.control.getLsbD 28 || s.dmaUserBit c) with
      externalError := d.externalError || external }

/-- The error code of an MMU fault (R328). -/
def dmaCode (f : MmuFault) : Word := 0x10#32 ||| (f.status.extractLsb' 0 4).setWidth 32

/-- The status bits of a fault of the internal, and of the external, address. -/
def internalError (f : MmuFault) : Word := (dmaCode f <<< 2) ||| bitAt (f.error == some .slverr) 13
def externalError (f : MmuFault) : Word := (dmaCode f <<< 7) ||| bitAt (f.error == some .slverr) 16

/-- The page of a TCM address is marked Device (U52). -/
def State.markedDevice (s : State) (ns : Bool) (asid : BitVec 8) (mva : Word) : Bool :=
  (s.bankOf ns).sctlr.getLsbD 0 && match s.lookup ns asid mva with
    | .found m _ => (m.attrs? (s.bankOf ns)).any fun a => a.ty == .device
    | .abort _ _ => false
    | .refused _ => false

/-- A translation for the engine: the fault is reported in the channel's status with `bits`. -/
def dmaTranslate (c : Bool) (va : Word) (acc : Access) (bits : MmuFault → Word) : Exec Translation := fun s =>
  let ns := s.dmaNs
  let d := s.channel c
  match s.translate ns (d.context.extractLsb' 0 8) (s.fcse ns va) acc (!d.userTransfer) .dma with
  | .ok x t => .ok (x, t)
  | .abort f t => .error (.took (t.dmaFail c (bits f) f.error.isSome))
  | .refused r => .error (.refused r)

/-- A TCM of this configuration is enabled at this address. -/
def Tcm.enabledAt (t : Tcm) (c : Config.TcmConfig) (present : Bool) (pa : Word) : Bool := present && t.covers c pa

/-- The address lies in an enabled TCM region (R784 step 6). -/
def State.inTcmRegion (s : State) (pa : Word) : Bool :=
  let side (data : Bool) : Bool :=
    let t := if data then s.cp15.dtcm else s.cp15.itcm
    let c := s.tcmConfig data
    t[0].enabledAt c (decide (0 < c.count)) pa || t[1].enabledAt c (decide (1 < c.count)) pa
  side true || side false

/-- The external transfer of a channel at an address on the bus (R785): on the DMA port, with the page's attributes; FIXED
where the external address stays (R34; DESIGN CHOICE, log 61). -/
def DmaChannel.request (d : DmaChannel) (e : Translation) (pa : Word) : Request where
  port := .dma
  write := d.control.getLsbD 30
  pa := pa
  size := d.size
  beats := 1
  burst := if d.stride = 0 then .fixed else .incr
  strobes := if d.control.getLsbD 30 then laneStrobes 8 pa d.size else 0
  ns := e.ns
  priv := !d.userTransfer
  instr := d.control.getLsbD 31
  lock := .normal
  attrs := e.attrs

/-- Read a byte of external memory for the engine: one that the core has not cleaned is read old or new (R638, R786). -/
def dmaRead (q : Request) (pa : Word) : Exec Byte := do
  let k ← look fun s => s.extKey q.ns pa
  let held ← look fun s => s.dirtyLine k
  match held with
  | none => readExternal q pa
  | some l => do
    let w ← draw
    if w.getLsbD 0 then pure (l.byte (pa.toNat % 32)) else readExternal q pa

/-- Copy `n` bytes upwards from an external address to offset `off` of a TCM. -/
def dmaIn (q : Request) (data second : Bool) (off : Nat) : Nat → Exec (List Byte)
  | 0 => pure []
  | n + 1 => do
    let bs ← dmaIn q data second off n
    let b ← dmaRead q (q.pa + BitVec.ofNat 32 n)
    update fun s => s.storeByte (tcmKey data second (off + n)) b
    pure (bs ++ [b])

/-- Another agent's write of a byte that the global monitor holds clears it (R624, decision D31): with B = 1 byte A of the
tagged ones is the actual byte A EOR 3 (R550, R556; DESIGN CHOICE, log 76). -/
def State.clearGlobal (s : State) (pa : Word) : State :=
  match s.exclGlobal with
  | some (a, n) =>
    let tagged (i : Nat) : Word := (a + BitVec.ofNat 32 i) ^^^ (if s.bigEndian32 then 3 else 0)
    if (List.range n).any fun i => tagged i == pa then { s with exclGlobal := none } else s
  | none => s

/-- Copy `n` bytes upwards from offset `off` of a TCM to an external address. -/
def dmaOut (q : Request) (data second : Bool) (off : Nat) : Nat → Exec (List Byte)
  | 0 => pure []
  | n + 1 => do
    let bs ← dmaOut q data second off n
    let a := q.pa + BitVec.ofNat 32 n
    let b ← look fun s => Memory.read s.mem (tcmKey data second (off + n))
    update fun s => (s.writeExternal q a b).clearGlobal a
    pure (bs ++ [b])

/-- One step of the engine for a Running channel (R784). Steps that end the transfer end here. An external address inside a
TCM is an Unshared data error, as step 6 and R328 say (DEDUCED, log 59). With B = 1 a byte or halfword lies in the lanes of
BE-32 on the port (R805), and in the TCM too, where the core has it (DEDUCED, log 101). -/
def dmaTransfer (c : Bool) : Exec Unit := do
  let d ← look fun s => s.channel c
  if d.curInt = d.intEnd then endWith fun s => s.dmaComplete c else
  let ns ← look State.dmaNs
  let out := d.control.getLsbD 30
  let instr := d.control.getLsbD 31
  let device ← look fun s => s.markedDevice ns (d.context.extractLsb' 0 8) (s.fcse ns d.curInt)
  let i ← dmaTranslate c d.curInt (if out then .read else .write) internalError
  let tcm ← look fun s => s.tcmOf (!instr) i.ns i.pa
  match tcm with
  | none => endWith fun s => s.dmaFail c (0b01000#32 <<< 2) false
  | some second => do
    if device then refuse .dmaUnpredictable else
    let e ← dmaTranslate c d.curExt (if out then .write else .read) externalError
    let region ← look fun s => s.inTcmRegion e.pa
    if (d.userTransfer && !e.attrs.shared) || region then
      endWith fun s => s.dmaFail c (0b01001#32 <<< 7) false
    else
    let pa ← look fun s => s.lanePa e.pa d.size
    let q := d.request e pa
    let err ← look fun s => s.transferError q pa d.size
    match err with
    | some x => do
      let v ← draw
      let w ← draw
      endWith fun s => ((s.noteTransfer q [] (some x)).dmaFail c
          ((0b11010#32 <<< 7) ||| bitAt (x = .slverr) 16) true).setChannel c
        fun d => { d with intStart := v, extStart := w }
    | none => do
      let off ← look fun s => (s.lanePa i.pa d.size).toNat % (s.tcmConfig (!instr)).bytes
      let bs ← if out then dmaOut q (!instr) second off d.size else dmaIn q (!instr) second off d.size
      update fun s => (s.noteTransfer q (cellsFrom q.pa.toNat bs) none).setChannel c fun d =>
        { d with curInt := d.curInt + BitVec.ofNat 32 d.size, curExt := d.curExt + d.stride }

/-- The channel that is Running. -/
def State.running (s : State) : Option Bool :=
  if (s.channel false).state = 2 then some false else if (s.channel true).state = 2 then some true else none

/-- One step of the engine: what a transfer ends with is the state it leaves. -/
def dmaStep : Exec Unit := fun s =>
  match s.running with
  | none => .ok ((), s)
  | some c =>
    match dmaTransfer c s with
    | .ok r => .ok r
    | .error (.took t) => .ok ((), t)
    | .error e => .error e

/-- Several steps of the engine. -/
def dmaSteps : Nat → Exec Unit
  | 0 => pure ()
  | n + 1 => do
    dmaStep
    dmaSteps n

/-- What the engine does between two instructions, or two accesses of one (R583): any number of steps (R784, R786), a
draw. -/
def dmaInterval : Exec Unit := fun s =>
  match s.running with
  | none => .ok ((), s)
  | some _ => (do let w ← draw; dmaSteps (w.extractLsb' 0 16).toNat) s

end Sys2Proof.Machine
end

