-- ==== Sys2Proof/Machine/Access.lean ====
section
/-! DEFINITION. Access: the data access path of R545: alignment, watchpoints, translation, byte order, routing, external
errors, and the Data Aborts. Every load and store of every instruction goes through `memRead`, `memWrite`, `readWordAt`
and `writeWordAt`. -/

namespace Sys2Proof.Machine

/-- The access types of R561. -/
inductive AccType where
  | byte | bsync | half | hwsync | wload | wstore | wsync | twoWord | multi | dwsync
  deriving DecidableEq, Repr

/-- A data access, its address apart. -/
structure Acc where
  ty : AccType
  /-- It is translated, checked and reported as a write. -/
  write : Bool
  priv : Bool
  /-- It loads the PC or the CPSR (R565, R1563), or belongs to a transfer that does and aborts precisely (R1192). -/
  loadsPc : Bool := false
  /-- It is a load-exclusive or a store-exclusive. -/
  excl : Bool := false
  /-- It is a SWP or SWPB: a watchpoint on loads or stores sees it (R434), and an error on its load is precise (R1563). -/
  swap : Bool := false
  /-- The address at which a transfer of several words starts (R634), the number of its words, and the address of the word
  that is read before those below it. -/
  burst : Option Word := none
  words : Nat := 0
  lead : Option Word := none
  /-- The lowest address of the access: what lies below it has run past the top (U3). -/
  first : Word := 0
  /-- The access crosses a 4KB boundary (R575). -/
  crosses : Bool := false
  /-- What a legacy access drops from its address (R569): the FAR of an abort has it (DEDUCED, log 49). -/
  low : Word := 0
  deriving DecidableEq, Repr

/-- A transfer of `n` words from an address up. -/
def Acc.block (p : Acc) (a : Word) (n : Nat) : Acc :=
  { p with burst := some a, words := n, first := a, crosses := decide (4096 < a.toNat % 4096 + 4 * n) }

/-! Data Aborts -/

/-- A Data Fault Status Register value (R215): the domain reads 0 where R690 calls it invalid (decision D8). -/
def dfsrOf (f : MmuFault) (write : Bool) : Word :=
  bitAt (f.error == some .slverr) 12 ||| bitAt write 11 ||| bitAt (f.status.getLsbD 4) 10 |||
    ((f.domain.getD 0).setWidth 32 <<< 4) ||| (f.status.extractLsb' 0 4).setWidth 32

/-- An Instruction Fault Status Register value (R217). -/
def ifsrOf (f : MmuFault) : Word :=
  bitAt (f.error == some .slverr) 12 ||| (f.status.extractLsb' 0 4).setWidth 32

/-- The world whose fault registers an abort writes: that of the core, and the Secure world for an external abort with
SCR.EA (R634, R692; DEDUCED, log 26). -/
def State.faultWorld (s : State) (external : Bool) : Bool := !s.isSecure && !(external && s.cp15.scr.getLsbD 3)

/-- The same; in Debug state that of the current world (R452). -/
def State.abortWorld (s : State) (external : Bool) : Bool := if s.halted then !s.isSecure else s.faultWorld external

/-- A precise Data Abort (R692, R1555, R1556). In Debug state only the DFSR and FAR of the current world and the sticky
bit DSCR[6] are written (R452). -/
def State.dataAbort (s : State) (f : MmuFault) (far : Word) (write : Bool) : State :=
  let t := s.setBankOf (s.abortWorld f.error.isSome) fun b => { b with far := far, dfsr := dfsrOf f write }
  let t := { t with dbg := { t.dbg with watchHit := none } }
  if s.halted then { t with dbg := { t.dbg with dscr := t.dbg.dscr ||| 0x40 } }
  else enterException (.dataAbort f.error.isSome) t

/-- End the instruction with a precise Data Abort. -/
def takeDataAbort {α : Type} (f : MmuFault) (far : Word) (write : Bool) : Exec α :=
  endWith fun s => s.dataAbort f far write

/-- An alignment fault at a virtual address (R568). -/
def takeAlignmentFault {α : Type} (va : Word) (write : Bool) : Exec α :=
  endWith fun s => s.dataAbort { status := 0b00001, domain := none, error := none } (s.fcse (!s.isSecure) va) write

/-! Alignment -/

/-- What the alignment rules make of an address (R569): access this address, in single bytes where it is unaligned; a
fault; a refusal. -/
inductive Aligned where
  | at (a : Word) (split : Bool)
  | fault
  | refused (r : Refusal)
  deriving DecidableEq, Repr

/-- The size that the alignment of a type is measured by (R569). -/
def AccType.size (t : AccType) (u : Bool) : Nat :=
  match t with
  | .byte | .bsync => 1
  | .half | .hwsync => 2
  | .wload | .wstore | .wsync | .multi => 4
  | .twoWord => if u then 4 else 8
  | .dwsync => 8

/-- `AlignmentCheck` of R569, but for Device memory: by the A and U bits. -/
def alignmentCheck (a u : Bool) (addr : Word) (t : AccType) (loadsPc : Bool) : Aligned :=
  if addr.toNat % t.size u = 0 then .at addr false
  else if a then .fault
  else if u then
    match t with
    | .half | .wload | .wstore => if loadsPc then .fault else .at addr true
    | .byte | .bsync | .hwsync | .wsync | .twoWord | .multi | .dwsync => .fault
  else
    match t with
    | .byte | .bsync => .at addr false
    | .half | .hwsync => .at (addr &&& ~~~1#32) false
    | .wload => if loadsPc then .refused .legacyPcLoad else .at (addr &&& ~~~3#32) false
    | .wstore | .wsync | .multi => .at (addr &&& ~~~3#32) false
    | .twoWord => .refused .legacyDoubleword
    | .dwsync => .at (addr &&& ~~~7#32) false

/-- The address a data access is made at, and whether it is split into bytes. -/
def alignData (p : Acc) (addr : Word) : Exec (Word × Bool) := fun s =>
  match alignmentCheck (s.sctlr 1) (s.sctlr 22) addr p.ty p.loadsPc with
  | .at a split => .ok ((a, split), s)
  | .fault => takeAlignmentFault addr p.write s
  | .refused r => .error (.refused r)

/-! Watchpoints (R434) -/

/-- A BRP is enabled, set for linked context ID comparison, and holds the current context ID (`Linked` of R433). -/
def State.linked (s : State) (b : BitVec 4) : Bool :=
  if h : b.toNat = 4 ∨ b.toNat = 5 then
    let k : Fin 6 := ⟨b.toNat, by omega⟩
    s.dbg.bcr[k].extractLsb' 20 3 == 0b011#3 && s.dbg.bcr[k].getLsbD 0 && s.dbg.bvr[k] == s.bank.contextId
  else false

/-- The world field of a control register admits the current world (R433). -/
def State.worldOk (s : State) (field : BitVec 2) : Bool :=
  field = 0b00#2 || (field = 0b01#2 && !s.isSecure) || (field = 0b10#2 && s.isSecure)

/-- The supervisor field of a control register admits this privilege (R433). -/
def privOk (field : BitVec 2) (priv : Bool) : Bool :=
  field = 0b11#2 || (field = 0b01#2 && priv) || (field = 0b10#2 && !priv)

/-- WRP `k` triggers on the byte at a DMVA. -/
def State.watches (s : State) (k : Fin 2) (p : Acc) (mva : Word) : Bool :=
  let c := s.dbg.wcr[k]
  let lane : Word := if s.bigEndian32 then mva ^^^ 3 else mva
  let ls := c.extractLsb' 3 2
  c.getLsbD 0 && (mva >>> 2 == s.dbg.wvr[k] >>> 2) && c.getLsbD (5 + (lane.extractLsb' 0 2).toNat) &&
    (ls = 0b11#2 || (ls = 0b01#2 && (!p.write || p.swap)) || (ls = 0b10#2 && (p.write || p.swap))) &&
    s.worldOk (c.extractLsb' 14 2) && privOk (c.extractLsb' 1 2) p.priv &&
    (!c.getLsbD 20 || s.linked (c.extractLsb' 16 4))

/-- A watchpoint at an MVA: of those that an instruction triggers the lowest is kept (R442, decision D16), and at one
address the first: DESIGN CHOICE (log 75), so that a SWP that hits a watchpoint on stores counts as its read, since R434
lets both halves match and R441 does not say which has triggered. -/
def State.hitWatch (s : State) (mva : Word) (write : Bool) : State :=
  if s.dbg.watchHit.any fun h => decide (h.mva ≤ mva) then s
  else { s with dbg := { s.dbg with watchHit := some { mva := mva, write := write } } }

/-- Record the watchpoints that the `n` bytes from `va` up trigger, where debug is permitted and the processor is not in
Debug state (R431, R447). -/
def State.noteWatch (s : State) (p : Acc) (va : Word) : Nat → State
  | 0 => s
  | n + 1 =>
    let t := s.noteWatch p va n
    let mva := s.fcse (!s.isSecure) (va + BitVec.ofNat 32 n)
    if s.debugPermitted && !s.halted && (s.watches 0 p mva || s.watches 1 p mva) then t.hitWatch mva p.write else t

/-- Note a piece below the first byte of its access (U3). -/
def State.notePast (s : State) (p : Acc) (va : Word) : State := { s with wrapped := s.wrapped || decide (va < p.first) }

/-! One piece of an access: naturally aligned, or a single byte -/

/-- Translate a data access of the current world (R545, steps 3 to 6). `unaligned` says that it is a part of an access at
an address that is not a multiple of its size: to Device and Strongly Ordered memory that is an alignment fault, or
refused (R566). DESIGN CHOICE (log 71): where the first bytes of the access are in Normal memory, they are transferred, and
the FAR is that of the byte that is not. -/
def translateData (p : Acc) (va : Word) (unaligned : Bool) : Exec Translation := fun s =>
  let ns := !s.isSecure
  let mva := s.fcse ns va
  match s.translate ns (s.asidOf ns) mva (if p.write then .write else .read) p.priv .data with
  | .refused r => .error (.refused r)
  | .abort f t => takeDataAbort f (mva + p.low) p.write t
  | .ok x t =>
    if unaligned && x.attrs.ty != .normal then
      if s.sctlr 0 && s.sctlr 23 then takeAlignmentFault va p.write t else .error (.refused .unalignedDevice)
    else if p.excl && x.attrs.ty != .normal then .error (.refused .exclusiveDevice)
    else .ok (x, t)

/-- An access of more than one byte with CPSR.E set where E has no meaning (R551, U41). -/
def checkEndianness (n : Nat) : Exec Unit := fun s =>
  if decide (1 < n) && s.cpsr.e && (!s.sctlr 22 || s.bigEndian32) then .error (.refused .reservedEndianness)
  else .ok ((), s)

/-- The physical address of byte `i` of a piece (R550: the bytes of a word are numbered backwards with B = 1). -/
def State.bytePa (s : State) (x : Translation) (i : Nat) : Word :=
  let pa := x.pa + BitVec.ofNat 32 i
  if s.bigEndian32 then pa ^^^ 3 else pa

/-- The key of byte `i` of a piece. -/
def State.pieceKey (s : State) (x : Translation) (i : Nat) : Nat := s.byteKey false x.ns (s.bytePa x i)

/-- The address of the first word of a burst, in a transfer of several words from `start` up, that carries the word at
`va`: a burst does not cross a 32-byte boundary (R634, R797), nor on the peripheral port one of 8 bytes (R796, R806).
DESIGN CHOICE (log 72): the FAR of a precise external abort shows this base where the load misses the data cache too, though
the linefill of R803 is a burst of its own; (log 99) on the peripheral port a transfer that starts at an odd word, which R806
does not show, makes its first word alone. -/
def burstBase (port : Port) (start va : Word) : Word :=
  let low : Word := if port = .peripheral then 7 else 31
  if start &&& ~~~low = va &&& ~~~low then start else va &&& ~~~low

/-- The number of words of that burst. -/
def Acc.burstWords (p : Acc) (port : Port) (start va : Word) : Nat :=
  let unit := if port = .peripheral then 8 else 32
  (min (start.toNat + 4 * p.words) (va.toNat / unit * unit + unit) - (burstBase port start va).toNat) / 4

/-- The word at `va` is the first that its burst moves; so is an access that is no part of a transfer of several. -/
def Acc.opens (p : Acc) (port : Port) (va : Word) : Bool :=
  p.burst.all fun start =>
    let base := burstBase port start va
    va == ((p.lead.filter fun l => burstBase port start l == base).getD base)

/-- The address on the bus of a piece of `n` bytes. -/
def State.piecePa (s : State) (x : Translation) (n : Nat) : Word := s.lanePa x.pa n

/-- The lock type of an access (R798). -/
def Acc.lock (p : Acc) (x : Translation) : Lock :=
  if p.swap then .locked else if p.excl && x.attrs.shared then .exclusive else .normal

/-- The request for a piece of `n` bytes alone. -/
def State.singleRequest (s : State) (p : Acc) (x : Translation) (n : Nat) : Request :=
  x.request p.write (s.piecePa x n) n p.priv (p.lock x)

/-- The request for a piece of `n` bytes at `va` on the bus: a word of a transfer of several is in a burst, of doublewords for
a load of more than one from Normal memory, and where both its start and its length are even, but not on the peripheral port (R797, R804,
R806). -/
def State.pieceRequest (s : State) (p : Acc) (x : Translation) (va : Word) (n : Nat) : Request :=
  match p.burst with
  | none => s.singleRequest p x n
  | some start =>
    let base := burstBase x.port start va
    let m := p.burstWords x.port start va
    let odd := base.toNat / 4 % 2
    let wide := x.port != .peripheral && ((!p.write && x.attrs.ty == .normal && decide (1 < m)) || (odd == 0 && m % 2 == 0))
    { x.request p.write (x.pa - (va - base)) (if wide then 8 else 4) p.priv (p.lock x) with
      beats := if wide then (m + odd + 1) / 2 else m }

/-- The error with which the platform answers it: of a doubleword, at any of its bytes. -/
def State.pieceError (s : State) (q : Request) (x : Translation) (n : Nat) : Option BusError :=
  if n < q.size then s.transferError q (x.pa &&& ~~~7#32) q.size else s.transferError q (s.piecePa x n) n

/-- The slave has no exclusive monitor: it answers OKAY to an exclusive access (R626). -/
def State.noMonitorAt (s : State) (q : Request) : Bool := s.pins.noMonitor.any (·.covers q q.pa)

/-- An external abort on this access is precise (R1563). DESIGN CHOICE (log 55): ACTLR.FIO, which R145 says both to make all
external aborts to loads precise and never to change an architectural result, does not count. -/
def State.reportsPrecisely (s : State) (p : Acc) (x : Translation) : Bool :=
  x.attrs.ty == .stronglyOrdered || p.loadsPc || (!p.write && (p.swap || s.cp15.sctlr.getLsbD 21))

/-- Report an external error: the precise abort, with the base of the burst in the FAR (R634), or an imprecise one that
becomes pending. -/
def reportError (p : Acc) (va : Word) (x : Translation) (e : BusError) : Exec Unit := fun s =>
  if s.reportsPrecisely p x then
    takeDataAbort { status := 0b01000, domain := some x.domain, error := some e }
      (s.fcse (!s.isSecure) (burstBase x.port (p.burst.getD va) va) + p.low) p.write s
  else .ok ((), s.impreciseAbort e p.write)

/-- The bytes that an imprecise error leaves open. -/
def openBytes : Nat → Exec (List Byte)
  | 0 => pure []
  | n + 1 => do
    let w ← draw
    let bs ← openBytes n
    pure (w.extractLsb' 0 8 :: bs)

/-- The bytes of a piece with their physical addresses, in ascending order. -/
def State.pieceCells (s : State) (x : Translation) (bytes : List Byte) : List Host.Cell :=
  ((List.range bytes.length).zip bytes).foldr (fun c cs => putCell ((s.bytePa x c.1).toNat, c.2) cs) []

/-- Record the transfer of a piece at `va`, and the error it is answered with. -/
def State.notePiece (s : State) (p : Acc) (va : Word) (x : Translation) (q : Request) (bytes : List Byte)
    (e : Option BusError) : State :=
  s.noteWord (p.opens x.port va) q (s.bytePa x 0).toNat (s.pieceCells x bytes) e

/-- Record the transfer of a piece that is answered without an error: to Device and Strongly Ordered memory one of an
instruction that crosses a 4KB boundary is made one or more times (R575, U45). -/
def notePiece (p : Acc) (va : Word) (x : Translation) (q : Request) (bytes : List Byte) : Exec Unit := do
  let w ← if p.crosses && x.attrs.ty != .normal then draw else pure 0
  update fun s =>
    (List.range (w.extractLsb' 0 8).toNat).foldl
      (fun t _ => t.noteTransfer (t.singleRequest p x bytes.length) (t.pieceCells x bytes) none)
      (s.notePiece p va x q bytes none)

/-- Load a piece from a TCM of a side. -/
def readTcm (data : Bool) (x : Translation) (n : Nat) : Exec (List Byte) := look fun s =>
  (List.range n).map fun i => Memory.read s.mem ((s.tcmByteOf data x.ns (s.bytePa x i)).getD 0)

/-- Load a piece from a line of the data cache. -/
def readHit (l : CacheLine) (x : Translation) (n : Nat) : Exec (List Byte) := look fun s =>
  (List.range n).map fun i => l.byte ((s.bytePa x i).toNat % 32)

/-- Load the bytes of a piece from external memory. -/
def readBytes (q : Request) (x : Translation) : Nat → Exec (List Byte)
  | 0 => pure []
  | n + 1 => do
    let bs ← readBytes q x n
    let pa ← look fun s => s.bytePa x n
    let b ← readExternal q pa
    pure (bs ++ [b])

/-- Load a piece on the bus; none where an imprecise error leaves its bytes open. An error on the locked read of SWP is
followed by a write without strobes that unlocks the bus (R628). An exclusive read of a slave without a monitor is
answered OKAY, which is an external abort (R626). -/
def readBus (p : Acc) (va : Word) (x : Translation) (n : Nat) : Exec (Option (List Byte)) := do
  let q ← look fun s => s.pieceRequest p x va n
  let e ← look fun s => (s.pieceError q x n).or
    (if q.lock = .exclusive && s.noMonitorAt q then some .decerr else none)
  match e with
  | some e => do
    update fun s => s.notePiece p va x q [] (some e)
    if p.swap then update fun s => s.noteTransfer { q with write := true, lock := .normal } [] none
    reportError p va x e
    pure none
  | none => do
    let bs ← readBytes q x n
    notePiece p va x q bs
    pure (some bs)

/-- Load a piece that misses the data cache by filling a line: an error on any of its transfers is reported for the load
(R749). -/
def readFill (p : Acc) (va mva : Word) (x : Translation) (n : Nat) : Exec (Option (List Byte)) := do
  let q := x.fillRequest x.pa p.priv
  let e ← look fun s => s.transferError q (lineBase x.pa) 32
  match e with
  | some e => do
    update fun s => s.noteTransfer q [] (some e)
    reportError p va x e
    pure none
  | none => do
    let l ← fillLine x mva x.pa p.priv
    some <$> readHit l x n

/-- The line of the data cache that an access to cacheable memory hits. The store of a SWP finds what its read has left:
nothing comes between the two (R628). -/
def cachedLine (p : Acc) (mva : Word) (x : Translation) : Exec (Option CacheLine) := fun s =>
  if !s.cacheable x.marked then .ok (none, s)
  else if p.swap && p.write then .ok (s.hitLine mva x.pa x.ns, s)
  else lookupLine mva x.pa x.ns s

/-- Of the line that it hits, what a load reads: a SWP only a line in which its store will stay, so that what it moves on the
bus is a locked pair (R628). Any other line is written back, and leaves the cache (DESIGN CHOICE, log 63). -/
def heldLine (p : Acc) (x : Translation) (hit : Option CacheLine) : Exec (Option CacheLine) := fun s =>
  match hit with
  | none => .ok (none, s)
  | some l => if !p.swap || s.writeBack x then .ok (some l, s) else .ok (none, s.evictLine l x.pa)

/-- Load a translated piece (R762): from a Data TCM, the data cache, an Instruction TCM, or level two, where a miss fills a
line if linefills are enabled, but not for SWP (R628). None where an imprecise error leaves the bytes open. -/
def readRouted (p : Acc) (va : Word) (x : Translation) (n : Nat) : Exec (Option (List Byte)) := do
  let mva ← look fun s => s.fcse (!s.isSecure) va
  let data ← look fun s => (s.tcmOf true x.ns x.pa).isSome
  if data then some <$> readTcm true x n else
  let hit ← cachedLine p mva x
  let held ← heldLine p x hit
  match held with
  | some l => some <$> readHit l x n
  | none => do
    let instr ← look fun s => (s.tcmOf false x.ns x.pa).isSome
    if instr then some <$> readTcm false x n else
    let fills ← look fun s => s.cacheable x.marked && s.fills x.ns && !p.swap
    if fills then readFill p va mva x n else readBus p va x n

/-- Load a piece of `n` bytes at a virtual address. -/
def readPiece (p : Acc) (va : Word) (n : Nat) (unaligned : Bool) : Exec (List Byte × Translation) := do
  update fun s => (s.noteWatch p va n).notePast p va
  let x ← translateData p va unaligned
  checkEndianness n
  let r ← readRouted p va x n
  let bs ← match r with
    | some bs => pure bs
    | none => openBytes n
  pure (bs, x)

/-- Store a piece in a TCM of a side, from byte `i`. -/
def State.storeTcm (s : State) (data : Bool) (x : Translation) (i : Nat) : List Byte → State
  | [] => s
  | b :: bs => (s.storeByte ((s.tcmByteOf data x.ns (s.bytePa x i)).getD 0) b).storeTcm data x (i + 1) bs

/-- Store the bytes of a piece in external memory, from byte `i`. -/
def State.storeBytes (s : State) (q : Request) (x : Translation) (i : Nat) : List Byte → State
  | [] => s
  | b :: bs => (s.writeExternal q (s.bytePa x i) b).storeBytes q x (i + 1) bs

/-- Store a piece on the bus. What an external error answers is not stored. -/
def writeBus (p : Acc) (va : Word) (x : Translation) (bytes : List Byte) : Exec Unit := do
  let q ← look fun s => s.pieceRequest p x va bytes.length
  let e ← look fun s => s.pieceError q x bytes.length
  match e with
  | some e => do
    update fun s => s.notePiece p va x q bytes (some e)
    reportError p va x e
  | none => do
    update fun s => s.storeBytes q x 0 bytes
    notePiece p va x q bytes

/-- Replace bytes of a line, from byte `i` of a piece. -/
def CacheLine.setBytes (l : CacheLine) (pa : Nat → Word) (i : Nat) : List Byte → CacheLine
  | [] => l
  | b :: bs => (l.setByte ((pa i).toNat % 32) b).setBytes pa (i + 1) bs

/-- The half of a line that holds an address becomes dirty. -/
def CacheLine.markDirty (l : CacheLine) (pa : Word) : CacheLine :=
  if pa.toNat % 32 < 16 then { l with dirtyLow := true } else { l with dirtyHigh := true }

/-- A store has written a dirty bit (R248). -/
def State.markDirty (s : State) (ns : Bool) : State :=
  { s with
    secure := { s.secure with cacheDirty := true }
    nonSecure := { s.nonSecure with cacheDirty := s.nonSecure.cacheDirty || ns } }

/-- A store that hits a line (R745): Write-Back it stays there. -/
def State.storeHit (s : State) (l : CacheLine) (x : Translation) (bytes : List Byte) : State :=
  let l := l.setBytes (s.bytePa x) 0 bytes
  if s.writeBack x then
    let t := (List.range bytes.length).foldl (fun t i => t.touch (t.extKey x.ns (t.bytePa x i))) s
    (t.putLine (l.markDirty x.pa)).markDirty x.ns
  else s.putLine l

/-- Store a translated piece (R762): to a Data TCM; to the line of the data cache that it hits, and where that is
Write-Through, or there is none, to an Instruction TCM or level two. -/
def writeRouted (p : Acc) (va : Word) (x : Translation) (bytes : List Byte) : Exec Unit := do
  let mva ← look fun s => s.fcse (!s.isSecure) va
  let data ← look fun s => (s.tcmOf true x.ns x.pa).isSome
  if data then update fun s => s.storeTcm true x 0 bytes else
  let hit ← cachedLine p mva x
  let kept ← look fun s => hit.isSome && s.writeBack x
  match hit with
  | some l => update fun s => s.storeHit l x bytes
  | none => pure ()
  if kept then pure () else
  let instr ← look fun s => (s.tcmOf false x.ns x.pa).isSome
  if instr then update fun s => s.storeTcm false x 0 bytes else writeBus p va x bytes

/-- Store a piece at a virtual address. -/
def writePiece (p : Acc) (va : Word) (bytes : List Byte) (unaligned : Bool) : Exec Translation := do
  update fun s => (s.noteWatch p va bytes.length).notePast p va
  let x ← translateData p va unaligned
  checkEndianness bytes.length
  writeRouted p va x bytes
  pure x

/-! Values -/

/-- The most significant byte has the lowest address: BE-8 and BE-32 (R551). -/
def State.bigEndian (s : State) : Bool := s.cpsr.e || s.bigEndian32

/-- The value of bytes of which the first is least significant. -/
def littleValue : List Byte → Word
  | [] => 0
  | b :: bs => b.setWidth 32 ||| (littleValue bs <<< 8)

/-- The value of bytes in ascending order of address (R551). -/
def bytesValue (big : Bool) (bs : List Byte) : Word := littleValue (if big then bs.reverse else bs)

/-- The `n` low bytes of a value, the least significant first. -/
def littleBytes : Nat → Word → List Byte
  | 0, _ => []
  | n + 1, w => w.extractLsb' 0 8 :: littleBytes n (w >>> 8)

/-- The `n` low bytes of a value in ascending order of address (R551). -/
def valueBytes (big : Bool) (n : Nat) (w : Word) : List Byte :=
  if big then (littleBytes n w).reverse else littleBytes n w

/-- Load single bytes, in ascending order: the DMA engine may act between them (R564, decision D35). -/
def readSplit (p : Acc) (va : Word) : Nat → Exec (List Byte)
  | 0 => pure []
  | n + 1 => do
    let r ← readPiece p va 1 true
    dmaInterval
    let bs ← readSplit p (va + 1) n
    pure (r.1 ++ bs)

/-- Store single bytes, in ascending order: the DMA engine may act between them. -/
def writeSplit (p : Acc) (va : Word) : List Byte → Exec Unit
  | [] => pure ()
  | b :: bs => do
    let _ ← writePiece p va [b] true
    dmaInterval
    writeSplit p (va + 1) bs

/-- An access at `addr` that is made at `a`, with what it drops from its address. -/
def Acc.keepLow (p : Acc) (addr a : Word) : Acc := { p with low := addr - a }

/-- `MemRead` of R545 for a byte, halfword or word, with the rotation of a legacy word load (R564). -/
def memRead (p : Acc) (addr : Word) (n : Nat) : Exec Word := do
  let (a, split) ← alignData p addr
  if split then
    checkEndianness n
    let bs ← readSplit { p with first := a } a n
    let big ← look State.bigEndian
    pure (bytesValue big bs)
  else
    let r ← readPiece (p.keepLow addr a) a n false
    let big ← look State.bigEndian
    pure ((bytesValue big r.1).rotateRight (if p.ty = .wload then 8 * (addr - a).toNat else 0))

/-- `MemWrite` of R545 for a byte, halfword or word. -/
def memWrite (p : Acc) (addr : Word) (n : Nat) (v : Word) : Exec Unit := do
  let (a, split) ← alignData p addr
  let big ← look State.bigEndian
  if split then
    checkEndianness n
    writeSplit { p with first := a } a (valueBytes big n v)
  else
    let _ ← writePiece (p.keepLow addr a) a (valueBytes big n v) false

/-- Load the aligned word at an address that has passed the alignment check: one of a transfer of several (R553). -/
def readWordAt (p : Acc) (a : Word) : Exec Word := do
  let r ← readPiece p a 4 false
  let big ← look State.bigEndian
  pure (bytesValue big r.1)

/-- Store the aligned word at an address that has passed the alignment check. -/
def writeWordAt (p : Acc) (a : Word) (v : Word) : Exec Unit := do
  let big ← look State.bigEndian
  let _ ← writePiece p a (valueBytes big 4 v) false

/-- Load `n` words upwards from an address that has passed the alignment check: the DMA engine may act between them (R583,
R585). -/
def readWords (p : Acc) (a : Word) : Nat → Exec (List Word)
  | 0 => pure []
  | n + 1 => do
    let w ← readWordAt p a
    dmaInterval
    let ws ← readWords p (a + 4) n
    pure (w :: ws)

/-- Store words upwards from an address that has passed the alignment check: the DMA engine may act between them (R583,
R585). -/
def writeWords (p : Acc) (a : Word) : List Word → Exec Unit
  | [] => pure ()
  | w :: ws => do
    writeWordAt p a w
    dmaInterval
    writeWords p (a + 4) ws

end Sys2Proof.Machine
end

