-- ==== Sys2Proof/Machine/Halting.lean ====
section
/-! DEFINITION. Halting: entry to Debug state and the Debug exceptions (R431, R440 to R446). -/

namespace Sys2Proof.Machine

/-- The methods of entry that DSCR[5:2] records (R412). -/
inductive Entry where
  | haltCommand | breakpoint | watchpoint | bkpt | edbgrq | vectorCatch
  deriving DecidableEq, Repr

/-- Their codes (R412). -/
def Entry.code : Entry → Word
  | .haltCommand => 0 | .breakpoint => 1 | .watchpoint => 2 | .bkpt => 3 | .edbgrq => 4 | .vectorCatch => 5

/-- Write DSCR[5:2]. -/
def State.setEntry (s : State) (e : Entry) : State :=
  { s with dbg := { s.dbg with dscr := (s.dbg.dscr &&& ~~~0x3C#32) ||| (e.code <<< 2) } }

/-- Enter Debug state (R446): the PC is frozen and the CPSR is not changed. DESIGN CHOICE (log 104): with J = 1 and T = 1,
which R450 does not list, the entry counts as one from Jazelle state. -/
def State.enterDebug (s : State) (e : Entry) : State :=
  let t := s.setEntry e
  { t with dbg := { t.dbg with
      dscr := (t.dbg.dscr &&& ~~~0x80000#32) ||| 1
      enteredThumb := s.cpsr.t && !s.cpsr.j
      enteredJazelle := s.cpsr.j
      cpsrWritten := false
      pcWritten := false
      flagsWritten := false
      watchHit := none } }

/-- Monitor debug-mode is selected and enabled, and debug is permitted (R403, R431). -/
def State.monitorDebug (s : State) : Bool := s.debugPermitted && s.debugMode = 0b10#2

/-- Halting debug-mode is selected and enabled, and debug is permitted. -/
def State.haltingDebug (s : State) : Bool := s.debugPermitted && s.debugMode.getLsbD 0

/-- The Prefetch Abort of a breakpoint, BKPT or vector catch: IFSR says debug event, and IFAR is unchanged (R441). -/
def State.debugPrefetchAbort (s : State) : State :=
  enterException (.prefetchAbort false) (s.setBankOf (s.faultWorld false) fun b => { b with ifsr := 0x2 })

/-- A software debug event at the instruction about to be executed, BKPT apart: Debug state entry, or the Debug exception
(R431, R443). -/
def State.instructionEvent (s : State) (e : Entry) : State :=
  if s.haltingDebug then s.enterDebug e else (s.setEntry e).debugPrefetchAbort

/-- BKPT would be a debug event, and not the exception that it is where debug is not permitted or no mode is selected (R431,
R440). -/
def State.breaksOnBkpt (s : State) : Bool := !s.halted && (s.haltingDebug || s.monitorDebug)

/-- BKPT (R440): where debug is not permitted or no mode is selected it is a Prefetch Abort; in Debug state it is
ignored (R447). -/
def softwareBreakpoint : Exec Unit := fun s =>
  if s.halted then .ok ((), s)
  else if s.breaksOnBkpt then .error (.took (s.instructionEvent .bkpt))
  else .error (.took s.debugPrefetchAbort)

/-- WFAR after a watchpoint: the address of the instruction plus 8, or 4 in Thumb state (R416). -/
def State.watchedInstruction (s : State) : Word := s.pc + (if s.cpsr.t then 4 else 8)

/-- The end of an instruction that has triggered a watchpoint, `before` being the state in which it started: Debug state
entry or the Debug exception, at the boundary after it (R434, R441, R444, decision D16). -/
def State.watchpointEvent (before s : State) : State :=
  match s.dbg.watchHit with
  | none => s
  | some h =>
    let t := { s with dbg := { s.dbg with watchHit := none } }
    let wfar (u : State) : State := { u with dbg := { u.dbg with wfar := before.watchedInstruction } }
    if before.haltingDebug then (wfar t).enterDebug .watchpoint
    else if before.monitorDebug then
      let u := (wfar t).setEntry .watchpoint
      enterException (.dataAbort false)
        (u.setBankOf (u.faultWorld false) fun b => { b with dfsr := 0x2#32 ||| bitAt h.write 11, far := h.mva })
    else t

end Sys2Proof.Machine
end

