-- ==== Sys2Proof/Machine/Multiply.lean ====
section
/-! DEFINITION. Multiply: the multiplies and the saturating additions (R960 to R987). -/

namespace Sys2Proof.Machine

/-- `H(v, top)` of R960: a halfword as a signed integer. -/
def half (v : Word) (top : Bool) : Int := (v.extractLsb' (if top then 16 else 0) 16).toInt

/-- The exact value narrowed to a register. -/
def narrow (x : Int) : Word := BitVec.ofInt 32 x

/-- RdHi and RdLo the same register (R961, U54). -/
def distinct (hi lo : RegNo) : Exec Unit := fun s =>
  if hi = lo then .error (.refused .unpredictableEncoding) else .ok ((), s)

/-- `RdHi : RdLo`. -/
def State.pair (s : State) (hi lo : RegNo) : DWord := s.reg hi ++ s.reg lo

/-- Write a result, and N and Z where S = 1 (R962). -/
def finishMul (sf : Bool) (rd : RegNo) (r : Word) : Exec Unit := update fun s =>
  let t := s.setReg rd r
  (if sf then t.setFlags (t.cpsr.setNZ r) else t).next

/-- Write a 64-bit result, and N and Z where S = 1 (R962). -/
def finishLong (sf : Bool) (hi lo : RegNo) (r : DWord) : Exec Unit := update fun s =>
  let t := (s.setReg lo (r.extractLsb' 0 32)).setReg hi (r.extractLsb' 32 32)
  (if sf then t.setFlags (t.cpsr.setNZ64 r) else t).next

/-- Write a result and stick the Q flag (R60). -/
def finishQ (rd : RegNo) (r : Word) (q : Bool) : Exec Unit := update fun s =>
  let t := s.setReg rd r
  (t.setFlags (t.cpsr.stickQ q)).next

/-- QADD, QSUB (`double` false), QDADD and QDSUB (R975 to R978): `f` of Rm and the saturated multiple of Rn. -/
def saturating (double : Bool) (rn rd rm : RegNo) (f : Int → Int → Int) : Exec Unit := do
  noPc [rn, rd, rm]
  let a ← look fun s => (s.reg rm).toInt
  let n ← look fun s => (s.reg rn).toInt
  let d := if double then signedSat (2 * n) 32 else (n, false)
  let r := signedSat (f a d.1) 32
  finishQ rd (narrow r.1) (d.2 || r.2)

/-- MUL (R963). -/
def execMul (c : Cond) (sf : Bool) (rd rs rm : RegNo) (s : State) : Host.Outcome State Fault Refusal :=
  outcome (conditional c (do
      noPc [rd, rs, rm]
      let r ← look fun s => s.reg rm * s.reg rs
      finishMul sf rd r)) s

/-- MLA (R964). -/
def execMla (c : Cond) (sf : Bool) (rd rn rs rm : RegNo) (s : State) : Host.Outcome State Fault Refusal :=
  outcome (conditional c (do
      noPc [rd, rn, rs, rm]
      let r ← look fun s => s.reg rm * s.reg rs + s.reg rn
      finishMul sf rd r)) s

/-- UMAAL (R969): the sum of three never exceeds 64 bits. -/
def execUmaal (c : Cond) (rdHi rdLo rs rm : RegNo) (s : State) : Host.Outcome State Fault Refusal :=
  outcome (conditional c (do
      noPc [rdHi, rdLo, rs, rm]
      distinct rdHi rdLo
      let r ← look fun s => (s.reg rm).toNat * (s.reg rs).toNat + (s.reg rdLo).toNat + (s.reg rdHi).toNat
      finishLong false rdHi rdLo (BitVec.ofNat 64 r))) s

/-- UMULL (R965). -/
def execUmull (c : Cond) (sf : Bool) (rdHi rdLo rs rm : RegNo) (s : State) : Host.Outcome State Fault Refusal :=
  outcome (conditional c (do
      noPc [rdHi, rdLo, rs, rm]
      distinct rdHi rdLo
      let r ← look fun s => (s.reg rm).toNat * (s.reg rs).toNat
      finishLong sf rdHi rdLo (BitVec.ofNat 64 r))) s

/-- UMLAL (R966). -/
def execUmlal (c : Cond) (sf : Bool) (rdHi rdLo rs rm : RegNo) (s : State) : Host.Outcome State Fault Refusal :=
  outcome (conditional c (do
      noPc [rdHi, rdLo, rs, rm]
      distinct rdHi rdLo
      let r ← look fun s => BitVec.ofNat 64 ((s.reg rm).toNat * (s.reg rs).toNat) + s.pair rdHi rdLo
      finishLong sf rdHi rdLo r)) s

/-- SMULL (R967). -/
def execSmull (c : Cond) (sf : Bool) (rdHi rdLo rs rm : RegNo) (s : State) : Host.Outcome State Fault Refusal :=
  outcome (conditional c (do
      noPc [rdHi, rdLo, rs, rm]
      distinct rdHi rdLo
      let r ← look fun s => (s.reg rm).toInt * (s.reg rs).toInt
      finishLong sf rdHi rdLo (BitVec.ofInt 64 r))) s

/-- SMLAL (R968). -/
def execSmlal (c : Cond) (sf : Bool) (rdHi rdLo rs rm : RegNo) (s : State) : Host.Outcome State Fault Refusal :=
  outcome (conditional c (do
      noPc [rdHi, rdLo, rs, rm]
      distinct rdHi rdLo
      let r ← look fun s => BitVec.ofInt 64 ((s.reg rm).toInt * (s.reg rs).toInt) + s.pair rdHi rdLo
      finishLong sf rdHi rdLo r)) s

/-- SMULxy (R970). -/
def execSmulXY (c : Cond) (rd rs : RegNo) (y x : Bool) (rm : RegNo) (s : State) : Host.Outcome State Fault Refusal
    :=
  outcome (conditional c (do
      noPc [rd, rs, rm]
      let r ← look fun s => half (s.reg rm) x * half (s.reg rs) y
      finishMul false rd (narrow r))) s

/-- SMLAxy (R971): the sum wraps and sets Q. -/
def execSmlaXY (c : Cond) (rd rn rs : RegNo) (y x : Bool) (rm : RegNo) (s : State) : Host.Outcome State Fault
    Refusal :=
  outcome (conditional c (do
      noPc [rd, rn, rs, rm]
      let r ← look fun s => half (s.reg rm) x * half (s.reg rs) y + (s.reg rn).toInt
      finishQ rd (narrow r) (outside r 32))) s

/-- SMULWy (R972): bits [47:16] of the product. -/
def execSmulwY (c : Cond) (rd rs : RegNo) (y : Bool) (rm : RegNo) (s : State) : Host.Outcome State Fault Refusal :=
  outcome (conditional c (do
      noPc [rd, rs, rm]
      let r ← look fun s => ((s.reg rm).toInt * half (s.reg rs) y) / 2 ^ 16
      finishMul false rd (narrow r))) s

/-- SMLAWy (R973): the sum wraps and sets Q. -/
def execSmlawY (c : Cond) (rd rn rs : RegNo) (y : Bool) (rm : RegNo) (s : State) : Host.Outcome State Fault Refusal
    :=
  outcome (conditional c (do
      noPc [rd, rn, rs, rm]
      let r ← look fun s => (narrow (((s.reg rm).toInt * half (s.reg rs) y) / 2 ^ 16)).toInt + (s.reg rn).toInt
      finishQ rd (narrow r) (outside r 32))) s

/-- SMLALxy (R974). -/
def execSmlalXY (c : Cond) (rdHi rdLo rs : RegNo) (y x : Bool) (rm : RegNo) (s : State) : Host.Outcome State Fault
    Refusal :=
  outcome (conditional c (do
      noPc [rdHi, rdLo, rs, rm]
      distinct rdHi rdLo
      let r ← look fun s => BitVec.ofInt 64 (half (s.reg rm) x * half (s.reg rs) y) + s.pair rdHi rdLo
      finishLong false rdHi rdLo r)) s

/-- QADD (R975). -/
def execQadd (c : Cond) (rn rd rm : RegNo) (s : State) : Host.Outcome State Fault Refusal :=
  outcome (conditional c (saturating false rn rd rm fun a b => a + b)) s

/-- QSUB (R976): Rm minus Rn. -/
def execQsub (c : Cond) (rn rd rm : RegNo) (s : State) : Host.Outcome State Fault Refusal :=
  outcome (conditional c (saturating false rn rd rm fun a b => a - b)) s

/-- QDADD (R977): Rn is doubled and saturated first. -/
def execQdadd (c : Cond) (rn rd rm : RegNo) (s : State) : Host.Outcome State Fault Refusal :=
  outcome (conditional c (saturating true rn rd rm fun a b => a + b)) s

/-- QDSUB (R978): Rn is doubled and saturated first. -/
def execQdsub (c : Cond) (rn rd rm : RegNo) (s : State) : Host.Outcome State Fault Refusal :=
  outcome (conditional c (saturating true rn rd rm fun a b => a - b)) s

end Sys2Proof.Machine
end

