-- ==== Sys2Proof/Machine/Media.lean ====
section
/-! DEFINITION. Media: the ARMv6 media instructions (R1020 to R1102). -/

namespace Sys2Proof.Machine

/-! Parallel addition and subtraction: operation and prefix (R1022) -/

/-- The operation field of R1022. -/
inductive LaneOp where
  | add16 | addsubx | subaddx | sub16 | add8 | sub8
  deriving DecidableEq, Repr

/-- The prefix field of R1022. -/
inductive LanePrefix where
  | s | q | sh | u | uq | uh
  deriving DecidableEq, Repr

/-- The prefix reads its lanes as signed. -/
def LanePrefix.signed : LanePrefix → Bool
  | .s => true | .q => true | .sh => true | .u => false | .uq => false | .uh => false

/-- The prefix writes GE (R1023). -/
def LanePrefix.writesGe : LanePrefix → Bool
  | .s => true | .u => true | .q => false | .sh => false | .uq => false | .uh => false

/-- The lane at bit `lo` of a given width, as an integer. -/
def lane (signed : Bool) (width : Nat) (v : Word) (lo : Nat) : Int :=
  if signed then (v.extractLsb' lo width).toInt else (v.extractLsb' lo width).toNat

/-- The exact result of a lane is written so (R1022). -/
def LanePrefix.narrow (p : LanePrefix) (width : Nat) (r : Int) : BitVec width :=
  match p with
  | .s => BitVec.ofInt width r
  | .u => BitVec.ofInt width r
  | .q => BitVec.ofInt width (signedSat r width).1
  | .uq => BitVec.ofInt width (unsignedSat r width).1
  | .sh => BitVec.ofInt width (r / 2)
  | .uh => BitVec.ofInt width (r / 2)

/-- The GE bit of a lane, from its exact result and whether it was a subtraction (R1023, Table 2-6). -/
def LanePrefix.ge (p : LanePrefix) (width : Nat) (subtract : Bool) (r : Int) : Bool :=
  if p.signed || subtract then decide (0 ≤ r) else decide (2 ^ width ≤ r)

/-- A halfword operation: the exact high and low results, and whether each subtracts. -/
def LaneOp.halves (o : LaneOp) (signed : Bool) (a b : Word) : (Int × Bool) × (Int × Bool) :=
  let x (v : Word) (k : Nat) := lane signed 16 v k
  match o with
  | .addsubx => ((x a 16 + x b 0, false), (x a 0 - x b 16, true))
  | .subaddx => ((x a 16 - x b 0, true), (x a 0 + x b 16, false))
  | .sub16 => ((x a 16 - x b 16, true), (x a 0 - x b 0, true))
  | .add16 => ((x a 16 + x b 16, false), (x a 0 + x b 0, false))
  | .add8 => ((0, false), (0, false))
  | .sub8 => ((0, false), (0, false))

/-- Two halfword lanes. -/
def parallelHalves (p : LanePrefix) (o : LaneOp) (a b : Word) : Word × BitVec 4 :=
  let r := o.halves p.signed a b
  let gh := BitVec.ofBool (p.ge 16 r.1.2 r.1.1)
  let gl := BitVec.ofBool (p.ge 16 r.2.2 r.2.1)
  (p.narrow 16 r.1.1 ++ p.narrow 16 r.2.1, gh ++ gh ++ gl ++ gl)

/-- Four byte lanes. -/
def parallelBytes (p : LanePrefix) (subtract : Bool) (a b : Word) : Word × BitVec 4 :=
  let r (i : Nat) : Int :=
    if subtract then lane p.signed 8 a (8 * i) - lane p.signed 8 b (8 * i)
    else lane p.signed 8 a (8 * i) + lane p.signed 8 b (8 * i)
  let g (i : Nat) := BitVec.ofBool (p.ge 8 subtract (r i))
  (p.narrow 8 (r 3) ++ p.narrow 8 (r 2) ++ p.narrow 8 (r 1) ++ p.narrow 8 (r 0), g 3 ++ g 2 ++ g 1 ++ g 0)

/-- The result and the GE bits of a parallel operation. -/
def LaneOp.apply (o : LaneOp) (p : LanePrefix) (a b : Word) : Word × BitVec 4 :=
  match o with
  | .add8 => parallelBytes p false a b
  | .sub8 => parallelBytes p true a b
  | .add16 => parallelHalves p .add16 a b
  | .sub16 => parallelHalves p .sub16 a b
  | .addsubx => parallelHalves p .addsubx a b
  | .subaddx => parallelHalves p .subaddx a b

/-- A parallel addition or subtraction (R1022). -/
def parallel (p : LanePrefix) (o : LaneOp) (rn rd rm : RegNo) : Exec Unit := do
  noPc [rn, rd, rm]
  let r ← look fun s => o.apply p (s.reg rn) (s.reg rm)
  update fun s =>
    let t := s.setReg rd r.1
    (if p.writesGe then t.setFlags { t.cpsr with ge := r.2 } else t).next

/-! Extension, sums of differences, dual and most significant word multiplies, saturation -/

/-- The rotation of an extend instruction: 0, 8, 16 or 24 to the right. -/
def rotated (v : Word) (rot : BitVec 2) : Word := v.rotateRight (8 * rot.toNat)

/-- An extend instruction: `f` of the rotated Rm. -/
def extend (rd rm : RegNo) (rot : BitVec 2) (f : Word → Word) : Exec Unit := do
  noPc [rd, rm]
  let r ← look fun s => f (rotated (s.reg rm) rot)
  finishReg rd r

/-- An extend and accumulate instruction: `f` of Rn and the rotated Rm. -/
def extendAdd (rn rd rm : RegNo) (rot : BitVec 2) (f : Word → Word → Word) : Exec Unit := do
  noPc [rn, rd, rm]
  let r ← look fun s => f (s.reg rn) (rotated (s.reg rm) rot)
  finishReg rd r

/-- The low byte, sign extended. -/
def sextByte (v : Word) : Word := (v.extractLsb' 0 8).signExtend 32

/-- The low byte, zero extended. -/
def zextByte (v : Word) : Word := (v.extractLsb' 0 8).setWidth 32

/-- The low halfword, sign extended. -/
def sextHalf (v : Word) : Word := (v.extractLsb' 0 16).signExtend 32

/-- The low halfword, zero extended. -/
def zextHalf (v : Word) : Word := (v.extractLsb' 0 16).setWidth 32

/-- Bytes 2 and 0, each sign extended to a halfword. -/
def sextBytes (v : Word) : Word := (v.extractLsb' 16 8).signExtend 16 ++ (v.extractLsb' 0 8).signExtend 16

/-- Bytes 2 and 0, each zero extended to a halfword. -/
def zextBytes (v : Word) : Word := (v.extractLsb' 16 8).setWidth 16 ++ (v.extractLsb' 0 8).setWidth 16

/-- Two halfword sums, neither carrying into the other. -/
def addHalves (a b : Word) : Word :=
  (a.extractLsb' 16 16 + b.extractLsb' 16 16) ++ (a.extractLsb' 0 16 + b.extractLsb' 0 16)

/-- The sum of the absolute differences of four bytes (R1060). -/
def differences (a b : Word) : Nat :=
  let d (i : Nat) := (lane false 8 a (8 * i) - lane false 8 b (8 * i)).natAbs
  d 0 + d 1 + d 2 + d 3

/-- `p_lo` and `p_hi` of the dual multiplies; X exchanges the halfwords of Rs. -/
def products (a b : Word) (x : Bool) : Int × Int :=
  let b := if x then b.rotateRight 16 else b
  (half a false * half b false, half a true * half b true)

/-- The rounding constant of the most significant word multiplies. -/
def rounding (r : Bool) : Int := if r then 0x80000000 else 0

/-- Bits [63:32] of an exact value. -/
def highWord (x : Int) : Word := narrow (x / 2 ^ 32)

/-- The operand of SSAT and USAT: shifted left, or right arithmetically with 0 meaning 32 (R1083). -/
def satOperand (amount : BitVec 5) (sh : Bool) (v : Word) : Word :=
  if sh then (if amount = 0 then v.sshiftRight 31 else v.sshiftRight amount.toNat) else v <<< amount.toNat

/-- The bytes of a word reversed. -/
def reversed (v : Word) : Word :=
  v.extractLsb' 0 8 ++ v.extractLsb' 8 8 ++ v.extractLsb' 16 8 ++ v.extractLsb' 24 8

/-- The bytes of each halfword exchanged. -/
def reversedHalves (v : Word) : Word :=
  v.extractLsb' 16 8 ++ v.extractLsb' 24 8 ++ v.extractLsb' 0 8 ++ v.extractLsb' 8 8

/-- The bytes of the low halfword exchanged, sign extended. -/
def reversedSigned (v : Word) : Word := (v.extractLsb' 0 8 ++ v.extractLsb' 8 8 : BitVec 16).signExtend 32

/-- The bytes of `a` whose GE bit is set, the others of `b` (R1087). -/
def selected (ge : BitVec 4) (a b : Word) : Word :=
  let pick (i : Nat) : Byte := if ge.getLsbD i then a.extractLsb' (8 * i) 8 else b.extractLsb' (8 * i) 8
  pick 3 ++ pick 2 ++ pick 1 ++ pick 0

/-- SADD16 (R1024). -/
def execSadd16 (c : Cond) (rn rd rm : RegNo) (s : State) : Host.Outcome State Fault Refusal :=
  outcome (conditional c (parallel .s .add16 rn rd rm)) s

/-- QADD16 (R1025). -/
def execQadd16 (c : Cond) (rn rd rm : RegNo) (s : State) : Host.Outcome State Fault Refusal :=
  outcome (conditional c (parallel .q .add16 rn rd rm)) s

/-- SHADD16 (R1026). -/
def execShadd16 (c : Cond) (rn rd rm : RegNo) (s : State) : Host.Outcome State Fault Refusal :=
  outcome (conditional c (parallel .sh .add16 rn rd rm)) s

/-- UADD16 (R1027). -/
def execUadd16 (c : Cond) (rn rd rm : RegNo) (s : State) : Host.Outcome State Fault Refusal :=
  outcome (conditional c (parallel .u .add16 rn rd rm)) s

/-- UQADD16 (R1028). -/
def execUqadd16 (c : Cond) (rn rd rm : RegNo) (s : State) : Host.Outcome State Fault Refusal :=
  outcome (conditional c (parallel .uq .add16 rn rd rm)) s

/-- UHADD16 (R1029). -/
def execUhadd16 (c : Cond) (rn rd rm : RegNo) (s : State) : Host.Outcome State Fault Refusal :=
  outcome (conditional c (parallel .uh .add16 rn rd rm)) s

/-- SADDSUBX (R1030). -/
def execSaddsubx (c : Cond) (rn rd rm : RegNo) (s : State) : Host.Outcome State Fault Refusal :=
  outcome (conditional c (parallel .s .addsubx rn rd rm)) s

/-- QADDSUBX (R1031). -/
def execQaddsubx (c : Cond) (rn rd rm : RegNo) (s : State) : Host.Outcome State Fault Refusal :=
  outcome (conditional c (parallel .q .addsubx rn rd rm)) s

/-- SHADDSUBX (R1032). -/
def execShaddsubx (c : Cond) (rn rd rm : RegNo) (s : State) : Host.Outcome State Fault Refusal :=
  outcome (conditional c (parallel .sh .addsubx rn rd rm)) s

/-- UADDSUBX (R1033). -/
def execUaddsubx (c : Cond) (rn rd rm : RegNo) (s : State) : Host.Outcome State Fault Refusal :=
  outcome (conditional c (parallel .u .addsubx rn rd rm)) s

/-- UQADDSUBX (R1034). -/
def execUqaddsubx (c : Cond) (rn rd rm : RegNo) (s : State) : Host.Outcome State Fault Refusal :=
  outcome (conditional c (parallel .uq .addsubx rn rd rm)) s

/-- UHADDSUBX (R1035). -/
def execUhaddsubx (c : Cond) (rn rd rm : RegNo) (s : State) : Host.Outcome State Fault Refusal :=
  outcome (conditional c (parallel .uh .addsubx rn rd rm)) s

/-- SSUBADDX (R1036). -/
def execSsubaddx (c : Cond) (rn rd rm : RegNo) (s : State) : Host.Outcome State Fault Refusal :=
  outcome (conditional c (parallel .s .subaddx rn rd rm)) s

/-- QSUBADDX (R1037). -/
def execQsubaddx (c : Cond) (rn rd rm : RegNo) (s : State) : Host.Outcome State Fault Refusal :=
  outcome (conditional c (parallel .q .subaddx rn rd rm)) s

/-- SHSUBADDX (R1038). -/
def execShsubaddx (c : Cond) (rn rd rm : RegNo) (s : State) : Host.Outcome State Fault Refusal :=
  outcome (conditional c (parallel .sh .subaddx rn rd rm)) s

/-- USUBADDX (R1039). -/
def execUsubaddx (c : Cond) (rn rd rm : RegNo) (s : State) : Host.Outcome State Fault Refusal :=
  outcome (conditional c (parallel .u .subaddx rn rd rm)) s

/-- UQSUBADDX (R1040). -/
def execUqsubaddx (c : Cond) (rn rd rm : RegNo) (s : State) : Host.Outcome State Fault Refusal :=
  outcome (conditional c (parallel .uq .subaddx rn rd rm)) s

/-- UHSUBADDX (R1041). -/
def execUhsubaddx (c : Cond) (rn rd rm : RegNo) (s : State) : Host.Outcome State Fault Refusal :=
  outcome (conditional c (parallel .uh .subaddx rn rd rm)) s

/-- SSUB16 (R1042). -/
def execSsub16 (c : Cond) (rn rd rm : RegNo) (s : State) : Host.Outcome State Fault Refusal :=
  outcome (conditional c (parallel .s .sub16 rn rd rm)) s

/-- QSUB16 (R1043). -/
def execQsub16 (c : Cond) (rn rd rm : RegNo) (s : State) : Host.Outcome State Fault Refusal :=
  outcome (conditional c (parallel .q .sub16 rn rd rm)) s

/-- SHSUB16 (R1044). -/
def execShsub16 (c : Cond) (rn rd rm : RegNo) (s : State) : Host.Outcome State Fault Refusal :=
  outcome (conditional c (parallel .sh .sub16 rn rd rm)) s

/-- USUB16 (R1045). -/
def execUsub16 (c : Cond) (rn rd rm : RegNo) (s : State) : Host.Outcome State Fault Refusal :=
  outcome (conditional c (parallel .u .sub16 rn rd rm)) s

/-- UQSUB16 (R1046). -/
def execUqsub16 (c : Cond) (rn rd rm : RegNo) (s : State) : Host.Outcome State Fault Refusal :=
  outcome (conditional c (parallel .uq .sub16 rn rd rm)) s

/-- UHSUB16 (R1047). -/
def execUhsub16 (c : Cond) (rn rd rm : RegNo) (s : State) : Host.Outcome State Fault Refusal :=
  outcome (conditional c (parallel .uh .sub16 rn rd rm)) s

/-- SADD8 (R1048). -/
def execSadd8 (c : Cond) (rn rd rm : RegNo) (s : State) : Host.Outcome State Fault Refusal :=
  outcome (conditional c (parallel .s .add8 rn rd rm)) s

/-- QADD8 (R1049). -/
def execQadd8 (c : Cond) (rn rd rm : RegNo) (s : State) : Host.Outcome State Fault Refusal :=
  outcome (conditional c (parallel .q .add8 rn rd rm)) s

/-- SHADD8 (R1050). -/
def execShadd8 (c : Cond) (rn rd rm : RegNo) (s : State) : Host.Outcome State Fault Refusal :=
  outcome (conditional c (parallel .sh .add8 rn rd rm)) s

/-- UADD8 (R1051). -/
def execUadd8 (c : Cond) (rn rd rm : RegNo) (s : State) : Host.Outcome State Fault Refusal :=
  outcome (conditional c (parallel .u .add8 rn rd rm)) s

/-- UQADD8 (R1052). -/
def execUqadd8 (c : Cond) (rn rd rm : RegNo) (s : State) : Host.Outcome State Fault Refusal :=
  outcome (conditional c (parallel .uq .add8 rn rd rm)) s

/-- UHADD8 (R1053). -/
def execUhadd8 (c : Cond) (rn rd rm : RegNo) (s : State) : Host.Outcome State Fault Refusal :=
  outcome (conditional c (parallel .uh .add8 rn rd rm)) s

/-- SSUB8 (R1054). -/
def execSsub8 (c : Cond) (rn rd rm : RegNo) (s : State) : Host.Outcome State Fault Refusal :=
  outcome (conditional c (parallel .s .sub8 rn rd rm)) s

/-- QSUB8 (R1055). -/
def execQsub8 (c : Cond) (rn rd rm : RegNo) (s : State) : Host.Outcome State Fault Refusal :=
  outcome (conditional c (parallel .q .sub8 rn rd rm)) s

/-- SHSUB8 (R1056). -/
def execShsub8 (c : Cond) (rn rd rm : RegNo) (s : State) : Host.Outcome State Fault Refusal :=
  outcome (conditional c (parallel .sh .sub8 rn rd rm)) s

/-- USUB8 (R1057). -/
def execUsub8 (c : Cond) (rn rd rm : RegNo) (s : State) : Host.Outcome State Fault Refusal :=
  outcome (conditional c (parallel .u .sub8 rn rd rm)) s

/-- UQSUB8 (R1058). -/
def execUqsub8 (c : Cond) (rn rd rm : RegNo) (s : State) : Host.Outcome State Fault Refusal :=
  outcome (conditional c (parallel .uq .sub8 rn rd rm)) s

/-- UHSUB8 (R1059). -/
def execUhsub8 (c : Cond) (rn rd rm : RegNo) (s : State) : Host.Outcome State Fault Refusal :=
  outcome (conditional c (parallel .uh .sub8 rn rd rm)) s

/-- USAD8 (R1060). -/
def execUsad8 (c : Cond) (rd rs rm : RegNo) (s : State) : Host.Outcome State Fault Refusal :=
  outcome (conditional c (do
      noPc [rd, rs, rm]
      let r ← look fun s => BitVec.ofNat 32 (differences (s.reg rm) (s.reg rs))
      finishReg rd r)) s

/-- USADA8 (R1061). -/
def execUsada8 (c : Cond) (rd rn rs rm : RegNo) (s : State) : Host.Outcome State Fault Refusal :=
  outcome (conditional c (do
      noPc [rd, rn, rs, rm]
      let r ← look fun s => s.reg rn + BitVec.ofNat 32 (differences (s.reg rm) (s.reg rs))
      finishReg rd r)) s

/-- SXTAB16 (R1062). -/
def execSxtab16 (c : Cond) (rn rd : RegNo) (rot : BitVec 2) (rm : RegNo) (s : State) : Host.Outcome State Fault
    Refusal :=
  outcome (conditional c (extendAdd rn rd rm rot fun n v => addHalves n (sextBytes v))) s

/-- SXTAB (R1063). -/
def execSxtab (c : Cond) (rn rd : RegNo) (rot : BitVec 2) (rm : RegNo) (s : State) : Host.Outcome State Fault
    Refusal :=
  outcome (conditional c (extendAdd rn rd rm rot fun n v => n + sextByte v)) s

/-- SXTAH (R1064). -/
def execSxtah (c : Cond) (rn rd : RegNo) (rot : BitVec 2) (rm : RegNo) (s : State) : Host.Outcome State Fault
    Refusal :=
  outcome (conditional c (extendAdd rn rd rm rot fun n v => n + sextHalf v)) s

/-- UXTAB16 (R1065). -/
def execUxtab16 (c : Cond) (rn rd : RegNo) (rot : BitVec 2) (rm : RegNo) (s : State) : Host.Outcome State Fault
    Refusal :=
  outcome (conditional c (extendAdd rn rd rm rot fun n v => addHalves n (zextBytes v))) s

/-- UXTAB (R1066). -/
def execUxtab (c : Cond) (rn rd : RegNo) (rot : BitVec 2) (rm : RegNo) (s : State) : Host.Outcome State Fault
    Refusal :=
  outcome (conditional c (extendAdd rn rd rm rot fun n v => n + zextByte v)) s

/-- UXTAH (R1067). -/
def execUxtah (c : Cond) (rn rd : RegNo) (rot : BitVec 2) (rm : RegNo) (s : State) : Host.Outcome State Fault
    Refusal :=
  outcome (conditional c (extendAdd rn rd rm rot fun n v => n + zextHalf v)) s

/-- SXTB16 (R1068). -/
def execSxtb16 (c : Cond) (rd : RegNo) (rot : BitVec 2) (rm : RegNo) (s : State) : Host.Outcome State Fault Refusal
    :=
  outcome (conditional c (extend rd rm rot sextBytes)) s

/-- SXTB (R1069). -/
def execSxtb (c : Cond) (rd : RegNo) (rot : BitVec 2) (rm : RegNo) (s : State) : Host.Outcome State Fault Refusal :=
  outcome (conditional c (extend rd rm rot sextByte)) s

/-- SXTH (R1070). -/
def execSxth (c : Cond) (rd : RegNo) (rot : BitVec 2) (rm : RegNo) (s : State) : Host.Outcome State Fault Refusal :=
  outcome (conditional c (extend rd rm rot sextHalf)) s

/-- UXTB16 (R1071). -/
def execUxtb16 (c : Cond) (rd : RegNo) (rot : BitVec 2) (rm : RegNo) (s : State) : Host.Outcome State Fault Refusal
    :=
  outcome (conditional c (extend rd rm rot zextBytes)) s

/-- UXTB (R1072). -/
def execUxtb (c : Cond) (rd : RegNo) (rot : BitVec 2) (rm : RegNo) (s : State) : Host.Outcome State Fault Refusal :=
  outcome (conditional c (extend rd rm rot zextByte)) s

/-- UXTH (R1073). -/
def execUxth (c : Cond) (rd : RegNo) (rot : BitVec 2) (rm : RegNo) (s : State) : Host.Outcome State Fault Refusal :=
  outcome (conditional c (extend rd rm rot zextHalf)) s

/-- SMUAD (R1074). -/
def execSmuad (c : Cond) (rd rs : RegNo) (x : Bool) (rm : RegNo) (s : State) : Host.Outcome State Fault Refusal :=
  outcome (conditional c (do
      noPc [rd, rs, rm]
      let p ← look fun s => products (s.reg rm) (s.reg rs) x
      finishQ rd (narrow (p.1 + p.2)) (outside (p.1 + p.2) 32))) s

/-- SMUSD (R1075): the low product minus the high product. -/
def execSmusd (c : Cond) (rd rs : RegNo) (x : Bool) (rm : RegNo) (s : State) : Host.Outcome State Fault Refusal :=
  outcome (conditional c (do
      noPc [rd, rs, rm]
      let p ← look fun s => products (s.reg rm) (s.reg rs) x
      finishReg rd (narrow (p.1 - p.2)))) s

/-- SMLAD (R1076): the exact sum of three decides Q. -/
def execSmlad (c : Cond) (rd rn rs : RegNo) (x : Bool) (rm : RegNo) (s : State) : Host.Outcome State Fault Refusal
    :=
  outcome (conditional c (do
      noPc [rd, rn, rs, rm]
      let p ← look fun s => products (s.reg rm) (s.reg rs) x
      let a ← look fun s => (s.reg rn).toInt
      finishQ rd (narrow (p.1 + p.2 + a)) (outside (p.1 + p.2 + a) 32))) s

/-- SMLSD (R1077). -/
def execSmlsd (c : Cond) (rd rn rs : RegNo) (x : Bool) (rm : RegNo) (s : State) : Host.Outcome State Fault Refusal
    :=
  outcome (conditional c (do
      noPc [rd, rn, rs, rm]
      let p ← look fun s => products (s.reg rm) (s.reg rs) x
      let a ← look fun s => (s.reg rn).toInt
      finishQ rd (narrow (p.1 - p.2 + a)) (outside (p.1 - p.2 + a) 32))) s

/-- SMLALD (R1078). -/
def execSmlald (c : Cond) (rdHi rdLo rs : RegNo) (x : Bool) (rm : RegNo) (s : State) : Host.Outcome State Fault
    Refusal :=
  outcome (conditional c (do
      noPc [rdHi, rdLo, rs, rm]
      distinct rdHi rdLo
      let p ← look fun s => products (s.reg rm) (s.reg rs) x
      let a ← look fun s => s.pair rdHi rdLo
      finishLong false rdHi rdLo (BitVec.ofInt 64 (p.1 + p.2) + a))) s

/-- SMLSLD (R1079). -/
def execSmlsld (c : Cond) (rdHi rdLo rs : RegNo) (x : Bool) (rm : RegNo) (s : State) : Host.Outcome State Fault
    Refusal :=
  outcome (conditional c (do
      noPc [rdHi, rdLo, rs, rm]
      distinct rdHi rdLo
      let p ← look fun s => products (s.reg rm) (s.reg rs) x
      let a ← look fun s => s.pair rdHi rdLo
      finishLong false rdHi rdLo (BitVec.ofInt 64 (p.1 - p.2) + a))) s

/-- SMMUL (R1080). -/
def execSmmul (c : Cond) (rd rs : RegNo) (r : Bool) (rm : RegNo) (s : State) : Host.Outcome State Fault Refusal :=
  outcome (conditional c (do
      noPc [rd, rs, rm]
      let p ← look fun s => (s.reg rm).toInt * (s.reg rs).toInt
      finishReg rd (highWord (p + rounding r)))) s

/-- SMMLA (R1081). -/
def execSmmla (c : Cond) (rd rn rs : RegNo) (r : Bool) (rm : RegNo) (s : State) : Host.Outcome State Fault Refusal
    :=
  outcome (conditional c (do
      noPc [rd, rn, rs, rm]
      let p ← look fun s => (s.reg rm).toInt * (s.reg rs).toInt
      let a ← look fun s => (s.reg rn).toInt * 2 ^ 32
      finishReg rd (highWord (a + p + rounding r)))) s

/-- SMMLS (R1082). -/
def execSmmls (c : Cond) (rd rn rs : RegNo) (r : Bool) (rm : RegNo) (s : State) : Host.Outcome State Fault Refusal
    :=
  outcome (conditional c (do
      noPc [rd, rn, rs, rm]
      let p ← look fun s => (s.reg rm).toInt * (s.reg rs).toInt
      let a ← look fun s => (s.reg rn).toInt * 2 ^ 32
      finishReg rd (highWord (a - p + rounding r)))) s

/-- SSAT (R1083): to n = sat + 1 bits. -/
def execSsat (c : Cond) (sat : BitVec 5) (rd : RegNo) (amount : BitVec 5) (sh : Bool) (rm : RegNo) (s : State) :
    Host.Outcome State Fault Refusal :=
  outcome (conditional c (do
      noPc [rd, rm]
      let v ← look fun s => (satOperand amount sh (s.reg rm)).toInt
      let r := signedSat v (sat.toNat + 1)
      finishQ rd (narrow r.1) r.2)) s

/-- USAT (R1084): to n = sat bits. -/
def execUsat (c : Cond) (sat : BitVec 5) (rd : RegNo) (amount : BitVec 5) (sh : Bool) (rm : RegNo) (s : State) :
    Host.Outcome State Fault Refusal :=
  outcome (conditional c (do
      noPc [rd, rm]
      let v ← look fun s => (satOperand amount sh (s.reg rm)).toInt
      let r := unsignedSat v sat.toNat
      finishQ rd (narrow r.1) r.2)) s

/-- SSAT16 (R1085). -/
def execSsat16 (c : Cond) (sat : BitVec 4) (rd rm : RegNo) (s : State) : Host.Outcome State Fault Refusal :=
  outcome (conditional c (do
      noPc [rd, rm]
      let v ← look fun s => s.reg rm
      let lo := signedSat (half v false) (sat.toNat + 1)
      let hi := signedSat (half v true) (sat.toNat + 1)
      finishQ rd (BitVec.ofInt 16 hi.1 ++ BitVec.ofInt 16 lo.1) (lo.2 || hi.2))) s

/-- USAT16 (R1086). -/
def execUsat16 (c : Cond) (sat : BitVec 4) (rd rm : RegNo) (s : State) : Host.Outcome State Fault Refusal :=
  outcome (conditional c (do
      noPc [rd, rm]
      let v ← look fun s => s.reg rm
      let lo := unsignedSat (half v false) sat.toNat
      let hi := unsignedSat (half v true) sat.toNat
      finishQ rd (BitVec.ofInt 16 hi.1 ++ BitVec.ofInt 16 lo.1) (lo.2 || hi.2))) s

/-- SEL (R1087). -/
def execSel (c : Cond) (rn rd rm : RegNo) (s : State) : Host.Outcome State Fault Refusal :=
  outcome (conditional c (do
      noPc [rn, rd, rm]
      let r ← look fun s => selected s.cpsr.ge (s.reg rn) (s.reg rm)
      finishReg rd r)) s

/-- PKHBT (R1088). -/
def execPkhbt (c : Cond) (rn rd : RegNo) (amount : BitVec 5) (rm : RegNo) (s : State) : Host.Outcome State Fault
    Refusal :=
  outcome (conditional c (do
      noPc [rn, rd, rm]
      let v ← look fun s => s.reg rm <<< amount.toNat
      let n ← look fun s => s.reg rn
      finishReg rd (v.extractLsb' 16 16 ++ n.extractLsb' 0 16))) s

/-- PKHTB (R1089): an amount of 0 means 32. -/
def execPkhtb (c : Cond) (rn rd : RegNo) (amount : BitVec 5) (rm : RegNo) (s : State) : Host.Outcome State Fault
    Refusal :=
  outcome (conditional c (do
      noPc [rn, rd, rm]
      let v ← look fun s => satOperand amount true (s.reg rm)
      let n ← look fun s => s.reg rn
      finishReg rd (n.extractLsb' 16 16 ++ v.extractLsb' 0 16))) s

/-- REV (R1090). -/
def execRev (c : Cond) (rd rm : RegNo) (s : State) : Host.Outcome State Fault Refusal :=
  outcome (conditional c (do
      noPc [rd, rm]
      let r ← look fun s => reversed (s.reg rm)
      finishReg rd r)) s

/-- REV16 (R1091). -/
def execRev16 (c : Cond) (rd rm : RegNo) (s : State) : Host.Outcome State Fault Refusal :=
  outcome (conditional c (do
      noPc [rd, rm]
      let r ← look fun s => reversedHalves (s.reg rm)
      finishReg rd r)) s

/-- REVSH (R1092). -/
def execRevsh (c : Cond) (rd rm : RegNo) (s : State) : Host.Outcome State Fault Refusal :=
  outcome (conditional c (do
      noPc [rd, rm]
      let r ← look fun s => reversedSigned (s.reg rm)
      finishReg rd r)) s

end Sys2Proof.Machine
end

