-- ==== Sys2Proof/Machine/LoadStore.lean ====
section
/-! DEFINITION. LoadStore: the ARM loads and stores of one or two registers, and PLD (R1140 to R1186). -/

namespace Sys2Proof.Machine

/-- The address of an access and the new value of the base register, if it gets one (R1142 to R1144). -/
structure Indexed where
  addr : Word
  back : Option Word
  deriving DecidableEq, Repr

/-- The offset (P, W = 1, 0), pre-indexed (1, 1) and post-indexed (0, x) forms. -/
def indexed (p u w : Bool) (rn : RegNo) (offset : Word) (s : State) : Indexed :=
  let o := offsetFrom u (s.reg rn) offset
  { addr := if p then o else s.reg rn, back := if p && !w then none else some o }

/-- The offset of a register form of mode 2, in which the shift does not write the carry (R1142). -/
def registerOffset (amount : BitVec 5) (ty : ShiftTy) (rm : RegNo) (s : State) : Word :=
  (shiftedConst ty amount (s.reg rm) s.cpsr.c).value

/-- The immediate of mode 3 (R1144). -/
def splitOffset (immH immL : BitVec 4) : Word := (immH ++ immL).setWidth 32

/-- Write the base register back. -/
def writeBase (rn : RegNo) : Option Word → Exec Unit
  | none => pure ()
  | some v => update fun s => s.setReg rn v

/-- Refuse a register combination that the architecture makes Unpredictable (U54). -/
def refuseIf (b : Bool) : Exec Unit := if b then refuse .unpredictableEncoding else pure ()

/-- The register combinations that R1147 refuses for one register: `writes` says that the base is written. -/
def checkSingle (writes : Bool) (rn rd : RegNo) (rm : Option RegNo) (pcAllowed : Bool) : Exec Unit :=
  if (writes && (rn = 15 || rd = rn)) || rm = some 15 || (writes && rm = some rn) || (!pcAllowed && rd = 15)
  then refuse .unpredictableEncoding else pure ()

/-- And for two registers. -/
def checkDouble (writes load : Bool) (rn rd : RegNo) (rm : Option RegNo) : Exec Unit :=
  if rd.getLsbD 0 || rd = 14 || (writes && (rn = 15 || rd = rn || rd + 1 = rn)) || rm = some 15 ||
      (writes && rm = some rn) || (load && (rm = some rd || rm = some (rd + 1)))
  then refuse .unpredictableEncoding else pure ()

/-- Mode 3 with P = 0 and W = 1 (R1144). -/
def checkMode3 (p w : Bool) : Exec Unit := if !p && w then refuse .unpredictableEncoding else pure ()

/-- A word loaded into the PC (R1148); with L4 = 1 it does not set the T bit (R140). -/
def loadPc (v : Word) : Exec Unit := do
  let keep ← look fun s => s.cp15.sctlr.getLsbD 15
  if keep then update fun s => s.branchKeep v else bxWritePc v

/-- The value that a store of R15 stores (R1149). -/
def State.storedPc (s : State) : Word := s.readPc + (if Config.storedPcIsPlus12 then 4 else 0)

/-- The value of a register as a store sees it. -/
def State.storedReg (s : State) (n : RegNo) : Word := if n = 15 then s.storedPc else s.reg n

/-- A load of one register: `user` makes the access with User privilege (R543), `f` extends what is read. -/
def loadSingle (ty : AccType) (n : Nat) (user : Bool) (f : Word → Word) (rn rd : RegNo) (a : Indexed) : Exec Unit := do
  let priv ← look fun s => s.privileged && !user
  let v ← memRead { ty := ty, write := false, priv := priv } a.addr n
  writeBase rn a.back
  finishReg rd (f v)

/-- A load of a word (R1150), or of the PC (R1151). -/
def loadWord (rn rd : RegNo) (a : Indexed) : Exec Unit :=
  if rd = 15 then do
    let priv ← look State.privileged
    let v ← memRead { ty := .wload, write := false, priv := priv, loadsPc := true } a.addr 4
    writeBase rn a.back
    loadPc v
  else loadSingle .wload 4 false id rn rd a

/-- A store of one register. -/
def storeSingle (ty : AccType) (n : Nat) (user : Bool) (rn rd : RegNo) (a : Indexed) : Exec Unit := do
  let priv ← look fun s => s.privileged && !user
  let v ← look fun s => s.storedReg rd
  memWrite { ty := ty, write := true, priv := priv } a.addr n v
  writeBase rn a.back
  advance

/-- LDRD (R1164): the word at the lower address goes to the even register. -/
def loadDouble (rn rd : RegNo) (a : Indexed) : Exec Unit := do
  let priv ← look State.privileged
  let p : Acc := { ty := .twoWord, write := false, priv := priv }
  let (b, _) ← alignData p a.addr
  let p := p.block b 2
  let lo ← readWordAt p b
  dmaInterval
  let hi ← readWordAt p (b + 4)
  writeBase rn a.back
  update fun s => s.setReg rd lo
  finishReg (rd + 1) hi

/-- STRD (R1165). -/
def storeDouble (rn rd : RegNo) (a : Indexed) : Exec Unit := do
  let priv ← look State.privileged
  let lo ← look fun s => s.reg rd
  let hi ← look fun s => s.reg (rd + 1)
  let p : Acc := { ty := .twoWord, write := true, priv := priv }
  let (b, _) ← alignData p a.addr
  writeWords (p.block b 2) b [lo, hi]
  writeBase rn a.back
  advance

/-- LDR, immediate offset (R1150, R1151). -/
def execLdrImm (c : Cond) (p u wb : Bool) (rn rd : RegNo) (imm : BitVec 12) (s : State) : Host.Outcome State Fault
    Refusal :=
  outcome (conditional c (do
      checkSingle (!p || wb) rn rd none true
      let a ← look fun s => indexed p u wb rn (imm.setWidth 32) s
      loadWord rn rd a)) s

/-- LDR, register offset (R1150, R1151). -/
def execLdrReg (c : Cond) (p u wb : Bool) (rn rd : RegNo) (amount : BitVec 5) (ty : ShiftTy) (rm : RegNo)
    (s : State) : Host.Outcome State Fault Refusal :=
  outcome (conditional c (do
      checkSingle (!p || wb) rn rd (some rm) true
      let a ← look fun s => indexed p u wb rn (registerOffset amount ty rm s) s
      loadWord rn rd a)) s

/-- LDRB, immediate offset (R1152). -/
def execLdrbImm (c : Cond) (p u wb : Bool) (rn rd : RegNo) (imm : BitVec 12) (s : State) : Host.Outcome State Fault
    Refusal :=
  outcome (conditional c (do
      checkSingle (!p || wb) rn rd none false
      let a ← look fun s => indexed p u wb rn (imm.setWidth 32) s
      loadSingle .byte 1 false id rn rd a)) s

/-- LDRB, register offset (R1152). -/
def execLdrbReg (c : Cond) (p u wb : Bool) (rn rd : RegNo) (amount : BitVec 5) (ty : ShiftTy) (rm : RegNo)
    (s : State) : Host.Outcome State Fault Refusal :=
  outcome (conditional c (do
      checkSingle (!p || wb) rn rd (some rm) false
      let a ← look fun s => indexed p u wb rn (registerOffset amount ty rm s) s
      loadSingle .byte 1 false id rn rd a)) s

/-- STR, immediate offset (R1153). -/
def execStrImm (c : Cond) (p u wb : Bool) (rn rd : RegNo) (imm : BitVec 12) (s : State) : Host.Outcome State Fault
    Refusal :=
  outcome (conditional c (do
      checkSingle (!p || wb) rn rd none true
      let a ← look fun s => indexed p u wb rn (imm.setWidth 32) s
      storeSingle .wstore 4 false rn rd a)) s

/-- STR, register offset (R1153). -/
def execStrReg (c : Cond) (p u wb : Bool) (rn rd : RegNo) (amount : BitVec 5) (ty : ShiftTy) (rm : RegNo)
    (s : State) : Host.Outcome State Fault Refusal :=
  outcome (conditional c (do
      checkSingle (!p || wb) rn rd (some rm) true
      let a ← look fun s => indexed p u wb rn (registerOffset amount ty rm s) s
      storeSingle .wstore 4 false rn rd a)) s

/-- STRB, immediate offset (R1154). -/
def execStrbImm (c : Cond) (p u wb : Bool) (rn rd : RegNo) (imm : BitVec 12) (s : State) : Host.Outcome State Fault
    Refusal :=
  outcome (conditional c (do
      checkSingle (!p || wb) rn rd none false
      let a ← look fun s => indexed p u wb rn (imm.setWidth 32) s
      storeSingle .byte 1 false rn rd a)) s

/-- STRB, register offset (R1154). -/
def execStrbReg (c : Cond) (p u wb : Bool) (rn rd : RegNo) (amount : BitVec 5) (ty : ShiftTy) (rm : RegNo)
    (s : State) : Host.Outcome State Fault Refusal :=
  outcome (conditional c (do
      checkSingle (!p || wb) rn rd (some rm) false
      let a ← look fun s => indexed p u wb rn (registerOffset amount ty rm s) s
      storeSingle .byte 1 false rn rd a)) s

/-- LDRT, immediate offset (R1155). -/
def execLdrtImm (c : Cond) (u : Bool) (rn rd : RegNo) (imm : BitVec 12) (s : State) : Host.Outcome State Fault
    Refusal :=
  outcome (conditional c (do
      checkSingle true rn rd none false
      let a ← look fun s => indexed false u true rn (imm.setWidth 32) s
      loadSingle .wload 4 true id rn rd a)) s

/-- LDRT, register offset (R1155). -/
def execLdrtReg (c : Cond) (u : Bool) (rn rd : RegNo) (amount : BitVec 5) (ty : ShiftTy) (rm : RegNo) (s : State) :
    Host.Outcome State Fault Refusal :=
  outcome (conditional c (do
      checkSingle true rn rd (some rm) false
      let a ← look fun s => indexed false u true rn (registerOffset amount ty rm s) s
      loadSingle .wload 4 true id rn rd a)) s

/-- LDRBT, immediate offset (R1156). -/
def execLdrbtImm (c : Cond) (u : Bool) (rn rd : RegNo) (imm : BitVec 12) (s : State) : Host.Outcome State Fault
    Refusal :=
  outcome (conditional c (do
      checkSingle true rn rd none false
      let a ← look fun s => indexed false u true rn (imm.setWidth 32) s
      loadSingle .byte 1 true id rn rd a)) s

/-- LDRBT, register offset (R1156). -/
def execLdrbtReg (c : Cond) (u : Bool) (rn rd : RegNo) (amount : BitVec 5) (ty : ShiftTy) (rm : RegNo) (s : State) :
    Host.Outcome State Fault Refusal :=
  outcome (conditional c (do
      checkSingle true rn rd (some rm) false
      let a ← look fun s => indexed false u true rn (registerOffset amount ty rm s) s
      loadSingle .byte 1 true id rn rd a)) s

/-- STRT, immediate offset (R1157). -/
def execStrtImm (c : Cond) (u : Bool) (rn rd : RegNo) (imm : BitVec 12) (s : State) : Host.Outcome State Fault
    Refusal :=
  outcome (conditional c (do
      checkSingle true rn rd none false
      let a ← look fun s => indexed false u true rn (imm.setWidth 32) s
      storeSingle .wstore 4 true rn rd a)) s

/-- STRT, register offset (R1157). -/
def execStrtReg (c : Cond) (u : Bool) (rn rd : RegNo) (amount : BitVec 5) (ty : ShiftTy) (rm : RegNo) (s : State) :
    Host.Outcome State Fault Refusal :=
  outcome (conditional c (do
      checkSingle true rn rd (some rm) false
      let a ← look fun s => indexed false u true rn (registerOffset amount ty rm s) s
      storeSingle .wstore 4 true rn rd a)) s

/-- STRBT, immediate offset (R1158). -/
def execStrbtImm (c : Cond) (u : Bool) (rn rd : RegNo) (imm : BitVec 12) (s : State) : Host.Outcome State Fault
    Refusal :=
  outcome (conditional c (do
      checkSingle true rn rd none false
      let a ← look fun s => indexed false u true rn (imm.setWidth 32) s
      storeSingle .byte 1 true rn rd a)) s

/-- STRBT, register offset (R1158). -/
def execStrbtReg (c : Cond) (u : Bool) (rn rd : RegNo) (amount : BitVec 5) (ty : ShiftTy) (rm : RegNo) (s : State) :
    Host.Outcome State Fault Refusal :=
  outcome (conditional c (do
      checkSingle true rn rd (some rm) false
      let a ← look fun s => indexed false u true rn (registerOffset amount ty rm s) s
      storeSingle .byte 1 true rn rd a)) s

/-- LDRH, immediate offset (R1160). -/
def execLdrhImm (c : Cond) (p u wb : Bool) (rn rd : RegNo) (immH immL : BitVec 4) (s : State) : Host.Outcome State
    Fault Refusal :=
  outcome (conditional c (do
      checkMode3 p wb
      checkSingle (!p || wb) rn rd none false
      let a ← look fun s => indexed p u wb rn (splitOffset immH immL) s
      loadSingle .half 2 false id rn rd a)) s

/-- LDRH, register offset (R1160). -/
def execLdrhReg (c : Cond) (p u wb : Bool) (rn rd rm : RegNo) (s : State) : Host.Outcome State Fault Refusal :=
  outcome (conditional c (do
      checkMode3 p wb
      checkSingle (!p || wb) rn rd (some rm) false
      let a ← look fun s => indexed p u wb rn (s.reg rm) s
      loadSingle .half 2 false id rn rd a)) s

/-- LDRSH, immediate offset (R1161). -/
def execLdrshImm (c : Cond) (p u wb : Bool) (rn rd : RegNo) (immH immL : BitVec 4) (s : State) : Host.Outcome State
    Fault Refusal :=
  outcome (conditional c (do
      checkMode3 p wb
      checkSingle (!p || wb) rn rd none false
      let a ← look fun s => indexed p u wb rn (splitOffset immH immL) s
      loadSingle .half 2 false sextHalf rn rd a)) s

/-- LDRSH, register offset (R1161). -/
def execLdrshReg (c : Cond) (p u wb : Bool) (rn rd rm : RegNo) (s : State) : Host.Outcome State Fault Refusal :=
  outcome (conditional c (do
      checkMode3 p wb
      checkSingle (!p || wb) rn rd (some rm) false
      let a ← look fun s => indexed p u wb rn (s.reg rm) s
      loadSingle .half 2 false sextHalf rn rd a)) s

/-- LDRSB, immediate offset (R1162). -/
def execLdrsbImm (c : Cond) (p u wb : Bool) (rn rd : RegNo) (immH immL : BitVec 4) (s : State) : Host.Outcome State
    Fault Refusal :=
  outcome (conditional c (do
      checkMode3 p wb
      checkSingle (!p || wb) rn rd none false
      let a ← look fun s => indexed p u wb rn (splitOffset immH immL) s
      loadSingle .byte 1 false sextByte rn rd a)) s

/-- LDRSB, register offset (R1162). -/
def execLdrsbReg (c : Cond) (p u wb : Bool) (rn rd rm : RegNo) (s : State) : Host.Outcome State Fault Refusal :=
  outcome (conditional c (do
      checkMode3 p wb
      checkSingle (!p || wb) rn rd (some rm) false
      let a ← look fun s => indexed p u wb rn (s.reg rm) s
      loadSingle .byte 1 false sextByte rn rd a)) s

/-- STRH, immediate offset (R1163). -/
def execStrhImm (c : Cond) (p u wb : Bool) (rn rd : RegNo) (immH immL : BitVec 4) (s : State) : Host.Outcome State
    Fault Refusal :=
  outcome (conditional c (do
      checkMode3 p wb
      checkSingle (!p || wb) rn rd none false
      let a ← look fun s => indexed p u wb rn (splitOffset immH immL) s
      storeSingle .half 2 false rn rd a)) s

/-- STRH, register offset (R1163). -/
def execStrhReg (c : Cond) (p u wb : Bool) (rn rd rm : RegNo) (s : State) : Host.Outcome State Fault Refusal :=
  outcome (conditional c (do
      checkMode3 p wb
      checkSingle (!p || wb) rn rd (some rm) false
      let a ← look fun s => indexed p u wb rn (s.reg rm) s
      storeSingle .half 2 false rn rd a)) s

/-- LDRD, immediate offset (R1164). -/
def execLdrdImm (c : Cond) (p u wb : Bool) (rn rd : RegNo) (immH immL : BitVec 4) (s : State) : Host.Outcome State
    Fault Refusal :=
  outcome (conditional c (do
      checkMode3 p wb
      checkDouble (!p || wb) true rn rd none
      let a ← look fun s => indexed p u wb rn (splitOffset immH immL) s
      loadDouble rn rd a)) s

/-- LDRD, register offset (R1164). -/
def execLdrdReg (c : Cond) (p u wb : Bool) (rn rd rm : RegNo) (s : State) : Host.Outcome State Fault Refusal :=
  outcome (conditional c (do
      checkMode3 p wb
      checkDouble (!p || wb) true rn rd (some rm)
      let a ← look fun s => indexed p u wb rn (s.reg rm) s
      loadDouble rn rd a)) s

/-- STRD, immediate offset (R1165). -/
def execStrdImm (c : Cond) (p u wb : Bool) (rn rd : RegNo) (immH immL : BitVec 4) (s : State) : Host.Outcome State
    Fault Refusal :=
  outcome (conditional c (do
      checkMode3 p wb
      checkDouble (!p || wb) false rn rd none
      let a ← look fun s => indexed p u wb rn (splitOffset immH immL) s
      storeDouble rn rd a)) s

/-- STRD, register offset (R1165). -/
def execStrdReg (c : Cond) (p u wb : Bool) (rn rd rm : RegNo) (s : State) : Host.Outcome State Fault Refusal :=
  outcome (conditional c (do
      checkMode3 p wb
      checkDouble (!p || wb) false rn rd (some rm)
      let a ← look fun s => indexed p u wb rn (s.reg rm) s
      storeDouble rn rd a)) s

/-- PLD, immediate offset: a hint, with no effect on the state of the model in either world (R1186). -/
def execPldImm (_u : Bool) (_rn : RegNo) (_imm : BitVec 12) (s : State) : Host.Outcome State Fault Refusal :=
  outcome advance s

/-- PLD, register offset (R1186). -/
def execPldReg (_u : Bool) (_rn : RegNo) (_amount : BitVec 5) (_ty : ShiftTy) (rm : RegNo) (s : State) :
    Host.Outcome State Fault Refusal :=
  outcome (do
      noPc [rm]
      advance) s

end Sys2Proof.Machine
end

