-- ==== Sys2Proof/Machine/Cp14.lean ====
section
/-! DEFINITION. Cp14: the debug coprocessor: its registers as the core accesses them (R410 to R428, R456), and the
operations of the debugger (R454, R460 to R470). -/

namespace Sys2Proof.Machine

/-- The registers of R410. -/
inductive Cp14 where
  | didr | dscr | dtr | wfar | vcr | dsccr | dsmcr
  | bvr (k : Fin 6)
  | bcr (k : Fin 6)
  | wvr (k : Fin 2)
  | wcr (k : Fin 2)
  deriving DecidableEq, Repr

/-- One of a row of registers, where CRm is the number of one. -/
def numbered {n : Nat} (r : Fin n → Cp14) (crm : BitVec 4) : Option Cp14 :=
  if h : crm.toNat < n then some (r ⟨crm.toNat, h⟩) else none

/-- The register that {Opcode_2, CRm} names (R410). -/
def Cp14.of? (op2 : BitVec 3) (crm : BitVec 4) : Option Cp14 :=
  if op2 = 0 then
    if crm = 0 then some .didr else if crm = 1 then some .dscr else if crm = 5 then some .dtr
    else if crm = 6 then some .wfar else if crm = 7 then some .vcr else if crm = 10 then some .dsccr
    else if crm = 11 then some .dsmcr else none
  else if op2 = 4 then numbered .bvr crm
  else if op2 = 5 then numbered .bcr crm
  else if op2 = 6 then numbered .wvr crm
  else if op2 = 7 then numbered .wcr crm
  else none

/-- DIDR (R411): the fields Variant and Revision are those of the Main ID Register. -/
def debugId : Word := 0x15121007#32

/-- The bits that a register has (R417 to R425): the others read as zero (decision D8). -/
def Cp14.bits (r : Cp14) : Word :=
  match r with
  | .didr | .dscr | .dtr | .wfar => 0xFFFFFFFF#32
  | .vcr => 0xDE00DCDF#32
  | .dsccr => 0x7#32
  | .dsmcr => 0x5F#32
  | .bvr k => if k.val < 4 then 0xFFFFFFFC#32 else 0xFFFFFFFF#32
  | .bcr k => if k.val < 4 then 0x005FC1E7#32 else 0x007FC1E7#32
  | .wvr _ => 0xFFFFFFFC#32
  | .wcr _ => 0x001FC1FF#32

/-- The DSCR as read (R412): bits 18 to 16 follow the world and the pins, and bits 15 and 14 read as 0 with DBGEN LOW. -/
def State.readDscr (s : State) : Word :=
  (s.dbg.dscr &&& (if s.pins.dbgen then 0xFFFFFFFF#32 else 0xFFFF3FFF#32)) ||| bitAt (!s.isSecure) 18 |||
    bitAt (!s.pins.spniden) 17 ||| bitAt (!s.pins.spiden) 16

/-- Change the debug registers. -/
def State.setDebug (s : State) (f : Debug → Debug) : State := { s with dbg := f s.dbg }

/-- What a read gives; the DTR is the rDTR (R415). -/
def Cp14.value (r : Cp14) (s : State) : Word :=
  match r with
  | .didr => debugId
  | .dscr => s.readDscr
  | .dtr => s.dbg.rdtr
  | .wfar => s.dbg.wfar
  | .vcr => s.dbg.vcr
  | .dsccr => s.dbg.dsccr
  | .dsmcr => s.dbg.dsmcr
  | .bvr k => s.dbg.bvr[k]
  | .bcr k => s.dbg.bcr[k]
  | .wvr k => s.dbg.wvr[k]
  | .wcr k => s.dbg.wcr[k]

/-- The core has read the rDTR: rDTRfull is cleared (R415). -/
def State.tookRdtr (s : State) : State := s.setDebug fun d => { d with dscr := d.dscr &&& ~~~0x40000000#32 }

/-- What a read does besides. -/
def Cp14.afterRead (r : Cp14) (s : State) : State := if r = .dtr then s.tookRdtr else s

/-- The core writes the wDTR, and wDTRfull is set (R415). -/
def State.putWdtr (s : State) (v : Word) : State :=
  s.setDebug fun d => { d with wdtr := v, dscr := d.dscr ||| 0x20000000#32 }

/-- Write a register from the core: of the DSCR bits 15, 12 and 5 to 2 (R412); the DTR is the wDTR. -/
def Cp14.put (r : Cp14) (v : Word) (s : State) : State :=
  let w := v &&& r.bits
  match r with
  | .didr => s
  | .dscr => s.setDebug fun d => { d with dscr := (d.dscr &&& ~~~0x903C#32) ||| (v &&& 0x903C#32) }
  | .dtr => s.putWdtr v
  | .wfar => s.setDebug fun d => { d with wfar := v }
  | .vcr => s.setDebug fun d => { d with vcr := w }
  | .dsccr => s.setDebug fun d => { d with dsccr := w }
  | .dsmcr => s.setDebug fun d => { d with dsmcr := w }
  | .bvr k => s.setDebug fun d => { d with bvr := d.bvr.set k w }
  | .bcr k => s.setDebug fun d => { d with bcr := d.bcr.set k w }
  | .wvr k => s.setDebug fun d => { d with wvr := d.wvr.set k w }
  | .wcr k => s.setDebug fun d => { d with wcr := d.wcr.set k w }

/-- The value would enable a breakpoint with a reserved meaning (U21, R433). -/
def Cp14.reservedBreakpoint (r : Cp14) (v : Word) : Bool :=
  match r with
  | .bcr _ => (v &&& r.bits).getLsbD 0 && (v &&& r.bits).extractLsb' 21 2 == 0b11#2
  | _ => false

/-- Who may access a register (R428): in Debug state anyone. -/
def Cp14.permitted (r : Cp14) (write : Bool) (s : State) : Bool :=
  s.halted ||
  match r with
  | .didr | .dtr => s.privileged || !s.dbg.dscr.getLsbD 12
  | .dscr => s.privileged || (!write && !s.dbg.dscr.getLsbD 12)
  | _ => s.privileged && s.debugMode = 0b10#2

/-- What CP14 names: a debug register (R410), or one of the ETM's space (R38). -/
inductive Cp14Space where
  | debug (r : Cp14)
  | trace
  deriving DecidableEq, Repr

/-- R410, R427: the debug registers have Opcode_1 = 0 and CRn = 0. -/
def Cp14Space.of? (op1 : BitVec 3) (crn crm : BitVec 4) (op2 : BitVec 3) : Option Cp14Space :=
  if op1 = 1 then some .trace
  else if op1 = 0 ∧ crn = 0 then (Cp14.of? op2 crm).map .debug else none

/-- The ETM's space is for privileged modes (decision D25). -/
def State.tracePort (s : State) : Bool := s.privileged || s.halted

/-- MRC of CP14. With R15 as destination: from the DSCR its bits 30 and 29 go to Z and C and the other two flags are
cleared (R414, decision D8); from the others the flags become free values (U20). -/
def cp14Read (op1 : BitVec 3) (crn crm : BitVec 4) (op2 : BitVec 3) (rd : RegNo) : Exec Unit := do
  match Cp14Space.of? op1 crn crm op2 with
  | none => takeUndefined
  | some .trace => do
    let ok ← look State.tracePort
    if !ok then takeUndefined
    else if rd = 15 then do
      openFlags
      advance
    else finishReg rd 0
  | some (.debug r) => do
    let ok ← look (r.permitted false)
    if !ok then takeUndefined else
    let v ← look r.value
    update r.afterRead
    if rd = 15 then do
      if r = .dscr then
        update fun s => s.setFlags (s.cpsr.setNZCV (0b0110#4 &&& v.extractLsb' 28 4))
      else openFlags
      advance
    else finishReg rd v

/-- MCR of CP14: from R15 it is Undefined (R414); the DIDR is read-only (R427). Writes to the ETM's space are ignored. -/
def cp14Write (op1 : BitVec 3) (crn crm : BitVec 4) (op2 : BitVec 3) (rd : RegNo) : Exec Unit := do
  match Cp14Space.of? op1 crn crm op2 with
  | none => takeUndefined
  | some .trace => do
    let ok ← look State.tracePort
    if !ok then takeUndefined
    else if rd = 15 then refuse .unpredictableEncoding
    else advance
  | some (.debug r) => do
    let ok ← look (r.permitted true)
    if !ok || r = .didr || rd = 15 then takeUndefined else
    let v ← look fun s => s.reg rd
    if r.reservedBreakpoint v then refuse .reservedBreakpoint else
    update (r.put v)
    advance

/-! LDC and STC of CP14 (R415, R427): one word, addressing mode 5 (R1312) -/

/-- An addressing mode 5 form: offset or pre-indexed, post-indexed, unindexed. -/
inductive Mode5 where
  | offset (u wb : Bool) (imm : BitVec 8)
  | post (u : Bool) (imm : BitVec 8)
  | unindexed
  deriving DecidableEq, Repr

/-- The address, and the new base where there is one (R1312). -/
def Mode5.at (m : Mode5) (rn : RegNo) (s : State) : Indexed :=
  match m with
  | .offset u wb imm => indexed true u wb rn (imm.setWidth 32 <<< 2) s
  | .post u imm => indexed false u false rn (imm.setWidth 32 <<< 2) s
  | .unindexed => { addr := s.reg rn, back := none }

/-- The checks of an LDC or STC of CP14, and where it goes: only c5 and the short form are listed (R427, decision D25). -/
def debugTransfer (nBit : Bool) (crd : BitVec 4) (rn : RegNo) (m : Mode5) (write : Bool) : Exec Indexed := do
  let ok ← look (Cp14.dtr.permitted write)
  if nBit || crd != 5 || !ok then takeUndefined else
  let a ← look (m.at rn)
  refuseIf (rn = 15 && a.back.isSome)
  pure a

/-- LDC: a word of memory goes to the wDTR (R1308). -/
def debugLoad (nBit : Bool) (crd : BitVec 4) (rn : RegNo) (m : Mode5) : Exec Unit := do
  let a ← debugTransfer nBit crd rn m true
  let priv ← look State.privileged
  let p : Acc := { ty := .multi, write := false, priv := priv }
  let (b, _) ← alignData p a.addr
  let v ← readWordAt p b
  writeBase rn a.back
  update fun s => s.putWdtr v
  advance

/-- STC: the rDTR goes to memory (R1309). -/
def debugStore (nBit : Bool) (crd : BitVec 4) (rn : RegNo) (m : Mode5) : Exec Unit := do
  let a ← debugTransfer nBit crd rn m false
  let priv ← look State.privileged
  let p : Acc := { ty := .multi, write := true, priv := priv }
  let (b, _) ← alignData p a.addr
  writeWordAt p b (← look fun s => s.dbg.rdtr)
  writeBase rn a.back
  update State.tookRdtr
  advance

/-! The debugger's operations, between instructions (R470, decision D18) -/

/-- ReadIDCODE (R460). -/
def State.debuggerIdCode (s : State) : Word :=
  (s.pins.dbgVersion.setWidth 32 <<< 28) ||| 0x07B76000#32 ||| (s.pins.dbgManId.setWidth 32 <<< 1) ||| 1#32

/-- ReadDIDR: the implementor code and the DIDR (R463). -/
def debuggerId : BitVec 40 := 0x41#8 ++ debugId

/-- ReadDSCR clears the sticky bits 8 to 6 (R412). -/
def State.debuggerReadDscr (s : State) : Word × State :=
  (s.readDscr, s.setDebug fun d => { d with dscr := d.dscr &&& ~~~0x1C0#32 })

/-- WriteDSCR: bits 14, 13, 11, 10 and 9 (R412). Clearing bit 13 while an issued instruction has not completed is refused
(R465). -/
def State.debuggerWriteDscr (s : State) (v : Word) : Host.Outcome State Fault Refusal :=
  if s.dbg.dscr.getLsbD 13 && !v.getLsbD 13 && !s.dbg.instCompl then .refused .debugCommunications
  else .next (s.setDebug fun d => { d with dscr := (d.dscr &&& ~~~0x6E00#32) ||| (v &&& 0x6E00#32) })

/-- Halt (R470): it enters Debug state where debug is permitted, and otherwise at the first instruction boundary at which it
is (R431); in Debug state it is ignored (R447). DESIGN CHOICE (log 23): the entry takes a request that was still pending with
it. -/
def State.debuggerHalt (s : State) : State :=
  if s.halted then s
  else if s.debugPermitted then (s.enterDebug .haltCommand).setDebug fun d => { d with haltRequest := false }
  else s.setDebug fun d => { d with haltRequest := true }

/-- Restart (R454): execution resumes at the PC last written, or at the frozen one (decision D18). After a write of the
CPSR and none of the PC it is refused (U22). DESIGN CHOICE (log 23): outside Debug state it does nothing. -/
def State.debuggerRestart (s : State) : Host.Outcome State Fault Refusal :=
  if !s.halted then .next s
  else if s.dbg.cpsrWritten && !s.dbg.pcWritten then .refused .unpredictableRestart
  else .next (s.setDebug fun d => { d with dscr := (d.dscr &&& ~~~0x80001#32) ||| 2 })

/-- Issue is possible (R464): in Debug state with DSCR[13] set, DSCR[6] clear and the last instruction completed. -/
def State.mayIssue (s : State) : Bool :=
  s.halted && s.dbg.dscr.getLsbD 13 && !s.dbg.dscr.getLsbD 6 && s.dbg.instCompl

/-- WriteRDTR: whether it was done: with DSCR[13] clear that needs an empty rDTR, with DSCR[13] set a completed instruction
(R465), which there always is, so that the empty rDTR remains (R470). -/
def State.debuggerWriteRdtr (s : State) (v : Word) : Bool × State :=
  if s.dbg.dscr.getLsbD 30 || (s.dbg.dscr.getLsbD 13 && !s.dbg.instCompl) then (false, s)
  else (true, s.setDebug fun d => { d with rdtr := v, dscr := d.dscr ||| 0x40000000#32 })

/-- ReadWDTR: the word, whether it was valid, and wDTRfull cleared (R465). -/
def State.debuggerReadWdtr (s : State) : Word × Bool × State :=
  (s.dbg.wdtr, s.dbg.dscr.getLsbD 29, s.setDebug fun d => { d with dscr := d.dscr &&& ~~~0x20000000#32 })

/-- The registers of scan chain 7 (R467), the PC sample apart. DESIGN CHOICE (log 105): addresses 9 to 18, which R467 does
not list, are refused like the reserved ones. -/
def debuggerRegister (a : BitVec 7) : Option Cp14 :=
  if a = 7 then some .vcr
  else if decide (64 ≤ a.toNat) then Cp14.of? (a.extractLsb' 4 3) (a.extractLsb' 0 4) else none

/-- What the program counter sample register shows of an instruction committed for execution (R468). -/
def State.pcSample (s : State) : Word := if s.cpsr.t then (s.pc + 4) ||| 1 else (s.pc + 8) &&& ~~~3#32

/-- The program counter sample register as read (R468). -/
def State.debuggerPc (s : State) : Word := if s.halted || !s.tracePermitted then 0xFFFFFFFF#32 else s.dbg.sample

/-- ReadReg (R467): nothing for the NULL register, for which no request is generated; refused for a reserved one. -/
def State.debuggerRead (s : State) (a : BitVec 7) : Host.Outcome (Option Word) Fault Refusal :=
  if a = 0 then .next none
  else if a = 8 then .next (some s.debuggerPc)
  else match debuggerRegister a with
    | none => .refused .reservedDebugRegister
    | some r => .next (some (r.value s))

/-- WriteReg: refused for a reserved register, and for a breakpoint with a reserved meaning (U21). -/
def State.debuggerWrite (s : State) (a : BitVec 7) (v : Word) : Host.Outcome State Fault Refusal :=
  if a = 0 || a = 8 then .next s
  else match debuggerRegister a with
    | none => .refused .reservedDebugRegister
    | some r => if r.reservedBreakpoint v then .refused .reservedBreakpoint else .next (r.put v s)

/-- An instruction shifted into the DBGTAP controller: the unused ones are Bypass (R461). -/
def State.debuggerTap (s : State) (i : BitVec 5) : State :=
  s.setDebug fun d => { d with tapInstr :=
    if [0b00000#5, 0b00010, 0b00100, 0b01000, 0b01100, 0b11101, 0b11110].contains i then i else 0b11111 }

/-- Scan_N: select a scan chain (R461). -/
def State.debuggerScan (s : State) (chain : BitVec 5) : State :=
  s.setDebug fun d => { d with tapInstr := 0b00010, tapChain := chain }

/-- DbgTapReset (R461, R1641, R1642): IDcode becomes the instruction and scan chain 3 the active one; nothing else changes. -/
def State.debuggerTapReset (s : State) : State := s.setDebug fun d => { d with tapInstr := 0b11110, tapChain := 3 }

end Sys2Proof.Machine
end

