-- ==== Sys2Proof/Machine/Maintenance.lean ====
section
/-! DEFINITION. Maintenance: what the CP15 operations on caches, branch target cache, prefetch buffer, TLB and address
translation do to the model's state (R225 to R283, R612, R638, R694, R745), and the barriers. -/

namespace Sys2Proof.Machine

/-- The world that an MCR or MRC of a banked CP15 register reaches: SCR.NS, in Secure Monitor mode too (R104). -/
def State.copyNs (s : State) : Bool := s.cp15.scr.getLsbD 0

/-! Barriers and the IMB sequence (R254 to R258, R612) -/

/-- A barrier completes in Debug state: DSCR[19] is set (R453, decision D18). -/
def State.barrierHalted (s : State) : State :=
  if s.halted then { s with dbg := { s.dbg with dscr := s.dbg.dscr ||| 0x80000 } } else s

/-- Data Synchronization Barrier (R254, R605): the bytes stored so far, those still in the data cache apart, have reached
memory. -/
def State.dataSync (s : State) : State := (s.passCode .stored .drained fun c => !s.isDirty c.key).barrierHalted

/-- Data Memory Barrier (R255, R606). -/
def State.dataBarrier (s : State) : State := s.barrierHalted

/-- The instruction prediction of the current world is disabled (Control Register bit Z): there is no branch target to
flush for a byte of an Instruction TCM (R1671 row 11). -/
def State.unpredicted (s : State) (key : Nat) : Bool := isTcmKey key && !s.sctlr 11

/-- Flush Prefetch Buffer (R256): the bytes for which the rest of the IMB sequence is done may be executed; where the branch
target cache has been flushed by entry, through those entries (R258). -/
def State.flushPrefetch (s : State) : State :=
  { s with codeStale := (s.codeStale.filter fun c =>
      !(c.stage = .flushed || (c.stage = .invalidated && s.unpredicted c.key))).map fun c =>
      if c.stage = .invalidated then { c with ready := c.entries } else c }

/-- Flush Branch Target Cache Entry by MVA (R258). -/
def State.flushBranchEntry (s : State) (mva : Word) : State :=
  { s with codeStale := s.codeStale.map fun c =>
      if c.stage = .invalidated then { c with entries := mva >>> 3 :: c.entries } else c }

/-- The Master Valid bits of a cache are cleared, as by reset and by an operation that invalidates all of it
(91_not_in_source.md N22; DEDUCED, log 54). -/
def State.clearMasterValid (s : State) (data : Bool) : State :=
  { s with cp15 :=
      if data then { s.cp15 with dMasterValid := Vector.replicate 8 0 }
      else { s.cp15 with iMasterValid := Vector.replicate 8 0 } }

/-- Every line of the instruction cache is invalidated, and the branch target cache flushed (R232, R238). -/
def State.dropCode (s : State) : State :=
  ((s.passCode .drained .invalidated fun _ => true).flushBranches).clearMasterValid false

/-- Invalidate Entire Instruction Cache, which flushes the prefetch buffer too (R1671 row 17). -/
def State.invalidateCode (s : State) : State := s.dropCode.flushPrefetch

/-- Invalidate the instruction cache line that holds the byte under a key, filled through an MVA with an NS attribute
(R233). -/
def State.invalidateCodeLine (s : State) (mva : Word) (ns : Bool) (key : Nat) : State :=
  s.passCode .drained .invalidated fun c => c.key / 32 == key / 32 && c.ns == ns && c.colour == s.codeColour mva

/-- The set of the instruction cache that holds a byte. -/
def State.codeSet (s : State) (c : StaleCode) : Nat := (c.key / 32 % 2 ^ 7 + c.colour.toNat * 2 ^ 7) % 2 ^ s.setBits false

/-- Invalidate the instruction cache line in a way of a set: the byte is done with when all ways are; from the Non-secure
world only Non-secure lines (R229, R234). -/
def State.invalidateCodeIndex (s : State) (way : BitVec 2) (set : Nat) : State :=
  { s with codeStale := s.codeStale.map fun c =>
      if c.stage = .drained && s.codeSet c == set && (s.isSecure || c.ns) then
        let rest := c.ways &&& ~~~(1#4 <<< way.toNat)
        { c with ways := rest, stage := if rest = 0 then .invalidated else .drained }
      else c }

/-! The data cache (R229, R235 to R245, R745) -/

/-- The lines an operation selects. -/
inductive Lines where
  | all
  /-- The line that an access through this MVA to this address with this NS attribute hits: none where it misses (R227). -/
  | line (mva pa : Word) (ns : Bool)
  /-- The line with this index in this way. -/
  | index (way : BitVec 2) (set : Nat)
  deriving DecidableEq, Repr

/-- An operation reaches a line: from the Non-secure world only Non-secure lines (R229). -/
def Lines.reach (l : Lines) (s : State) (c : CacheLine) : Bool :=
  (s.isSecure || c.ns) &&
  match l with
  | .all => true
  | .line mva pa ns => c.set == s.setOf true mva && c.line == pa.toNat / 32 && c.ns == ns && s.counts c
  | .index w i => c.way == w && c.set == i

/-- The address by which R803 says where a write-back starts: for an operation on a line by its address that address, for the
others the first byte of each line (DESIGN CHOICE, log 100: R803 keys its tables by the address of an access). -/
def Lines.address : Lines → Word
  | .all => 0
  | .line _ pa _ => pa
  | .index _ _ => 0

/-- Clean a line, for an operation at an address: its dirty halves are written back and it stays valid. -/
def State.cleanInPlace (s : State) (l : CacheLine) (a : Word) : State :=
  if l.dirty then (s.cleanLine l a).putLine { l with dirtyLow := false, dirtyHigh := false } else s

/-- Clean lines, each as it stands in the list, the one last put first. DESIGN CHOICE (log 86): R239 gives no order, which
counts where a Secure and a Non-secure dirty line are of one address and no bank tells the worlds apart. -/
def State.cleanLines (s : State) (l : Lines) : State :=
  (s.dcache.filter fun c => s.counts c && l.reach s c).foldl (fun t c => t.cleanInPlace c l.address) s

/-- Invalidate lines: what was not cleaned is lost (R235). From the Secure world all lines are all of the cache. -/
def State.invalidateLines (s : State) (l : Lines) : State :=
  let t := { s with dcache := s.dcache.filter fun c => !l.reach s c }
  if l = .all && s.isSecure then t.clearMasterValid true else t

/-- The whole-cache operations leave the cache clean (R248): from the Secure world both Cache Dirty Status Registers are
cleared, from the Non-secure world its own. -/
def State.clearDirtyStatus (s : State) : State :=
  let t := { s with nonSecure := { s.nonSecure with cacheDirty := false } }
  if s.isSecure then { t with secure := { t.secure with cacheDirty := false } } else t

/-- The operations on the data cache. -/
inductive CacheOp where
  | clean | invalidate | cleanInvalidate
  deriving DecidableEq, Repr

/-- An operation on lines. -/
def CacheOp.run (op : CacheOp) (l : Lines) (s : State) : State :=
  match op with
  | .clean => s.cleanLines l
  | .invalidate => s.invalidateLines l
  | .cleanInvalidate => (s.cleanLines l).invalidateLines l

/-- The same, with what it does to the Cache Dirty Status. -/
def CacheOp.apply (op : CacheOp) (l : Lines) : Exec Unit :=
  update fun s => if l = .all then (op.run l s).clearDirtyStatus else op.run l s

/-- The way of a word in Set and Index format, and the set among `2 ^ bits` (R226). -/
def wayOf (v : Word) : BitVec 2 := v.extractLsb' 30 2
def indexOf (v : Word) (bits : Nat) : Nat := (v.extractLsb' 5 25).toNat % 2 ^ bits

/-! Operations by address (R227, R694) -/

/-- Report the failed translation of a maintenance operation (R692, R694): on the instruction side the DFSR says so and
the IFSR gives the reason. Whether it counts as a read or a write is open. DESIGN CHOICE (log 84): the FAR shows the address
that the instruction gave, its five low bits among them; (log 97) in Debug state too the IFAR is written, with the MVA of the PC
as it stands, and on the instruction side the IFSR, beside the DFSR and FAR that R452 names. -/
def maintenanceAbort (instr : Bool) (f : MmuFault) (mva : Word) : Exec Unit := do
  let w ← draw
  let write := w.getLsbD 0
  endWith fun s =>
    let world := s.abortWorld f.error.isSome
    let t := s.setBankOf world fun b =>
      { b with ifar := s.fcse (!s.isSecure) s.pc, ifsr := if instr then ifsrOf f else b.ifsr }
    let t := t.dataAbort f mva write
    if instr then
      t.setBankOf world fun b => { b with dfsr := dfsrOf { status := 0b00100, domain := none, error := none } write }
    else t

/-- The physical address and NS attribute behind an MVA of the current world; permissions and domains are not checked
(R694). -/
def locate (instr : Bool) (mva : Word) : Exec (Word × Bool) := fun s =>
  let ns := !s.isSecure
  if !(s.bankOf ns).sctlr.getLsbD 0 then .ok ((mva, ns), s)
  else match s.lookup ns (s.asidOf ns) mva with
    | .found m t => .ok ((m.pa, ns || m.ns), t)
    | .abort f t => (do maintenanceAbort instr f mva; pure (0, false)) t
    | .refused r => .error (.refused r)

/-- An operation on the data cache line of an MVA. -/
def CacheOp.atMva (op : CacheOp) (mva : Word) : Exec Unit := do
  let (pa, ns) ← locate false mva
  op.apply (.line mva pa ns)

/-- Invalidate the instruction cache line of an MVA. -/
def invalidateCodeMva (mva : Word) : Exec Unit := do
  let (pa, ns) ← locate true mva
  update fun s => s.invalidateCodeLine mva ns (s.byteKey true ns pa)

/-- Prefetch Instruction Cache Line (R242): the translation is all that shows. DESIGN CHOICE (log 103): no access to the bus
is made, so that an external error on the linefill is not met. -/
def prefetchCode (mva : Word) : Exec Unit := do
  let _ ← locate true mva
  pure ()

/-- An operation on each of `n` lines from a virtual address up, which the FCSE translates (R228, R250).
DESIGN CHOICE (log 102): the lines are taken upward, so that those below a faulting one are already operated on. -/
def eachLine (f : Word → Exec Unit) (va : Word) : Nat → Exec Unit
  | 0 => pure ()
  | n + 1 => do
    let mva ← look fun s => s.fcse (!s.isSecure) va
    f mva
    eachLine f (va + 32) n

/-- A range operation, on nothing where the start is above the end (R250). DESIGN CHOICE (log 56): this compares the whole
addresses, the bits below the line among them; (log 84) the FAR of an aborted one shows the first byte of its line. -/
def onRange (f : Word → Exec Unit) (first last : Word) : Exec Unit :=
  if last < first then pure ()
  else eachLine f (first &&& ~~~31#32) (last.toNat / 32 - first.toNat / 32 + 1)

/-! The TLB (R280 to R283) -/

/-- Invalidate the unlocked entries of a world. -/
def State.tlbInvalidateAll (s : State) (ns : Bool) : State :=
  { s with walks := s.walks.filter fun r => r.nonSecure != ns }

/-- Make lockdown entries invalid. -/
def Cp15Common.unlock (c : Cp15Common) (p : TlbEntry → Bool) : Cp15Common :=
  { c with tlbLock := c.tlbLock.map fun e => if p e then { e with pa := e.pa &&& ~~~1#32 } else e }

/-- Invalidate the entries of a world that an MVA and ASID match, locked ones too (R281). -/
def State.tlbInvalidateMva (s : State) (ns : Bool) (v : Word) : State :=
  let asid := v.extractLsb' 0 8
  let mva := v &&& 0xFFFFF000#32
  { s with
    walks := s.walks.filter fun r => !(r.nonSecure == ns && decide (r.first ≤ mva.toNat) && decide (mva.toNat ≤ r.last)
      && (r.asid == none || r.asid == some asid))
    cp15 := s.cp15.unlock fun e => e.covers ns asid mva }

/-- Invalidate the entries of a world that belong to an ASID, locked ones too (R282). -/
def State.tlbInvalidateAsid (s : State) (ns : Bool) (v : Word) : State :=
  let asid := v.extractLsb' 0 8
  { s with
    walks := s.walks.filter fun r => !(r.nonSecure == ns && r.asid == some asid)
    cp15 := s.cp15.unlock fun e => e.pa.getLsbD 8 == ns && !e.va.getLsbD 9 && e.va.extractLsb' 0 8 == asid }

/-! VA to PA translation (R260 to R263) -/

/-- The PA Register after a successful translation (R262), with the attributes an access would have, after the remaps of
TCM and peripheral port, and OUTER 0b00 for Strongly Ordered and Device memory (DESIGN CHOICE, log 58): inner Write-Back with
write allocation has no code of its own and is shown as Write-Back (DEDUCED, log 36). -/
def parOf (x : Translation) : Word :=
  let inner : Word := match x.attrs.ty with
    | .stronglyOrdered => 0b001
    | .device => 0b011
    | .normal => if x.attrs.inner = 0b00#2 then 0b000 else if x.attrs.inner = 0b10#2 then 0b110 else 0b111
  (x.pa &&& 0xFFFFFC00#32) ||| bitAt x.ns 9 ||| bitAt x.attrs.shared 7 ||| (inner <<< 4) |||
    (x.attrs.outer.setWidth 32 <<< 2)

/-- The PA Register after an aborted translation (R262). -/
def parOfFault (f : MmuFault) : Word :=
  bitAt (f.error == some .slverr) 6 ||| bitAt (f.status.getLsbD 4) 5 ||| ((f.status.extractLsb' 0 4).setWidth 32 <<< 1) |||
    1#32

/-- The fault of a VA to PA operation as the PA Register shows it: a miss that only the lockdown entries could have answered,
since the walks are disabled, is a TLB miss, 0b00000 (R690; DEDUCED, log 81). -/
def MmuFault.shown (f : MmuFault) (b : Cp15Banked) (mva : Word) : MmuFault :=
  if walkDisabled b mva && f.status = 0b00101#5 then { f with status := 0b00000 } else f

/-- Write the PA Register of the current world. -/
def State.setPar (s : State) (v : Word) : State := s.setBankOf (!s.isSecure) fun b => { b with par := v }

/-- The operations c7,c8 `k`: bit 0 write, bit 1 User, bit 2 the Non-secure world seen from the Secure one. DESIGN CHOICE
(log 57): an external abort counts in DFSR[11] as a write where the operation checks the right to write. -/
def translateVa (k : BitVec 3) (va : Word) : Exec Unit := fun s =>
  let ns := k.getLsbD 2 || !s.isSecure
  let mva := s.fcse ns va
  match s.translate ns (s.asidOf ns) mva (if k.getLsbD 0 then .write else .read) (!k.getLsbD 1) .data with
  | .ok x t => .ok ((), t.setPar (parOf x))
  | .abort f t =>
    let u := t.setPar (parOfFault (f.shown (s.bankOf ns) mva))
    if f.error.isSome then takeDataAbort f mva (k.getLsbD 0) u else .ok ((), u)
  | .refused r => .error (.refused r)

end Sys2Proof.Machine
end

