-- ==== Sys2Proof/Machine/Cp15.lean ====
section
/-! DEFINITION. Cp15: the system control coprocessor (R100 to R374): its map, who may access what, and what every read and
write does. -/

namespace Sys2Proof.Machine

/-- What an operation selects lines, or TLB entries, by. -/
inductive By where
  | all | mva | index
  deriving DecidableEq, Repr

/-- The registers and operations of R106. -/
inductive Cp15 where
  /-- A read-only identification register. -/
  | ident (value : Word)
  /-- The Cache Type and TCM Status Registers, whose values follow from the parameters. -/
  | cacheType | tcmStatus
  | sctlr | actlr | cpacr | scr | sder | nsacr | ttbr0 | ttbr1 | ttbcr | dacr | dfsr | ifsr | far | wfar | ifar
  | wfi | par | flushPrefetch | dsb | dmb
  /-- The unified cache operations without effect (R225). -/
  | noOp
  | invalidateCode (by_ : By)
  | prefetchCode | flushBranches | flushBranchEntry
  | dataCache (op : CacheOp) (by_ : By)
  | invalidateBoth
  | vaToPa (k : BitVec 3)
  | cacheDirty
  /-- Invalidate TLB entries: all unlocked, by MVA, by ASID (`index`). -/
  | tlb (by_ : By)
  | dLock | iLock
  | tcmRegion (data : Bool)
  | tcmAccess (data : Bool)
  | tcmSelect | cbor | tlbLockdown | prrr | nmrr
  | dmaIdent (k : Nat)
  | dmaUser | dmaChannel
  /-- 0 Stop, 1 Start, 2 Clear. -/
  | dmaCommand (k : Nat)
  | dmaControl | dmaIntStart | dmaExtStart | dmaIntEnd | dmaStatus | dmaContext
  | vbar | mvbar | interruptStatus | fcse | contextId | tidUserRw | tidUserRo | tidPriv | ppmr | savc | pmnc | ccnt
  | count (second : Bool)
  /-- System Validation Counter: the external debug request counter, and the encodings without effect (R360). -/
  | valCounter (debugRequest : Bool)
  | valOperation | cacheSizeMask
  | masterValid (data : Bool) (n : Nat)
  | lockIndex | lockVa | lockPa | lockAttr
  deriving DecidableEq, Repr

/-! The map (R106): keys are (CRn, Opcode_1, CRm, Opcode_2) -/

/-- A row of the map. -/
abbrev Cp15Row := (Nat × Nat × Nat × Nat) × Cp15

/-- The row of CRn, Opcode_1, CRm, Opcode_2. -/
def row (crn op1 crm op2 : Nat) (r : Cp15) : Cp15Row := ((crn, op1, crm, op2), r)

/-- The Dsize and Isize fields of the Cache Type Register (R112). -/
def CacheSize.typeField (c : Config.CacheSize) : Word :=
  (if 5 < c.code then 0x800#32 else 0) ||| (BitVec.ofNat 32 c.code <<< 6) ||| 0x12#32

/-- The Cache Type Register (R112): Ctype 0b1110 and S = 1 as the field list has them, before the printed example, as
90_conflicts trusts a bit table over a summary (DEDUCED, log 50). -/
def Params.cacheType (p : Config.Params) : Word :=
  0x1D000000#32 ||| (CacheSize.typeField p.dcache <<< 12) ||| CacheSize.typeField p.icache

/-- The TCM Status Register (R113). -/
def Params.tcmStatus (p : Config.Params) : Word :=
  (BitVec.ofNat 32 p.dtcm.count <<< 16) ||| BitVec.ofNat 32 p.itcm.count

/-- c0 (R110 to R128). -/
def identRows : List Cp15Row :=
  [row 0 0 0 0 (.ident 0x410FB767), row 0 0 0 1 .cacheType, row 0 0 0 2 .tcmStatus,
   row 0 0 0 3 (.ident 0x00000800), row 0 0 0 4 (.ident 0x410FB767), row 0 0 0 5 (.ident 0x410FB767),
   row 0 0 0 6 (.ident 0x410FB767), row 0 0 0 7 (.ident 0x410FB767), row 0 0 1 0 (.ident 0x00000111),
   row 0 0 1 1 (.ident 0x00000011), row 0 0 1 2 (.ident 0x00000033), row 0 0 1 3 (.ident 0x00000000),
   row 0 0 1 4 (.ident 0x01130003), row 0 0 1 5 (.ident 0x10030302), row 0 0 1 6 (.ident 0x01222100),
   row 0 0 1 7 (.ident 0x00000000), row 0 0 2 0 (.ident 0x00140011), row 0 0 2 1 (.ident 0x12002111),
   row 0 0 2 2 (.ident 0x11231121), row 0 0 2 3 (.ident 0x01102131), row 0 0 2 4 (.ident 0x00001141),
   row 0 0 2 5 (.ident 0x00000000)]

/-- c1 to c6. -/
def controlRows : List Cp15Row :=
  [row 1 0 0 0 .sctlr, row 1 0 0 1 .actlr, row 1 0 0 2 .cpacr, row 1 0 1 0 .scr, row 1 0 1 1 .sder,
   row 1 0 1 2 .nsacr, row 2 0 0 0 .ttbr0, row 2 0 0 1 .ttbr1, row 2 0 0 2 .ttbcr, row 3 0 0 0 .dacr,
   row 5 0 0 0 .dfsr, row 5 0 0 1 .ifsr, row 6 0 0 0 .far, row 6 0 0 1 .wfar, row 6 0 0 2 .ifar]

/-- c7. -/
def cacheRows : List Cp15Row :=
  [row 7 0 0 4 .wfi, row 7 0 4 0 .par, row 7 0 5 0 (.invalidateCode .all), row 7 0 5 1 (.invalidateCode .mva),
   row 7 0 5 2 (.invalidateCode .index), row 7 0 5 4 .flushPrefetch, row 7 0 5 6 .flushBranches,
   row 7 0 5 7 .flushBranchEntry, row 7 0 6 0 (.dataCache .invalidate .all),
   row 7 0 6 1 (.dataCache .invalidate .mva), row 7 0 6 2 (.dataCache .invalidate .index),
   row 7 0 7 0 .invalidateBoth, row 7 0 10 0 (.dataCache .clean .all), row 7 0 10 1 (.dataCache .clean .mva),
   row 7 0 10 2 (.dataCache .clean .index), row 7 0 10 4 .dsb, row 7 0 10 5 .dmb, row 7 0 10 6 .cacheDirty,
   row 7 0 13 1 .prefetchCode, row 7 0 14 0 (.dataCache .cleanInvalidate .all),
   row 7 0 14 1 (.dataCache .cleanInvalidate .mva), row 7 0 14 2 (.dataCache .cleanInvalidate .index)] ++
  ((List.range 8).map fun k => row 7 0 8 k (.vaToPa (BitVec.ofNat 3 k))) ++
  ((List.range 7).map fun k => row 7 0 7 (k + 1) .noOp) ++
  ((List.range 8).map fun k => row 7 0 11 k .noOp) ++ ((List.range 8).map fun k => row 7 0 15 k .noOp)

/-- c8 to c10. -/
def lockRows : List Cp15Row :=
  [row 8 0 5 0 (.tlb .all), row 8 0 5 1 (.tlb .mva), row 8 0 5 2 (.tlb .index), row 8 0 6 0 (.tlb .all),
   row 8 0 6 1 (.tlb .mva), row 8 0 6 2 (.tlb .index), row 8 0 7 0 (.tlb .all), row 8 0 7 1 (.tlb .mva),
   row 8 0 7 2 (.tlb .index), row 9 0 0 0 .dLock, row 9 0 0 1 .iLock, row 9 0 1 0 (.tcmRegion true),
   row 9 0 1 1 (.tcmRegion false), row 9 0 1 2 (.tcmAccess true), row 9 0 1 3 (.tcmAccess false),
   row 9 0 2 0 .tcmSelect, row 9 0 8 0 .cbor, row 10 0 0 0 .tlbLockdown, row 10 0 2 0 .prrr,
   row 10 0 2 1 .nmrr]

/-- c11 to c13. -/
def dmaRows : List Cp15Row :=
  ((List.range 4).map fun k => row 11 0 0 k (.dmaIdent k)) ++
  [row 11 0 1 0 .dmaUser, row 11 0 2 0 .dmaChannel, row 11 0 3 0 (.dmaCommand 0), row 11 0 3 1 (.dmaCommand 1),
   row 11 0 3 2 (.dmaCommand 2), row 11 0 4 0 .dmaControl, row 11 0 5 0 .dmaIntStart,
   row 11 0 6 0 .dmaExtStart, row 11 0 7 0 .dmaIntEnd, row 11 0 8 0 .dmaStatus, row 11 0 15 0 .dmaContext,
   row 12 0 0 0 .vbar, row 12 0 0 1 .mvbar, row 12 0 1 0 .interruptStatus, row 13 0 0 0 .fcse,
   row 13 0 0 1 .contextId, row 13 0 0 2 .tidUserRw, row 13 0 0 3 .tidUserRo, row 13 0 0 4 .tidPriv]

/-- c15. -/
def validationRows : List Cp15Row :=
  [row 15 0 2 4 .ppmr, row 15 0 9 0 .savc, row 15 0 12 0 .pmnc, row 15 0 12 1 .ccnt,
   row 15 0 12 2 (.count false), row 15 0 12 3 (.count true), row 15 0 12 4 (.valCounter false),
   row 15 0 12 5 (.valCounter false), row 15 0 12 6 (.valCounter false), row 15 0 12 7 (.valCounter true),
   row 15 0 14 0 .cacheSizeMask, row 15 5 15 6 .valOperation, row 15 5 4 2 .lockIndex,
   row 15 5 5 2 .lockVa, row 15 5 6 2 .lockPa, row 15 5 7 2 .lockAttr] ++
  ((List.range 8).flatMap fun o => (List.range 8).map fun k => row 15 o 13 k .valOperation) ++
  ((List.range 8).map fun k => row 15 3 8 k (.masterValid false k)) ++
  ((List.range 8).map fun k => row 15 3 12 k (.masterValid true k))

/-- The whole map. -/
def cp15Map : List Cp15Row := identRows ++ controlRows ++ cacheRows ++ lockRows ++ dmaRows ++ validationRows

/-- What an MRC or MCR names (R100, R106). -/
def Cp15.of? (crn : BitVec 4) (op1 : BitVec 3) (crm : BitVec 4) (op2 : BitVec 3) : Option Cp15 :=
  cp15Map.lookup (crn.toNat, op1.toNat, crm.toNat, op2.toNat)

/-! Access (R101 to R105) -/

/-- Privileged access to CP15: in Debug state also for a debugger that may change to a privileged mode of the current world
(R449), which R448 lets it where debug is permitted there: with DBGEN LOW it may not (R405). -/
def State.cp15Privileged (s : State) : Bool := s.privileged || (s.halted && s.debugPermittedIn s.isSecure .sys)

/-- The TCM that the TCM Selection Register of the current world selects (R307), on the data or instruction side. -/
def State.selectedTcm (s : State) (data : Bool) : Tcm :=
  let t := if data then s.cp15.dtcm else s.cp15.itcm
  if s.bank.tcmSelect then t[1] else t[0]

/-- Pattern P of R320 to R329: the registers of the selected DMA channel. -/
def State.dmaAllowed (s : State) (userBit : Bool) : Bool :=
  (s.cp15Privileged || userBit) && (s.isSecure || s.cp15.nsacr.getLsbD 18)

/-- The System Validation registers (R352). -/
def State.validationAllowed (s : State) : Bool := (s.isSecure && s.cp15Privileged) || s.cp15.savc

/-- The Performance Monitor registers (R355). -/
def State.monitorAllowed (s : State) : Bool := s.cp15Privileged || s.cp15.savc

/-- Reading a register is permitted; otherwise the access is Undefined. -/
def Cp15.readable (r : Cp15) (s : State) : Bool :=
  let priv := s.cp15Privileged
  let secPriv := priv && s.isSecure
  match r with
  | .scr | .sder | .wfar | .tcmAccess _ | .mvbar | .savc | .masterValid _ _ | .lockIndex | .lockVa | .lockPa
  | .lockAttr => secPriv
  | .wfi | .flushPrefetch | .dsb | .dmb | .noOp | .invalidateCode _ | .prefetchCode | .flushBranches | .flushBranchEntry
  | .dataCache _ _ | .invalidateBoth | .vaToPa _ | .tlb _ | .dmaCommand _ => false
  | .dLock | .iLock => priv && (s.isSecure || s.cp15.nsacr.getLsbD 16)
  | .tlbLockdown => priv && (s.isSecure || s.cp15.nsacr.getLsbD 17)
  | .tcmRegion data => priv && (s.isSecure || (s.selectedTcm data).nsAccess)
  | .dmaIdent _ | .dmaUser | .dmaContext => s.dmaAllowed false
  | .dmaChannel => s.dmaAllowed (s.cp15.dmaUser != 0)
  | .dmaControl | .dmaIntStart | .dmaExtStart | .dmaIntEnd | .dmaStatus => s.dmaAllowed (s.dmaUserBit s.cp15.dmaSelect)
  | .tidUserRw | .tidUserRo => true
  | .pmnc | .ccnt | .count _ => s.monitorAllowed
  | .valCounter _ | .valOperation | .cacheSizeMask => s.validationAllowed
  | .ident _ | .cacheType | .tcmStatus | .sctlr | .actlr | .cpacr | .nsacr | .ttbr0 | .ttbr1 | .ttbcr | .dacr | .dfsr | .ifsr | .far | .ifar | .par
  | .cacheDirty | .tcmSelect | .cbor | .prrr | .nmrr | .vbar | .interruptStatus | .fcse | .contextId | .tidPriv
  | .ppmr => priv

/-- The registers whose writes CP15SDISABLE forbids (R105): the Secure copy of the banked ones, the others from the Secure
world; the Control Register from the Secure world too (R140), whichever copy it would reach. -/
def Cp15.disabled (r : Cp15) (s : State) : Bool :=
  s.pins.cp15sdisable &&
  match r with
  | .sctlr => s.isSecure
  | .ttbr0 | .ttbcr | .dacr | .prrr | .nmrr | .vbar | .fcse | .ppmr => !s.copyNs
  | .tcmRegion data => s.isSecure && !(s.selectedTcm data).nsAccess
  | .tcmAccess _ | .mvbar | .savc | .masterValid _ _ | .lockIndex | .lockVa | .lockPa | .lockAttr | .valCounter _
  | .valOperation | .cacheSizeMask => s.isSecure
  | _ => false

/-- Writing a register, or starting an operation, is permitted. A Non-secure write of the Auxiliary Control Register is
Undefined (R145; DEDUCED, log 93: R1592 has it ignored). -/
def Cp15.writable (r : Cp15) (s : State) : Bool :=
  let priv := s.cp15Privileged
  let secPriv := priv && s.isSecure
  !r.disabled s &&
  match r with
  | .ident _ | .cacheType | .tcmStatus | .cacheDirty | .dmaIdent _ | .dmaStatus | .interruptStatus => false
  | .actlr | .nsacr => secPriv
  | .flushPrefetch | .dsb | .dmb => true
  | .flushBranches => priv || s.halted
  | .wfi | .noOp | .prefetchCode | .flushBranchEntry | .tlb _ => priv
  | .invalidateCode by_ => priv && (by_ != .all || s.isSecure || s.cp15.nsacr.getLsbD 16)
  | .invalidateBoth => secPriv
  | .dataCache op by_ => priv && (by_ != .all || (if op = .invalidate then s.isSecure else !s.cp15.actlr.getLsbD 4))
  | .vaToPa k => priv && (!k.getLsbD 2 || s.isSecure)
  | .dmaCommand _ => s.dmaAllowed (s.dmaUserBit s.cp15.dmaSelect)
  | .tidUserRo => priv
  | .sctlr | .cpacr | .scr | .sder | .ttbr0 | .ttbr1 | .ttbcr | .dacr | .dfsr | .ifsr | .far | .wfar | .ifar
    | .par | .dLock | .iLock | .tcmRegion _ | .tcmAccess _ | .tcmSelect | .cbor | .tlbLockdown | .prrr | .nmrr
    | .dmaUser | .dmaChannel | .dmaControl | .dmaIntStart | .dmaExtStart | .dmaIntEnd | .dmaContext | .vbar
    | .mvbar | .fcse | .contextId | .tidUserRw | .tidPriv | .ppmr | .savc | .pmnc | .ccnt | .count _
    | .valCounter _ | .valOperation | .cacheSizeMask | .masterValid _ _ | .lockIndex | .lockVa | .lockPa
    | .lockAttr => r.readable s

/-! Reads -/

/-- The Control Register as read in the world of SCR.NS: the constant bits, the common bits and the banked ones (R140). DESIGN
CHOICE (log 95): IT and DT, bits 18 and 16, which R140 calls Should Be One and redundant, with the reset value 1, read as 1
whatever is written to them. -/
def State.controlRegister (s : State) : Word := 0x00050078#32 ||| s.cp15.sctlr ||| (s.bankOf s.copyNs).sctlr

/-- The bits of the CPACR that the current world sees (R148). -/
def State.cpacrMask (s : State) : Word :=
  if s.isSecure then 0x00F00000#32
  else (if s.cp15.nsacr.getLsbD 10 then 0x00300000#32 else 0) ||| (if s.cp15.nsacr.getLsbD 11 then 0x00C00000#32 else 0)

/-- One bit for each DMA channel. -/
def State.channelBits (s : State) (p : DmaChannel → Bool) : Word :=
  bitAt (p (s.channel false)) 0 ||| bitAt (p (s.channel true)) 1

/-- The lockdown entry that the Index register selects (R370). -/
def State.lockEntry (s : State) : TlbEntry := s.cp15.tlbLock[s.cp15.tlbIndex.toNat]'s.cp15.tlbIndex.isLt

/-- What an MRC reads; none where it has no effect (R360). The operations are not readable. -/
def Cp15.value (r : Cp15) (s : State) : Option Word :=
  let b := s.bankOf s.copyNs
  let d := s.channel s.cp15.dmaSelect
  match r with
  | .ident v => some v
  | .cacheType => some (Params.cacheType s.pins.params)
  | .tcmStatus => some (Params.tcmStatus s.pins.params)
  | .sctlr => some s.controlRegister
  | .actlr => some s.cp15.actlr
  | .cpacr => some (s.cp15.cpacr &&& s.cpacrMask)
  | .scr => some s.cp15.scr
  | .sder => some s.cp15.sder
  | .nsacr => some s.cp15.nsacr
  | .ttbr0 => some b.ttbr0
  | .ttbr1 => some b.ttbr1
  | .ttbcr => some b.ttbcr
  | .dacr => some b.dacr
  | .dfsr => some b.dfsr
  | .ifsr => some b.ifsr
  | .far => some b.far
  | .wfar => some s.dbg.wfar
  | .ifar => some b.ifar
  | .par => some b.par
  | .cacheDirty => some (bitAt b.cacheDirty 0)
  | .dLock => some s.cp15.dLock
  | .iLock => some s.cp15.iLock
  | .tcmRegion data => some (s.selectedTcm data).region
  | .tcmAccess data => some (bitAt (s.selectedTcm data).nsAccess 0)
  | .tcmSelect => some (bitAt b.tcmSelect 0)
  | .cbor => some (if s.isSecure then s.cp15.cbor else s.cp15.cbor &&& 7)
  | .tlbLockdown => some s.cp15.tlbLockdown
  | .prrr => some b.prrr
  | .nmrr => some b.nmrr
  | .dmaIdent k => some (if k = 0 then (if s.pins.params.hasTcm then 3 else 0) else if k = 1 then s.channelBits fun d => d.state = 1
      else if k = 2 then s.channelBits fun d => d.state = 2 else s.channelBits fun d => d.interrupt)
  | .dmaUser => some (s.cp15.dmaUser.setWidth 32)
  | .dmaChannel => some (bitAt s.cp15.dmaSelect 0)
  | .dmaControl => some d.control
  | .dmaIntStart => some d.intStart
  | .dmaExtStart => some d.extStart
  | .dmaIntEnd => some d.intEnd
  | .dmaStatus => some d.status
  | .dmaContext => some d.context
  | .vbar => some b.vbar
  | .mvbar => some s.cp15.mvbar
  | .interruptStatus => some (bitAt s.pendingAbort.isSome 8 ||| bitAt (!s.pins.nIRQ) 7 ||| bitAt (!s.pins.nFIQ) 6)
  | .fcse => some b.fcse
  | .contextId => some b.contextId
  | .tidUserRw => some b.tidUserRw
  | .tidUserRo => some b.tidUserRo
  | .tidPriv => some b.tidPriv
  | .ppmr => some b.ppmr
  | .savc => some (bitAt s.cp15.savc 0)
  | .pmnc => some s.cp15.pmnc
  | .ccnt => some s.cp15.ccnt
  | .count second => some (if second then s.cp15.pmn[1] else s.cp15.pmn[0])
  | .valCounter debugRequest => if debugRequest then some 0 else none
  | .valOperation => some 0
  | .cacheSizeMask => some s.cp15.cacheSizeMask
  | .masterValid data n => some (s.masterValid data n)
  | .lockIndex => some (s.cp15.tlbIndex.setWidth 32)
  | .lockVa => some s.lockEntry.va
  | .lockPa => some s.lockEntry.pa
  | .lockAttr => some s.lockEntry.attr
  | .wfi | .flushPrefetch | .dsb | .dmb | .noOp | .invalidateCode _ | .prefetchCode | .flushBranches | .flushBranchEntry
  | .dataCache _ _ | .invalidateBoth | .vaToPa _ | .tlb _ | .dmaCommand _ => none

/-! Writes -/

/-- Change the copy of the banked registers that an MCR reaches (R104). -/
def State.setCopy (s : State) (f : Cp15Banked → Cp15Banked) : State := s.setBankOf s.copyNs f

/-- Change the common registers. -/
def State.setCommon (s : State) (f : Cp15Common → Cp15Common) : State := { s with cp15 := f s.cp15 }

/-- Replace the banked registers that an MCR reaches where they decide how a world translates: a change of them is refused while
the DMA engine translates for that world (R787, U53). -/
def changeTables (f : Cp15Banked → Cp15Banked) : Exec Unit := do
  dmaGuard (← look fun s => s.copyNs == s.dmaNs && f (s.bankOf s.copyNs) != s.bankOf s.copyNs)
  update fun s => s.setCopy f

/-- The banked bits of the Control Register, and its Secure modify only bits (R140). -/
def bankedControl : Word := 0x33C03B07#32
def commonControl : Word := 0x0020C080#32

/-- The Control Register written: the copy that an MCR reaches, and in the Secure world the Secure modify only bits (R140,
R141). -/
def State.withControl (s : State) (v : Word) : State :=
  let t := s.setCopy fun b => { b with sctlr := v &&& bankedControl }
  if s.isSecure then t.setCommon fun c => { c with sctlr := v &&& commonControl } else t

/-- What of the Control Register decides how a world translates: M, S, R, XP, TR and FA, and, where the walks follow EE, the
order that EE, U and B give a descriptor. -/
def State.translationControl (s : State) (ns : Bool) : Word × Bool :=
  ((s.bankOf ns).sctlr &&& 0x30800301#32, s.reversesWalk ns)

/-- Write the Control Register (R140, R141): refused where it changes how a running DMA channel translates (R787, U53). -/
def writeControl (v : Word) : Exec Unit := do
  dmaGuard (← look fun s => (s.withControl v).translationControl s.dmaNs != s.translationControl s.dmaNs)
  update fun s => s.withControl v

/-- Bytes that are not to be executed yet are so through every line they could be in (R145, R700). -/
def State.recolour (s : State) : State :=
  { s with codeStale := s.codeStale.flatMap fun c => [0#2, 1#2, 2#2, 3#2].map fun k => { c with colour := k } }

/-- Write the Auxiliary Control Register (R145): CZ changes how addresses index the caches. DESIGN CHOICE (log 91): the lines
of the data cache in sets above 127 stay when CZ is set, where only operations on the whole cache reach them. -/
def State.writeAuxiliary (s : State) (v : Word) : State :=
  let t := s.setCommon fun c => { c with actlr := v &&& 0xF000007F#32 }
  if s.cp15.actlr.getLsbD 6 = v.getLsbD 6 then t else t.recolour

/-- Replace the TCM that the current world selects. -/
def State.setTcm (s : State) (data : Bool) (t : Tcm) : State :=
  let put (v : Vector Tcm 2) : Vector Tcm 2 := if s.bank.tcmSelect then v.set 1 t else v.set 0 t
  s.setCommon fun c => if data then { c with dtcm := put c.dtcm } else { c with itcm := put c.itcm }

/-- The TCM that the current world selects exists on a side (R307). -/
def State.tcmExists (s : State) (data : Bool) : Bool := decide (s.bank.tcmSelect.toNat < (s.tcmConfig data).count)

/-- The TCM Region Register of the selected TCM after a write (R303): the size is read-only, and base bits below the size are
ignored, and read as 0 (DESIGN CHOICE, log 88); one of a TCM that does not exist is not written. -/
def State.regionWord (s : State) (data : Bool) (v : Word) : Word :=
  let c := s.tcmConfig data
  if s.tcmExists data then (v &&& (0xFFFFFFFF#32 <<< c.sizeLog)) ||| (c.code <<< 2) ||| (v &&& 1)
  else (s.selectedTcm data).region

/-- Write a TCM Region Register (R303): a change of it is refused while a DMA channel is Running or Queued (R787, U53). -/
def writeTcmRegion (data : Bool) (v : Word) : Exec Unit := do
  dmaGuard (← look fun s => s.regionWord data v != (s.selectedTcm data).region)
  update fun s => s.setTcm data { s.selectedTcm data with region := s.regionWord data v }

/-- Write a TCM Non-secure Control Access Register (R305). -/
def State.writeTcmAccess (s : State) (data : Bool) (v : Word) : State :=
  if s.tcmExists data then s.setTcm data { s.selectedTcm data with nsAccess := v.getLsbD 0 } else s

/-- Write the TCM Selection Register (R307): a TCM that neither side has is not selected. -/
def State.writeTcmSelect (s : State) (v : Word) : State :=
  if decide (max (s.tcmConfig true).count (s.tcmConfig false).count ≤ (v.extractLsb' 0 2).toNat) && v.extractLsb' 0 2 != 0
  then s else s.setCopy fun b => { b with tcmSelect := v.getLsbD 0 }

/-- Write the Performance Monitor Control Register (R355): flags are cleared by 1, C and P reset the counters. DESIGN CHOICE
(log 73): nPMUIRQ is not asserted by enabling the interrupt of a flag that is set already, and it is cleared where the
written bit 0 is 1 and no enabled flag remains; (log 108) C = 1 restarts the count of 64 cycles too. -/
def State.writePmnc (s : State) (v : Word) : State :=
  s.setCommon fun c =>
    let flags := c.pmnc &&& ~~~v &&& 0x700#32
    let new := (v &&& 0x0FFFF879#32) ||| flags
    { c with
      pmnc := new
      ccnt := if v.getLsbD 2 then 0 else c.ccnt
      ccntPrescale := if v.getLsbD 2 then 0 else c.ccntPrescale
      pmn := if v.getLsbD 1 then Vector.replicate 2 0 else c.pmn
      pmuInterrupt := if v.getLsbD 0 then c.pmuInterrupt && (flags &&& (new <<< 4) &&& 0x700#32) != 0
        else c.pmuInterrupt }

/-- Write a register of the selected DMA channel, without effect while it is Running or Queued (R324 to R329). -/
def State.writeChannel (s : State) (f : DmaChannel → DmaChannel) : State :=
  if (s.channel s.cp15.dmaSelect).busy then s else s.setChannel s.cp15.dmaSelect f

/-- Write the lockdown entry that the Index register selects. -/
def State.writeLock (s : State) (e : TlbEntry) : State :=
  s.setCommon fun c => { c with tlbLock := c.tlbLock.set c.tlbIndex.toNat e c.tlbIndex.isLt }

/-- The selected lockdown entry is replaced by another one: a change of a translation of the engine's world, where the old
entry or the new one is valid and of that world (U53). -/
def State.locksForDma (s : State) (e : TlbEntry) : Bool :=
  e != s.lockEntry && [s.lockEntry, e].any fun e => e.pa.getLsbD 0 && e.pa.getLsbD 8 == s.dmaNs

/-- Replace the selected lockdown entry. -/
def replaceLock (f : State → TlbEntry) : Exec Unit := do
  dmaGuard (← look fun s => s.locksForDma (f s))
  update fun s => s.writeLock (f s)

/-- The implemented bits of a Master Valid Register (R365): one for eight lines. -/
def State.masterMask (s : State) (data : Bool) (n : Nat) : Word :=
  let bits := 2 ^ ((if data then s.pins.params.dcache else s.pins.params.icache).setBits - 1)
  BitVec.ofNat 32 (2 ^ min 32 (bits - 32 * n) - 1)

/-- Write a Master Valid Register (R365, R366). -/
def State.writeMasterValid (s : State) (data : Bool) (n : Nat) (v : Word) : State :=
  let w := v &&& s.masterMask data n
  s.setCommon fun c =>
    if data then { c with dMasterValid := c.dMasterValid.setIfInBounds n w }
    else { c with iMasterValid := c.iMasterValid.setIfInBounds n w }

/-- What is stored of a TLB Lockdown VA: a global entry has no ASID (R371). -/
def lockVaWord (v : Word) : Word := if v.getLsbD 9 then v &&& 0xFFFFF200#32 else v &&& 0xFFFFF2FF#32

/-- Of a PA: a write sets the valid bit, whatever bit 0 holds (R372; DEDUCED, log 60), and NSTID sets NSA. -/
def lockPaWord (v : Word) : Word := (v &&& 0xFFFFF3CE#32) ||| 1 ||| bitAt (v.getLsbD 8) 9

/-- Of the attributes: without subpages their permissions are zero (R373). -/
def lockAttrWord (v : Word) : Word := if v.getLsbD 25 then v &&& 0xFE0007FF#32 else v &&& 0x000007FF#32

/-- Invalidate instruction cache lines (R232 to R234). -/
def codeOperation (by_ : By) (v : Word) : Exec Unit :=
  match by_ with
  | .all => update State.invalidateCode
  | .mva => invalidateCodeMva v
  | .index => update fun s => s.invalidateCodeIndex (wayOf v) (indexOf v (s.setBits false))

/-- An operation on data cache lines (R235 to R245). -/
def CacheOp.on (op : CacheOp) (by_ : By) (v : Word) : Exec Unit := do
  match by_ with
  | .all => op.apply .all
  | .mva => op.atMva v
  | .index => op.apply (.index (wayOf v) (indexOf v (← look fun s => s.setBits true)))

/-- An operation on the TLB entries of the world that SCR.NS names (R280 to R282). -/
def State.tlbOperation (s : State) (by_ : By) (v : Word) : State :=
  match by_ with
  | .all => (s.tlbInvalidateAll s.copyNs).flushPrefetch
  | .mva => s.tlbInvalidateMva s.copyNs v
  | .index => s.tlbInvalidateAsid s.copyNs v

/-- What an MCR of the value `v` does. Where the running DMA would see a translation change it is refused (U53), and so are any
flush of the TLB (R787) and any write of PRRR or NMRR (R313) that reach it. DESIGN CHOICE
(log 87): the PA Register keeps every bit written but [8], whether bit 0 says that a translation was aborted or not; (log 88)
the Peripheral Port Memory Remap Register keeps the base bits below the size, which it ignores (R350). -/
def Cp15.write (r : Cp15) (v : Word) : Exec Unit := do
  let shared ← look fun s => s.copyNs == s.dmaNs
  match r with
  | .ident _ | .cacheType | .tcmStatus | .cacheDirty | .dmaIdent _ | .dmaStatus | .interruptStatus | .noOp | .valCounter _
  | .valOperation => pure ()
  | .sctlr => writeControl v
  | .actlr => update fun s => s.writeAuxiliary v
  | .cpacr => update fun s =>
      s.setCommon fun c => { c with cpacr := (c.cpacr &&& ~~~s.cpacrMask) ||| (v &&& s.cpacrMask) }
  | .scr => update fun s => s.setCommon fun c => { c with scr := v &&& 0x3F#32 }
  | .sder => update fun s => s.setCommon fun c => { c with sder := v &&& 3 }
  | .nsacr => do
    dmaGuard (← look fun s => s.cp15.nsacr.getLsbD 18 != v.getLsbD 18)
    update fun s => s.setCommon fun c => { c with nsacr := v &&& 0x00073FFF#32 }
  | .ttbr0 => changeTables fun b => { b with ttbr0 := v &&& 0xFFFFFF9B#32 }
  | .ttbr1 => changeTables fun b => { b with ttbr1 := v &&& 0xFFFFC01B#32 }
  | .ttbcr => changeTables fun b => { b with ttbcr := v &&& 0x37#32 }
  | .dacr => changeTables fun b => { b with dacr := v }
  | .dfsr => update fun s => s.setCopy fun b => { b with dfsr := v &&& 0x1CFF#32 }
  | .ifsr => update fun s => s.setCopy fun b => { b with ifsr := v &&& 0x100F#32 }
  | .far => update fun s => s.setCopy fun b => { b with far := v }
  | .wfar => update fun s => { s with dbg := { s.dbg with wfar := v } }
  | .ifar => update fun s => s.setCopy fun b => { b with ifar := v }
  | .wfi => update State.dataSync
  | .par => update fun s => s.setCopy fun b => { b with par := v &&& 0xFFFFFEFF#32 }
  | .flushPrefetch => update State.flushPrefetch
  | .dsb => update State.dataSync
  | .dmb => update State.dataBarrier
  | .invalidateCode by_ => codeOperation by_ v
  | .prefetchCode => Sys2Proof.Machine.prefetchCode v
  | .flushBranches => update State.flushBranches
  | .flushBranchEntry => update fun s => s.flushBranchEntry v
  | .dataCache op by_ => op.on by_ v
  | .invalidateBoth => do
    update State.dropCode
    CacheOp.invalidate.apply .all
  | .vaToPa k => translateVa k v
  | .tlb by_ => do dmaGuard shared; update fun s => s.tlbOperation by_ v
  | .dLock => update fun s => s.setCommon fun c => { c with dLock := v ||| 0xFFFFFFF0#32 }
  | .iLock => update fun s => s.setCommon fun c => { c with iLock := v ||| 0xFFFFFFF0#32 }
  | .tcmRegion data => writeTcmRegion data v
  | .tcmAccess data => update fun s => s.writeTcmAccess data v
  | .tcmSelect => update fun s => s.writeTcmSelect v
  | .cbor => update fun s => s.setCommon fun c =>
      { c with cbor := if s.isSecure then v &&& 0x3F else (c.cbor &&& 0x38) ||| (v &&& 7) }
  | .tlbLockdown => update fun s => s.setCommon fun c => { c with tlbLockdown := v &&& 0x1C000001#32 }
  | .prrr => do dmaGuard shared; update fun s => s.setCopy fun b => { b with prrr := v &&& 0x000FFFFF#32 }
  | .nmrr => do dmaGuard shared; update fun s => s.setCopy fun b => { b with nmrr := v }
  | .dmaUser => update fun s => s.setCommon fun c => { c with dmaUser := v.extractLsb' 0 2 }
  | .dmaChannel => update fun s => s.setCommon fun c => { c with dmaSelect := v.getLsbD 0 }
  | .dmaCommand k => update fun s =>
      if k = 0 then s.dmaStop s.cp15.dmaSelect else if k = 1 then s.dmaStart s.cp15.dmaSelect
      else s.dmaClear s.cp15.dmaSelect
  | .dmaControl => update fun s => s.writeChannel fun d => { d with control := (v &&& 0xF40FFF03#32) ||| 0x08000000#32 }
  | .dmaIntStart => update fun s => s.writeChannel fun d => { d with intStart := v }
  | .dmaExtStart => update fun s => s.writeChannel fun d => { d with extStart := v }
  | .dmaIntEnd => update fun s => s.writeChannel fun d => { d with intEnd := v }
  | .dmaContext => update fun s => s.writeChannel fun d => { d with context := v }
  | .vbar => update fun s => s.setCopy fun b => { b with vbar := v &&& 0xFFFFFFE0#32 }
  | .mvbar => update fun s => s.setCommon fun c => { c with mvbar := v &&& 0xFFFFFFE0#32 }
  | .fcse => do
    changeTables fun b => { b with fcse := v &&& 0xFE000000#32 }
    update State.flushBranches
  | .contextId => update fun s => (s.setCopy fun b => { b with contextId := v }).flushBranches
  | .tidUserRw => update fun s => s.setCopy fun b => { b with tidUserRw := v }
  | .tidUserRo => update fun s => s.setCopy fun b => { b with tidUserRo := v }
  | .tidPriv => update fun s => s.setCopy fun b => { b with tidPriv := v }
  | .ppmr => update fun s => s.setCopy fun b => { b with ppmr := v &&& 0xFFFFF01F#32 }
  | .savc => update fun s => s.setCommon fun c => { c with savc := v.getLsbD 0 }
  | .pmnc => update fun s => s.writePmnc v
  | .ccnt => update fun s => s.setCommon fun c => { c with ccnt := v }
  | .count second => update fun s => s.setCommon fun c =>
      { c with pmn := if second then c.pmn.set 1 v else c.pmn.set 0 v }
  | .cacheSizeMask => if v.getLsbD 31 then refuse .validationSizes else pure ()
  | .masterValid data n => update fun s => s.writeMasterValid data n v
  | .lockIndex => update fun s => s.setCommon fun c => { c with tlbIndex := v.extractLsb' 0 3 }
  | .lockVa => replaceLock fun s => { s.lockEntry with va := lockVaWord v }
  | .lockPa => replaceLock fun s => { s.lockEntry with pa := lockPaWord v }
  | .lockAttr => replaceLock fun s => { s.lockEntry with attr := lockAttrWord v }

/-! The instructions -/

/-- MRC of CP15 (R100, R101). With R15 as destination the flags become free values (U20). -/
def cp15Read (crn : BitVec 4) (op1 : BitVec 3) (crm : BitVec 4) (op2 : BitVec 3) (rd : RegNo) : Exec Unit := do
  match Cp15.of? crn op1 crm op2 with
  | none => takeUndefined
  | some r => do
    let ok ← look r.readable
    if !ok then takeUndefined else
    let v ← look r.value
    match v with
    | some v => if rd = 15 then (do openFlags; advance) else finishReg rd v
    | none => advance

/-- MCR of CP15. -/
def cp15Write (crn : BitVec 4) (op1 : BitVec 3) (crm : BitVec 4) (op2 : BitVec 3) (rd : RegNo) : Exec Unit := do
  match Cp15.of? crn op1 crm op2 with
  | none => takeUndefined
  | some r => do
    let ok ← look r.writable
    if !ok then takeUndefined else
    if rd = 15 then refuse .unpredictableEncoding else
    r.write (← look fun s => s.reg rd)
    advance

/-- The range operations of R250. -/
inductive RangeOp where
  | invalidateCode
  | dataCache (op : CacheOp)
  deriving DecidableEq, Repr

/-- What an MCRR of CP15 names. -/
def RangeOp.of? (op1 crm : BitVec 4) : Option RangeOp :=
  if op1 != 0 then none
  else if crm = 5 then some .invalidateCode else if crm = 6 then some (.dataCache .invalidate)
  else if crm = 12 then some (.dataCache .clean) else if crm = 14 then some (.dataCache .cleanInvalidate) else none

/-- Who may use it (R225, R231, R449). -/
def RangeOp.allowed (r : RangeOp) (s : State) : Bool :=
  !s.cp15.actlr.getLsbD 5 &&
  (s.cp15Privileged || r = .dataCache .clean || (s.halted && r = .invalidateCode))

/-- MCRR of CP15 (R250): Rd holds the end address, Rn the start address. -/
def cp15Range (op1 crm : BitVec 4) (rd rn : RegNo) : Exec Unit := do
  match RangeOp.of? op1 crm with
  | none => takeUndefined
  | some r => do
    let ok ← look r.allowed
    if !ok then takeUndefined else
    if rd = 15 || rn = 15 then refuse .unpredictableEncoding else
    let first ← look fun s => s.reg rn
    let last ← look fun s => s.reg rd
    onRange (match r with | .invalidateCode => invalidateCodeMva | .dataCache op => op.atMva) first last
    advance

end Sys2Proof.Machine
end

