-- ==== Sys2Proof/Machine/Float.lean ====
section
/-! DEFINITION. Float: the arithmetic of the VFP11 (R484, R485, R507 to R525, R1443 to R1469): values, rounding, what each
operation gives and which cumulative flags it sets, and which operands it does not handle but bounces. -/

namespace Sys2Proof.Machine

/-- The two precisions (R484). Values of both are held in 64 bits, a single in the low half. -/
inductive Prec where
  | single | double
  deriving DecidableEq, Repr

/-- Fraction bits. -/
def Prec.frac : Prec → Nat
  | .single => 23 | .double => 52

/-- The largest biased exponent: that of infinities and NaNs. -/
def Prec.top : Prec → Nat
  | .single => 255 | .double => 2047

/-- The exponent bias. -/
def Prec.bias : Prec → Nat
  | .single => 127 | .double => 1023

/-- The place of the sign. -/
def Prec.sign : Prec → Nat
  | .single => 31 | .double => 63

/-- The default NaN (R485). -/
def Prec.nan : Prec → DWord
  | .single => 0x7FC00000#64 | .double => 0x7FF8000000000000#64

/-- The classes of values (R484, R485). -/
inductive FpClass where
  | zero | subnormal | normal | infinity | qnan | snan
  deriving DecidableEq, Repr

/-- The biased exponent of a value. -/
def Prec.exponent (p : Prec) (v : DWord) : Nat := v.toNat / 2 ^ p.frac % (p.top + 1)

/-- The fraction of a value. -/
def Prec.fraction (p : Prec) (v : DWord) : Nat := v.toNat % 2 ^ p.frac

/-- The sign of a value. -/
def Prec.negative (p : Prec) (v : DWord) : Bool := v.getLsbD p.sign

/-- `Class` of R1443. -/
def Prec.classOf (p : Prec) (v : DWord) : FpClass :=
  if p.exponent v = p.top then
    if p.fraction v = 0 then .infinity else if v.getLsbD (p.frac - 1) then .qnan else .snan
  else if p.exponent v = 0 then if p.fraction v = 0 then .zero else .subnormal
  else .normal

def Prec.isNan (p : Prec) (v : DWord) : Bool := p.classOf v == .qnan || p.classOf v == .snan
def Prec.isSnan (p : Prec) (v : DWord) : Bool := p.classOf v == .snan
def Prec.isZero (p : Prec) (v : DWord) : Bool := p.classOf v == .zero
def Prec.isInf (p : Prec) (v : DWord) : Bool := p.classOf v == .infinity
def Prec.isNormal (p : Prec) (v : DWord) : Bool := p.classOf v == .normal
def Prec.isSubnormal (p : Prec) (v : DWord) : Bool := p.classOf v == .subnormal

/-- A bit pattern from its parts. -/
def Prec.pack (p : Prec) (neg : Bool) (exponent fraction : Nat) : DWord :=
  BitVec.ofNat 64 ((if neg then 2 ^ p.sign else 0) + exponent * 2 ^ p.frac + fraction)

/-- The zero, and the infinity, of a sign. -/
def Prec.zero (p : Prec) (neg : Bool) : DWord := p.pack neg 0 0
def Prec.inf (p : Prec) (neg : Bool) : DWord := p.pack neg p.top 0

/-- The finite value of the largest magnitude. -/
def Prec.huge (p : Prec) (neg : Bool) : DWord := p.pack neg (p.top - 1) (2 ^ p.frac - 1)

/-- `Neg` of R1443. -/
def Prec.neg (p : Prec) (v : DWord) : DWord := v ^^^ (1#64 <<< p.sign)

/-! The FPSCR (R492, R493) -/

/-- The rounding modes (R492). -/
inductive Rounding where
  | nearest | plus | minus | zero
  deriving DecidableEq, Repr

/-- Rmode, FPSCR[23:22]. -/
def roundingOf (scr : Word) : Rounding :=
  if scr.extractLsb' 22 2 = 0b00#2 then .nearest else if scr.extractLsb' 22 2 = 0b01#2 then .plus
  else if scr.extractLsb' 22 2 = 0b10#2 then .minus else .zero

/-- The cumulative exception flags of the FPSCR; OFC, UFC, IOC and INV have the same places in the FPEXC, where INV is
that of IDC (R493, R495). -/
def fpIoc : Word := 0x01
def fpDzc : Word := 0x02
def fpOfc : Word := 0x04
def fpUfc : Word := 0x08
def fpIxc : Word := 0x10
def fpIdc : Word := 0x80

/-- FZ and DN, and the exception enables of the FPSCR (R492). -/
def flushMode (scr : Word) : Bool := scr.getLsbD 24
def defaultNanMode (scr : Word) : Bool := scr.getLsbD 25
def enabledIo (scr : Word) : Bool := scr.getLsbD 8
def enabledDz (scr : Word) : Bool := scr.getLsbD 9
def enabledOf (scr : Word) : Bool := scr.getLsbD 10
def enabledIx (scr : Word) : Bool := scr.getLsbD 12
def enabledId (scr : Word) : Bool := scr.getLsbD 15

/-- A flag where a condition holds. -/
def flagIf (b : Bool) (flag : Word) : Word := if b then flag else 0

/-! Results -/

/-- A result and the cumulative flags it sets. -/
structure Computed where
  bits : DWord
  flags : Word
  deriving DecidableEq, Repr

/-- A result without flags. -/
def exactly (v : DWord) : Computed := { bits := v, flags := 0 }

/-- The default result of an invalid operation with IOE = 0 (R517). -/
def invalid (p : Prec) : Computed := { bits := p.nan, flags := fpIoc }

/-- A result with NaN operands in default NaN mode (R510). -/
def nanResult (p : Prec) (ops : List DWord) : Computed := { bits := p.nan, flags := flagIf (ops.any p.isSnan) fpIoc }

/-- A result with more flags. -/
def Computed.also (r : Computed) (f : Word) : Computed := { r with flags := f ||| r.flags }

/-! Rounding an exact value (R1443) -/

/-- The exponent `e` of `num / den`: `2 ^ e ≤ num / den < 2 ^ (e + 1)`. -/
def ratioExponent (num den : Nat) : Int :=
  let l : Int := (Nat.log2 num : Int) - (Nat.log2 den : Int)
  if num * 2 ^ (-l).toNat ≥ den * 2 ^ l.toNat then l else l - 1

/-- A rounded magnitude: `sig * 2 ^ (exp - fraction bits)`, and whether it differs from what was rounded. -/
structure Rounded where
  sig : Nat
  exp : Int
  inexact : Bool
  deriving DecidableEq, Repr

/-- Whether the truncated quotient `q` with remainder `r` of `d` goes up. -/
def roundsUp (mode : Rounding) (neg : Bool) (q r d : Nat) : Bool :=
  match mode with
  | .nearest => decide (d < 2 * r) || (decide (2 * r = d) && q % 2 == 1)
  | .plus => !neg && r != 0
  | .minus => neg && r != 0
  | .zero => false

/-- `Round`: the magnitude `num / den` to `p.frac + 1` significant bits, with no bound on the exponent. -/
def Prec.round (p : Prec) (mode : Rounding) (neg : Bool) (num den : Nat) : Rounded :=
  let e := ratioExponent num den
  let k : Int := (p.frac : Int) - e
  let n := num * 2 ^ k.toNat
  let d := den * 2 ^ (-k).toNat
  let q := if roundsUp mode neg (n / d) (n % d) d then n / d + 1 else n / d
  if q = 2 ^ (p.frac + 1) then { sig := 2 ^ p.frac, exp := e + 1, inexact := n % d != 0 }
  else { sig := q, exp := e, inexact := n % d != 0 }

/-- The bit pattern of a rounded magnitude in the normal range. -/
def Prec.ofRounded (p : Prec) (neg : Bool) (r : Rounded) : DWord :=
  p.pack neg (r.exp + p.bias).toNat (r.sig - 2 ^ p.frac)

/-- The default result of an overflow (R520). -/
def Prec.overflowed (p : Prec) (mode : Rounding) (neg : Bool) : DWord :=
  match mode with
  | .nearest => p.inf neg
  | .zero => p.huge neg
  | .plus => if neg then p.huge true else p.inf false
  | .minus => if neg then p.inf true else p.huge false

/-- `Finish` of R1443: the magnitude is `num / den`, not zero. DESIGN CHOICE (log 77): R1443 says that with FZ = 0 a tiny
magnitude does not come here, and with OFE = 1 none that overflows. Since decision D49 tests nothing where an operand is
zero, infinite or a NaN, the product of an FMAC with such an Fd does come here, and neither R520 nor R521 says what happens then:
the tiny product becomes +0 and sets UFC, one that overflows gives the default result and sets OFC and IXC. -/
def Prec.finish (p : Prec) (mode : Rounding) (neg : Bool) (num den : Nat) : Computed :=
  if ratioExponent num den < 1 - (p.bias : Int) then { bits := p.zero false, flags := fpUfc }
  else
    let r := p.round mode neg num den
    if r.exp > p.bias then { bits := p.overflowed mode neg, flags := fpOfc ||| fpIxc }
    else { bits := p.ofRounded neg r, flags := flagIf r.inexact fpIxc }

/-! Finite values -/

/-- The magnitude of a finite value is `sig * 2 ^ exp`. -/
def Prec.sig (p : Prec) (v : DWord) : Nat := if p.exponent v = 0 then 0 else 2 ^ p.frac + p.fraction v
def Prec.exp (p : Prec) (v : DWord) : Int := (p.exponent v : Int) - p.bias - p.frac

/-- `sig * 2 ^ exp` finished. -/
def Prec.finishScaled (p : Prec) (mode : Rounding) (neg : Bool) (sig : Nat) (exp : Int) : Computed :=
  p.finish mode neg (sig * 2 ^ exp.toNat) (2 ^ (-exp).toNat)

/-- `FAddStep` (R1445). -/
def Prec.add (p : Prec) (mode : Rounding) (a b : DWord) : Computed :=
  if p.isNan a || p.isNan b then nanResult p [a, b]
  else if p.isInf a && p.isInf b then if p.negative a != p.negative b then invalid p else exactly a
  else if p.isInf a then exactly a
  else if p.isInf b then exactly b
  else
    let e := min (p.exp a) (p.exp b)
    let term (v : DWord) : Int :=
      let m : Int := p.sig v * 2 ^ (p.exp v - e).toNat
      if p.negative v then -m else m
    let x := term a + term b
    if x = 0 then
      exactly (p.zero (if p.negative a == p.negative b then p.negative a else mode == .minus))
    else p.finishScaled mode (decide (x < 0)) x.natAbs e

/-- `FMulStep` (R1447). -/
def Prec.mul (p : Prec) (mode : Rounding) (a b : DWord) : Computed :=
  let neg := p.negative a != p.negative b
  if p.isNan a || p.isNan b then nanResult p [a, b]
  else if (p.isZero a && p.isInf b) || (p.isInf a && p.isZero b) then invalid p
  else if p.isInf a || p.isInf b then exactly (p.inf neg)
  else if p.isZero a || p.isZero b then exactly (p.zero neg)
  else p.finishScaled mode neg (p.sig a * p.sig b) (p.exp a + p.exp b)

/-- FDIV (R1453). -/
def Prec.div (p : Prec) (mode : Rounding) (a b : DWord) : Computed :=
  let neg := p.negative a != p.negative b
  if p.isNan a || p.isNan b then nanResult p [a, b]
  else if (p.isZero a && p.isZero b) || (p.isInf a && p.isInf b) then invalid p
  else if p.isInf a then exactly (p.inf neg)
  else if p.isInf b then exactly (p.zero neg)
  else if p.isZero b then { bits := p.inf neg, flags := fpDzc }
  else if p.isZero a then exactly (p.zero neg)
  else
    let e := p.exp a - p.exp b
    p.finish mode neg (p.sig a * 2 ^ e.toNat) (p.sig b * 2 ^ (-e).toNat)

/-- The integer square root, bit by bit from bit `k - 1` down, added to `acc`. -/
def rootFrom (n : Nat) : Nat → Nat → Nat
  | 0, acc => acc
  | k + 1, acc => if (acc + 2 ^ k) * (acc + 2 ^ k) ≤ n then rootFrom n k (acc + 2 ^ k) else rootFrom n k acc

/-- FSQRT (R1454). The root is taken to more bits than the precision has, with one more that says whether it is exact. -/
def Prec.sqrt (p : Prec) (mode : Rounding) (b : DWord) : Computed :=
  if p.isNan b then nanResult p [b]
  else if p.isZero b then exactly b
  else if p.negative b then invalid p
  else if p.isInf b then exactly b
  else
    let odd := p.exp b % 2 != 0
    let n := p.sig b * 2 ^ (if odd then 2 * p.frac + 1 else 2 * p.frac)
    let e : Int := (p.exp b - (if odd then 1 else 0)) / 2 - p.frac - 1
    let q := rootFrom n (2 * p.frac) 0
    let sig := 2 * q + (if q * q = n then 0 else 1)
    let r := p.round mode false (sig * 2 ^ e.toNat) (2 ^ (-e).toNat)
    { bits := p.ofRounded false r, flags := flagIf r.inexact fpIxc }

/-! Operations with vector forms -/

/-- The arithmetic CDPs that may be vectors (R1445 to R1454). -/
inductive FpOp where
  | add | sub | mul | nmul | mac | nmac | msc | nmsc | div | sqrt
  deriving DecidableEq, Repr

/-- The operands an operation reads, of Fd, Fn and Fm. -/
def FpOp.operands (op : FpOp) (d n m : DWord) : List DWord :=
  match op with
  | .add | .sub | .mul | .nmul | .div => [n, m]
  | .mac | .nmac | .msc | .nmsc => [d, n, m]
  | .sqrt => [m]

/-- The product, and the accumulator, of the FMAC family are negated (R1449). -/
def FpOp.negatesProduct (op : FpOp) : Bool := op = .nmac || op = .nmsc
def FpOp.negatesAccumulator (op : FpOp) : Bool := op = .msc || op = .nmsc
def FpOp.accumulates (op : FpOp) : Bool := op = .mac || op = .nmac || op = .msc || op = .nmsc

/-- The rounded product that an FMAC adds (R1449): not negated where it is a NaN. -/
def FpOp.product (op : FpOp) (p : Prec) (mode : Rounding) (a b : DWord) : Computed :=
  let r := p.mul mode a b
  if op.negatesProduct && !p.isNan r.bits then { r with bits := p.neg r.bits } else r

/-- The accumulator as an FMAC adds it. -/
def FpOp.accumulator (op : FpOp) (p : Prec) (d : DWord) : DWord := if op.negatesAccumulator then p.neg d else d

/-- The result of an operation on operands that have passed the bounce tests and the flush (R1445 to R1454). The flags of the
product count beside a NaN accumulator too, as R511 and R517 have it; R1449 returns before it multiplies (DEDUCED, log
80). -/
def FpOp.compute (op : FpOp) (p : Prec) (mode : Rounding) (d n m : DWord) : Computed :=
  match op with
  | .add => p.add mode n m
  | .sub => p.add mode n (p.neg m)
  | .mul => p.mul mode n m
  | .nmul =>
    let r := p.mul mode n m
    if p.isNan r.bits then r else { r with bits := p.neg r.bits }
  | .div => p.div mode n m
  | .sqrt => p.sqrt mode m
  | .mac | .nmac | .msc | .nmsc =>
    let r := op.product p mode n m
    if p.isNan d || p.isNan n || p.isNan m then (nanResult p [d, n, m]).also r.flags
    else if p.isNan r.bits then r
    else (p.add mode (op.accumulator p d) r.bits).also r.flags

/-! Bounces (R517, R519, R524) -/

/-- The exponent from which a result may overflow (R524). -/
def Prec.nearTop (p : Prec) : Nat := p.top - 2

/-- The larger exponent up to which an unlike-signed addition may underflow (R524). -/
def Prec.nearBottom : Prec → Nat
  | .single => 0x1F | .double => 0x3F

/-- Potential overflow and underflow of an addition of Normal operands. -/
def Prec.addRisk (p : Prec) (a b : DWord) : Bool × Bool :=
  let e := max (p.exponent a) (p.exponent b)
  let ok := p.isNormal a && p.isNormal b
  (ok && decide (p.nearTop ≤ e), ok && p.negative a != p.negative b && decide (e ≤ p.nearBottom))

/-- Of a multiplication. -/
def Prec.mulRisk (p : Prec) (a b : DWord) : Bool × Bool :=
  let e : Int := (p.exponent a : Int) + p.exponent b - p.bias
  let ok := p.isNormal a && p.isNormal b
  (ok && decide ((p.nearTop : Int) ≤ e), ok && decide (e ≤ 0))

/-- Of a division. -/
def Prec.divRisk (p : Prec) (a b : DWord) : Bool × Bool :=
  let e : Int := (p.exponent a : Int) - p.exponent b + p.bias
  let ok := p.isNormal a && p.isNormal b
  (ok && decide ((p.nearTop : Int) ≤ e), ok && decide (e ≤ 1))

/-- Potential overflow and underflow of an operation: in the FMAC family the product's, and where those do not bounce
the sum's (R524), and that only where all three operands are Normal (R1444, decision D49). -/
def FpOp.risk (op : FpOp) (p : Prec) (scr : Word) (d n m : DWord) : Bool × Bool :=
  match op with
  | .add => p.addRisk n m
  | .sub => p.addRisk n (p.neg m)
  | .mul | .nmul => p.mulRisk n m
  | .div => p.divRisk n m
  | .sqrt => (false, false)
  | .mac | .nmac | .msc | .nmsc =>
    let r := p.mulRisk n m
    if !(p.isNormal d && p.isNormal n && p.isNormal m) then (false, false)
    else if (r.1 && enabledOf scr) || (r.2 && !flushMode scr) then r
    else p.addRisk (op.accumulator p d) (op.product p (roundingOf scr) n m).bits

/-- An infinite accumulator and a product that is, or may overflow to, an infinity that makes the sum invalid (R517). -/
def FpOp.sumInvalid (op : FpOp) (p : Prec) (d n m : DWord) : Bool :=
  p.isInf d && (p.isInf n || p.isInf m || (p.mulRisk n m).1) &&
    (p.negative (op.accumulator p d) != ((p.negative n != p.negative m) != op.negatesProduct))

/-- The invalid, and potentially invalid, conditions of R517 other than signaling NaNs. -/
def FpOp.isInvalid (op : FpOp) (p : Prec) (d n m : DWord) : Bool :=
  let zeroTimesInf := (p.isZero n && p.isInf m) || (p.isInf n && p.isZero m)
  match op with
  | .add => p.isInf n && p.isInf m && p.negative n != p.negative m
  | .sub => p.isInf n && p.isInf m && p.negative n == p.negative m
  | .mul | .nmul => zeroTimesInf
  | .div => (p.isZero n && p.isZero m) || (p.isInf n && p.isInf m)
  | .sqrt => p.negative m && !p.isZero m && !p.isNan m
  | .mac | .nmac | .msc | .nmsc => zeroTimesInf || (!p.isNan n && !p.isNan m && op.sumInvalid p d n m)

/-- What one iteration of an arithmetic CDP comes to: a bounce with the flags of the FPEXC, or a result. -/
inductive Verdict where
  | bounce (flags : Word)
  | done (r : Computed)
  deriving DecidableEq, Repr

/-- A subnormal operand read as +0 in flush-to-zero mode. -/
def Prec.flush (p : Prec) (scr : Word) (v : DWord) : DWord :=
  if flushMode scr && p.isSubnormal v then p.zero false else v

/-- Step 2 of R1444 for one operand: an operand that the hardware does not handle. -/
def Prec.badInput (p : Prec) (scr : Word) (v : DWord) : Bool :=
  (p.isNan v && !defaultNanMode scr) || (p.isSubnormal v && (!flushMode scr || enabledId scr))

/-- The tests of R1444: `bad` is the input test, `io`, `dz`, `ofl` and `ufl` the conditions of steps 3 to 6. -/
def judge (scr : Word) (bad io dz ofl ufl : Bool) (result : Computed) : Verdict :=
  let f := flagIf bad fpIdc ||| flagIf (enabledIo scr && io) fpIoc |||
    flagIf (!bad && enabledOf scr && ofl) fpOfc ||| flagIf (!bad && !flushMode scr && ufl) fpUfc
  if f != 0 || (enabledDz scr && dz) then .bounce f else .done result

/-- `Iterate` of R1444 for an operation of R1445 to R1454, on raw operands. -/
def FpOp.verdict (op : FpOp) (p : Prec) (scr : Word) (d n m : DWord) : Verdict :=
  let raw := op.operands d n m
  let d' := p.flush scr d
  let n' := p.flush scr n
  let m' := p.flush scr m
  let risk := op.risk p scr d' n' m'
  judge scr (raw.any (p.badInput scr)) (raw.any p.isSnan || op.isInvalid p d' n' m')
    (op = .div && p.isZero m' && (p.isNormal n' || p.isSubnormal n')) risk.1 risk.2
    ((op.compute p (roundingOf scr) d' n' m').also (flagIf (raw.any p.isSubnormal) fpIdc))

/-! Compares -/

/-- The order of two values that are no NaNs, as FPSCR[31:28] shows it (R1458). -/
def Prec.order (p : Prec) (a b : DWord) : BitVec 4 :=
  let key (v : DWord) : Int :=
    let m : Int := (p.exponent v * 2 ^ p.frac + p.fraction v : Nat)
    if p.negative v then -m else m
  if key a < key b then 0b1000 else if key a = key b then 0b0110 else 0b0010

/-- The compares of R1458 to R1461; the result is the new FPSCR[31:28]. -/
def compareVerdict (signal : Bool) (p : Prec) (scr : Word) (a b : DWord) : Verdict :=
  let raw := [a, b]
  let nan := raw.any p.isNan
  let bad := raw.any p.isSnan || (signal && nan)
  judge scr (raw.any (p.badInput scr)) bad false false false
    { bits := if nan then 0b0011 else (p.order (p.flush scr a) (p.flush scr b)).setWidth 64
      flags := flagIf bad fpIoc ||| flagIf (raw.any p.isSubnormal) fpIdc }

/-! Conversions -/

/-- FCVTDS (R1462). -/
def widenVerdict (scr : Word) (v : DWord) : Verdict :=
  let b := Prec.single.flush scr v
  let neg := Prec.single.negative b
  judge scr (Prec.single.badInput scr v) (Prec.single.isSnan v) false false false
    ((if Prec.single.isNan b then nanResult .double [] |>.also (flagIf (Prec.single.isSnan b) fpIoc)
      else if Prec.single.isZero b then exactly (Prec.double.zero neg)
      else if Prec.single.isInf b then exactly (Prec.double.inf neg)
      else exactly (Prec.double.pack neg (Prec.single.exponent b + 896) (Prec.single.fraction b * 2 ^ 29))).also
      (flagIf (Prec.single.isSubnormal v) fpIdc))

/-- FCVTSD (R1463), with the thresholds of R524. -/
def narrowVerdict (scr : Word) (v : DWord) : Verdict :=
  let b := Prec.double.flush scr v
  let neg := Prec.double.negative b
  let normal := Prec.double.isNormal b
  judge scr (Prec.double.badInput scr v) (Prec.double.isSnan v) false
    (normal && decide (0x47D ≤ Prec.double.exponent b)) (normal && decide (Prec.double.exponent b ≤ 0x380))
    ((if Prec.double.isNan b then nanResult .single [] |>.also (flagIf (Prec.double.isSnan b) fpIoc)
      else if Prec.double.isZero b then exactly (Prec.single.zero neg)
      else if Prec.double.isInf b then exactly (Prec.single.inf neg)
      else Prec.single.finishScaled (roundingOf scr) neg (Prec.double.sig b) (Prec.double.exp b)).also
      (flagIf (Prec.double.isSubnormal v) fpIdc))

/-- `IntToFloat` (R1464). -/
def Prec.ofInt (p : Prec) (mode : Rounding) (i : Int) : Computed :=
  if i = 0 then exactly (p.zero false)
  else
    let r := p.round mode (decide (i < 0)) i.natAbs 1
    { bits := p.ofRounded (decide (i < 0)) r, flags := flagIf r.inexact fpIxc }

/-- A magnitude `sig * 2 ^ exp` rounded to an integer, and whether that differs. -/
def toNatRounded (mode : Rounding) (neg : Bool) (sig : Nat) (exp : Int) : Nat × Bool :=
  let n := sig * 2 ^ exp.toNat
  let d := 2 ^ (-exp).toNat
  (if roundsUp mode neg (n / d) (n % d) d then n / d + 1 else n / d, n % d != 0)

/-- `FloatToInt` (R1466, R518). -/
def Prec.toInt (p : Prec) (signed : Bool) (mode : Rounding) (b : DWord) : Computed :=
  let lo : Int := if signed then -(2 ^ 31) else 0
  let hi : Int := if signed then 2 ^ 31 - 1 else 2 ^ 32 - 1
  let word (i : Int) : DWord := (BitVec.ofInt 32 i).setWidth 64
  if p.isNan b then { bits := 0, flags := fpIoc }
  else if p.isInf b then { bits := word (if p.negative b then lo else hi), flags := fpIoc }
  else
    let (m, inexact) := toNatRounded mode (p.negative b) (p.sig b) (p.exp b)
    let i : Int := if p.negative b then -(m : Int) else m
    if i < lo then { bits := word lo, flags := fpIoc }
    else if hi < i then { bits := word hi, flags := fpIoc }
    else { bits := word i, flags := flagIf inexact fpIxc }

/-- The float-to-integer operands that bounce with IOE = 1 (R525). -/
def Prec.toIntBounces (p : Prec) (signed : Bool) (mode : Rounding) (b : DWord) : Bool :=
  let e : Int := (p.exponent b : Int) - p.bias
  let f := p.fraction b
  let notZ := mode != .zero
  if p.isNan b || p.isInf b then true
  else if !p.negative b then
    decide (32 ≤ e) || (e = 31 && (signed || notZ)) || (e = 30 && signed && notZ)
  else if !signed then true
  else if e = 31 then
    if f = 0 || (p = .double && decide (f < 2 ^ 21)) then notZ else true
  else decide (32 ≤ e)

/-- The float-to-integer conversions of R1466 to R1469. -/
def toIntVerdict (signed : Bool) (p : Prec) (mode : Rounding) (scr : Word) (v : DWord) : Verdict :=
  let b := p.flush scr v
  judge scr (p.badInput scr v) (p.toIntBounces signed mode b) false false false
    ((p.toInt signed mode b).also (flagIf (p.isSubnormal v) fpIdc))

end Sys2Proof.Machine
end

