-- ==== Sys2Proof/Machine/Vfp.lean ====
section
/-! DEFINITION. Vfp: the VFP11's access checks, registers, bounces and short vectors, and its CDP instructions (R487 to
R536, R1440 to R1469). -/

namespace Sys2Proof.Machine

/-! Registers (R486 to R488) -/

/-- A single-precision register. -/
def State.single (s : State) (n : BitVec 5) : Word := s.vfp.s[n.toNat]'n.isLt

/-- Write a single-precision register. -/
def State.setSingle (s : State) (n : BitVec 5) (v : Word) : State :=
  { s with vfp := { s.vfp with s := s.vfp.s.set n.toNat v n.isLt } }

/-- The low, and the high, half of a double-precision register (R488). -/
def lowHalf (n : BitVec 5) : BitVec 5 := n <<< 1
def highHalf (n : BitVec 5) : BitVec 5 := n <<< 1 ||| 1

/-- A register of a precision. -/
def State.fp (s : State) (p : Prec) (n : BitVec 5) : DWord :=
  match p with
  | .single => (s.single n).setWidth 64
  | .double => s.single (highHalf n) ++ s.single (lowHalf n)

/-- Write a register of a precision. -/
def State.setFp (s : State) (p : Prec) (n : BitVec 5) (v : DWord) : State :=
  match p with
  | .single => s.setSingle n (v.setWidth 32)
  | .double => (s.setSingle (lowHalf n) (v.setWidth 32)).setSingle (highHalf n) (v.extractLsb' 32 32)

/-- Write the FPSCR. -/
def State.setFpscr (s : State) (v : Word) : State := { s with vfp := { s.vfp with fpscr := v } }

/-! Access (R499, R528) -/

/-- The access field of coprocessor 10 or 11 in the CPACR. -/
def State.cpAccess (s : State) (cp11 : Bool) : BitVec 2 := s.cp15.cpacr.extractLsb' (if cp11 then 22 else 20) 2

/-- `VfpAccessCheck` (R499); `system` marks the transfers of system registers that need no enabled coprocessor. -/
def vfpAccess (cp11 system : Bool) : Exec Unit := fun s =>
  if !s.isSecure && !(s.cp15.nsacr.getLsbD 10 && s.cp15.nsacr.getLsbD 11) then takeUndefined s
  else if s.cpAccess cp11 = 0b00#2 || (s.cpAccess cp11 = 0b01#2 && !s.privileged) then takeUndefined s
  else if s.cpAccess cp11 = 0b10#2 then .error (.refused .reservedAccess)
  else if !s.vfp.fpexc.getLsbD 30 && !(system && s.privileged) then takeUndefined s
  else .ok ((), s)

/-- The access check of a trigger instruction: in the exceptional state it bounces (R528). -/
def vfpReady (cp11 : Bool) : Exec Unit := do
  vfpAccess cp11 false
  let exceptional ← look fun s => s.vfp.fpexc.getLsbD 31
  if exceptional then takeUndefined else pure ()

/-- Coprocessor 11 is the double-precision one. -/
def Prec.isDouble (p : Prec) : Bool := p = .double

/-! Bounces (R522, R527) -/

/-- `EnterExceptional` (R527): `word` is the instruction as FPINST shows it, `remaining` the iterations after this one. -/
def State.enterExceptional (s : State) (word flags : Word) (remaining : Nat) : State :=
  { s with vfp := { s.vfp with
      fpinst := word
      fpexc := (s.vfp.fpexc &&& 0x50000000#32) ||| 0x80000000#32 ||| (BitVec.ofNat 32 ((remaining + 7) % 8) <<< 8) |||
        flags } }

/-- The bounce of every arithmetic CDP with IXE = 1 (R522). -/
def inexactBounce : Exec Unit := fun s =>
  if enabledIx s.vfp.fpscr then
    takeUndefined { s with vfp := { s.vfp with fpexc := s.vfp.fpexc ||| 0x80000000#32 } }
  else .ok ((), s)

/-- A register number in its field and extra bit (R487). -/
def fpField (p : Prec) (n : BitVec 5) (field extra : Nat) : Word :=
  match p with
  | .single => ((n >>> 1).setWidth 32 <<< field) ||| bitAt (n.getLsbD 0) extra
  | .double => n.setWidth 32 <<< field

/-- The fields of the destination, of Fn and of Fm. -/
def fdField (p : Prec) (n : BitVec 5) : Word := fpField p n 12 22
def fnField (p : Prec) (n : BitVec 5) : Word := fpField p n 16 7
def fmField (p : Prec) (n : BitVec 5) : Word := fpField p n 0 5

/-- The end of an iteration: the bounce, or the result put where it goes and the flags set; whether to go on (R1444). -/
def settle (word : Word) (remaining : Nat) (put : DWord → State → State) (v : Verdict) : Exec Bool :=
  match v with
  | .bounce f => do
    update fun s => s.enterExceptional word f remaining
    pure false
  | .done r => do
    update fun s => (put r.bits s).setFpscr ((put r.bits s).vfp.fpscr ||| r.flags)
    pure true

/-! Short vectors (R494, R501 to R504) -/

/-- The registers of one precision in a bank. -/
def Prec.bank : Prec → Nat
  | .single => 8 | .double => 4

/-- `step` of R502: iteration `i` of the vector that starts at a register. -/
def Prec.at (p : Prec) (stride i : Nat) (r : BitVec 5) : BitVec 5 :=
  BitVec.ofNat 5 (r.toNat / p.bank * p.bank + (r.toNat + i * stride) % p.bank)

/-- The register sequence of a vector. -/
def Prec.sequence (p : Prec) (stride len : Nat) (r : BitVec 5) : List (BitVec 5) :=
  (List.range len).map fun i => p.at stride i r

/-- Two vectors that overlap without being identical (R504). -/
def clash (a b : List (BitVec 5)) : Bool := a != b && a.any b.contains

/-- FPSCR.LEN plus 1, and the stride (R494). -/
def State.vectorLength (s : State) : Nat := (s.vfp.fpscr.extractLsb' 16 3).toNat + 1
def State.vectorStride (s : State) : Nat := if s.vfp.fpscr.extractLsb' 20 2 = 0b11#2 then 2 else 1

/-- The STRIDE field holds 0b00 or 0b11 (R494, decision D21). -/
def State.strideDefined (s : State) : Bool :=
  s.vfp.fpscr.extractLsb' 20 2 = 0b00#2 || s.vfp.fpscr.extractLsb' 20 2 = 0b11#2

/-- The destination is in bank 0, or the length is 1: a scalar operation (R501). -/
def State.isScalar (s : State) (p : Prec) (d : BitVec 5) : Bool :=
  s.vectorLength = 1 || decide (d.toNat < p.bank)

/-- `ShortVector` from iteration `i` for `n` more, until one bounces (R502, R529): the body takes the registers and the
iterations remaining. -/
def vectorFrom (p : Prec) (stride : Nat) (d n m : BitVec 5)
    (body : BitVec 5 → BitVec 5 → BitVec 5 → Nat → Exec Bool) (i : Nat) : Nat → Exec Unit
  | 0 => pure ()
  | k + 1 => do
    let go ← body (p.at stride i d) (p.at stride i n) (if m.toNat < p.bank then m else p.at stride i m) k
    if go then vectorFrom p stride d n m body (i + 1) k else pure ()

/-- `ShortVector` (R502): `sources` are the source registers that the overlap rule looks at. -/
def shortVector (p : Prec) (d n m : BitVec 5) (useN : Bool)
    (body : BitVec 5 → BitVec 5 → BitVec 5 → Nat → Exec Bool) : Exec Unit := fun s =>
  if s.isScalar p d then (do let _ ← body d n m 0; pure ()) s
  else
    let len := s.vectorLength
    let stride := s.vectorStride
    let ds := p.sequence stride len d
    let ms := if m.toNat < p.bank then [] else p.sequence stride len m
    if !s.strideDefined || decide (p.bank < len * stride) then .error (.refused .vfpVectorShape)
    else if (useN && clash ds (p.sequence stride len n)) || clash ds ms then .error (.refused .vfpVectorOverlap)
    else vectorFrom p stride d n m body 0 len s

/-- `Iterate` of R1444: one iteration of an arithmetic CDP; `base` is its word without the register fields. -/
def iterate (p : Prec) (op : FpOp) (base : Word) (d n m : BitVec 5) (remaining : Nat) : Exec Bool := do
  let v ← look fun s => op.verdict p s.vfp.fpscr (s.fp p d) (s.fp p n) (s.fp p m)
  let word := base ||| fdField p d ||| (if op = .sqrt then 0 else fnField p n) ||| fmField p m
  settle word remaining (fun r s => s.setFp p d r) v

/-- One iteration of FCPY, FABS and FNEG. -/
def moveOne (p : Prec) (f : DWord → DWord) (d _n m : BitVec 5) (_remaining : Nat) : Exec Bool := do
  update fun s => s.setFp p d (f (s.fp p m))
  pure true

/-- An arithmetic CDP that may be a vector (R1444): `base` is its word without the register fields. -/
def vectorArithmetic (p : Prec) (op : FpOp) (base : Word) (d n m : BitVec 5) : Exec Unit := do
  vfpReady p.isDouble
  inexactBounce
  let ok ← look State.strideDefined
  if !ok then refuse .vfpVectorShape else
  shortVector p d n m (op != .sqrt) (iterate p op base)
  advance

/-- FCPY, FABS and FNEG (R1455 to R1457): no flags, no bounce. -/
def vectorMove (p : Prec) (f : DWord → DWord) (d m : BitVec 5) : Exec Unit := do
  vfpReady p.isDouble
  shortVector p d m m false (moveOne p f)
  advance

/-- A scalar-only CDP (R503): `word` is its whole word, with the condition AL. -/
def scalarOnly (cp11 : Bool) (word : Word) (verdict : State → Verdict) (put : DWord → State → State) : Exec Unit := do
  vfpReady cp11
  inexactBounce
  let v ← look verdict
  let _ ← settle word 0 put v
  advance

/-- A compare of Fd with Fm, or with zero (R1458 to R1461). -/
def fpCompare (p : Prec) (signal : Bool) (base : Word) (d : BitVec 5) (m : Option (BitVec 5)) : Exec Unit :=
  scalarOnly p.isDouble (base ||| fdField p d ||| ((m.map (fmField p)).getD 0))
    (fun s => compareVerdict signal p s.vfp.fpscr (s.fp p d) ((m.map (s.fp p)).getD 0))
    (fun r s => s.setFpscr ((s.vfp.fpscr &&& 0x0FFFFFFF#32) ||| (r.setWidth 32 <<< 28)))

/-- An integer-to-float conversion (R1464, R1465). -/
def fpFromInt (p : Prec) (value : Word → Int) (base : Word) (d m : BitVec 5) : Exec Unit :=
  scalarOnly p.isDouble (base ||| fdField p d ||| fmField .single m)
    (fun s => .done (p.ofInt (roundingOf s.vfp.fpscr) (value (s.single m))))
    (fun r s => s.setFp p d r)

/-- A float-to-integer conversion (R1466 to R1469); `towardsZero` forces the rounding mode. -/
def fpToInt (p : Prec) (signed towardsZero : Bool) (base : Word) (d m : BitVec 5) : Exec Unit :=
  scalarOnly p.isDouble (base ||| fdField .single d ||| fmField p m)
    (fun s => toIntVerdict signed p (if towardsZero then .zero else roundingOf s.vfp.fpscr) s.vfp.fpscr (s.fp p m))
    (fun r s => s.setFp .single d r)

/-- The number of a single-precision register: its extra bit is the least significant (R487). -/
def singleNo (field : BitVec 4) (extra : Bool) : BitVec 5 := field ++ BitVec.ofBool extra

/-- The number of a double-precision register. -/
def doubleNo (field : BitVec 4) : BitVec 5 := field.setWidth 5


/-- FMACS (R1449). -/
def execFmacs (c : Cond) (dBit : Bool) (fn fd : BitVec 4) (nBit mBit : Bool) (fm : BitVec 4) (s : State) :
    Host.Outcome State Fault Refusal :=
  outcome (conditional c (vectorArithmetic .single .mac 0xEE000A00#32 (singleNo fd dBit) (singleNo fn nBit) (singleNo fm mBit))) s

/-- FMACD (R1449). -/
def execFmacd (c : Cond) (fn fd fm : BitVec 4) (s : State) : Host.Outcome State Fault Refusal :=
  outcome (conditional c (vectorArithmetic .double .mac 0xEE000B00#32 (doubleNo fd) (doubleNo fn) (doubleNo fm))) s

/-- FNMACS (R1450). -/
def execFnmacs (c : Cond) (dBit : Bool) (fn fd : BitVec 4) (nBit mBit : Bool) (fm : BitVec 4) (s : State) :
    Host.Outcome State Fault Refusal :=
  outcome (conditional c (vectorArithmetic .single .nmac 0xEE000A40#32 (singleNo fd dBit) (singleNo fn nBit) (singleNo fm mBit))) s

/-- FNMACD (R1450). -/
def execFnmacd (c : Cond) (fn fd fm : BitVec 4) (s : State) : Host.Outcome State Fault Refusal :=
  outcome (conditional c (vectorArithmetic .double .nmac 0xEE000B40#32 (doubleNo fd) (doubleNo fn) (doubleNo fm))) s

/-- FMSCS (R1451). -/
def execFmscs (c : Cond) (dBit : Bool) (fn fd : BitVec 4) (nBit mBit : Bool) (fm : BitVec 4) (s : State) :
    Host.Outcome State Fault Refusal :=
  outcome (conditional c (vectorArithmetic .single .msc 0xEE100A00#32 (singleNo fd dBit) (singleNo fn nBit) (singleNo fm mBit))) s

/-- FMSCD (R1451). -/
def execFmscd (c : Cond) (fn fd fm : BitVec 4) (s : State) : Host.Outcome State Fault Refusal :=
  outcome (conditional c (vectorArithmetic .double .msc 0xEE100B00#32 (doubleNo fd) (doubleNo fn) (doubleNo fm))) s

/-- FNMSCS (R1452). -/
def execFnmscs (c : Cond) (dBit : Bool) (fn fd : BitVec 4) (nBit mBit : Bool) (fm : BitVec 4) (s : State) :
    Host.Outcome State Fault Refusal :=
  outcome (conditional c (vectorArithmetic .single .nmsc 0xEE100A40#32 (singleNo fd dBit) (singleNo fn nBit) (singleNo fm mBit))) s

/-- FNMSCD (R1452). -/
def execFnmscd (c : Cond) (fn fd fm : BitVec 4) (s : State) : Host.Outcome State Fault Refusal :=
  outcome (conditional c (vectorArithmetic .double .nmsc 0xEE100B40#32 (doubleNo fd) (doubleNo fn) (doubleNo fm))) s

/-- FMULS (R1447). -/
def execFmuls (c : Cond) (dBit : Bool) (fn fd : BitVec 4) (nBit mBit : Bool) (fm : BitVec 4) (s : State) :
    Host.Outcome State Fault Refusal :=
  outcome (conditional c (vectorArithmetic .single .mul 0xEE200A00#32 (singleNo fd dBit) (singleNo fn nBit) (singleNo fm mBit))) s

/-- FMULD (R1447). -/
def execFmuld (c : Cond) (fn fd fm : BitVec 4) (s : State) : Host.Outcome State Fault Refusal :=
  outcome (conditional c (vectorArithmetic .double .mul 0xEE200B00#32 (doubleNo fd) (doubleNo fn) (doubleNo fm))) s

/-- FNMULS (R1448). -/
def execFnmuls (c : Cond) (dBit : Bool) (fn fd : BitVec 4) (nBit mBit : Bool) (fm : BitVec 4) (s : State) :
    Host.Outcome State Fault Refusal :=
  outcome (conditional c (vectorArithmetic .single .nmul 0xEE200A40#32 (singleNo fd dBit) (singleNo fn nBit) (singleNo fm mBit))) s

/-- FNMULD (R1448). -/
def execFnmuld (c : Cond) (fn fd fm : BitVec 4) (s : State) : Host.Outcome State Fault Refusal :=
  outcome (conditional c (vectorArithmetic .double .nmul 0xEE200B40#32 (doubleNo fd) (doubleNo fn) (doubleNo fm))) s

/-- FADDS (R1445). -/
def execFadds (c : Cond) (dBit : Bool) (fn fd : BitVec 4) (nBit mBit : Bool) (fm : BitVec 4) (s : State) :
    Host.Outcome State Fault Refusal :=
  outcome (conditional c (vectorArithmetic .single .add 0xEE300A00#32 (singleNo fd dBit) (singleNo fn nBit) (singleNo fm mBit))) s

/-- FADDD (R1445). -/
def execFaddd (c : Cond) (fn fd fm : BitVec 4) (s : State) : Host.Outcome State Fault Refusal :=
  outcome (conditional c (vectorArithmetic .double .add 0xEE300B00#32 (doubleNo fd) (doubleNo fn) (doubleNo fm))) s

/-- FSUBS (R1446). -/
def execFsubs (c : Cond) (dBit : Bool) (fn fd : BitVec 4) (nBit mBit : Bool) (fm : BitVec 4) (s : State) :
    Host.Outcome State Fault Refusal :=
  outcome (conditional c (vectorArithmetic .single .sub 0xEE300A40#32 (singleNo fd dBit) (singleNo fn nBit) (singleNo fm mBit))) s

/-- FSUBD (R1446). -/
def execFsubd (c : Cond) (fn fd fm : BitVec 4) (s : State) : Host.Outcome State Fault Refusal :=
  outcome (conditional c (vectorArithmetic .double .sub 0xEE300B40#32 (doubleNo fd) (doubleNo fn) (doubleNo fm))) s

/-- FDIVS (R1453). -/
def execFdivs (c : Cond) (dBit : Bool) (fn fd : BitVec 4) (nBit mBit : Bool) (fm : BitVec 4) (s : State) :
    Host.Outcome State Fault Refusal :=
  outcome (conditional c (vectorArithmetic .single .div 0xEE800A00#32 (singleNo fd dBit) (singleNo fn nBit) (singleNo fm mBit))) s

/-- FDIVD (R1453). -/
def execFdivd (c : Cond) (fn fd fm : BitVec 4) (s : State) : Host.Outcome State Fault Refusal :=
  outcome (conditional c (vectorArithmetic .double .div 0xEE800B00#32 (doubleNo fd) (doubleNo fn) (doubleNo fm))) s

/-- FSQRTS (R1454). -/
def execFsqrts (c : Cond) (dBit : Bool) (fd : BitVec 4) (mBit : Bool) (fm : BitVec 4) (s : State) : Host.Outcome
    State Fault Refusal :=
  outcome (conditional c (vectorArithmetic .single .sqrt 0xEEB10AC0#32 (singleNo fd dBit) 0 (singleNo fm mBit))) s

/-- FSQRTD (R1454). -/
def execFsqrtd (c : Cond) (fd fm : BitVec 4) (s : State) : Host.Outcome State Fault Refusal :=
  outcome (conditional c (vectorArithmetic .double .sqrt 0xEEB10BC0#32 (doubleNo fd) 0 (doubleNo fm))) s

/-- FCPYS (R1455). -/
def execFcpys (c : Cond) (dBit : Bool) (fd : BitVec 4) (mBit : Bool) (fm : BitVec 4) (s : State) : Host.Outcome
    State Fault Refusal :=
  outcome (conditional c (vectorMove .single id (singleNo fd dBit) (singleNo fm mBit))) s

/-- FCPYD (R1455). -/
def execFcpyd (c : Cond) (fd fm : BitVec 4) (s : State) : Host.Outcome State Fault Refusal :=
  outcome (conditional c (vectorMove .double id (doubleNo fd) (doubleNo fm))) s

/-- FABSS (R1456). -/
def execFabss (c : Cond) (dBit : Bool) (fd : BitVec 4) (mBit : Bool) (fm : BitVec 4) (s : State) : Host.Outcome
    State Fault Refusal :=
  outcome (conditional c (vectorMove .single (fun v => v &&& ~~~(1#64 <<< Prec.sign .single)) (singleNo fd dBit) (singleNo fm mBit))) s

/-- FABSD (R1456). -/
def execFabsd (c : Cond) (fd fm : BitVec 4) (s : State) : Host.Outcome State Fault Refusal :=
  outcome (conditional c (vectorMove .double (fun v => v &&& ~~~(1#64 <<< Prec.sign .double)) (doubleNo fd) (doubleNo fm))) s

/-- FNEGS (R1457). -/
def execFnegs (c : Cond) (dBit : Bool) (fd : BitVec 4) (mBit : Bool) (fm : BitVec 4) (s : State) : Host.Outcome
    State Fault Refusal :=
  outcome (conditional c (vectorMove .single (Prec.neg .single) (singleNo fd dBit) (singleNo fm mBit))) s

/-- FNEGD (R1457). -/
def execFnegd (c : Cond) (fd fm : BitVec 4) (s : State) : Host.Outcome State Fault Refusal :=
  outcome (conditional c (vectorMove .double (Prec.neg .double) (doubleNo fd) (doubleNo fm))) s

/-- FCMPS (R1458). -/
def execFcmps (c : Cond) (dBit : Bool) (fd : BitVec 4) (mBit : Bool) (fm : BitVec 4) (s : State) : Host.Outcome
    State Fault Refusal :=
  outcome (conditional c (fpCompare .single false 0xEEB40A40#32 (singleNo fd dBit) (some (singleNo fm mBit)))) s

/-- FCMPD (R1458). -/
def execFcmpd (c : Cond) (fd fm : BitVec 4) (s : State) : Host.Outcome State Fault Refusal :=
  outcome (conditional c (fpCompare .double false 0xEEB40B40#32 (doubleNo fd) (some (doubleNo fm)))) s

/-- FCMPES (R1459). -/
def execFcmpes (c : Cond) (dBit : Bool) (fd : BitVec 4) (mBit : Bool) (fm : BitVec 4) (s : State) : Host.Outcome
    State Fault Refusal :=
  outcome (conditional c (fpCompare .single true 0xEEB40AC0#32 (singleNo fd dBit) (some (singleNo fm mBit)))) s

/-- FCMPED (R1459). -/
def execFcmped (c : Cond) (fd fm : BitVec 4) (s : State) : Host.Outcome State Fault Refusal :=
  outcome (conditional c (fpCompare .double true 0xEEB40BC0#32 (doubleNo fd) (some (doubleNo fm)))) s

/-- FCMPZS (R1460). -/
def execFcmpzs (c : Cond) (dBit : Bool) (fd : BitVec 4) (s : State) : Host.Outcome State Fault Refusal :=
  outcome (conditional c (fpCompare .single false 0xEEB50A40#32 (singleNo fd dBit) none)) s

/-- FCMPZD (R1460). -/
def execFcmpzd (c : Cond) (fd : BitVec 4) (s : State) : Host.Outcome State Fault Refusal :=
  outcome (conditional c (fpCompare .double false 0xEEB50B40#32 (doubleNo fd) none)) s

/-- FCMPEZS (R1461). -/
def execFcmpezs (c : Cond) (dBit : Bool) (fd : BitVec 4) (s : State) : Host.Outcome State Fault Refusal :=
  outcome (conditional c (fpCompare .single true 0xEEB50AC0#32 (singleNo fd dBit) none)) s

/-- FCMPEZD (R1461). -/
def execFcmpezd (c : Cond) (fd : BitVec 4) (s : State) : Host.Outcome State Fault Refusal :=
  outcome (conditional c (fpCompare .double true 0xEEB50BC0#32 (doubleNo fd) none)) s

/-- FCVTDS (R1462). -/
def execFcvtds (c : Cond) (fd : BitVec 4) (mBit : Bool) (fm : BitVec 4) (s : State) : Host.Outcome State Fault
    Refusal :=
  outcome (conditional c (do
      (scalarOnly false (0xEEB70AC0#32 ||| fdField .double (doubleNo fd) ||| fmField .single (singleNo fm mBit))
        (fun s => widenVerdict s.vfp.fpscr (s.fp .single (singleNo fm mBit)))
        (fun r s => s.setFp .double (doubleNo fd) r)))) s

/-- FCVTSD (R1463). -/
def execFcvtsd (c : Cond) (dBit : Bool) (fd fm : BitVec 4) (s : State) : Host.Outcome State Fault Refusal :=
  outcome (conditional c (do
      (scalarOnly true (0xEEB70BC0#32 ||| fdField .single (singleNo fd dBit) ||| fmField .double (doubleNo fm))
        (fun s => narrowVerdict s.vfp.fpscr (s.fp .double (doubleNo fm)))
        (fun r s => s.setFp .single (singleNo fd dBit) r)))) s

/-- FUITOS (R1464). -/
def execFuitos (c : Cond) (dBit : Bool) (fd : BitVec 4) (mBit : Bool) (fm : BitVec 4) (s : State) : Host.Outcome
    State Fault Refusal :=
  outcome (conditional c (fpFromInt .single (fun w => w.toNat) 0xEEB80A40#32 (singleNo fd dBit) (singleNo fm mBit))) s

/-- FUITOD (R1464). -/
def execFuitod (c : Cond) (fd : BitVec 4) (mBit : Bool) (fm : BitVec 4) (s : State) : Host.Outcome State Fault
    Refusal :=
  outcome (conditional c (fpFromInt .double (fun w => w.toNat) 0xEEB80B40#32 (doubleNo fd) (singleNo fm mBit))) s

/-- FSITOS (R1465). -/
def execFsitos (c : Cond) (dBit : Bool) (fd : BitVec 4) (mBit : Bool) (fm : BitVec 4) (s : State) : Host.Outcome
    State Fault Refusal :=
  outcome (conditional c (fpFromInt .single BitVec.toInt 0xEEB80AC0#32 (singleNo fd dBit) (singleNo fm mBit))) s

/-- FSITOD (R1465). -/
def execFsitod (c : Cond) (fd : BitVec 4) (mBit : Bool) (fm : BitVec 4) (s : State) : Host.Outcome State Fault
    Refusal :=
  outcome (conditional c (fpFromInt .double BitVec.toInt 0xEEB80BC0#32 (doubleNo fd) (singleNo fm mBit))) s

/-- FTOUIS (R1466). -/
def execFtouis (c : Cond) (dBit : Bool) (fd : BitVec 4) (mBit : Bool) (fm : BitVec 4) (s : State) : Host.Outcome
    State Fault Refusal :=
  outcome (conditional c (fpToInt .single false false 0xEEBC0A40#32 (singleNo fd dBit) (singleNo fm mBit))) s

/-- FTOUID (R1466). -/
def execFtouid (c : Cond) (dBit : Bool) (fd fm : BitVec 4) (s : State) : Host.Outcome State Fault Refusal :=
  outcome (conditional c (fpToInt .double false false 0xEEBC0B40#32 (singleNo fd dBit) (doubleNo fm))) s

/-- FTOUIZS (R1467). -/
def execFtouizs (c : Cond) (dBit : Bool) (fd : BitVec 4) (mBit : Bool) (fm : BitVec 4) (s : State) : Host.Outcome
    State Fault Refusal :=
  outcome (conditional c (fpToInt .single false true 0xEEBC0AC0#32 (singleNo fd dBit) (singleNo fm mBit))) s

/-- FTOUIZD (R1467). -/
def execFtouizd (c : Cond) (dBit : Bool) (fd fm : BitVec 4) (s : State) : Host.Outcome State Fault Refusal :=
  outcome (conditional c (fpToInt .double false true 0xEEBC0BC0#32 (singleNo fd dBit) (doubleNo fm))) s

/-- FTOSIS (R1468). -/
def execFtosis (c : Cond) (dBit : Bool) (fd : BitVec 4) (mBit : Bool) (fm : BitVec 4) (s : State) : Host.Outcome
    State Fault Refusal :=
  outcome (conditional c (fpToInt .single true false 0xEEBD0A40#32 (singleNo fd dBit) (singleNo fm mBit))) s

/-- FTOSID (R1468). -/
def execFtosid (c : Cond) (dBit : Bool) (fd fm : BitVec 4) (s : State) : Host.Outcome State Fault Refusal :=
  outcome (conditional c (fpToInt .double true false 0xEEBD0B40#32 (singleNo fd dBit) (doubleNo fm))) s

/-- FTOSIZS (R1469). -/
def execFtosizs (c : Cond) (dBit : Bool) (fd : BitVec 4) (mBit : Bool) (fm : BitVec 4) (s : State) : Host.Outcome
    State Fault Refusal :=
  outcome (conditional c (fpToInt .single true true 0xEEBD0AC0#32 (singleNo fd dBit) (singleNo fm mBit))) s

/-- FTOSIZD (R1469). -/
def execFtosizd (c : Cond) (dBit : Bool) (fd fm : BitVec 4) (s : State) : Host.Outcome State Fault Refusal :=
  outcome (conditional c (fpToInt .double true true 0xEEBD0BC0#32 (singleNo fd dBit) (doubleNo fm))) s

end Sys2Proof.Machine
end

