-- ==== Sys2Proof/Machine/Coproc.lean ====
section
/-! DEFINITION. Coproc: the coprocessor instructions (R1300 to R1315): which coprocessor an instruction reaches, and what
becomes of it there. There is no external coprocessor (R1310, decision D48). -/

namespace Sys2Proof.Machine

/-- A coprocessor instruction that no instruction of CP14, CP15 or the VFP has the words of (R1301): after the access
checks of coprocessors 10 and 11 (R499), Undefined; the others are absent (R1310). -/
def noCoprocessor (cp : BitVec 4) : Exec Unit := do
  if cp = 10 then vfpAccess false false else pure ()
  if cp = 11 then vfpAccess true false else pure ()
  takeUndefined

/-- MCR (R1304). -/
def coprocWrite (cp : BitVec 4) (op1 : BitVec 3) (crn crm : BitVec 4) (op2 : BitVec 3) (rd : RegNo) : Exec Unit :=
  if cp = 15 then cp15Write crn op1 crm op2 rd
  else if cp = 14 then cp14Write op1 crn crm op2 rd
  else noCoprocessor cp

/-- MRC (R1305). -/
def coprocRead (cp : BitVec 4) (op1 : BitVec 3) (crn crm : BitVec 4) (op2 : BitVec 3) (rd : RegNo) : Exec Unit :=
  if cp = 15 then cp15Read crn op1 crm op2 rd
  else if cp = 14 then cp14Read op1 crn crm op2 rd
  else noCoprocessor cp

/-- LDC (R1308). -/
def coprocLoad (cp : BitVec 4) (nBit : Bool) (crd : BitVec 4) (rn : RegNo) (m : Mode5) : Exec Unit :=
  if cp = 14 then debugLoad nBit crd rn m else noCoprocessor cp

/-- STC (R1309). -/
def coprocStore (cp : BitVec 4) (nBit : Bool) (crd : BitVec 4) (rn : RegNo) (m : Mode5) : Exec Unit :=
  if cp = 14 then debugStore nBit crd rn m else noCoprocessor cp

/-! The instructions -/

/-- CDP: no coprocessor but the VFP has data operations, and those have constructors of their own (R1302). -/
def execCdp (c : Cond) (_op1 _crn _crd cp : BitVec 4) (_op2 : BitVec 3) (_crm : BitVec 4) (s : State) : Host.Outcome
    State Fault Refusal :=
  outcome (conditional c (noCoprocessor cp)) s

/-- MCR (R1304). -/
def execMcr (c : Cond) (op1 : BitVec 3) (crn : BitVec 4) (rd : RegNo) (cp : BitVec 4) (op2 : BitVec 3)
    (crm : BitVec 4) (s : State) : Host.Outcome State Fault Refusal :=
  outcome (conditional c (coprocWrite cp op1 crn crm op2 rd)) s

/-- MRC (R1305). -/
def execMrc (c : Cond) (op1 : BitVec 3) (crn : BitVec 4) (rd : RegNo) (cp : BitVec 4) (op2 : BitVec 3)
    (crm : BitVec 4) (s : State) : Host.Outcome State Fault Refusal :=
  outcome (conditional c (coprocRead cp op1 crn crm op2 rd)) s

/-- MCRR: the cache range operations of CP15 (R1306). -/
def execMcrr (c : Cond) (rn rd : RegNo) (cp op crm : BitVec 4) (s : State) : Host.Outcome State Fault Refusal :=
  outcome (conditional c (if cp = 15 then cp15Range op crm rd rn else noCoprocessor cp)) s

/-- MRRC: Undefined for CP14 and CP15 (R101, R1307), with the fields of a range operation too (DEDUCED, log 107). -/
def execMrrc (c : Cond) (_rn _rd : RegNo) (cp _op _crm : BitVec 4) (s : State) : Host.Outcome State Fault Refusal :=
  outcome (conditional c (noCoprocessor cp)) s

/-- LDC with an immediate offset, or pre-indexed (R1308). -/
def execLdcOffset (c : Cond) (u nBit wb : Bool) (rn : RegNo) (crd cp : BitVec 4) (imm : BitVec 8) (s : State) :
    Host.Outcome State Fault Refusal :=
  outcome (conditional c (coprocLoad cp nBit crd rn (.offset u wb imm))) s

/-- LDC, post-indexed (R1308). -/
def execLdcPost (c : Cond) (u nBit : Bool) (rn : RegNo) (crd cp : BitVec 4) (imm : BitVec 8) (s : State) :
    Host.Outcome State Fault Refusal :=
  outcome (conditional c (coprocLoad cp nBit crd rn (.post u imm))) s

/-- LDC, unindexed: the option is the coprocessor's (R1308). -/
def execLdcUnindexed (c : Cond) (nBit : Bool) (rn : RegNo) (crd cp : BitVec 4) (_opt : BitVec 8) (s : State) :
    Host.Outcome State Fault Refusal :=
  outcome (conditional c (coprocLoad cp nBit crd rn .unindexed)) s

/-- STC with an immediate offset, or pre-indexed (R1309). -/
def execStcOffset (c : Cond) (u nBit wb : Bool) (rn : RegNo) (crd cp : BitVec 4) (imm : BitVec 8) (s : State) :
    Host.Outcome State Fault Refusal :=
  outcome (conditional c (coprocStore cp nBit crd rn (.offset u wb imm))) s

/-- STC, post-indexed (R1309). -/
def execStcPost (c : Cond) (u nBit : Bool) (rn : RegNo) (crd cp : BitVec 4) (imm : BitVec 8) (s : State) :
    Host.Outcome State Fault Refusal :=
  outcome (conditional c (coprocStore cp nBit crd rn (.post u imm))) s

/-- STC, unindexed (R1309). -/
def execStcUnindexed (c : Cond) (nBit : Bool) (rn : RegNo) (crd cp : BitVec 4) (_opt : BitVec 8) (s : State) :
    Host.Outcome State Fault Refusal :=
  outcome (conditional c (coprocStore cp nBit crd rn .unindexed)) s

/-! The forms with 0b1111 in place of a condition: no coprocessor of this machine accepts them but CP15 the cache range
operations (R1311) -/

/-- CDP2 (R1311). -/
def execCdp2 (_op1 _crn _crd _cp : BitVec 4) (_op2 : BitVec 3) (_crm : BitVec 4) (s : State) : Host.Outcome State
    Fault Refusal :=
  outcome takeUndefined s

/-- MCR2 (R1311). -/
def execMcr2 (_op1 : BitVec 3) (_crn : BitVec 4) (_rd : RegNo) (_cp : BitVec 4) (_op2 : BitVec 3) (_crm : BitVec 4)
    (s : State) : Host.Outcome State Fault Refusal :=
  outcome takeUndefined s

/-- MRC2 (R1311). -/
def execMrc2 (_op1 : BitVec 3) (_crn : BitVec 4) (_rd : RegNo) (_cp : BitVec 4) (_op2 : BitVec 3) (_crm : BitVec 4)
    (s : State) : Host.Outcome State Fault Refusal :=
  outcome takeUndefined s

/-- MCRR2: for CP15 it is MCRR (R1311). -/
def execMcrr2 (rn rd : RegNo) (cp op crm : BitVec 4) (s : State) : Host.Outcome State Fault Refusal :=
  outcome (if cp = 15 then cp15Range op crm rd rn else takeUndefined) s

/-- MRRC2 (R1311); Undefined with the fields of a range operation too (C52; DEDUCED, log 107). -/
def execMrrc2 (_rn _rd : RegNo) (_cp _op _crm : BitVec 4) (s : State) : Host.Outcome State Fault Refusal :=
  outcome takeUndefined s

/-- LDC2 with an immediate offset, or pre-indexed (R1311). -/
def execLdc2Offset (_u _nBit _wb : Bool) (_rn : RegNo) (_crd _cp : BitVec 4) (_imm : BitVec 8) (s : State) :
    Host.Outcome State Fault Refusal :=
  outcome takeUndefined s

/-- LDC2, post-indexed (R1311). -/
def execLdc2Post (_u _nBit : Bool) (_rn : RegNo) (_crd _cp : BitVec 4) (_imm : BitVec 8) (s : State) : Host.Outcome
    State Fault Refusal :=
  outcome takeUndefined s

/-- LDC2, unindexed (R1311). -/
def execLdc2Unindexed (_nBit : Bool) (_rn : RegNo) (_crd _cp : BitVec 4) (_opt : BitVec 8) (s : State) :
    Host.Outcome State Fault Refusal :=
  outcome takeUndefined s

/-- STC2 with an immediate offset, or pre-indexed (R1311). -/
def execStc2Offset (_u _nBit _wb : Bool) (_rn : RegNo) (_crd _cp : BitVec 4) (_imm : BitVec 8) (s : State) :
    Host.Outcome State Fault Refusal :=
  outcome takeUndefined s

/-- STC2, post-indexed (R1311). -/
def execStc2Post (_u _nBit : Bool) (_rn : RegNo) (_crd _cp : BitVec 4) (_imm : BitVec 8) (s : State) : Host.Outcome
    State Fault Refusal :=
  outcome takeUndefined s

/-- STC2, unindexed (R1311). -/
def execStc2Unindexed (_nBit : Bool) (_rn : RegNo) (_crd _cp : BitVec 4) (_opt : BitVec 8) (s : State) :
    Host.Outcome State Fault Refusal :=
  outcome takeUndefined s

end Sys2Proof.Machine
end

