-- ==== Sys2Proof/Machine/Multiple.lean ====
section
/-! DEFINITION. Multiple: LDM, STM, RFE and SRS (R1190 to R1197), on the transfer of a list of registers. -/

namespace Sys2Proof.Machine

/-- The lowest address of a block transfer and the written-back base (R1145). -/
structure Block where
  start : Word
  back : Word
  deriving DecidableEq, Repr

/-- Addressing mode 4 (R1145): `n` words from the base value `b`. -/
def block (p u : Bool) (b : Word) (n : Nat) : Block where
  start := if u then (if p then b + 4 else b) else if p then b - wordsLong n else b - wordsLong n + 4
  back := if u then b + wordsLong n else b - wordsLong n

/-- The registers of a list with the addresses of their words, from the lowest up. -/
def placed (a : Word) : List RegNo → List (RegNo × Word)
  | [] => []
  | r :: rs => (r, a) :: placed (a + 4) rs

/-- The order in which a load multiple reads: the PC's word first (R1190). -/
def readOrder (l : List (RegNo × Word)) : List (RegNo × Word) :=
  l.filter (fun x => x.1 = 15) ++ l.filter (fun x => x.1 ≠ 15)

/-- Write loaded registers in the bank of a mode; R15 apart. -/
def State.putRegs (s : State) (m : Mode) : List (RegNo × Word) → State
  | [] => s
  | (r, w) :: rest => if r = 15 then s.putRegs m rest else (s.setRegOf m r w).putRegs m rest

/-- Of the registers whose words an aborted load multiple has read, each holds its old or its new value (R1146, decision
D46): a draw. The base register keeps its value. -/
def openLoaded (m : Mode) (base : Fin 32) : List (RegNo × Word) → Exec Unit
  | [] => pure ()
  | (r, w) :: rest => do
    let d ← draw
    update fun s => if d.getLsbD 0 && r != 15 && slot m r != base then s.setRegOf m r w else s
    openLoaded m base rest

/-- Read the words of a load multiple into the registers of a mode's bank, the DMA engine between them (R583). Where an abort
is taken, the link register that its entry has written keeps that. -/
def readListed (p : Acc) (m : Mode) (base : Fin 32) (done : List (RegNo × Word)) :
    List (RegNo × Word) → Exec (List (RegNo × Word))
  | [] => pure done
  | (r, a) :: rest => fun s =>
    match (do let w ← readWordAt { p with loadsPc := p.loadsPc || r = 15 } a; dmaInterval; pure w) s with
    | .ok (w, t) => readListed p m base ((r, w) :: done) rest t
    | .error (.took t) =>
      (do
        openLoaded m base (done.filter fun x => s.halted || slot m x.1 != slot t.cpsr.mode 14)
        endWith id) t
    | .error e => .error e

/-- The word read for R15, if it is in the list. -/
def pcWord (l : List (RegNo × Word)) : Word := ((l.find? fun x => x.1 = 15).map (·.2)).getD 0

/-- An empty list, R15 as base, and the base in a list with writeback (R1147). -/
def checkLoadList (wb : Bool) (rn : RegNo) (rs : List RegNo) : Exec Unit :=
  if rs = [] || rn = 15 || (wb && rs.contains rn) then refuse .unpredictableEncoding else pure ()

/-- The same of a store multiple, where the base may be the lowest register of the list. -/
def checkStoreList (wb : Bool) (rn : RegNo) (rs : List RegNo) : Exec Unit :=
  if rs = [] || rn = 15 || (wb && rs.contains rn && rs.head? != some rn) then refuse .unpredictableEncoding else pure ()

/-- Read a list of registers for the bank of mode `m`; `precise` says that an external abort on any of the words is
precise, as for LDM (3) (R1192). -/
def loadBlock (precise : Bool) (m : Mode) (rn : RegNo) (rs : List RegNo) (start : Word) :
    Exec (List (RegNo × Word)) := do
  let priv ← look State.privileged
  let base ← look fun s => slot s.cpsr.mode rn
  let p : Acc := { ty := .multi, write := false, priv := priv, loadsPc := precise }
  let (a, _) ← alignData p start
  let ws := readOrder (placed a rs)
  readListed { p.block a rs.length with lead := ws.head?.map (·.2) } m base [] ws

/-- Store words from a start address up. -/
def storeBlock (start : Word) (ws : List Word) : Exec Unit := do
  let priv ← look State.privileged
  let p : Acc := { ty := .multi, write := true, priv := priv }
  let (a, _) ← alignData p start
  writeWords (p.block a ws.length) a ws

/-- LDM (1) (R1190). -/
def loadMultiple (p u wb : Bool) (rn : RegNo) (rs : List RegNo) : Exec Unit := do
  checkLoadList wb rn rs
  let k ← look fun s => block p u (s.reg rn) rs.length
  let ws ← loadBlock false (← look fun s => s.cpsr.mode) rn rs k.start
  writeBase rn (if wb then some k.back else none)
  update fun s => s.putRegs s.cpsr.mode ws
  if rs.contains 15 then loadPc (pcWord ws) else advance

/-- STM (1) (R1193): the base stored is the original one. -/
def storeMultiple (p u wb : Bool) (rn : RegNo) (rs : List RegNo) : Exec Unit := do
  checkStoreList wb rn rs
  let k ← look fun s => block p u (s.reg rn) rs.length
  let ws ← look fun s => rs.map s.storedReg
  storeBlock k.start ws
  writeBase rn (if wb then some k.back else none)
  advance

/-- The modes without an SPSR and a User bank of their own, in which the `^` forms are refused (R1147). -/
def exceptionModeOnly : Exec Unit := fun s =>
  if s.cpsr.mode = .usr || s.cpsr.mode = .sys then .error (.refused .noSpsr) else .ok ((), s)

/-- LDM (1) (R1190). -/
def execLdm1 (c : Cond) (p u wb : Bool) (rn : RegNo) (regs : BitVec 16) (s : State) : Host.Outcome State Fault
    Refusal :=
  outcome (conditional c (loadMultiple p u wb rn (listed regs))) s

/-- LDM (2): User mode registers (R1191). -/
def execLdm2 (c : Cond) (p u : Bool) (rn : RegNo) (regs : BitVec 15) (s : State) : Host.Outcome State Fault Refusal
    :=
  outcome (conditional c (do
      exceptionModeOnly
      let rs := listed (regs.setWidth 16)
      checkLoadList false rn rs
      let k ← look fun s => block p u (s.reg rn) rs.length
      let ws ← loadBlock false .usr rn rs k.start
      update fun s => s.putRegs .usr ws
      advance)) s

/-- LDM (3): with the PC, restoring the CPSR (R1192). -/
def execLdm3 (c : Cond) (p u wb : Bool) (rn : RegNo) (regs : BitVec 15) (s : State) : Host.Outcome State Fault
    Refusal :=
  outcome (conditional c (do
      exceptionModeOnly
      let rs := listed (regs.setWidth 16) ++ [15]
      checkLoadList wb rn rs
      let before ← look id
      let k ← look fun s => block p u (s.reg rn) rs.length
      let ws ← loadBlock true (← look fun s => s.cpsr.mode) rn rs k.start
      writeBase rn (if wb then some k.back else none)
      update fun s => s.putRegs s.cpsr.mode ws
      let v ← currentSpsr
      exceptionReturn before v (pcWord ws))) s

/-- STM (1) (R1193). -/
def execStm1 (c : Cond) (p u wb : Bool) (rn : RegNo) (regs : BitVec 16) (s : State) : Host.Outcome State Fault
    Refusal :=
  outcome (conditional c (storeMultiple p u wb rn (listed regs))) s

/-- STM (2): User mode registers (R1194). -/
def execStm2 (c : Cond) (p u : Bool) (rn : RegNo) (regs : BitVec 16) (s : State) : Host.Outcome State Fault Refusal
    :=
  outcome (conditional c (do
      exceptionModeOnly
      let rs := listed regs
      checkStoreList false rn rs
      let k ← look fun s => block p u (s.reg rn) rs.length
      let ws ← look fun s => rs.map fun r => if r = 15 then s.storedPc else s.regOf .usr r
      storeBlock k.start ws
      advance)) s

/-- RFE: the saved status is read before the return address (R1196). -/
def execRfe (p u wb : Bool) (rn : RegNo) (s : State) : Host.Outcome State Fault Refusal :=
  outcome (do
      let priv ← look State.privileged
      if !priv || rn = 15 then refuse .unpredictableEncoding else
      let before ← look id
      let k ← look fun s => block p u (s.reg rn) 2
      let q : Acc := { ty := .multi, write := false, priv := priv, loadsPc := true }
      let (a, _) ← alignData q k.start
      let q := { q.block a 2 with lead := some (a + 4) }
      let psr ← readWordAt q (a + 4)
      dmaInterval
      let target ← readWordAt q a
      writeBase rn (if wb then some k.back else none)
      exceptionReturn before psr target) s

/-- SRS: on the stack of the named mode (R1197). -/
def execSrs (p u wb : Bool) (mode : BitVec 5) (s : State) : Host.Outcome State Fault Refusal :=
  outcome (do
      let psr ← currentSpsr
      let secure ← look State.isSecure
      if !secure && mode = 0b10110#5 then takeUndefined else
      match Mode.ofBits? mode with
      | none => refuse .illegalMode
      | some m => do
        let k ← look fun s => block p u (s.regOf m 13) 2
        let lr ← look fun s => s.reg 14
        storeBlock k.start [lr, psr]
        update fun s => if wb then s.setRegOf m 13 k.back else s
        advance) s

end Sys2Proof.Machine
end

