-- ==== Sys2Proof/Machine/Status.lean ====
section
/-! DEFINITION. Status: the ARM status register and system instructions (R1260 to R1275), and the Undefined space. -/

namespace Sys2Proof.Machine

/-- The bits that MSR and CPS may change (R1261). -/
def State.instrMask (s : State) (v bytes : Word) : Word :=
  let m := bytes &&& (if s.privileged then 0xF80F03DF#32 else 0xF80F0200#32)
  if s.isSecure then m
  else m &&& ~~~(bitAt (!s.cp15.scr.getLsbD 5) 8) &&& ~~~(bitAt (!s.cp15.scr.getLsbD 4) 6) &&&
    ~~~(if v.extractLsb' 0 5 = 0b10110#5 then 0x1F#32 else 0)

/-- `CPSRWriteByInstr` of R1261. In Debug state, a write that leads where debug is not permitted is ignored (R448). -/
def cpsrWriteByInstr (v bytes : Word) : Exec Unit := fun s =>
  match s.cpsr.merge v (s.instrMask v bytes) with
  | none => .error (.refused .illegalMode)
  | some p =>
    let t := s.setCpsr p
    if s.halted && !t.debugPermitted then .ok ((), s) else .ok ((), t)

/-- MSR to the CPSR in Debug state: every field can be written, J and T among them (R448, decision D15). -/
def cpsrWriteHalted (v bytes : Word) : Exec Unit := fun s =>
  match s.cpsr.merge v (bytes &&& psrMask) with
  | none => .error (.refused .illegalMode)
  | some p =>
    let secure := p.mode == .mon || !s.cp15.scr.getLsbD 0
    if !s.debugPermittedIn secure p.mode || (s.isSecure && s.cpsr.mode == .usr && !s.pins.spiden) then .ok ((), s)
    else .ok ((), s.setCpsr p)

/-- MSR, to the CPSR or the SPSR (R1264). -/
def writeStatus (spsr : Bool) (bytes v : Word) : Exec Unit := do
  if spsr then
    let old ← currentSpsr
    let mask := bytes &&& psrMask
    update fun s => { s with spsr := s.spsr.put s.cpsr.mode ((old &&& ~~~mask) ||| (v &&& mask)) }
  else
    let halted ← look State.halted
    if halted then cpsrWriteHalted v bytes else cpsrWriteByInstr v bytes
  advance

/-- The combinations of CPS fields that R1266 refuses. -/
def cpsRefused (imod : BitVec 2) (mmod anyFlag : Bool) (mode : BitVec 5) : Bool :=
  imod = 0b01#2 || (imod = 0b00#2 && !mmod) || (imod.getLsbD 1 != anyFlag) || (!mmod && mode != 0)

/-- CPS (R1266): no effect in User mode. -/
def changeState (disable change : Bool) (a i f : Bool) (mode : Option (BitVec 5)) : Exec Unit := do
  let priv ← look State.privileged
  if priv then
    let flags := bitAt a 8 ||| bitAt i 7 ||| bitAt f 6
    let v := (if disable then flags else 0) ||| ((mode.getD 0).setWidth 32)
    cpsrWriteByInstr v ((if change then flags else 0) ||| (if mode.isSome then 0x1F#32 else 0))
  advance

/-- Set the E bit (R1267). -/
def setEndian (e : Bool) : Exec Unit := do
  update fun s => s.setCpsr { s.cpsr with e := e }
  advance

/-- SVC, ignored in Debug state (R1268, R452). -/
def supervisorCall : Exec Unit := fun s =>
  if s.halted then .ok ((), s) else .error (.took (enterException .svc s))

/-- MRS (R1263). -/
def execMrs (c : Cond) (r : Bool) (rd : RegNo) (s : State) : Host.Outcome State Fault Refusal :=
  outcome (conditional c (do
      noPc [rd]
      let saved ← look fun s => s.cpsr.toWord
      let v ← if r then currentSpsr else pure saved
      finishReg rd v)) s

/-- MSR, register form (R1264). -/
def execMsrReg (c : Cond) (r : Bool) (fields : BitVec 4) (rm : RegNo) (s : State) : Host.Outcome State Fault Refusal
    :=
  outcome (conditional c (do
      noPc [rm]
      let v ← look fun s => s.reg rm
      writeStatus r (fieldMask fields) v)) s

/-- MSR, immediate form (R1265). -/
def execMsrImm (c : Cond) (r : Bool) (fields rot : BitVec 4) (imm : BitVec 8) (s : State) : Host.Outcome State Fault
    Refusal :=
  outcome (conditional c (writeStatus r (fieldMask fields) (shiftedImm rot imm false).value)) s

/-- CPS (R1266). -/
def execCps (imod : BitVec 2) (mmod aBit iBit fBit : Bool) (mode : BitVec 5) (s : State) : Host.Outcome State Fault
    Refusal :=
  outcome (do
      if cpsRefused imod mmod (aBit || iBit || fBit) mode then refuse .unpredictableEncoding
      else changeState (imod.getLsbD 0) (imod.getLsbD 1) aBit iBit fBit (if mmod then some mode else none)) s

/-- SETEND (R1267). -/
def execSetend (e : Bool) (s : State) : Host.Outcome State Fault Refusal :=
  outcome (setEndian e) s

/-- SVC: the immediate is for the handler (R1268). -/
def execSvc (c : Cond) (_imm : BitVec 24) (s : State) : Host.Outcome State Fault Refusal :=
  outcome (conditional c supervisorCall) s

/-- SMC (R1269); ignored in Debug state (R452). -/
def execSmc (c : Cond) (_imm : BitVec 16) (s : State) : Host.Outcome State Fault Refusal :=
  outcome (conditional c (do
      let halted ← look State.halted
      let priv ← look State.privileged
      if halted then advance
      else if priv then endWith (enterException .smc)
      else takeUndefined)) s

/-- BKPT: the immediate is for the debugger (R1270). -/
def execBkpt (_imm : BitVec 16) (s : State) : Host.Outcome State Fault Refusal :=
  outcome softwareBreakpoint s

/-- NOP, whatever its condition (R1271). -/
def execNop (_c : Cond) (s : State) : Host.Outcome State Fault Refusal :=
  outcome advance s

/-- YIELD acts as a NOP, whatever its condition (R1271). -/
def execYield (_c : Cond) (s : State) : Host.Outcome State Fault Refusal :=
  outcome advance s

/-- The reserved hints act as NOPs, whatever their condition (R1271). -/
def execNopReservedHint (_c : Cond) (_hint : BitVec 8) (s : State) : Host.Outcome State Fault Refusal :=
  outcome advance s

/-- The unallocated words of the unconditional space (R842, R844). -/
def execUndefinedArm (_ignored : BitVec 28) (s : State) : Host.Outcome State Fault Refusal :=
  outcome takeUndefined s

end Sys2Proof.Machine
end

