-- ==== Sys2Proof/Machine/Sync.lean ====
section
/-! DEFINITION. Sync: SWP, SWPB, the exclusive loads and stores, CLREX (R1230 to R1248, R620 to R628). -/

namespace Sys2Proof.Machine

/-- SWP and SWPB (R1235, R1236): both permissions are checked before the read takes effect. Its
accesses are those of `MemRead` and `MemWrite`, so that the FAR of a legacy misaligned one that aborts has the low bits of
the address, whatever the abort (DEDUCED, log 49). -/
def swap (byte : Bool) (rn rd rm : RegNo) : Exec Unit := do
  noPc [rn, rd, rm]
  refuseIf (rn = rd || rn = rm)
  let priv ← look State.privileged
  let u ← look fun s => s.sctlr 22
  let addr ← look fun s => s.reg rn
  let v ← look fun s => s.reg rm
  let n := if byte then 1 else 4
  let load : Acc :=
    { ty := if byte then .bsync else if u then .wsync else .wload, write := false, priv := priv, swap := true }
  let store : Acc :=
    { ty := if byte then .bsync else if u then .wsync else .wstore, write := true, priv := priv, swap := true }
  let (a, _) ← alignData load addr
  let _ ← translateData (load.keepLow addr a) a false
  let _ ← translateData (store.keepLow addr a) a false
  let old ← memRead load addr n
  memWrite store addr n v
  finishReg rd old

/-- After an external abort on a load-exclusive the local monitor is in either state (U48). -/
def State.openMonitor (s : State) : State :=
  { s with exclLocal := (Config.freeWord s.draws).getLsbD 0, draws := s.draws + 1 }

/-- The read of a load-exclusive, which sets the local monitor, and of Shared memory the global one (R621). -/
def readExclusive (p : Acc) (a : Word) (x : Translation) (n : Nat) : Exec (List Byte) := fun s =>
  match readRouted p a x n s with
  | .ok (some bs, t) =>
    .ok (bs, { t with exclLocal := true, exclGlobal := if x.attrs.shared then some (x.pa, n) else t.exclGlobal })
  | .ok (none, t) => openBytes n t.openMonitor
  | .error (.took t) => .error (.took t.openMonitor)
  | .error e => .error e

/-- A load-exclusive of `n` bytes (R621): the bytes in ascending order of address. -/
def loadExclusive (ty : AccType) (n : Nat) (rn : RegNo) : Exec (List Byte) := do
  let priv ← look State.privileged
  let addr ← look fun s => s.reg rn
  let p : Acc := { ty := ty, write := false, priv := priv, excl := true }
  let (a, _) ← alignData p addr
  update fun s => s.noteWatch p a n
  let x ← translateData p a false
  checkEndianness n
  readExclusive p a x n

/-- Whether the monitors let a store-exclusive store (R622): a Shared one may find that another agent has cleared the tag
(R624), or a slave without a monitor (R626). -/
def monitorPasses (p : Acc) (x : Translation) (n : Nat) : Exec Bool := do
  if x.attrs.shared then
    let tagged ← look fun s => s.exclGlobal == some (x.pa, n) && !s.noMonitorAt (s.singleRequest p x n)
    if tagged then
      let d ← draw
      update fun s => if d.getLsbD 0 then s else { s with exclGlobal := none }
      pure (d.getLsbD 0)
    else pure false
  else pure true

/-- The store of a store-exclusive that the monitors let pass, and its status: a Shared one then clears the tag
(`ClearByAddress` of R622), after an imprecise external abort too (R1238; DEDUCED, log 27). -/
def writeExclusive (p : Acc) (a : Word) (x : Translation) (bytes : List Byte) : Exec Word := do
  writeRouted p a x bytes
  update fun s => if x.attrs.shared then { s with exclGlobal := none } else s
  pure 0

/-- The exclusive write transfer of a Shared store-exclusive that the global monitor does not let pass, and its status: the
slave stores nothing and answers OKAY, or an error, which is an external abort (R626, R798). The status is 1 either way
(R1238). DEDUCED (log 27): R622 and R1238 make no access there, R626 and R798 take the status 1 from the answer to one. -/
def refusedExclusive (p : Acc) (a : Word) (x : Translation) (bytes : List Byte) : Exec Word := do
  let q ← look fun s => s.singleRequest p x bytes.length
  let e ← look fun s => s.pieceError q x bytes.length
  update fun s => s.notePiece p a x q bytes e
  match e with
  | some e => reportError p a x e
  | none => pure ()
  pure 1

/-- A store-exclusive of bytes given in ascending order of address: the alignment is always checked, and a watchpoint
triggers whether it stores or not (R1238, R434). -/
def storeExclusive (ty : AccType) (rn rd : RegNo) (value : State → List Byte) : Exec Unit := do
  let priv ← look State.privileged
  let addr ← look fun s => s.reg rn
  let bytes ← look value
  let p : Acc := { ty := ty, write := true, priv := priv, excl := true }
  let (a, _) ← alignData p addr
  update fun s => s.noteWatch p a bytes.length
  let exclusive ← look State.exclLocal
  let status ← if exclusive then do
      let x ← translateData p a false
      checkEndianness bytes.length
      let passes ← monitorPasses p x bytes.length
      if passes then writeExclusive p a x bytes else refusedExclusive p a x bytes
    else pure 1
  update fun s => { s with exclLocal := false }
  finishReg rd status

/-- The bytes of a register in ascending order of address. -/
def State.regBytes (s : State) (n : Nat) (r : RegNo) : List Byte := valueBytes s.bigEndian n (s.reg r)

/-- A load-exclusive of one register. -/
def loadExclusiveReg (ty : AccType) (n : Nat) (rn rd : RegNo) : Exec Unit := do
  noPc [rn, rd]
  let bs ← loadExclusive ty n rn
  let big ← look State.bigEndian
  finishReg rd (bytesValue big bs)

/-- A store-exclusive of one register. -/
def storeExclusiveReg (ty : AccType) (n : Nat) (rn rd rm : RegNo) : Exec Unit := do
  noPc [rn, rd, rm]
  refuseIf (rd = rn || rd = rm)
  storeExclusive ty rn rd fun s => s.regBytes n rm

/-- SWP (R1235). -/
def execSwp (c : Cond) (rn rd rm : RegNo) (s : State) : Host.Outcome State Fault Refusal :=
  outcome (conditional c (swap false rn rd rm)) s

/-- SWPB (R1236). -/
def execSwpb (c : Cond) (rn rd rm : RegNo) (s : State) : Host.Outcome State Fault Refusal :=
  outcome (conditional c (swap true rn rd rm)) s

/-- LDREX (R1237). -/
def execLdrex (c : Cond) (rn rd : RegNo) (s : State) : Host.Outcome State Fault Refusal :=
  outcome (conditional c (loadExclusiveReg .wsync 4 rn rd)) s

/-- STREX (R1238). -/
def execStrex (c : Cond) (rn rd rm : RegNo) (s : State) : Host.Outcome State Fault Refusal :=
  outcome (conditional c (storeExclusiveReg .wsync 4 rn rd rm)) s

/-- LDREXB (R1239). -/
def execLdrexb (c : Cond) (rn rd : RegNo) (s : State) : Host.Outcome State Fault Refusal :=
  outcome (conditional c (loadExclusiveReg .bsync 1 rn rd)) s

/-- STREXB (R1240). -/
def execStrexb (c : Cond) (rn rd rm : RegNo) (s : State) : Host.Outcome State Fault Refusal :=
  outcome (conditional c (storeExclusiveReg .bsync 1 rn rd rm)) s

/-- LDREXH (R1241). -/
def execLdrexh (c : Cond) (rn rd : RegNo) (s : State) : Host.Outcome State Fault Refusal :=
  outcome (conditional c (loadExclusiveReg .hwsync 2 rn rd)) s

/-- STREXH (R1242). -/
def execStrexh (c : Cond) (rn rd rm : RegNo) (s : State) : Host.Outcome State Fault Refusal :=
  outcome (conditional c (storeExclusiveReg .hwsync 2 rn rd rm)) s

/-- LDREXD (R1243): the word at the lower address goes to the even register. -/
def execLdrexd (c : Cond) (rn rd : RegNo) (s : State) : Host.Outcome State Fault Refusal :=
  outcome (conditional c (do
      noPc [rn, rd]
      refuseIf (rd.getLsbD 0 || rd = 14)
      let bs ← loadExclusive .dwsync 8 rn
      let big ← look State.bigEndian
      update fun s => s.setReg rd (bytesValue big (bs.take 4))
      finishReg (rd + 1) (bytesValue big (bs.drop 4)))) s

/-- STREXD (R1244). -/
def execStrexd (c : Cond) (rn rd rm : RegNo) (s : State) : Host.Outcome State Fault Refusal :=
  outcome (conditional c (do
      noPc [rn, rd, rm]
      refuseIf (rd = rn || rd = rm || rd = rm + 1 || rm.getLsbD 0 || rm = 14)
      storeExclusive .dwsync rn rd fun s => s.regBytes 4 rm ++ s.regBytes 4 (rm + 1))) s

/-- CLREX (R1245): the global monitor is not changed. -/
def execClrex (s : State) : Host.Outcome State Fault Refusal :=
  outcome (do
      update fun s => { s with exclLocal := false }
      advance) s

end Sys2Proof.Machine
end

