-- ==== Sys2Proof/Machine/Thumb.lean ====
section
/-! DEFINITION. Thumb: the Thumb instructions (R1340 to R1431), over the operations of the ARM instructions with the same
effect. -/

namespace Sys2Proof.Machine

/-- A low register as operand, unshifted: the carry is unchanged. -/
def lowOperand (r : LowReg) : Operand := fun s => { value := s.reg (low r), carry := s.cpsr.c }

/-- An immediate operand, unshifted. -/
def constant (v : Word) : Operand := fun s => { value := v, carry := s.cpsr.c }

/-- An immediate in words. -/
def inWords {n : Nat} (imm : BitVec n) : Word := imm.setWidth 32 <<< 2

/-- The PC as the base of an address: aligned to a word (R1385, R1402). -/
def State.alignedPc (s : State) : Word := s.readPc &&& ~~~3#32

/-- An address without writeback. -/
def plain (addr : Word) : Indexed := { addr := addr, back := none }

/-- The result of a high-register operation: a write of R15 stays in Thumb state (R1343). -/
def finishHigh (rd : RegNo) (v : Word) : Exec Unit :=
  if rd = 15 then update fun s => s.branchKeep v else finishReg rd v

/-- The address of a register-offset access. -/
def sumOf (rn rm : LowReg) (s : State) : Indexed := plain (s.reg (low rn) + s.reg (low rm))

/-- The registers of a Thumb list. -/
def lowListed (regs : BitVec 8) : List RegNo := listed (regs.setWidth 16)

/-- An empty list (R1416 to R1419). -/
def notEmpty (rs : List RegNo) : Exec Unit := if rs = [] then refuse .unpredictableEncoding else pure ()

/-- LSL (1) (R1345). -/
def execTLsl1 (imm : BitVec 5) (rm rd : LowReg) (s : State) : Host.Outcome State Fault Refusal :=
  outcome (dpMove true (low rd) id (constOperand .lsl imm (low rm))) s

/-- LSR (1) (R1346): 0 means 32. -/
def execTLsr1 (imm : BitVec 5) (rm rd : LowReg) (s : State) : Host.Outcome State Fault Refusal :=
  outcome (dpMove true (low rd) id (constOperand .lsr imm (low rm))) s

/-- ASR (1) (R1347): 0 means 32. -/
def execTAsr1 (imm : BitVec 5) (rm rd : LowReg) (s : State) : Host.Outcome State Fault Refusal :=
  outcome (dpMove true (low rd) id (constOperand .asr imm (low rm))) s

/-- ADD (3) (R1348). -/
def execTAdd3 (rm rn rd : LowReg) (s : State) : Host.Outcome State Fault Refusal :=
  outcome (dpArithmetic true (low rd) (low rn) (fun a b _ => addWithCarry a b false) (lowOperand rm)) s

/-- SUB (3) (R1349). -/
def execTSub3 (rm rn rd : LowReg) (s : State) : Host.Outcome State Fault Refusal :=
  outcome (dpArithmetic true (low rd) (low rn) (fun a b _ => addWithCarry a (~~~b) true) (lowOperand rm)) s

/-- ADD (1) (R1350). -/
def execTAdd1 (imm : BitVec 3) (rn rd : LowReg) (s : State) : Host.Outcome State Fault Refusal :=
  outcome (dpArithmetic true (low rd) (low rn) (fun a b _ => addWithCarry a b false) (constant (imm.setWidth 32))) s

/-- MOV (2): as ADD of 0, so C and V are cleared (R1351). -/
def execTMov2 (rn rd : LowReg) (s : State) : Host.Outcome State Fault Refusal :=
  outcome (dpArithmetic true (low rd) (low rn) (fun a b _ => addWithCarry a b false) (constant 0)) s

/-- SUB (1) (R1352). -/
def execTSub1 (imm : BitVec 3) (rn rd : LowReg) (s : State) : Host.Outcome State Fault Refusal :=
  outcome (dpArithmetic true (low rd) (low rn) (fun a b _ => addWithCarry a (~~~b) true) (constant (imm.setWidth 32))) s

/-- MOV (1) (R1353). -/
def execTMov1 (rd : LowReg) (imm : BitVec 8) (s : State) : Host.Outcome State Fault Refusal :=
  outcome (dpMove true (low rd) id (constant (imm.setWidth 32))) s

/-- CMP (1) (R1354). -/
def execTCmp1 (rn : LowReg) (imm : BitVec 8) (s : State) : Host.Outcome State Fault Refusal :=
  outcome (dpCompare (low rn) (fun a b => addWithCarry a (~~~b) true) (constant (imm.setWidth 32))) s

/-- ADD (2) (R1355). -/
def execTAdd2 (rd : LowReg) (imm : BitVec 8) (s : State) : Host.Outcome State Fault Refusal :=
  outcome (dpArithmetic true (low rd) (low rd) (fun a b _ => addWithCarry a b false) (constant (imm.setWidth 32))) s

/-- SUB (2) (R1356). -/
def execTSub2 (rd : LowReg) (imm : BitVec 8) (s : State) : Host.Outcome State Fault Refusal :=
  outcome (dpArithmetic true (low rd) (low rd) (fun a b _ => addWithCarry a (~~~b) true) (constant (imm.setWidth 32))) s

/-- AND (R1357). -/
def execTAnd (rm rd : LowReg) (s : State) : Host.Outcome State Fault Refusal :=
  outcome (dpLogical true (low rd) (low rd) (fun a b => a &&& b) (lowOperand rm)) s

/-- EOR (R1358). -/
def execTEor (rm rd : LowReg) (s : State) : Host.Outcome State Fault Refusal :=
  outcome (dpLogical true (low rd) (low rd) (fun a b => a ^^^ b) (lowOperand rm)) s

/-- LSL (2): by the low byte of the second register (R1359). -/
def execTLsl2 (rm rd : LowReg) (s : State) : Host.Outcome State Fault Refusal :=
  outcome (dpMove true (low rd) id (regOperand .lsl (low rm) (low rd))) s

/-- LSR (2): by the low byte of the second register (R1360). -/
def execTLsr2 (rm rd : LowReg) (s : State) : Host.Outcome State Fault Refusal :=
  outcome (dpMove true (low rd) id (regOperand .lsr (low rm) (low rd))) s

/-- ASR (2): by the low byte of the second register (R1361). -/
def execTAsr2 (rm rd : LowReg) (s : State) : Host.Outcome State Fault Refusal :=
  outcome (dpMove true (low rd) id (regOperand .asr (low rm) (low rd))) s

/-- ADC (R1362). -/
def execTAdc (rm rd : LowReg) (s : State) : Host.Outcome State Fault Refusal :=
  outcome (dpArithmetic true (low rd) (low rd) (fun a b c => addWithCarry a b c) (lowOperand rm)) s

/-- SBC (R1363). -/
def execTSbc (rm rd : LowReg) (s : State) : Host.Outcome State Fault Refusal :=
  outcome (dpArithmetic true (low rd) (low rd) (fun a b c => addWithCarry a (~~~b) c) (lowOperand rm)) s

/-- ROR: by the low byte of the second register (R1364). -/
def execTRor (rm rd : LowReg) (s : State) : Host.Outcome State Fault Refusal :=
  outcome (dpMove true (low rd) id (regOperand .ror (low rm) (low rd))) s

/-- TST (R1365). -/
def execTTst (rm rd : LowReg) (s : State) : Host.Outcome State Fault Refusal :=
  outcome (dpTest (low rd) (fun a b => a &&& b) (lowOperand rm)) s

/-- NEG: 0 minus the operand (R1366). -/
def execTNeg (rm rd : LowReg) (s : State) : Host.Outcome State Fault Refusal :=
  outcome (dpArithmetic true (low rd) (low rm) (fun a b _ => addWithCarry (~~~a) b true) (constant 0)) s

/-- CMP (2) (R1367). -/
def execTCmp2 (rm rd : LowReg) (s : State) : Host.Outcome State Fault Refusal :=
  outcome (dpCompare (low rd) (fun a b => addWithCarry a (~~~b) true) (lowOperand rm)) s

/-- CMN (R1368). -/
def execTCmn (rm rd : LowReg) (s : State) : Host.Outcome State Fault Refusal :=
  outcome (dpCompare (low rd) (fun a b => addWithCarry a b false) (lowOperand rm)) s

/-- ORR (R1369). -/
def execTOrr (rm rd : LowReg) (s : State) : Host.Outcome State Fault Refusal :=
  outcome (dpLogical true (low rd) (low rd) (fun a b => a ||| b) (lowOperand rm)) s

/-- MUL (R1370). -/
def execTMul (rm rd : LowReg) (s : State) : Host.Outcome State Fault Refusal :=
  outcome (do
      let r ← look fun s => s.reg (low rm) * s.reg (low rd)
      finishMul true (low rd) r) s

/-- BIC (R1371). -/
def execTBic (rm rd : LowReg) (s : State) : Host.Outcome State Fault Refusal :=
  outcome (dpLogical true (low rd) (low rd) (fun a b => a &&& ~~~b) (lowOperand rm)) s

/-- MVN (R1372). -/
def execTMvn (rm rd : LowReg) (s : State) : Host.Outcome State Fault Refusal :=
  outcome (dpMove true (low rd) (fun v => ~~~v) (lowOperand rm)) s

/-- ADD (4): without flags; both registers low is refused (R1380). -/
def execTAdd4 (h1 h2 : Bool) (rm rd : LowReg) (s : State) : Host.Outcome State Fault Refusal :=
  outcome (do
      refuseIf (!h1 && !h2)
      let v ← look fun s => s.reg (high h1 rd) + s.reg (high h2 rm)
      finishHigh (high h1 rd) v) s

/-- CMP (3): both registers low, and R15 as the first, are refused (R1381). -/
def execTCmp3 (h1 h2 : Bool) (rm rn : LowReg) (s : State) : Host.Outcome State Fault Refusal :=
  outcome (do
      refuseIf ((!h1 && !h2) || high h1 rn = 15)
      dpCompare (high h1 rn) (fun a b => addWithCarry a (~~~b) true) fun s => { value := s.reg (high h2 rm), carry := s.cpsr.c }) s

/-- MOV (3): without flags (R1382). -/
def execTMov3 (h1 h2 : Bool) (rm rd : LowReg) (s : State) : Host.Outcome State Fault Refusal :=
  outcome (do
      let v ← look fun s => s.reg (high h2 rm)
      finishHigh (high h1 rd) v) s

/-- CPY between low registers: without flags (R1382). -/
def execTCpy (rm rd : LowReg) (s : State) : Host.Outcome State Fault Refusal :=
  outcome (do
      let v ← look fun s => s.reg (low rm)
      finishReg (low rd) v) s

/-- BX (R1383). -/
def execTBx (h2 : Bool) (rm : LowReg) (s : State) : Host.Outcome State Fault Refusal :=
  outcome (do
      let v ← look fun s => s.reg (high h2 rm)
      bxWritePc v) s

/-- BLX (2): the link has bit 0 set (R1384). -/
def execTBlx2 (h2 : Bool) (rm : LowReg) (s : State) : Host.Outcome State Fault Refusal :=
  outcome (do
      noPc [high h2 rm]
      let v ← look fun s => s.reg (high h2 rm)
      link 2 1
      bxWritePc v) s

/-- LDR (3): relative to the aligned PC (R1385). -/
def execTLdr3 (rd : LowReg) (imm : BitVec 8) (s : State) : Host.Outcome State Fault Refusal :=
  outcome (do
      let a ← look fun s => plain (s.alignedPc + inWords imm)
      loadSingle .wload 4 false id 15 (low rd) a) s

/-- STR (2) (R1386). -/
def execTStr2 (rm rn rd : LowReg) (s : State) : Host.Outcome State Fault Refusal :=
  outcome (do
      let a ← look (sumOf rn rm)
      storeSingle .wstore 4 false (low rn) (low rd) a) s

/-- STRH (2) (R1387). -/
def execTStrh2 (rm rn rd : LowReg) (s : State) : Host.Outcome State Fault Refusal :=
  outcome (do
      let a ← look (sumOf rn rm)
      storeSingle .half 2 false (low rn) (low rd) a) s

/-- STRB (2) (R1388). -/
def execTStrb2 (rm rn rd : LowReg) (s : State) : Host.Outcome State Fault Refusal :=
  outcome (do
      let a ← look (sumOf rn rm)
      storeSingle .byte 1 false (low rn) (low rd) a) s

/-- LDRSB (R1389). -/
def execTLdrsb (rm rn rd : LowReg) (s : State) : Host.Outcome State Fault Refusal :=
  outcome (do
      let a ← look (sumOf rn rm)
      loadSingle .byte 1 false sextByte (low rn) (low rd) a) s

/-- LDR (2) (R1390). -/
def execTLdr2 (rm rn rd : LowReg) (s : State) : Host.Outcome State Fault Refusal :=
  outcome (do
      let a ← look (sumOf rn rm)
      loadSingle .wload 4 false id (low rn) (low rd) a) s

/-- LDRH (2) (R1391). -/
def execTLdrh2 (rm rn rd : LowReg) (s : State) : Host.Outcome State Fault Refusal :=
  outcome (do
      let a ← look (sumOf rn rm)
      loadSingle .half 2 false id (low rn) (low rd) a) s

/-- LDRB (2) (R1392). -/
def execTLdrb2 (rm rn rd : LowReg) (s : State) : Host.Outcome State Fault Refusal :=
  outcome (do
      let a ← look (sumOf rn rm)
      loadSingle .byte 1 false id (low rn) (low rd) a) s

/-- LDRSH (R1393). -/
def execTLdrsh (rm rn rd : LowReg) (s : State) : Host.Outcome State Fault Refusal :=
  outcome (do
      let a ← look (sumOf rn rm)
      loadSingle .half 2 false sextHalf (low rn) (low rd) a) s

/-- STR (1) (R1394). -/
def execTStr1 (imm : BitVec 5) (rn rd : LowReg) (s : State) : Host.Outcome State Fault Refusal :=
  outcome (do
      let a ← look fun s => plain (s.reg (low rn) + inWords imm)
      storeSingle .wstore 4 false (low rn) (low rd) a) s

/-- LDR (1) (R1395). -/
def execTLdr1 (imm : BitVec 5) (rn rd : LowReg) (s : State) : Host.Outcome State Fault Refusal :=
  outcome (do
      let a ← look fun s => plain (s.reg (low rn) + inWords imm)
      loadSingle .wload 4 false id (low rn) (low rd) a) s

/-- STRB (1) (R1396). -/
def execTStrb1 (imm : BitVec 5) (rn rd : LowReg) (s : State) : Host.Outcome State Fault Refusal :=
  outcome (do
      let a ← look fun s => plain (s.reg (low rn) + imm.setWidth 32)
      storeSingle .byte 1 false (low rn) (low rd) a) s

/-- LDRB (1) (R1397). -/
def execTLdrb1 (imm : BitVec 5) (rn rd : LowReg) (s : State) : Host.Outcome State Fault Refusal :=
  outcome (do
      let a ← look fun s => plain (s.reg (low rn) + imm.setWidth 32)
      loadSingle .byte 1 false id (low rn) (low rd) a) s

/-- STRH (1) (R1398). -/
def execTStrh1 (imm : BitVec 5) (rn rd : LowReg) (s : State) : Host.Outcome State Fault Refusal :=
  outcome (do
      let a ← look fun s => plain (s.reg (low rn) + (imm.setWidth 32 <<< 1))
      storeSingle .half 2 false (low rn) (low rd) a) s

/-- LDRH (1) (R1399). -/
def execTLdrh1 (imm : BitVec 5) (rn rd : LowReg) (s : State) : Host.Outcome State Fault Refusal :=
  outcome (do
      let a ← look fun s => plain (s.reg (low rn) + (imm.setWidth 32 <<< 1))
      loadSingle .half 2 false id (low rn) (low rd) a) s

/-- STR (3): relative to SP (R1400). -/
def execTStr3 (rd : LowReg) (imm : BitVec 8) (s : State) : Host.Outcome State Fault Refusal :=
  outcome (do
      let a ← look fun s => plain (s.reg 13 + inWords imm)
      storeSingle .wstore 4 false 13 (low rd) a) s

/-- LDR (4): relative to SP (R1401). -/
def execTLdr4 (rd : LowReg) (imm : BitVec 8) (s : State) : Host.Outcome State Fault Refusal :=
  outcome (do
      let a ← look fun s => plain (s.reg 13 + inWords imm)
      loadSingle .wload 4 false id 13 (low rd) a) s

/-- ADD (5): the aligned PC (R1402). -/
def execTAdd5 (rd : LowReg) (imm : BitVec 8) (s : State) : Host.Outcome State Fault Refusal :=
  outcome (do
      let v ← look fun s => s.alignedPc + inWords imm
      finishReg (low rd) v) s

/-- ADD (6): SP (R1403). -/
def execTAdd6 (rd : LowReg) (imm : BitVec 8) (s : State) : Host.Outcome State Fault Refusal :=
  outcome (do
      let v ← look fun s => s.reg 13 + inWords imm
      finishReg (low rd) v) s

/-- ADD (7): to SP (R1404). -/
def execTAdd7 (imm : BitVec 7) (s : State) : Host.Outcome State Fault Refusal :=
  outcome (do
      let v ← look fun s => s.reg 13 + inWords imm
      finishReg 13 v) s

/-- SUB (4): from SP (R1405). -/
def execTSub4 (imm : BitVec 7) (s : State) : Host.Outcome State Fault Refusal :=
  outcome (do
      let v ← look fun s => s.reg 13 - inWords imm
      finishReg 13 v) s

/-- SXTH (R1406). -/
def execTSxth (rm rd : LowReg) (s : State) : Host.Outcome State Fault Refusal :=
  outcome (do
      let v ← look fun s => sextHalf (s.reg (low rm))
      finishReg (low rd) v) s

/-- SXTB (R1407). -/
def execTSxtb (rm rd : LowReg) (s : State) : Host.Outcome State Fault Refusal :=
  outcome (do
      let v ← look fun s => sextByte (s.reg (low rm))
      finishReg (low rd) v) s

/-- UXTH (R1408). -/
def execTUxth (rm rd : LowReg) (s : State) : Host.Outcome State Fault Refusal :=
  outcome (do
      let v ← look fun s => zextHalf (s.reg (low rm))
      finishReg (low rd) v) s

/-- UXTB (R1409). -/
def execTUxtb (rm rd : LowReg) (s : State) : Host.Outcome State Fault Refusal :=
  outcome (do
      let v ← look fun s => zextByte (s.reg (low rm))
      finishReg (low rd) v) s

/-- REV (R1410). -/
def execTRev (rm rd : LowReg) (s : State) : Host.Outcome State Fault Refusal :=
  outcome (do
      let v ← look fun s => reversed (s.reg (low rm))
      finishReg (low rd) v) s

/-- REV16 (R1411). -/
def execTRev16 (rm rd : LowReg) (s : State) : Host.Outcome State Fault Refusal :=
  outcome (do
      let v ← look fun s => reversedHalves (s.reg (low rm))
      finishReg (low rd) v) s

/-- REVSH (R1412). -/
def execTRevsh (rm rd : LowReg) (s : State) : Host.Outcome State Fault Refusal :=
  outcome (do
      let v ← look fun s => reversedSigned (s.reg (low rm))
      finishReg (low rd) v) s

/-- The first halfword of BL and BLX (1) (R1413). -/
def execTBlBlxPrefix (imm : BitVec 11) (s : State) : Host.Outcome State Fault Refusal :=
  outcome (do
      let v ← look fun s => s.readPc + (imm.signExtend 32 <<< 12)
      finishReg 14 v) s

/-- The second halfword of BL (R1413); the PC has no bit 0 (R54, R567). -/
def execTBlSuffix (imm : BitVec 11) (s : State) : Host.Outcome State Fault Refusal :=
  outcome (do
      let target ← look fun s => (s.reg 14 + (imm.setWidth 32 <<< 1)) &&& ~~~1#32
      link 2 1
      update fun s => s.branchTo target) s

/-- The second halfword of BLX (1) (R1413). -/
def execTBlx1Suffix (immHi : BitVec 10) (s : State) : Host.Outcome State Fault Refusal :=
  outcome (do
      let target ← look fun s => (s.reg 14 + inWords immHi) &&& ~~~3#32
      link 2 1
      update fun s => { s with cpsr := { s.cpsr with t := false } }.branchTo target) s

/-- B (1): the conditional branch (R1414). -/
def execTB1 (c : Cond) (imm : BitVec 8) (s : State) : Host.Outcome State Fault Refusal :=
  outcome (conditionalBranch c (update fun s => s.branchBy (s.readPc + (imm.signExtend 32 <<< 1)))) s

/-- B (2) (R1415). -/
def execTB2 (imm : BitVec 11) (s : State) : Host.Outcome State Fault Refusal :=
  outcome (update fun s => s.branchBy (s.readPc + (imm.signExtend 32 <<< 1))) s

/-- LDMIA: written back unless the base is in the list (R1416). -/
def execTLdmia (rn : LowReg) (regs : BitVec 8) (s : State) : Host.Outcome State Fault Refusal :=
  outcome (do
      let rs := lowListed regs
      notEmpty rs
      let start ← look fun s => s.reg (low rn)
      let ws ← loadBlock false (← look fun s => s.cpsr.mode) (low rn) rs start
      writeBase (low rn) (some (start + wordsLong rs.length))
      update fun s => s.putRegs s.cpsr.mode ws
      advance) s

/-- STMIA: the base in the list must be its lowest register (R1417). -/
def execTStmia (rn : LowReg) (regs : BitVec 8) (s : State) : Host.Outcome State Fault Refusal :=
  outcome (storeMultiple false true true (low rn) (lowListed regs)) s

/-- PUSH, with R14 at the highest address (R1418). -/
def execTPush (r : Bool) (regs : BitVec 8) (s : State) : Host.Outcome State Fault Refusal :=
  outcome (storeMultiple true false true 13 (lowListed regs ++ if r then [14] else [])) s

/-- POP, the PC like a load multiple of it (R1419). -/
def execTPop (r : Bool) (regs : BitVec 8) (s : State) : Host.Outcome State Fault Refusal :=
  outcome (loadMultiple false true true 13 (lowListed regs ++ if r then [15] else [])) s

/-- SVC: the immediate is for the handler (R1420). -/
def execTSvc (_imm : BitVec 8) (s : State) : Host.Outcome State Fault Refusal :=
  outcome supervisorCall s

/-- BKPT (R1421). -/
def execTBkpt (_imm : BitVec 8) (s : State) : Host.Outcome State Fault Refusal :=
  outcome softwareBreakpoint s

/-- CPS: the interrupt masks only (R1422). -/
def execTCps (imod aBit iBit fBit : Bool) (s : State) : Host.Outcome State Fault Refusal :=
  outcome (if !(aBit || iBit || fBit) then refuse .unpredictableEncoding else changeState imod true aBit iBit fBit none) s

/-- SETEND (R1423). -/
def execTSetend (e : Bool) (s : State) : Host.Outcome State Fault Refusal :=
  outcome (setEndian e) s

/-- The permanently Undefined halfwords 0xDE00 to 0xDEFF (R844, R1414). -/
def execTUndefined (_ignored : BitVec 8) (s : State) : Host.Outcome State Fault Refusal :=
  outcome takeUndefined s

end Sys2Proof.Machine
end

