-- ==== Sys2Proof/Machine/VfpTransfer.lean ====
section
/-! DEFINITION. VfpTransfer: the loads, stores and register transfers of the VFP11 (R1475 to R1502). -/

namespace Sys2Proof.Machine

/-! Loads and stores -/

/-- The halves of a double in the order of their words in memory (R488). -/
def halves (big : Bool) (d : BitVec 5) : List (BitVec 5) :=
  if big then [highHalf d, lowHalf d] else [lowHalf d, highHalf d]

/-- `n` consecutive registers of a precision, as single registers in the order of their words in memory. -/
def consecutive (p : Prec) (big : Bool) (d : BitVec 5) : Nat → List (BitVec 5)
  | 0 => []
  | n + 1 => (match p with | .single => [d] | .double => halves big d) ++ consecutive p big (d + 1) n

/-- Write loaded words. -/
def State.putSingles (s : State) : List (BitVec 5 × Word) → State
  | [] => s
  | (r, w) :: rest => (s.setSingle r w).putSingles rest

/-- Of the registers that an aborted load multiple has read, each holds its old or its new value (R1146, decision D46): a
draw for each single register, or for each double of which both words have been read. -/
def openSingles (p : Prec) : List (BitVec 5 × Word) → Exec Unit
  | [] => pure ()
  | [x] => do
    let d ← draw
    update fun s => if d.getLsbD 0 && p = .single then s.putSingles [x] else s
  | x :: y :: rest => do
    let d ← draw
    if p = .single then do
      update fun s => if d.getLsbD 0 then s.putSingles [x] else s
      openSingles p (y :: rest)
    else do
      update fun s => if d.getLsbD 0 then s.putSingles [x, y] else s
      openSingles p rest

/-- Read words upwards into single registers, the DMA engine between them (R583); `many` gives the precision of the load multiples, of which an abort leaves the
registers already read open. -/
def readSingles (p : Acc) (many : Option Prec) (a : Word) (done : List (BitVec 5 × Word)) :
    List (BitVec 5) → Exec (List (BitVec 5 × Word))
  | [] => pure done
  | r :: rest => fun s =>
    match (do let w ← readWordAt p a; dmaInterval; pure w) s with
    | .ok (w, t) => readSingles p many (a + 4) ((r, w) :: done) rest t
    | .error (.took t) => (do
        match many with
        | some k => openSingles k done.reverse
        | none => pure ()
        endWith id) t
    | .error e => .error e

/-- Load registers from an address up, and write the base register back. -/
def fpLoad (many : Option Prec) (rn : RegNo) (start : Word) (back : Option Word) (rs : List (BitVec 5)) : Exec Unit := do
  let priv ← look State.privileged
  let p : Acc := { ty := .multi, write := false, priv := priv }
  let (a, _) ← alignData p start
  let ws ← readSingles (p.block a rs.length) many a [] rs
  update fun s => s.putSingles ws
  writeBase rn back
  advance

/-- Store registers from an address up, and write the base register back. -/
def fpStore (rn : RegNo) (start : Word) (back : Option Word) (rs : List (BitVec 5)) : Exec Unit := do
  let ws ← look fun s => rs.map s.single
  storeBlock start ws
  writeBase rn back
  advance

/-- The address of FLDS, FLDD, FSTS and FSTD (R1475). -/
def fpAddress (u : Bool) (rn : RegNo) (imm : BitVec 8) (s : State) : Word :=
  offsetFrom u (s.reg rn) (imm.setWidth 32 <<< 2)

/-- A load of one register. -/
def fpLoadOne (p : Prec) (u : Bool) (rn : RegNo) (d : BitVec 5) (imm : BitVec 8) : Exec Unit := do
  vfpReady p.isDouble
  let rs ← look fun s => consecutive p s.bigEndian d 1
  fpLoad none rn (← look (fpAddress u rn imm)) none rs

/-- A store of one register. -/
def fpStoreOne (p : Prec) (u : Bool) (rn : RegNo) (d : BitVec 5) (imm : BitVec 8) : Exec Unit := do
  vfpReady p.isDouble
  let rs ← look fun s => consecutive p s.bigEndian d 1
  fpStore rn (← look (fpAddress u rn imm)) none rs

/-- The last register exists and the count is not zero (R1479, R1480), and R15 is not written back. -/
def checkCount (p : Prec) (d : BitVec 5) (count : Nat) (wb : Bool) (rn : RegNo) : Exec Unit :=
  if wb && rn = 15 then refuse .unpredictableEncoding
  else if count = 0 || decide ((match p with | .single => 32 | .double => 16) < d.toNat + count) then
    refuse .vfpRegisterCount
  else pure ()

/-- The start and the written-back base of a multiple transfer of `words` words (R1479): up, or down with writeback. -/
def fpBlock (up : Bool) (words : Nat) (b : Word) : Word × Word :=
  if up then (b, b + wordsLong words) else (b - wordsLong words, b - wordsLong words)

/-- A load multiple of `count` registers, for which the base moves by `words` words. -/
def fpLoadMany (p : Prec) (up wb : Bool) (rn : RegNo) (d : BitVec 5) (count words : Nat) : Exec Unit := do
  vfpReady p.isDouble
  checkCount p d count wb rn
  let k ← look fun s => fpBlock up words (s.reg rn)
  let rs ← look fun s => consecutive p s.bigEndian d count
  fpLoad (some p) rn k.1 (if wb then some k.2 else none) rs

/-- A store multiple. -/
def fpStoreMany (p : Prec) (up wb : Bool) (rn : RegNo) (d : BitVec 5) (count words : Nat) : Exec Unit := do
  vfpReady p.isDouble
  checkCount p d count wb rn
  let k ← look fun s => fpBlock up words (s.reg rn)
  let rs ← look fun s => consecutive p s.bigEndian d count
  fpStore rn k.1 (if wb then some k.2 else none) rs

/-! Register transfers -/

/-- A transfer from core registers: R15 is refused (U54, U36). -/
def fpFromCore (cp11 : Bool) (sources : List RegNo) (f : State → State) : Exec Unit := do
  vfpReady cp11
  noPc sources
  update f
  advance

/-- A transfer to one core register. -/
def fpToCore (cp11 : Bool) (rd : RegNo) (value : State → Word) : Exec Unit := do
  vfpReady cp11
  noPc [rd]
  let v ← look value
  finishReg rd v

/-- R15 as one of two registers, or one register twice, or S31 as the first of two (U36). -/
def checkPair (rd rn : RegNo) (toCore last : Bool) : Exec Unit :=
  if rd = 15 || rn = 15 || (toCore && rd = rn) || last then refuse .vfpRegisterPair else pure ()

/-- A transfer from two core registers. -/
def fpFromPair (cp11 last : Bool) (rd rn : RegNo) (first second : BitVec 5) : Exec Unit := do
  vfpReady cp11
  checkPair rd rn false last
  update fun s => (s.setSingle first (s.reg rd)).setSingle second (s.reg rn)
  advance

/-- A transfer to two core registers. -/
def fpToPair (cp11 last : Bool) (rd rn : RegNo) (first second : BitVec 5) : Exec Unit := do
  vfpReady cp11
  checkPair rd rn true last
  let v ← look fun s => s.single first
  let w ← look fun s => s.single second
  update fun s => s.setReg rd v
  finishReg rn w

/-! System registers (R490, R491) -/

/-- The registers of FMXR and FMRX. -/
inductive FpReg where
  | fpsid | fpscr | mvfr1 | mvfr0 | fpexc | fpinst | fpinst2
  deriving DecidableEq, Repr

/-- Their numbers (R490). -/
def FpReg.of? (n : BitVec 4) : Option FpReg :=
  if n = 0 then some .fpsid else if n = 1 then some .fpscr else if n = 6 then some .mvfr1
  else if n = 7 then some .mvfr0 else if n = 8 then some .fpexc else if n = 9 then some .fpinst
  else if n = 10 then some .fpinst2 else none

/-- The registers that User mode cannot access (R491). -/
def FpReg.privileged (r : FpReg) : Bool := r = .fpexc || r = .fpinst || r = .fpinst2

/-- The checks of an FMXR or FMRX (R499, R491, R528): an access to the FPSCR needs the coprocessor enabled and is a
trigger. One to the FPSID is none (R528, R1442, R1497; DEDUCED, log 94: R1691 calls a read of it a trigger). -/
def fpSystem (sysReg : BitVec 4) : Exec FpReg := do
  let needsEnable := FpReg.of? sysReg = some .fpscr || FpReg.of? sysReg = none
  vfpAccess false (!needsEnable)
  let exceptional ← look fun s => s.vfp.fpexc.getLsbD 31
  if needsEnable && exceptional then takeUndefined else
  let priv ← look State.privileged
  match FpReg.of? sysReg with
  | none => takeUndefined
  | some r => if r.privileged && !priv then takeUndefined else pure r

/-- The writes of FMXR (R1496). -/
def State.writeFpReg (s : State) (r : FpReg) (v : Word) : State :=
  match r with
  | .fpsid => s
  | .mvfr1 => s
  | .mvfr0 => s
  | .fpscr => { s with vfp := { s.vfp with fpscr := v &&& 0xF3F79F9F#32 } }
  | .fpexc => { s with vfp := { s.vfp with fpexc := v &&& 0xD000078D#32 } }
  | .fpinst => { s with vfp := { s.vfp with fpinst := v } }
  | .fpinst2 => { s with vfp := { s.vfp with fpinst2 := v } }

/-- FPSID (R482): the revision is a parameter (R14). -/
def State.fpsid (s : State) : Word := 0x410120B0#32 ||| s.pins.params.fpsidRevision.code.setWidth 32

/-- The reads of FMRX (R1497): FPINST2 is open while FPEXC.FP2V is 0 (U31). -/
def readFpReg (r : FpReg) : Exec Word :=
  match r with
  | .fpsid => look State.fpsid
  | .mvfr1 => pure 0
  | .mvfr0 => pure 0x11111111#32
  | .fpscr => look fun s => s.vfp.fpscr
  | .fpexc => look fun s => s.vfp.fpexc
  | .fpinst => look fun s => s.vfp.fpinst
  | .fpinst2 => do
    let valid ← look fun s => s.vfp.fpexc.getLsbD 28
    if valid then look fun s => s.vfp.fpinst2 else draw


/-- FLDS (R1475). -/
def execFlds (c : Cond) (u dBit : Bool) (rn : RegNo) (fd : BitVec 4) (imm : BitVec 8) (s : State) : Host.Outcome
    State Fault Refusal :=
  outcome (conditional c (fpLoadOne .single u rn (singleNo fd dBit) imm)) s

/-- FLDD (R1476). -/
def execFldd (c : Cond) (u : Bool) (rn : RegNo) (fd : BitVec 4) (imm : BitVec 8) (s : State) : Host.Outcome State
    Fault Refusal :=
  outcome (conditional c (fpLoadOne .double u rn (doubleNo fd) imm)) s

/-- FSTS (R1477). -/
def execFsts (c : Cond) (u dBit : Bool) (rn : RegNo) (fd : BitVec 4) (imm : BitVec 8) (s : State) : Host.Outcome
    State Fault Refusal :=
  outcome (conditional c (fpStoreOne .single u rn (singleNo fd dBit) imm)) s

/-- FSTD (R1478). -/
def execFstd (c : Cond) (u : Bool) (rn : RegNo) (fd : BitVec 4) (imm : BitVec 8) (s : State) : Host.Outcome State
    Fault Refusal :=
  outcome (conditional c (fpStoreOne .double u rn (doubleNo fd) imm)) s

/-- FLDMS, increment after (R1479). -/
def execFldmsIa (c : Cond) (dBit wb : Bool) (rn : RegNo) (fd : BitVec 4) (imm : BitVec 8) (s : State) : Host.Outcome
    State Fault Refusal :=
  outcome (conditional c (fpLoadMany .single true wb rn (singleNo fd dBit) imm.toNat imm.toNat)) s

/-- FLDMS, decrement before (R1479). -/
def execFldmsDb (c : Cond) (dBit : Bool) (rn : RegNo) (fd : BitVec 4) (imm : BitVec 8) (s : State) : Host.Outcome
    State Fault Refusal :=
  outcome (conditional c (fpLoadMany .single false true rn (singleNo fd dBit) imm.toNat imm.toNat)) s

/-- FLDMD, increment after (R1480). -/
def execFldmdIa (c : Cond) (wb : Bool) (rn : RegNo) (fd : BitVec 4) (immHi : BitVec 7) (s : State) : Host.Outcome
    State Fault Refusal :=
  outcome (conditional c (fpLoadMany .double true wb rn (doubleNo fd) immHi.toNat (2 * immHi.toNat))) s

/-- FLDMD, decrement before (R1480). -/
def execFldmdDb (c : Cond) (rn : RegNo) (fd : BitVec 4) (immHi : BitVec 7) (s : State) : Host.Outcome State Fault
    Refusal :=
  outcome (conditional c (fpLoadMany .double false true rn (doubleNo fd) immHi.toNat (2 * immHi.toNat))) s

/-- FLDMX, increment after (R1481). -/
def execFldmxIa (c : Cond) (wb : Bool) (rn : RegNo) (fd : BitVec 4) (immHi : BitVec 7) (s : State) : Host.Outcome
    State Fault Refusal :=
  outcome (conditional c (fpLoadMany .double true wb rn (doubleNo fd) immHi.toNat (2 * immHi.toNat + 1))) s

/-- FLDMX, decrement before (R1481). -/
def execFldmxDb (c : Cond) (rn : RegNo) (fd : BitVec 4) (immHi : BitVec 7) (s : State) : Host.Outcome State Fault
    Refusal :=
  outcome (conditional c (fpLoadMany .double false true rn (doubleNo fd) immHi.toNat (2 * immHi.toNat + 1))) s

/-- FSTMS, increment after (R1482). -/
def execFstmsIa (c : Cond) (dBit wb : Bool) (rn : RegNo) (fd : BitVec 4) (imm : BitVec 8) (s : State) : Host.Outcome
    State Fault Refusal :=
  outcome (conditional c (fpStoreMany .single true wb rn (singleNo fd dBit) imm.toNat imm.toNat)) s

/-- FSTMS, decrement before (R1482). -/
def execFstmsDb (c : Cond) (dBit : Bool) (rn : RegNo) (fd : BitVec 4) (imm : BitVec 8) (s : State) : Host.Outcome
    State Fault Refusal :=
  outcome (conditional c (fpStoreMany .single false true rn (singleNo fd dBit) imm.toNat imm.toNat)) s

/-- FSTMD, increment after (R1483). -/
def execFstmdIa (c : Cond) (wb : Bool) (rn : RegNo) (fd : BitVec 4) (immHi : BitVec 7) (s : State) : Host.Outcome
    State Fault Refusal :=
  outcome (conditional c (fpStoreMany .double true wb rn (doubleNo fd) immHi.toNat (2 * immHi.toNat))) s

/-- FSTMD, decrement before (R1483). -/
def execFstmdDb (c : Cond) (rn : RegNo) (fd : BitVec 4) (immHi : BitVec 7) (s : State) : Host.Outcome State Fault
    Refusal :=
  outcome (conditional c (fpStoreMany .double false true rn (doubleNo fd) immHi.toNat (2 * immHi.toNat))) s

/-- FSTMX, increment after (R1484). -/
def execFstmxIa (c : Cond) (wb : Bool) (rn : RegNo) (fd : BitVec 4) (immHi : BitVec 7) (s : State) : Host.Outcome
    State Fault Refusal :=
  outcome (conditional c (fpStoreMany .double true wb rn (doubleNo fd) immHi.toNat (2 * immHi.toNat + 1))) s

/-- FSTMX, decrement before (R1484). -/
def execFstmxDb (c : Cond) (rn : RegNo) (fd : BitVec 4) (immHi : BitVec 7) (s : State) : Host.Outcome State Fault
    Refusal :=
  outcome (conditional c (fpStoreMany .double false true rn (doubleNo fd) immHi.toNat (2 * immHi.toNat + 1))) s

/-- FMSR (R1490). -/
def execFmsr (c : Cond) (fn : BitVec 4) (rd : RegNo) (nBit : Bool) (s : State) : Host.Outcome State Fault Refusal :=
  outcome (conditional c (fpFromCore false [rd] (fun s => s.setSingle (singleNo fn nBit) (s.reg rd)))) s

/-- FMRS (R1491). -/
def execFmrs (c : Cond) (fn : BitVec 4) (rd : RegNo) (nBit : Bool) (s : State) : Host.Outcome State Fault Refusal :=
  outcome (conditional c (fpToCore false rd (fun s => s.single (singleNo fn nBit)))) s

/-- FMDLR: the other half is unchanged (R1492). -/
def execFmdlr (c : Cond) (fn : BitVec 4) (rd : RegNo) (s : State) : Host.Outcome State Fault Refusal :=
  outcome (conditional c (fpFromCore true [rd] (fun s => s.setSingle (lowHalf (doubleNo fn)) (s.reg rd)))) s

/-- FMRDL (R1493). -/
def execFmrdl (c : Cond) (fn : BitVec 4) (rd : RegNo) (s : State) : Host.Outcome State Fault Refusal :=
  outcome (conditional c (fpToCore true rd (fun s => s.single (lowHalf (doubleNo fn))))) s

/-- FMDHR: the other half is unchanged (R1494). -/
def execFmdhr (c : Cond) (fn : BitVec 4) (rd : RegNo) (s : State) : Host.Outcome State Fault Refusal :=
  outcome (conditional c (fpFromCore true [rd] (fun s => s.setSingle (highHalf (doubleNo fn)) (s.reg rd)))) s

/-- FMRDH (R1495). -/
def execFmrdh (c : Cond) (fn : BitVec 4) (rd : RegNo) (s : State) : Host.Outcome State Fault Refusal :=
  outcome (conditional c (fpToCore true rd (fun s => s.single (highHalf (doubleNo fn))))) s

/-- FMXR (R1496). -/
def execFmxr (c : Cond) (sysReg : BitVec 4) (rd : RegNo) (s : State) : Host.Outcome State Fault Refusal :=
  outcome (conditional c (do
      let r ← fpSystem sysReg
      noPc [rd]
      update fun s => s.writeFpReg r (s.reg rd)
      advance)) s

/-- FMRX; with R15, from another register than the FPSCR, the flags become free values (R1497, U20). -/
def execFmrx (c : Cond) (sysReg : BitVec 4) (rd : RegNo) (s : State) : Host.Outcome State Fault Refusal :=
  outcome (conditional c (do
      let r ← fpSystem sysReg
      let v ← readFpReg r
      if rd = 15 then do
        openFlags
        advance
      else finishReg rd v)) s

/-- FMSTAT: the flags of the FPSCR go to the CPSR (R1498). -/
def execFmstat (c : Cond) (s : State) : Host.Outcome State Fault Refusal :=
  outcome (conditional c (do
      let _ ← fpSystem 1
      update fun s => s.setFlags (s.cpsr.setNZCV (s.vfp.fpscr.extractLsb' 28 4))
      advance)) s

/-- FMDRR (R1499). -/
def execFmdrr (c : Cond) (rn rd : RegNo) (fm : BitVec 4) (s : State) : Host.Outcome State Fault Refusal :=
  outcome (conditional c (fpFromPair true false rd rn (lowHalf (doubleNo fm)) (highHalf (doubleNo fm)))) s

/-- FMRRD (R1500). -/
def execFmrrd (c : Cond) (rn rd : RegNo) (fm : BitVec 4) (s : State) : Host.Outcome State Fault Refusal :=
  outcome (conditional c (fpToPair true false rd rn (lowHalf (doubleNo fm)) (highHalf (doubleNo fm)))) s

/-- FMSRR (R1501). -/
def execFmsrr (c : Cond) (rn rd : RegNo) (mBit : Bool) (fm : BitVec 4) (s : State) : Host.Outcome State Fault
    Refusal :=
  outcome (conditional c (fpFromPair false (singleNo fm mBit = 31) rd rn (singleNo fm mBit) (singleNo fm mBit + 1))) s

/-- FMRRS (R1502). -/
def execFmrrs (c : Cond) (rn rd : RegNo) (mBit : Bool) (fm : BitVec 4) (s : State) : Host.Outcome State Fault
    Refusal :=
  outcome (conditional c (fpToPair false (singleNo fm mBit = 31) rd rn (singleNo fm mBit) (singleNo fm mBit + 1))) s

end Sys2Proof.Machine
end

