-- ==== Sys2Proof/Machine/Dispatch.lean ====
section
/-! DEFINITION. Dispatch: one arm per constructor of Instr, one direct call of the meaning of each. -/

namespace Sys2Proof.Machine

def exec (i : Instr) (s : State) : Host.Outcome State Fault Refusal :=
  match i with
  | .cps imod mmod aBit iBit fBit mode => Sys2Proof.Machine.execCps imod mmod aBit iBit fBit mode s
  | .setend e => Sys2Proof.Machine.execSetend e s
  | .clrex => Sys2Proof.Machine.execClrex s
  | .pldImm u rn imm => Sys2Proof.Machine.execPldImm u rn imm s
  | .pldReg u rn amount ty rm => Sys2Proof.Machine.execPldReg u rn amount ty rm s
  | .srs p u wb mode => Sys2Proof.Machine.execSrs p u wb mode s
  | .rfe p u wb rn => Sys2Proof.Machine.execRfe p u wb rn s
  | .blxImm h imm => Sys2Proof.Machine.execBlxImm h imm s
  | .mcrr2 rn rd cp op crm => Sys2Proof.Machine.execMcrr2 rn rd cp op crm s
  | .mrrc2 rn rd cp op crm => Sys2Proof.Machine.execMrrc2 rn rd cp op crm s
  | .stc2Offset u nBit wb rn crd cp imm => Sys2Proof.Machine.execStc2Offset u nBit wb rn crd cp imm s
  | .stc2Post u nBit rn crd cp imm => Sys2Proof.Machine.execStc2Post u nBit rn crd cp imm s
  | .stc2Unindexed nBit rn crd cp opt => Sys2Proof.Machine.execStc2Unindexed nBit rn crd cp opt s
  | .ldc2Offset u nBit wb rn crd cp imm => Sys2Proof.Machine.execLdc2Offset u nBit wb rn crd cp imm s
  | .ldc2Post u nBit rn crd cp imm => Sys2Proof.Machine.execLdc2Post u nBit rn crd cp imm s
  | .ldc2Unindexed nBit rn crd cp opt => Sys2Proof.Machine.execLdc2Unindexed nBit rn crd cp opt s
  | .cdp2 op1 crn crd cp op2 crm => Sys2Proof.Machine.execCdp2 op1 crn crd cp op2 crm s
  | .mcr2 op1 crn rd cp op2 crm => Sys2Proof.Machine.execMcr2 op1 crn rd cp op2 crm s
  | .mrc2 op1 crn rd cp op2 crm => Sys2Proof.Machine.execMrc2 op1 crn rd cp op2 crm s
  | .undefinedArm ignored => Sys2Proof.Machine.execUndefinedArm ignored s
  | .fmacs c dBit fn fd nBit mBit fm => Sys2Proof.Machine.execFmacs c dBit fn fd nBit mBit fm s
  | .fmacd c fn fd fm => Sys2Proof.Machine.execFmacd c fn fd fm s
  | .fnmacs c dBit fn fd nBit mBit fm => Sys2Proof.Machine.execFnmacs c dBit fn fd nBit mBit fm s
  | .fnmacd c fn fd fm => Sys2Proof.Machine.execFnmacd c fn fd fm s
  | .fmscs c dBit fn fd nBit mBit fm => Sys2Proof.Machine.execFmscs c dBit fn fd nBit mBit fm s
  | .fmscd c fn fd fm => Sys2Proof.Machine.execFmscd c fn fd fm s
  | .fnmscs c dBit fn fd nBit mBit fm => Sys2Proof.Machine.execFnmscs c dBit fn fd nBit mBit fm s
  | .fnmscd c fn fd fm => Sys2Proof.Machine.execFnmscd c fn fd fm s
  | .fmuls c dBit fn fd nBit mBit fm => Sys2Proof.Machine.execFmuls c dBit fn fd nBit mBit fm s
  | .fmuld c fn fd fm => Sys2Proof.Machine.execFmuld c fn fd fm s
  | .fnmuls c dBit fn fd nBit mBit fm => Sys2Proof.Machine.execFnmuls c dBit fn fd nBit mBit fm s
  | .fnmuld c fn fd fm => Sys2Proof.Machine.execFnmuld c fn fd fm s
  | .fadds c dBit fn fd nBit mBit fm => Sys2Proof.Machine.execFadds c dBit fn fd nBit mBit fm s
  | .faddd c fn fd fm => Sys2Proof.Machine.execFaddd c fn fd fm s
  | .fsubs c dBit fn fd nBit mBit fm => Sys2Proof.Machine.execFsubs c dBit fn fd nBit mBit fm s
  | .fsubd c fn fd fm => Sys2Proof.Machine.execFsubd c fn fd fm s
  | .fdivs c dBit fn fd nBit mBit fm => Sys2Proof.Machine.execFdivs c dBit fn fd nBit mBit fm s
  | .fdivd c fn fd fm => Sys2Proof.Machine.execFdivd c fn fd fm s
  | .fcpys c dBit fd mBit fm => Sys2Proof.Machine.execFcpys c dBit fd mBit fm s
  | .fcpyd c fd fm => Sys2Proof.Machine.execFcpyd c fd fm s
  | .fabss c dBit fd mBit fm => Sys2Proof.Machine.execFabss c dBit fd mBit fm s
  | .fabsd c fd fm => Sys2Proof.Machine.execFabsd c fd fm s
  | .fnegs c dBit fd mBit fm => Sys2Proof.Machine.execFnegs c dBit fd mBit fm s
  | .fnegd c fd fm => Sys2Proof.Machine.execFnegd c fd fm s
  | .fsqrts c dBit fd mBit fm => Sys2Proof.Machine.execFsqrts c dBit fd mBit fm s
  | .fsqrtd c fd fm => Sys2Proof.Machine.execFsqrtd c fd fm s
  | .fcmps c dBit fd mBit fm => Sys2Proof.Machine.execFcmps c dBit fd mBit fm s
  | .fcmpd c fd fm => Sys2Proof.Machine.execFcmpd c fd fm s
  | .fcmpes c dBit fd mBit fm => Sys2Proof.Machine.execFcmpes c dBit fd mBit fm s
  | .fcmped c fd fm => Sys2Proof.Machine.execFcmped c fd fm s
  | .fcmpzs c dBit fd => Sys2Proof.Machine.execFcmpzs c dBit fd s
  | .fcmpzd c fd => Sys2Proof.Machine.execFcmpzd c fd s
  | .fcmpezs c dBit fd => Sys2Proof.Machine.execFcmpezs c dBit fd s
  | .fcmpezd c fd => Sys2Proof.Machine.execFcmpezd c fd s
  | .fcvtds c fd mBit fm => Sys2Proof.Machine.execFcvtds c fd mBit fm s
  | .fcvtsd c dBit fd fm => Sys2Proof.Machine.execFcvtsd c dBit fd fm s
  | .fuitos c dBit fd mBit fm => Sys2Proof.Machine.execFuitos c dBit fd mBit fm s
  | .fuitod c fd mBit fm => Sys2Proof.Machine.execFuitod c fd mBit fm s
  | .fsitos c dBit fd mBit fm => Sys2Proof.Machine.execFsitos c dBit fd mBit fm s
  | .fsitod c fd mBit fm => Sys2Proof.Machine.execFsitod c fd mBit fm s
  | .ftouis c dBit fd mBit fm => Sys2Proof.Machine.execFtouis c dBit fd mBit fm s
  | .ftouid c dBit fd fm => Sys2Proof.Machine.execFtouid c dBit fd fm s
  | .ftouizs c dBit fd mBit fm => Sys2Proof.Machine.execFtouizs c dBit fd mBit fm s
  | .ftouizd c dBit fd fm => Sys2Proof.Machine.execFtouizd c dBit fd fm s
  | .ftosis c dBit fd mBit fm => Sys2Proof.Machine.execFtosis c dBit fd mBit fm s
  | .ftosid c dBit fd fm => Sys2Proof.Machine.execFtosid c dBit fd fm s
  | .ftosizs c dBit fd mBit fm => Sys2Proof.Machine.execFtosizs c dBit fd mBit fm s
  | .ftosizd c dBit fd fm => Sys2Proof.Machine.execFtosizd c dBit fd fm s
  | .flds c u dBit rn fd imm => Sys2Proof.Machine.execFlds c u dBit rn fd imm s
  | .fldd c u rn fd imm => Sys2Proof.Machine.execFldd c u rn fd imm s
  | .fsts c u dBit rn fd imm => Sys2Proof.Machine.execFsts c u dBit rn fd imm s
  | .fstd c u rn fd imm => Sys2Proof.Machine.execFstd c u rn fd imm s
  | .fldmsIa c dBit wb rn fd imm => Sys2Proof.Machine.execFldmsIa c dBit wb rn fd imm s
  | .fldmsDb c dBit rn fd imm => Sys2Proof.Machine.execFldmsDb c dBit rn fd imm s
  | .fldmdIa c wb rn fd immHi => Sys2Proof.Machine.execFldmdIa c wb rn fd immHi s
  | .fldmdDb c rn fd immHi => Sys2Proof.Machine.execFldmdDb c rn fd immHi s
  | .fldmxIa c wb rn fd immHi => Sys2Proof.Machine.execFldmxIa c wb rn fd immHi s
  | .fldmxDb c rn fd immHi => Sys2Proof.Machine.execFldmxDb c rn fd immHi s
  | .fstmsIa c dBit wb rn fd imm => Sys2Proof.Machine.execFstmsIa c dBit wb rn fd imm s
  | .fstmsDb c dBit rn fd imm => Sys2Proof.Machine.execFstmsDb c dBit rn fd imm s
  | .fstmdIa c wb rn fd immHi => Sys2Proof.Machine.execFstmdIa c wb rn fd immHi s
  | .fstmdDb c rn fd immHi => Sys2Proof.Machine.execFstmdDb c rn fd immHi s
  | .fstmxIa c wb rn fd immHi => Sys2Proof.Machine.execFstmxIa c wb rn fd immHi s
  | .fstmxDb c rn fd immHi => Sys2Proof.Machine.execFstmxDb c rn fd immHi s
  | .fmstat c => Sys2Proof.Machine.execFmstat c s
  | .fmsr c fn rd nBit => Sys2Proof.Machine.execFmsr c fn rd nBit s
  | .fmrs c fn rd nBit => Sys2Proof.Machine.execFmrs c fn rd nBit s
  | .fmdlr c fn rd => Sys2Proof.Machine.execFmdlr c fn rd s
  | .fmrdl c fn rd => Sys2Proof.Machine.execFmrdl c fn rd s
  | .fmdhr c fn rd => Sys2Proof.Machine.execFmdhr c fn rd s
  | .fmrdh c fn rd => Sys2Proof.Machine.execFmrdh c fn rd s
  | .fmxr c sysReg rd => Sys2Proof.Machine.execFmxr c sysReg rd s
  | .fmrx c sysReg rd => Sys2Proof.Machine.execFmrx c sysReg rd s
  | .fmdrr c rn rd fm => Sys2Proof.Machine.execFmdrr c rn rd fm s
  | .fmrrd c rn rd fm => Sys2Proof.Machine.execFmrrd c rn rd fm s
  | .fmsrr c rn rd mBit fm => Sys2Proof.Machine.execFmsrr c rn rd mBit fm s
  | .fmrrs c rn rd mBit fm => Sys2Proof.Machine.execFmrrs c rn rd mBit fm s
  | .mrs c r rd => Sys2Proof.Machine.execMrs c r rd s
  | .msrReg c r fields rm => Sys2Proof.Machine.execMsrReg c r fields rm s
  | .bx c rm => Sys2Proof.Machine.execBx c rm s
  | .bxj c rm => Sys2Proof.Machine.execBxj c rm s
  | .blxReg c rm => Sys2Proof.Machine.execBlxReg c rm s
  | .clz c rd rm => Sys2Proof.Machine.execClz c rd rm s
  | .qadd c rn rd rm => Sys2Proof.Machine.execQadd c rn rd rm s
  | .qsub c rn rd rm => Sys2Proof.Machine.execQsub c rn rd rm s
  | .qdadd c rn rd rm => Sys2Proof.Machine.execQdadd c rn rd rm s
  | .qdsub c rn rd rm => Sys2Proof.Machine.execQdsub c rn rd rm s
  | .bkpt imm => Sys2Proof.Machine.execBkpt imm s
  | .smc c imm => Sys2Proof.Machine.execSmc c imm s
  | .smlaXY c rd rn rs y x rm => Sys2Proof.Machine.execSmlaXY c rd rn rs y x rm s
  | .smlawY c rd rn rs y rm => Sys2Proof.Machine.execSmlawY c rd rn rs y rm s
  | .smulwY c rd rs y rm => Sys2Proof.Machine.execSmulwY c rd rs y rm s
  | .smlalXY c rdHi rdLo rs y x rm => Sys2Proof.Machine.execSmlalXY c rdHi rdLo rs y x rm s
  | .smulXY c rd rs y x rm => Sys2Proof.Machine.execSmulXY c rd rs y x rm s
  | .mul c sf rd rs rm => Sys2Proof.Machine.execMul c sf rd rs rm s
  | .mla c sf rd rn rs rm => Sys2Proof.Machine.execMla c sf rd rn rs rm s
  | .umaal c rdHi rdLo rs rm => Sys2Proof.Machine.execUmaal c rdHi rdLo rs rm s
  | .umull c sf rdHi rdLo rs rm => Sys2Proof.Machine.execUmull c sf rdHi rdLo rs rm s
  | .umlal c sf rdHi rdLo rs rm => Sys2Proof.Machine.execUmlal c sf rdHi rdLo rs rm s
  | .smull c sf rdHi rdLo rs rm => Sys2Proof.Machine.execSmull c sf rdHi rdLo rs rm s
  | .smlal c sf rdHi rdLo rs rm => Sys2Proof.Machine.execSmlal c sf rdHi rdLo rs rm s
  | .swp c rn rd rm => Sys2Proof.Machine.execSwp c rn rd rm s
  | .swpb c rn rd rm => Sys2Proof.Machine.execSwpb c rn rd rm s
  | .strex c rn rd rm => Sys2Proof.Machine.execStrex c rn rd rm s
  | .ldrex c rn rd => Sys2Proof.Machine.execLdrex c rn rd s
  | .strexd c rn rd rm => Sys2Proof.Machine.execStrexd c rn rd rm s
  | .ldrexd c rn rd => Sys2Proof.Machine.execLdrexd c rn rd s
  | .strexb c rn rd rm => Sys2Proof.Machine.execStrexb c rn rd rm s
  | .ldrexb c rn rd => Sys2Proof.Machine.execLdrexb c rn rd s
  | .strexh c rn rd rm => Sys2Proof.Machine.execStrexh c rn rd rm s
  | .ldrexh c rn rd => Sys2Proof.Machine.execLdrexh c rn rd s
  | .strhImm c p u wb rn rd immH immL => Sys2Proof.Machine.execStrhImm c p u wb rn rd immH immL s
  | .strhReg c p u wb rn rd rm => Sys2Proof.Machine.execStrhReg c p u wb rn rd rm s
  | .ldrdImm c p u wb rn rd immH immL => Sys2Proof.Machine.execLdrdImm c p u wb rn rd immH immL s
  | .ldrdReg c p u wb rn rd rm => Sys2Proof.Machine.execLdrdReg c p u wb rn rd rm s
  | .strdImm c p u wb rn rd immH immL => Sys2Proof.Machine.execStrdImm c p u wb rn rd immH immL s
  | .strdReg c p u wb rn rd rm => Sys2Proof.Machine.execStrdReg c p u wb rn rd rm s
  | .ldrhImm c p u wb rn rd immH immL => Sys2Proof.Machine.execLdrhImm c p u wb rn rd immH immL s
  | .ldrhReg c p u wb rn rd rm => Sys2Proof.Machine.execLdrhReg c p u wb rn rd rm s
  | .ldrsbImm c p u wb rn rd immH immL => Sys2Proof.Machine.execLdrsbImm c p u wb rn rd immH immL s
  | .ldrsbReg c p u wb rn rd rm => Sys2Proof.Machine.execLdrsbReg c p u wb rn rd rm s
  | .ldrshImm c p u wb rn rd immH immL => Sys2Proof.Machine.execLdrshImm c p u wb rn rd immH immL s
  | .ldrshReg c p u wb rn rd rm => Sys2Proof.Machine.execLdrshReg c p u wb rn rd rm s
  | .nop c => Sys2Proof.Machine.execNop c s
  | .yield c => Sys2Proof.Machine.execYield c s
  | .nopReservedHint c hint => Sys2Proof.Machine.execNopReservedHint c hint s
  | .msrImm c r fields rot imm => Sys2Proof.Machine.execMsrImm c r fields rot imm s
  | .cpy c rd rm => Sys2Proof.Machine.execCpy c rd rm s
  | .andImm c sf rn rd rot imm => Sys2Proof.Machine.execAndImm c sf rn rd rot imm s
  | .andShift c sf rn rd amount ty rm => Sys2Proof.Machine.execAndShift c sf rn rd amount ty rm s
  | .andRegShift c sf rn rd rs ty rm => Sys2Proof.Machine.execAndRegShift c sf rn rd rs ty rm s
  | .eorImm c sf rn rd rot imm => Sys2Proof.Machine.execEorImm c sf rn rd rot imm s
  | .eorShift c sf rn rd amount ty rm => Sys2Proof.Machine.execEorShift c sf rn rd amount ty rm s
  | .eorRegShift c sf rn rd rs ty rm => Sys2Proof.Machine.execEorRegShift c sf rn rd rs ty rm s
  | .subImm c sf rn rd rot imm => Sys2Proof.Machine.execSubImm c sf rn rd rot imm s
  | .subShift c sf rn rd amount ty rm => Sys2Proof.Machine.execSubShift c sf rn rd amount ty rm s
  | .subRegShift c sf rn rd rs ty rm => Sys2Proof.Machine.execSubRegShift c sf rn rd rs ty rm s
  | .rsbImm c sf rn rd rot imm => Sys2Proof.Machine.execRsbImm c sf rn rd rot imm s
  | .rsbShift c sf rn rd amount ty rm => Sys2Proof.Machine.execRsbShift c sf rn rd amount ty rm s
  | .rsbRegShift c sf rn rd rs ty rm => Sys2Proof.Machine.execRsbRegShift c sf rn rd rs ty rm s
  | .addImm c sf rn rd rot imm => Sys2Proof.Machine.execAddImm c sf rn rd rot imm s
  | .addShift c sf rn rd amount ty rm => Sys2Proof.Machine.execAddShift c sf rn rd amount ty rm s
  | .addRegShift c sf rn rd rs ty rm => Sys2Proof.Machine.execAddRegShift c sf rn rd rs ty rm s
  | .adcImm c sf rn rd rot imm => Sys2Proof.Machine.execAdcImm c sf rn rd rot imm s
  | .adcShift c sf rn rd amount ty rm => Sys2Proof.Machine.execAdcShift c sf rn rd amount ty rm s
  | .adcRegShift c sf rn rd rs ty rm => Sys2Proof.Machine.execAdcRegShift c sf rn rd rs ty rm s
  | .sbcImm c sf rn rd rot imm => Sys2Proof.Machine.execSbcImm c sf rn rd rot imm s
  | .sbcShift c sf rn rd amount ty rm => Sys2Proof.Machine.execSbcShift c sf rn rd amount ty rm s
  | .sbcRegShift c sf rn rd rs ty rm => Sys2Proof.Machine.execSbcRegShift c sf rn rd rs ty rm s
  | .rscImm c sf rn rd rot imm => Sys2Proof.Machine.execRscImm c sf rn rd rot imm s
  | .rscShift c sf rn rd amount ty rm => Sys2Proof.Machine.execRscShift c sf rn rd amount ty rm s
  | .rscRegShift c sf rn rd rs ty rm => Sys2Proof.Machine.execRscRegShift c sf rn rd rs ty rm s
  | .tstImm c rn rot imm => Sys2Proof.Machine.execTstImm c rn rot imm s
  | .tstShift c rn amount ty rm => Sys2Proof.Machine.execTstShift c rn amount ty rm s
  | .tstRegShift c rn rs ty rm => Sys2Proof.Machine.execTstRegShift c rn rs ty rm s
  | .teqImm c rn rot imm => Sys2Proof.Machine.execTeqImm c rn rot imm s
  | .teqShift c rn amount ty rm => Sys2Proof.Machine.execTeqShift c rn amount ty rm s
  | .teqRegShift c rn rs ty rm => Sys2Proof.Machine.execTeqRegShift c rn rs ty rm s
  | .cmpImm c rn rot imm => Sys2Proof.Machine.execCmpImm c rn rot imm s
  | .cmpShift c rn amount ty rm => Sys2Proof.Machine.execCmpShift c rn amount ty rm s
  | .cmpRegShift c rn rs ty rm => Sys2Proof.Machine.execCmpRegShift c rn rs ty rm s
  | .cmnImm c rn rot imm => Sys2Proof.Machine.execCmnImm c rn rot imm s
  | .cmnShift c rn amount ty rm => Sys2Proof.Machine.execCmnShift c rn amount ty rm s
  | .cmnRegShift c rn rs ty rm => Sys2Proof.Machine.execCmnRegShift c rn rs ty rm s
  | .orrImm c sf rn rd rot imm => Sys2Proof.Machine.execOrrImm c sf rn rd rot imm s
  | .orrShift c sf rn rd amount ty rm => Sys2Proof.Machine.execOrrShift c sf rn rd amount ty rm s
  | .orrRegShift c sf rn rd rs ty rm => Sys2Proof.Machine.execOrrRegShift c sf rn rd rs ty rm s
  | .movImm c sf rd rot imm => Sys2Proof.Machine.execMovImm c sf rd rot imm s
  | .movShift c sf rd amount ty rm => Sys2Proof.Machine.execMovShift c sf rd amount ty rm s
  | .movRegShift c sf rd rs ty rm => Sys2Proof.Machine.execMovRegShift c sf rd rs ty rm s
  | .bicImm c sf rn rd rot imm => Sys2Proof.Machine.execBicImm c sf rn rd rot imm s
  | .bicShift c sf rn rd amount ty rm => Sys2Proof.Machine.execBicShift c sf rn rd amount ty rm s
  | .bicRegShift c sf rn rd rs ty rm => Sys2Proof.Machine.execBicRegShift c sf rn rd rs ty rm s
  | .mvnImm c sf rd rot imm => Sys2Proof.Machine.execMvnImm c sf rd rot imm s
  | .mvnShift c sf rd amount ty rm => Sys2Proof.Machine.execMvnShift c sf rd amount ty rm s
  | .mvnRegShift c sf rd rs ty rm => Sys2Proof.Machine.execMvnRegShift c sf rd rs ty rm s
  | .ldrtImm c u rn rd imm => Sys2Proof.Machine.execLdrtImm c u rn rd imm s
  | .ldrtReg c u rn rd amount ty rm => Sys2Proof.Machine.execLdrtReg c u rn rd amount ty rm s
  | .ldrbtImm c u rn rd imm => Sys2Proof.Machine.execLdrbtImm c u rn rd imm s
  | .ldrbtReg c u rn rd amount ty rm => Sys2Proof.Machine.execLdrbtReg c u rn rd amount ty rm s
  | .strtImm c u rn rd imm => Sys2Proof.Machine.execStrtImm c u rn rd imm s
  | .strtReg c u rn rd amount ty rm => Sys2Proof.Machine.execStrtReg c u rn rd amount ty rm s
  | .strbtImm c u rn rd imm => Sys2Proof.Machine.execStrbtImm c u rn rd imm s
  | .strbtReg c u rn rd amount ty rm => Sys2Proof.Machine.execStrbtReg c u rn rd amount ty rm s
  | .ldrImm c p u wb rn rd imm => Sys2Proof.Machine.execLdrImm c p u wb rn rd imm s
  | .ldrReg c p u wb rn rd amount ty rm => Sys2Proof.Machine.execLdrReg c p u wb rn rd amount ty rm s
  | .ldrbImm c p u wb rn rd imm => Sys2Proof.Machine.execLdrbImm c p u wb rn rd imm s
  | .ldrbReg c p u wb rn rd amount ty rm => Sys2Proof.Machine.execLdrbReg c p u wb rn rd amount ty rm s
  | .strImm c p u wb rn rd imm => Sys2Proof.Machine.execStrImm c p u wb rn rd imm s
  | .strReg c p u wb rn rd amount ty rm => Sys2Proof.Machine.execStrReg c p u wb rn rd amount ty rm s
  | .strbImm c p u wb rn rd imm => Sys2Proof.Machine.execStrbImm c p u wb rn rd imm s
  | .strbReg c p u wb rn rd amount ty rm => Sys2Proof.Machine.execStrbReg c p u wb rn rd amount ty rm s
  | .sadd16 c rn rd rm => Sys2Proof.Machine.execSadd16 c rn rd rm s
  | .qadd16 c rn rd rm => Sys2Proof.Machine.execQadd16 c rn rd rm s
  | .shadd16 c rn rd rm => Sys2Proof.Machine.execShadd16 c rn rd rm s
  | .uadd16 c rn rd rm => Sys2Proof.Machine.execUadd16 c rn rd rm s
  | .uqadd16 c rn rd rm => Sys2Proof.Machine.execUqadd16 c rn rd rm s
  | .uhadd16 c rn rd rm => Sys2Proof.Machine.execUhadd16 c rn rd rm s
  | .saddsubx c rn rd rm => Sys2Proof.Machine.execSaddsubx c rn rd rm s
  | .qaddsubx c rn rd rm => Sys2Proof.Machine.execQaddsubx c rn rd rm s
  | .shaddsubx c rn rd rm => Sys2Proof.Machine.execShaddsubx c rn rd rm s
  | .uaddsubx c rn rd rm => Sys2Proof.Machine.execUaddsubx c rn rd rm s
  | .uqaddsubx c rn rd rm => Sys2Proof.Machine.execUqaddsubx c rn rd rm s
  | .uhaddsubx c rn rd rm => Sys2Proof.Machine.execUhaddsubx c rn rd rm s
  | .ssubaddx c rn rd rm => Sys2Proof.Machine.execSsubaddx c rn rd rm s
  | .qsubaddx c rn rd rm => Sys2Proof.Machine.execQsubaddx c rn rd rm s
  | .shsubaddx c rn rd rm => Sys2Proof.Machine.execShsubaddx c rn rd rm s
  | .usubaddx c rn rd rm => Sys2Proof.Machine.execUsubaddx c rn rd rm s
  | .uqsubaddx c rn rd rm => Sys2Proof.Machine.execUqsubaddx c rn rd rm s
  | .uhsubaddx c rn rd rm => Sys2Proof.Machine.execUhsubaddx c rn rd rm s
  | .ssub16 c rn rd rm => Sys2Proof.Machine.execSsub16 c rn rd rm s
  | .qsub16 c rn rd rm => Sys2Proof.Machine.execQsub16 c rn rd rm s
  | .shsub16 c rn rd rm => Sys2Proof.Machine.execShsub16 c rn rd rm s
  | .usub16 c rn rd rm => Sys2Proof.Machine.execUsub16 c rn rd rm s
  | .uqsub16 c rn rd rm => Sys2Proof.Machine.execUqsub16 c rn rd rm s
  | .uhsub16 c rn rd rm => Sys2Proof.Machine.execUhsub16 c rn rd rm s
  | .sadd8 c rn rd rm => Sys2Proof.Machine.execSadd8 c rn rd rm s
  | .qadd8 c rn rd rm => Sys2Proof.Machine.execQadd8 c rn rd rm s
  | .shadd8 c rn rd rm => Sys2Proof.Machine.execShadd8 c rn rd rm s
  | .uadd8 c rn rd rm => Sys2Proof.Machine.execUadd8 c rn rd rm s
  | .uqadd8 c rn rd rm => Sys2Proof.Machine.execUqadd8 c rn rd rm s
  | .uhadd8 c rn rd rm => Sys2Proof.Machine.execUhadd8 c rn rd rm s
  | .ssub8 c rn rd rm => Sys2Proof.Machine.execSsub8 c rn rd rm s
  | .qsub8 c rn rd rm => Sys2Proof.Machine.execQsub8 c rn rd rm s
  | .shsub8 c rn rd rm => Sys2Proof.Machine.execShsub8 c rn rd rm s
  | .usub8 c rn rd rm => Sys2Proof.Machine.execUsub8 c rn rd rm s
  | .uqsub8 c rn rd rm => Sys2Proof.Machine.execUqsub8 c rn rd rm s
  | .uhsub8 c rn rd rm => Sys2Proof.Machine.execUhsub8 c rn rd rm s
  | .pkhbt c rn rd amount rm => Sys2Proof.Machine.execPkhbt c rn rd amount rm s
  | .pkhtb c rn rd amount rm => Sys2Proof.Machine.execPkhtb c rn rd amount rm s
  | .ssat16 c sat rd rm => Sys2Proof.Machine.execSsat16 c sat rd rm s
  | .usat16 c sat rd rm => Sys2Proof.Machine.execUsat16 c sat rd rm s
  | .ssat c sat rd amount sh rm => Sys2Proof.Machine.execSsat c sat rd amount sh rm s
  | .usat c sat rd amount sh rm => Sys2Proof.Machine.execUsat c sat rd amount sh rm s
  | .sel c rn rd rm => Sys2Proof.Machine.execSel c rn rd rm s
  | .rev c rd rm => Sys2Proof.Machine.execRev c rd rm s
  | .rev16 c rd rm => Sys2Proof.Machine.execRev16 c rd rm s
  | .revsh c rd rm => Sys2Proof.Machine.execRevsh c rd rm s
  | .sxtb16 c rd rot rm => Sys2Proof.Machine.execSxtb16 c rd rot rm s
  | .sxtb c rd rot rm => Sys2Proof.Machine.execSxtb c rd rot rm s
  | .sxth c rd rot rm => Sys2Proof.Machine.execSxth c rd rot rm s
  | .uxtb16 c rd rot rm => Sys2Proof.Machine.execUxtb16 c rd rot rm s
  | .uxtb c rd rot rm => Sys2Proof.Machine.execUxtb c rd rot rm s
  | .uxth c rd rot rm => Sys2Proof.Machine.execUxth c rd rot rm s
  | .sxtab16 c rn rd rot rm => Sys2Proof.Machine.execSxtab16 c rn rd rot rm s
  | .sxtab c rn rd rot rm => Sys2Proof.Machine.execSxtab c rn rd rot rm s
  | .sxtah c rn rd rot rm => Sys2Proof.Machine.execSxtah c rn rd rot rm s
  | .uxtab16 c rn rd rot rm => Sys2Proof.Machine.execUxtab16 c rn rd rot rm s
  | .uxtab c rn rd rot rm => Sys2Proof.Machine.execUxtab c rn rd rot rm s
  | .uxtah c rn rd rot rm => Sys2Proof.Machine.execUxtah c rn rd rot rm s
  | .smuad c rd rs x rm => Sys2Proof.Machine.execSmuad c rd rs x rm s
  | .smusd c rd rs x rm => Sys2Proof.Machine.execSmusd c rd rs x rm s
  | .smlad c rd rn rs x rm => Sys2Proof.Machine.execSmlad c rd rn rs x rm s
  | .smlsd c rd rn rs x rm => Sys2Proof.Machine.execSmlsd c rd rn rs x rm s
  | .smlald c rdHi rdLo rs x rm => Sys2Proof.Machine.execSmlald c rdHi rdLo rs x rm s
  | .smlsld c rdHi rdLo rs x rm => Sys2Proof.Machine.execSmlsld c rdHi rdLo rs x rm s
  | .smmul c rd rs r rm => Sys2Proof.Machine.execSmmul c rd rs r rm s
  | .smmla c rd rn rs r rm => Sys2Proof.Machine.execSmmla c rd rn rs r rm s
  | .smmls c rd rn rs r rm => Sys2Proof.Machine.execSmmls c rd rn rs r rm s
  | .usad8 c rd rs rm => Sys2Proof.Machine.execUsad8 c rd rs rm s
  | .usada8 c rd rn rs rm => Sys2Proof.Machine.execUsada8 c rd rn rs rm s
  | .ldm1 c p u wb rn regs => Sys2Proof.Machine.execLdm1 c p u wb rn regs s
  | .ldm3 c p u wb rn regs => Sys2Proof.Machine.execLdm3 c p u wb rn regs s
  | .ldm2 c p u rn regs => Sys2Proof.Machine.execLdm2 c p u rn regs s
  | .stm1 c p u wb rn regs => Sys2Proof.Machine.execStm1 c p u wb rn regs s
  | .stm2 c p u rn regs => Sys2Proof.Machine.execStm2 c p u rn regs s
  | .b c imm => Sys2Proof.Machine.execB c imm s
  | .bl c imm => Sys2Proof.Machine.execBl c imm s
  | .mcrr c rn rd cp op crm => Sys2Proof.Machine.execMcrr c rn rd cp op crm s
  | .mrrc c rn rd cp op crm => Sys2Proof.Machine.execMrrc c rn rd cp op crm s
  | .stcOffset c u nBit wb rn crd cp imm => Sys2Proof.Machine.execStcOffset c u nBit wb rn crd cp imm s
  | .stcPost c u nBit rn crd cp imm => Sys2Proof.Machine.execStcPost c u nBit rn crd cp imm s
  | .stcUnindexed c nBit rn crd cp opt => Sys2Proof.Machine.execStcUnindexed c nBit rn crd cp opt s
  | .ldcOffset c u nBit wb rn crd cp imm => Sys2Proof.Machine.execLdcOffset c u nBit wb rn crd cp imm s
  | .ldcPost c u nBit rn crd cp imm => Sys2Proof.Machine.execLdcPost c u nBit rn crd cp imm s
  | .ldcUnindexed c nBit rn crd cp opt => Sys2Proof.Machine.execLdcUnindexed c nBit rn crd cp opt s
  | .cdp c op1 crn crd cp op2 crm => Sys2Proof.Machine.execCdp c op1 crn crd cp op2 crm s
  | .mcr c op1 crn rd cp op2 crm => Sys2Proof.Machine.execMcr c op1 crn rd cp op2 crm s
  | .mrc c op1 crn rd cp op2 crm => Sys2Proof.Machine.execMrc c op1 crn rd cp op2 crm s
  | .svc c imm => Sys2Proof.Machine.execSvc c imm s
  | .tMov2 rn rd => Sys2Proof.Machine.execTMov2 rn rd s
  | .tLsl1 imm rm rd => Sys2Proof.Machine.execTLsl1 imm rm rd s
  | .tLsr1 imm rm rd => Sys2Proof.Machine.execTLsr1 imm rm rd s
  | .tAsr1 imm rm rd => Sys2Proof.Machine.execTAsr1 imm rm rd s
  | .tAdd3 rm rn rd => Sys2Proof.Machine.execTAdd3 rm rn rd s
  | .tSub3 rm rn rd => Sys2Proof.Machine.execTSub3 rm rn rd s
  | .tAdd1 imm rn rd => Sys2Proof.Machine.execTAdd1 imm rn rd s
  | .tSub1 imm rn rd => Sys2Proof.Machine.execTSub1 imm rn rd s
  | .tMov1 rd imm => Sys2Proof.Machine.execTMov1 rd imm s
  | .tCmp1 rn imm => Sys2Proof.Machine.execTCmp1 rn imm s
  | .tAdd2 rd imm => Sys2Proof.Machine.execTAdd2 rd imm s
  | .tSub2 rd imm => Sys2Proof.Machine.execTSub2 rd imm s
  | .tAnd rm rd => Sys2Proof.Machine.execTAnd rm rd s
  | .tEor rm rd => Sys2Proof.Machine.execTEor rm rd s
  | .tLsl2 rm rd => Sys2Proof.Machine.execTLsl2 rm rd s
  | .tLsr2 rm rd => Sys2Proof.Machine.execTLsr2 rm rd s
  | .tAsr2 rm rd => Sys2Proof.Machine.execTAsr2 rm rd s
  | .tAdc rm rd => Sys2Proof.Machine.execTAdc rm rd s
  | .tSbc rm rd => Sys2Proof.Machine.execTSbc rm rd s
  | .tRor rm rd => Sys2Proof.Machine.execTRor rm rd s
  | .tTst rm rd => Sys2Proof.Machine.execTTst rm rd s
  | .tNeg rm rd => Sys2Proof.Machine.execTNeg rm rd s
  | .tCmp2 rm rd => Sys2Proof.Machine.execTCmp2 rm rd s
  | .tCmn rm rd => Sys2Proof.Machine.execTCmn rm rd s
  | .tOrr rm rd => Sys2Proof.Machine.execTOrr rm rd s
  | .tMul rm rd => Sys2Proof.Machine.execTMul rm rd s
  | .tBic rm rd => Sys2Proof.Machine.execTBic rm rd s
  | .tMvn rm rd => Sys2Proof.Machine.execTMvn rm rd s
  | .tAdd4 h1 h2 rm rd => Sys2Proof.Machine.execTAdd4 h1 h2 rm rd s
  | .tCmp3 h1 h2 rm rn => Sys2Proof.Machine.execTCmp3 h1 h2 rm rn s
  | .tCpy rm rd => Sys2Proof.Machine.execTCpy rm rd s
  | .tMov3 h1 h2 rm rd => Sys2Proof.Machine.execTMov3 h1 h2 rm rd s
  | .tBx h2 rm => Sys2Proof.Machine.execTBx h2 rm s
  | .tBlx2 h2 rm => Sys2Proof.Machine.execTBlx2 h2 rm s
  | .tLdr3 rd imm => Sys2Proof.Machine.execTLdr3 rd imm s
  | .tStr2 rm rn rd => Sys2Proof.Machine.execTStr2 rm rn rd s
  | .tStrh2 rm rn rd => Sys2Proof.Machine.execTStrh2 rm rn rd s
  | .tStrb2 rm rn rd => Sys2Proof.Machine.execTStrb2 rm rn rd s
  | .tLdrsb rm rn rd => Sys2Proof.Machine.execTLdrsb rm rn rd s
  | .tLdr2 rm rn rd => Sys2Proof.Machine.execTLdr2 rm rn rd s
  | .tLdrh2 rm rn rd => Sys2Proof.Machine.execTLdrh2 rm rn rd s
  | .tLdrb2 rm rn rd => Sys2Proof.Machine.execTLdrb2 rm rn rd s
  | .tLdrsh rm rn rd => Sys2Proof.Machine.execTLdrsh rm rn rd s
  | .tStr1 imm rn rd => Sys2Proof.Machine.execTStr1 imm rn rd s
  | .tLdr1 imm rn rd => Sys2Proof.Machine.execTLdr1 imm rn rd s
  | .tStrb1 imm rn rd => Sys2Proof.Machine.execTStrb1 imm rn rd s
  | .tLdrb1 imm rn rd => Sys2Proof.Machine.execTLdrb1 imm rn rd s
  | .tStrh1 imm rn rd => Sys2Proof.Machine.execTStrh1 imm rn rd s
  | .tLdrh1 imm rn rd => Sys2Proof.Machine.execTLdrh1 imm rn rd s
  | .tStr3 rd imm => Sys2Proof.Machine.execTStr3 rd imm s
  | .tLdr4 rd imm => Sys2Proof.Machine.execTLdr4 rd imm s
  | .tAdd5 rd imm => Sys2Proof.Machine.execTAdd5 rd imm s
  | .tAdd6 rd imm => Sys2Proof.Machine.execTAdd6 rd imm s
  | .tAdd7 imm => Sys2Proof.Machine.execTAdd7 imm s
  | .tSub4 imm => Sys2Proof.Machine.execTSub4 imm s
  | .tSxth rm rd => Sys2Proof.Machine.execTSxth rm rd s
  | .tSxtb rm rd => Sys2Proof.Machine.execTSxtb rm rd s
  | .tUxth rm rd => Sys2Proof.Machine.execTUxth rm rd s
  | .tUxtb rm rd => Sys2Proof.Machine.execTUxtb rm rd s
  | .tPush r regs => Sys2Proof.Machine.execTPush r regs s
  | .tPop r regs => Sys2Proof.Machine.execTPop r regs s
  | .tSetend e => Sys2Proof.Machine.execTSetend e s
  | .tCps imod aBit iBit fBit => Sys2Proof.Machine.execTCps imod aBit iBit fBit s
  | .tRev rm rd => Sys2Proof.Machine.execTRev rm rd s
  | .tRev16 rm rd => Sys2Proof.Machine.execTRev16 rm rd s
  | .tRevsh rm rd => Sys2Proof.Machine.execTRevsh rm rd s
  | .tBkpt imm => Sys2Proof.Machine.execTBkpt imm s
  | .tStmia rn regs => Sys2Proof.Machine.execTStmia rn regs s
  | .tLdmia rn regs => Sys2Proof.Machine.execTLdmia rn regs s
  | .tSvc imm => Sys2Proof.Machine.execTSvc imm s
  | .tUndefined ignored => Sys2Proof.Machine.execTUndefined ignored s
  | .tB1 c imm => Sys2Proof.Machine.execTB1 c imm s
  | .tB2 imm => Sys2Proof.Machine.execTB2 imm s
  | .tBlx1Suffix immHi => Sys2Proof.Machine.execTBlx1Suffix immHi s
  | .tBlBlxPrefix imm => Sys2Proof.Machine.execTBlBlxPrefix imm s
  | .tBlSuffix imm => Sys2Proof.Machine.execTBlSuffix imm s

end Sys2Proof.Machine
end

