-- ==== Sys2Proof/WellFormed.lean ====
section
/-! DEFINITION. WellFormed: which terms of Instr are instructions. The fields carry their own widths, so what is left to
check is that no earlier row of the opcode table claims the encoding (R829's overlaps and the notes of the rows): CPY
before MOV, the unprivileged loads and stores before the plain ones, Rn = 1111 in the extend-and-add and multiply-
accumulate rows, the hints before MSR immediate, FMSTAT before FMRX, the VFP11 rows before the generic coprocessor rows. -/

namespace Sys2Proof

/-- Whether a word fits a row of the table, given as (mask, match). -/
def fits (w : Word) (row : Word × Word) : Bool := w &&& row.1 == row.2

/-- The rows of the unconditional space before the last, without their condition bits (R842). -/
def uncondRows : List (Word × Word) :=
  [(0x0FF10000#32, 0x01000000#32),
   (0x0FFF00F0#32, 0x01010000#32),
   (0x0FF000F0#32, 0x05700010#32),
   (0x0F70F000#32, 0x0550F000#32),
   (0x0F70F010#32, 0x0750F000#32),
   (0x0E5F0F00#32, 0x084D0500#32),
   (0x0E500F00#32, 0x08100A00#32),
   (0x0E000000#32, 0x0A000000#32),
   (0x0FF00000#32, 0x0C400000#32),
   (0x0FF00000#32, 0x0C500000#32),
   (0x0F100000#32, 0x0D000000#32),
   (0x0F300000#32, 0x0C200000#32),
   (0x0FB00000#32, 0x0C800000#32),
   (0x0F100000#32, 0x0D100000#32),
   (0x0F300000#32, 0x0C300000#32),
   (0x0FB00000#32, 0x0C900000#32),
   (0x0F000010#32, 0x0E000000#32),
   (0x0F100010#32, 0x0E000010#32),
   (0x0F100010#32, 0x0E100010#32)]

/-- The VFP11 data-processing rows (R865). -/
def vfpCdpRows : List (Word × Word) :=
  [(0x0FB00F50#32, 0x0E000A00#32),
   (0x0FF00FF0#32, 0x0E000B00#32),
   (0x0FB00F50#32, 0x0E000A40#32),
   (0x0FF00FF0#32, 0x0E000B40#32),
   (0x0FB00F50#32, 0x0E100A00#32),
   (0x0FF00FF0#32, 0x0E100B00#32),
   (0x0FB00F50#32, 0x0E100A40#32),
   (0x0FF00FF0#32, 0x0E100B40#32),
   (0x0FB00F50#32, 0x0E200A00#32),
   (0x0FF00FF0#32, 0x0E200B00#32),
   (0x0FB00F50#32, 0x0E200A40#32),
   (0x0FF00FF0#32, 0x0E200B40#32),
   (0x0FB00F50#32, 0x0E300A00#32),
   (0x0FF00FF0#32, 0x0E300B00#32),
   (0x0FB00F50#32, 0x0E300A40#32),
   (0x0FF00FF0#32, 0x0E300B40#32),
   (0x0FB00F50#32, 0x0E800A00#32),
   (0x0FF00FF0#32, 0x0E800B00#32),
   (0x0FBF0FD0#32, 0x0EB00A40#32),
   (0x0FFF0FF0#32, 0x0EB00B40#32),
   (0x0FBF0FD0#32, 0x0EB00AC0#32),
   (0x0FFF0FF0#32, 0x0EB00BC0#32),
   (0x0FBF0FD0#32, 0x0EB10A40#32),
   (0x0FFF0FF0#32, 0x0EB10B40#32),
   (0x0FBF0FD0#32, 0x0EB10AC0#32),
   (0x0FFF0FF0#32, 0x0EB10BC0#32),
   (0x0FBF0FD0#32, 0x0EB40A40#32),
   (0x0FFF0FF0#32, 0x0EB40B40#32),
   (0x0FBF0FD0#32, 0x0EB40AC0#32),
   (0x0FFF0FF0#32, 0x0EB40BC0#32),
   (0x0FBF0FD0#32, 0x0EB50A40#32),
   (0x0FFF0FD0#32, 0x0EB50B40#32),
   (0x0FBF0FD0#32, 0x0EB50AC0#32),
   (0x0FFF0FD0#32, 0x0EB50BC0#32),
   (0x0FFF0FD0#32, 0x0EB70AC0#32),
   (0x0FBF0FF0#32, 0x0EB70BC0#32),
   (0x0FBF0FD0#32, 0x0EB80A40#32),
   (0x0FFF0FD0#32, 0x0EB80B40#32),
   (0x0FBF0FD0#32, 0x0EB80AC0#32),
   (0x0FFF0FD0#32, 0x0EB80BC0#32),
   (0x0FBF0FD0#32, 0x0EBC0A40#32),
   (0x0FBF0FF0#32, 0x0EBC0B40#32),
   (0x0FBF0FD0#32, 0x0EBC0AC0#32),
   (0x0FBF0FF0#32, 0x0EBC0BC0#32),
   (0x0FBF0FD0#32, 0x0EBD0A40#32),
   (0x0FBF0FF0#32, 0x0EBD0B40#32),
   (0x0FBF0FD0#32, 0x0EBD0AC0#32),
   (0x0FBF0FF0#32, 0x0EBD0BC0#32)]

/-- The VFP11 rows that are MCR instructions to the core (R867). -/
def vfpMcrRows : List (Word × Word) :=
  [(0x0FF00F10#32, 0x0E000A10#32),
   (0x0FF00F90#32, 0x0E000B10#32),
   (0x0FF00F90#32, 0x0E200B10#32),
   (0x0FF00F90#32, 0x0EE00A10#32)]

/-- The VFP11 rows that are MRC instructions to the core (R867). -/
def vfpMrcRows : List (Word × Word) :=
  [(0x0FFFFF90#32, 0x0EF1FA10#32),
   (0x0FF00F10#32, 0x0E100A10#32),
   (0x0FF00F90#32, 0x0E100B10#32),
   (0x0FF00F90#32, 0x0E300B10#32),
   (0x0FF00F90#32, 0x0EF00A10#32)]

/-- The VFP11 load and store rows (R866). -/
def vfpLsRows : List (Word × Word) :=
  [(0x0F300F00#32, 0x0D100A00#32),
   (0x0F700F00#32, 0x0D100B00#32),
   (0x0F300F00#32, 0x0D000A00#32),
   (0x0F700F00#32, 0x0D000B00#32),
   (0x0F900F00#32, 0x0C900A00#32),
   (0x0FB00F00#32, 0x0D300A00#32),
   (0x0FD00F01#32, 0x0C900B00#32),
   (0x0FF00F01#32, 0x0D300B00#32),
   (0x0FD00F01#32, 0x0C900B01#32),
   (0x0FF00F01#32, 0x0D300B01#32),
   (0x0F900F00#32, 0x0C800A00#32),
   (0x0FB00F00#32, 0x0D200A00#32),
   (0x0FD00F01#32, 0x0C800B00#32),
   (0x0FF00F01#32, 0x0D200B00#32),
   (0x0FD00F01#32, 0x0C800B01#32),
   (0x0FF00F01#32, 0x0D200B01#32)]

/-- The VFP11 two-register transfer rows (R867). -/
def vfpPairRows : List (Word × Word) :=
  [(0x0FF00FF0#32, 0x0C400B10#32),
   (0x0FF00FF0#32, 0x0C500B10#32),
   (0x0FF00FD0#32, 0x0C400A10#32),
   (0x0FF00FD0#32, 0x0C500A10#32)]

/-- A field moved to bit `lo` of a word, to compare it with a row. -/
def at' {n : Nat} (b : BitVec n) (lo : Nat) : Word := (b.setWidth 32) <<< lo

/-- A one-bit field moved to bit `lo` of a word, to compare it with a row. -/
def atB (b : Bool) (lo : Nat) : Word := at' (BitVec.ofBool b) lo

/-- No earlier row of the opcode table claims the encoding of the instruction. -/
def Instr.wf : Instr → Bool
  | .cps _ _ _ _ _ _ => true
  | .setend _ => true
  | .clrex => true
  | .pldImm _ _ _ => true
  | .pldReg _ _ _ _ _ => true
  | .srs _ _ _ _ => true
  | .rfe _ _ _ _ => true
  | .blxImm _ _ => true
  | .mcrr2 _ _ _ _ _ => true
  | .mrrc2 _ _ _ _ _ => true
  | .stc2Offset _ _ _ _ _ _ _ => true
  | .stc2Post _ _ _ _ _ _ => true
  | .stc2Unindexed _ _ _ _ _ => true
  | .ldc2Offset _ _ _ _ _ _ _ => true
  | .ldc2Post _ _ _ _ _ _ => true
  | .ldc2Unindexed _ _ _ _ _ => true
  | .cdp2 _ _ _ _ _ _ => true
  | .mcr2 _ _ _ _ _ _ => true
  | .mrc2 _ _ _ _ _ _ => true
  | .undefinedArm ignored => !(uncondRows.any (fits (at' ignored 0)))
  | .fmacs _ _ _ _ _ _ _ => true
  | .fmacd _ _ _ _ => true
  | .fnmacs _ _ _ _ _ _ _ => true
  | .fnmacd _ _ _ _ => true
  | .fmscs _ _ _ _ _ _ _ => true
  | .fmscd _ _ _ _ => true
  | .fnmscs _ _ _ _ _ _ _ => true
  | .fnmscd _ _ _ _ => true
  | .fmuls _ _ _ _ _ _ _ => true
  | .fmuld _ _ _ _ => true
  | .fnmuls _ _ _ _ _ _ _ => true
  | .fnmuld _ _ _ _ => true
  | .fadds _ _ _ _ _ _ _ => true
  | .faddd _ _ _ _ => true
  | .fsubs _ _ _ _ _ _ _ => true
  | .fsubd _ _ _ _ => true
  | .fdivs _ _ _ _ _ _ _ => true
  | .fdivd _ _ _ _ => true
  | .fcpys _ _ _ _ _ => true
  | .fcpyd _ _ _ => true
  | .fabss _ _ _ _ _ => true
  | .fabsd _ _ _ => true
  | .fnegs _ _ _ _ _ => true
  | .fnegd _ _ _ => true
  | .fsqrts _ _ _ _ _ => true
  | .fsqrtd _ _ _ => true
  | .fcmps _ _ _ _ _ => true
  | .fcmpd _ _ _ => true
  | .fcmpes _ _ _ _ _ => true
  | .fcmped _ _ _ => true
  | .fcmpzs _ _ _ => true
  | .fcmpzd _ _ => true
  | .fcmpezs _ _ _ => true
  | .fcmpezd _ _ => true
  | .fcvtds _ _ _ _ => true
  | .fcvtsd _ _ _ _ => true
  | .fuitos _ _ _ _ _ => true
  | .fuitod _ _ _ _ => true
  | .fsitos _ _ _ _ _ => true
  | .fsitod _ _ _ _ => true
  | .ftouis _ _ _ _ _ => true
  | .ftouid _ _ _ _ => true
  | .ftouizs _ _ _ _ _ => true
  | .ftouizd _ _ _ _ => true
  | .ftosis _ _ _ _ _ => true
  | .ftosid _ _ _ _ => true
  | .ftosizs _ _ _ _ _ => true
  | .ftosizd _ _ _ _ => true
  | .flds _ _ _ _ _ _ => true
  | .fldd _ _ _ _ _ => true
  | .fsts _ _ _ _ _ _ => true
  | .fstd _ _ _ _ _ => true
  | .fldmsIa _ _ _ _ _ _ => true
  | .fldmsDb _ _ _ _ _ => true
  | .fldmdIa _ _ _ _ _ => true
  | .fldmdDb _ _ _ _ => true
  | .fldmxIa _ _ _ _ _ => true
  | .fldmxDb _ _ _ _ => true
  | .fstmsIa _ _ _ _ _ _ => true
  | .fstmsDb _ _ _ _ _ => true
  | .fstmdIa _ _ _ _ _ => true
  | .fstmdDb _ _ _ _ => true
  | .fstmxIa _ _ _ _ _ => true
  | .fstmxDb _ _ _ _ => true
  | .fmstat _ => true
  | .fmsr _ _ _ _ => true
  | .fmrs _ _ _ _ => true
  | .fmdlr _ _ _ => true
  | .fmrdl _ _ _ => true
  | .fmdhr _ _ _ => true
  | .fmrdh _ _ _ => true
  | .fmxr _ _ _ => true
  | .fmrx _ sysReg rd => !(sysReg == 1 && rd == 15)
  | .fmdrr _ _ _ _ => true
  | .fmrrd _ _ _ _ => true
  | .fmsrr _ _ _ _ _ => true
  | .fmrrs _ _ _ _ _ => true
  | .mrs _ _ _ => true
  | .msrReg _ _ _ _ => true
  | .bx _ _ => true
  | .bxj _ _ => true
  | .blxReg _ _ => true
  | .clz _ _ _ => true
  | .qadd _ _ _ _ => true
  | .qsub _ _ _ _ => true
  | .qdadd _ _ _ _ => true
  | .qdsub _ _ _ _ => true
  | .bkpt _ => true
  | .smc _ _ => true
  | .smlaXY _ _ _ _ _ _ _ => true
  | .smlawY _ _ _ _ _ _ => true
  | .smulwY _ _ _ _ _ => true
  | .smlalXY _ _ _ _ _ _ _ => true
  | .smulXY _ _ _ _ _ _ => true
  | .mul _ _ _ _ _ => true
  | .mla _ _ _ _ _ _ => true
  | .umaal _ _ _ _ _ => true
  | .umull _ _ _ _ _ _ => true
  | .umlal _ _ _ _ _ _ => true
  | .smull _ _ _ _ _ _ => true
  | .smlal _ _ _ _ _ _ => true
  | .swp _ _ _ _ => true
  | .swpb _ _ _ _ => true
  | .strex _ _ _ _ => true
  | .ldrex _ _ _ => true
  | .strexd _ _ _ _ => true
  | .ldrexd _ _ _ => true
  | .strexb _ _ _ _ => true
  | .ldrexb _ _ _ => true
  | .strexh _ _ _ _ => true
  | .ldrexh _ _ _ => true
  | .strhImm _ _ _ _ _ _ _ _ => true
  | .strhReg _ _ _ _ _ _ _ => true
  | .ldrdImm _ _ _ _ _ _ _ _ => true
  | .ldrdReg _ _ _ _ _ _ _ => true
  | .strdImm _ _ _ _ _ _ _ _ => true
  | .strdReg _ _ _ _ _ _ _ => true
  | .ldrhImm _ _ _ _ _ _ _ _ => true
  | .ldrhReg _ _ _ _ _ _ _ => true
  | .ldrsbImm _ _ _ _ _ _ _ _ => true
  | .ldrsbReg _ _ _ _ _ _ _ => true
  | .ldrshImm _ _ _ _ _ _ _ _ => true
  | .ldrshReg _ _ _ _ _ _ _ => true
  | .nop _ => true
  | .yield _ => true
  | .nopReservedHint _ hint => !(hint == 0 || hint == 1)
  | .msrImm _ r fields rot _ => !(!r && fields == 0 && rot == 0)
  | .cpy _ _ _ => true
  | .andImm _ _ _ _ _ _ => true
  | .andShift _ _ _ _ _ _ _ => true
  | .andRegShift _ _ _ _ _ _ _ => true
  | .eorImm _ _ _ _ _ _ => true
  | .eorShift _ _ _ _ _ _ _ => true
  | .eorRegShift _ _ _ _ _ _ _ => true
  | .subImm _ _ _ _ _ _ => true
  | .subShift _ _ _ _ _ _ _ => true
  | .subRegShift _ _ _ _ _ _ _ => true
  | .rsbImm _ _ _ _ _ _ => true
  | .rsbShift _ _ _ _ _ _ _ => true
  | .rsbRegShift _ _ _ _ _ _ _ => true
  | .addImm _ _ _ _ _ _ => true
  | .addShift _ _ _ _ _ _ _ => true
  | .addRegShift _ _ _ _ _ _ _ => true
  | .adcImm _ _ _ _ _ _ => true
  | .adcShift _ _ _ _ _ _ _ => true
  | .adcRegShift _ _ _ _ _ _ _ => true
  | .sbcImm _ _ _ _ _ _ => true
  | .sbcShift _ _ _ _ _ _ _ => true
  | .sbcRegShift _ _ _ _ _ _ _ => true
  | .rscImm _ _ _ _ _ _ => true
  | .rscShift _ _ _ _ _ _ _ => true
  | .rscRegShift _ _ _ _ _ _ _ => true
  | .tstImm _ _ _ _ => true
  | .tstShift _ _ _ _ _ => true
  | .tstRegShift _ _ _ _ _ => true
  | .teqImm _ _ _ _ => true
  | .teqShift _ _ _ _ _ => true
  | .teqRegShift _ _ _ _ _ => true
  | .cmpImm _ _ _ _ => true
  | .cmpShift _ _ _ _ _ => true
  | .cmpRegShift _ _ _ _ _ => true
  | .cmnImm _ _ _ _ => true
  | .cmnShift _ _ _ _ _ => true
  | .cmnRegShift _ _ _ _ _ => true
  | .orrImm _ _ _ _ _ _ => true
  | .orrShift _ _ _ _ _ _ _ => true
  | .orrRegShift _ _ _ _ _ _ _ => true
  | .movImm _ _ _ _ _ => true
  | .movShift _ sf _ amount ty _ => !(!sf && amount == 0 && ty == .lsl)
  | .movRegShift _ _ _ _ _ _ => true
  | .bicImm _ _ _ _ _ _ => true
  | .bicShift _ _ _ _ _ _ _ => true
  | .bicRegShift _ _ _ _ _ _ _ => true
  | .mvnImm _ _ _ _ _ => true
  | .mvnShift _ _ _ _ _ _ => true
  | .mvnRegShift _ _ _ _ _ _ => true
  | .ldrtImm _ _ _ _ _ => true
  | .ldrtReg _ _ _ _ _ _ _ => true
  | .ldrbtImm _ _ _ _ _ => true
  | .ldrbtReg _ _ _ _ _ _ _ => true
  | .strtImm _ _ _ _ _ => true
  | .strtReg _ _ _ _ _ _ _ => true
  | .strbtImm _ _ _ _ _ => true
  | .strbtReg _ _ _ _ _ _ _ => true
  | .ldrImm _ p _ wb _ _ _ => !(!p && wb)
  | .ldrReg _ p _ wb _ _ _ _ _ => !(!p && wb)
  | .ldrbImm _ p _ wb _ _ _ => !(!p && wb)
  | .ldrbReg _ p _ wb _ _ _ _ _ => !(!p && wb)
  | .strImm _ p _ wb _ _ _ => !(!p && wb)
  | .strReg _ p _ wb _ _ _ _ _ => !(!p && wb)
  | .strbImm _ p _ wb _ _ _ => !(!p && wb)
  | .strbReg _ p _ wb _ _ _ _ _ => !(!p && wb)
  | .sadd16 _ _ _ _ => true
  | .qadd16 _ _ _ _ => true
  | .shadd16 _ _ _ _ => true
  | .uadd16 _ _ _ _ => true
  | .uqadd16 _ _ _ _ => true
  | .uhadd16 _ _ _ _ => true
  | .saddsubx _ _ _ _ => true
  | .qaddsubx _ _ _ _ => true
  | .shaddsubx _ _ _ _ => true
  | .uaddsubx _ _ _ _ => true
  | .uqaddsubx _ _ _ _ => true
  | .uhaddsubx _ _ _ _ => true
  | .ssubaddx _ _ _ _ => true
  | .qsubaddx _ _ _ _ => true
  | .shsubaddx _ _ _ _ => true
  | .usubaddx _ _ _ _ => true
  | .uqsubaddx _ _ _ _ => true
  | .uhsubaddx _ _ _ _ => true
  | .ssub16 _ _ _ _ => true
  | .qsub16 _ _ _ _ => true
  | .shsub16 _ _ _ _ => true
  | .usub16 _ _ _ _ => true
  | .uqsub16 _ _ _ _ => true
  | .uhsub16 _ _ _ _ => true
  | .sadd8 _ _ _ _ => true
  | .qadd8 _ _ _ _ => true
  | .shadd8 _ _ _ _ => true
  | .uadd8 _ _ _ _ => true
  | .uqadd8 _ _ _ _ => true
  | .uhadd8 _ _ _ _ => true
  | .ssub8 _ _ _ _ => true
  | .qsub8 _ _ _ _ => true
  | .shsub8 _ _ _ _ => true
  | .usub8 _ _ _ _ => true
  | .uqsub8 _ _ _ _ => true
  | .uhsub8 _ _ _ _ => true
  | .pkhbt _ _ _ _ _ => true
  | .pkhtb _ _ _ _ _ => true
  | .ssat16 _ _ _ _ => true
  | .usat16 _ _ _ _ => true
  | .ssat _ _ _ _ _ _ => true
  | .usat _ _ _ _ _ _ => true
  | .sel _ _ _ _ => true
  | .rev _ _ _ => true
  | .rev16 _ _ _ => true
  | .revsh _ _ _ => true
  | .sxtb16 _ _ _ _ => true
  | .sxtb _ _ _ _ => true
  | .sxth _ _ _ _ => true
  | .uxtb16 _ _ _ _ => true
  | .uxtb _ _ _ _ => true
  | .uxth _ _ _ _ => true
  | .sxtab16 _ rn _ _ _ => rn != 15
  | .sxtab _ rn _ _ _ => rn != 15
  | .sxtah _ rn _ _ _ => rn != 15
  | .uxtab16 _ rn _ _ _ => rn != 15
  | .uxtab _ rn _ _ _ => rn != 15
  | .uxtah _ rn _ _ _ => rn != 15
  | .smuad _ _ _ _ _ => true
  | .smusd _ _ _ _ _ => true
  | .smlad _ _ rn _ _ _ => rn != 15
  | .smlsd _ _ rn _ _ _ => rn != 15
  | .smlald _ _ _ _ _ _ => true
  | .smlsld _ _ _ _ _ _ => true
  | .smmul _ _ _ _ _ => true
  | .smmla _ _ rn _ _ _ => rn != 15
  | .smmls _ _ _ _ _ _ => true
  | .usad8 _ _ _ _ => true
  | .usada8 _ _ rn _ _ => rn != 15
  | .ldm1 _ _ _ _ _ _ => true
  | .ldm3 _ _ _ _ _ _ => true
  | .ldm2 _ _ _ _ _ => true
  | .stm1 _ _ _ _ _ _ => true
  | .stm2 _ _ _ _ _ => true
  | .b _ _ => true
  | .bl _ _ => true
  | .mcrr _ rn rd cp op crm => !(vfpPairRows.any (fits (0x0C400000#32 ||| at' rn 16 ||| at' rd 12 ||| at' cp 8 ||| at' op 4 ||| at' crm 0)))
  | .mrrc _ rn rd cp op crm => !(vfpPairRows.any (fits (0x0C500000#32 ||| at' rn 16 ||| at' rd 12 ||| at' cp 8 ||| at' op 4 ||| at' crm 0)))
  | .stcOffset _ u nBit wb rn crd cp imm => !(vfpLsRows.any (fits (0x0D000000#32 ||| atB u 23 ||| atB nBit 22 ||| atB wb 21 ||| at' rn 16 ||| at' crd 12 ||| at' cp 8 ||| at' imm 0)))
  | .stcPost _ u nBit rn crd cp imm => !(vfpLsRows.any (fits (0x0C200000#32 ||| atB u 23 ||| atB nBit 22 ||| at' rn 16 ||| at' crd 12 ||| at' cp 8 ||| at' imm 0)))
  | .stcUnindexed _ nBit rn crd cp opt => !(vfpLsRows.any (fits (0x0C800000#32 ||| atB nBit 22 ||| at' rn 16 ||| at' crd 12 ||| at' cp 8 ||| at' opt 0)))
  | .ldcOffset _ u nBit wb rn crd cp imm => !(vfpLsRows.any (fits (0x0D100000#32 ||| atB u 23 ||| atB nBit 22 ||| atB wb 21 ||| at' rn 16 ||| at' crd 12 ||| at' cp 8 ||| at' imm 0)))
  | .ldcPost _ u nBit rn crd cp imm => !(vfpLsRows.any (fits (0x0C300000#32 ||| atB u 23 ||| atB nBit 22 ||| at' rn 16 ||| at' crd 12 ||| at' cp 8 ||| at' imm 0)))
  | .ldcUnindexed _ nBit rn crd cp opt => !(vfpLsRows.any (fits (0x0C900000#32 ||| atB nBit 22 ||| at' rn 16 ||| at' crd 12 ||| at' cp 8 ||| at' opt 0)))
  | .cdp _ op1 crn crd cp op2 crm => !(vfpCdpRows.any (fits (0x0E000000#32 ||| at' op1 20 ||| at' crn 16 ||| at' crd 12 ||| at' cp 8 ||| at' op2 5 ||| at' crm 0)))
  | .mcr _ op1 crn rd cp op2 crm => !(vfpMcrRows.any (fits (0x0E000010#32 ||| at' op1 21 ||| at' crn 16 ||| at' rd 12 ||| at' cp 8 ||| at' op2 5 ||| at' crm 0)))
  | .mrc _ op1 crn rd cp op2 crm => !(vfpMrcRows.any (fits (0x0E100010#32 ||| at' op1 21 ||| at' crn 16 ||| at' rd 12 ||| at' cp 8 ||| at' op2 5 ||| at' crm 0)))
  | .svc _ _ => true
  | .tMov2 _ _ => true
  | .tLsl1 _ _ _ => true
  | .tLsr1 _ _ _ => true
  | .tAsr1 _ _ _ => true
  | .tAdd3 _ _ _ => true
  | .tSub3 _ _ _ => true
  | .tAdd1 imm _ _ => imm != 0
  | .tSub1 _ _ _ => true
  | .tMov1 _ _ => true
  | .tCmp1 _ _ => true
  | .tAdd2 _ _ => true
  | .tSub2 _ _ => true
  | .tAnd _ _ => true
  | .tEor _ _ => true
  | .tLsl2 _ _ => true
  | .tLsr2 _ _ => true
  | .tAsr2 _ _ => true
  | .tAdc _ _ => true
  | .tSbc _ _ => true
  | .tRor _ _ => true
  | .tTst _ _ => true
  | .tNeg _ _ => true
  | .tCmp2 _ _ => true
  | .tCmn _ _ => true
  | .tOrr _ _ => true
  | .tMul _ _ => true
  | .tBic _ _ => true
  | .tMvn _ _ => true
  | .tAdd4 _ _ _ _ => true
  | .tCmp3 _ _ _ _ => true
  | .tCpy _ _ => true
  | .tMov3 h1 h2 _ _ => (h1 || h2)
  | .tBx _ _ => true
  | .tBlx2 _ _ => true
  | .tLdr3 _ _ => true
  | .tStr2 _ _ _ => true
  | .tStrh2 _ _ _ => true
  | .tStrb2 _ _ _ => true
  | .tLdrsb _ _ _ => true
  | .tLdr2 _ _ _ => true
  | .tLdrh2 _ _ _ => true
  | .tLdrb2 _ _ _ => true
  | .tLdrsh _ _ _ => true
  | .tStr1 _ _ _ => true
  | .tLdr1 _ _ _ => true
  | .tStrb1 _ _ _ => true
  | .tLdrb1 _ _ _ => true
  | .tStrh1 _ _ _ => true
  | .tLdrh1 _ _ _ => true
  | .tStr3 _ _ => true
  | .tLdr4 _ _ => true
  | .tAdd5 _ _ => true
  | .tAdd6 _ _ => true
  | .tAdd7 _ => true
  | .tSub4 _ => true
  | .tSxth _ _ => true
  | .tSxtb _ _ => true
  | .tUxth _ _ => true
  | .tUxtb _ _ => true
  | .tPush _ _ => true
  | .tPop _ _ => true
  | .tSetend _ => true
  | .tCps _ _ _ _ => true
  | .tRev _ _ => true
  | .tRev16 _ _ => true
  | .tRevsh _ _ => true
  | .tBkpt _ => true
  | .tStmia _ _ => true
  | .tLdmia _ _ => true
  | .tSvc _ => true
  | .tUndefined _ => true
  | .tB1 c _ => c != .al
  | .tB2 _ => true
  | .tBlx1Suffix _ => true
  | .tBlBlxPrefix _ => true
  | .tBlSuffix _ => true

/-- An instruction that its row encodes. -/
abbrev Instr.WellFormed (i : Instr) : Prop := i.wf = true

end Sys2Proof
end

