-- ==== Sys2Proof/Decode.lean ====
section
/-! DEFINITION. Decode: from the bits of one instruction to the instruction, total on any bits, and back. The decoder goes
through the rows of spec/opcode_table.json in the table's order within each class of R826 (the first matching row wins,
R829), pulling the fields out as it goes; the encoder writes the row's fixed bits, its should-be bits and its fields. -/

namespace Sys2Proof

/-- The `len` bits of an instruction from bit `lo` up. -/
def field {n : Nat} (w : BitVec n) (lo len : Nat) : BitVec len := w.extractLsb' lo len

/-- The condition that a four-bit code names; none for 0b1111 (R823). -/
def Cond.ofBits (b : BitVec 4) : Option Cond :=
  match b.toNat with
  | 0 => some .eq | 1 => some .ne | 2 => some .hs | 3 => some .lo | 4 => some .mi | 5 => some .pl | 6 => some .vs
  | 7 => some .vc | 8 => some .hi | 9 => some .ls | 10 => some .ge | 11 => some .lt | 12 => some .gt | 13 => some .le
  | 14 => some .al | _ => none

/-- The four-bit code of a condition (R823). -/
def Cond.toBits : Cond → BitVec 4
  | .eq => 0 | .ne => 1 | .hs => 2 | .lo => 3 | .mi => 4 | .pl => 5 | .vs => 6 | .vc => 7
  | .hi => 8 | .ls => 9 | .ge => 10 | .lt => 11 | .gt => 12 | .le => 13 | .al => 14

/-- The shift type that a two-bit code names (R830). -/
def ShiftTy.ofBits (b : BitVec 2) : ShiftTy :=
  match b.toNat with
  | 0 => .lsl | 1 => .lsr | 2 => .asr | _ => .ror

/-- The two-bit code of a shift type (R830). -/
def ShiftTy.toBits : ShiftTy → BitVec 2
  | .lsl => 0 | .lsr => 1 | .asr => 2 | .ror => 3

/-- A row's instruction, marked when one of the row's should-be bits has the other value (R821 step 4, R845). -/
def sb {n : Nat} (w mask value : BitVec n) (i : Instr) : Decoded :=
  if w &&& mask = value then .instr i else .shouldBe i

/-- The unconditional space, bits [31:28] = 0b1111 (R842). Bit [16] of CPS should be 0, and with the other value the word,
SETEND apart, is refused (R845): so the rule, where the opcode table has the bit in its mask (DEDUCED, log 74). -/
noncomputable def decodeUncond (w : Word) : Decoded :=
  if w &&& 0xFFF10000#32 = 0xF1000000#32 then sb w 0x0000FE20#32 0x00000000#32 (.cps (field w 18 2) (w.getLsbD 17) (w.getLsbD 8) (w.getLsbD 7) (w.getLsbD 6) (field w 0 5)) else
  if w &&& 0xFFFF00F0#32 = 0xF1010000#32 then sb w 0x0000FD0F#32 0x00000000#32 (.setend (w.getLsbD 9)) else
  if w &&& 0xFFF10000#32 = 0xF1010000#32 then .shouldBe (.cps (field w 18 2) (w.getLsbD 17) (w.getLsbD 8) (w.getLsbD 7) (w.getLsbD 6) (field w 0 5)) else
  if w &&& 0xFFF000F0#32 = 0xF5700010#32 then sb w 0x000FFF0F#32 0x000FF00F#32 .clrex else
  if w &&& 0xFF70F000#32 = 0xF550F000#32 then .instr (.pldImm (w.getLsbD 23) (field w 16 4) (field w 0 12)) else
  if w &&& 0xFF70F010#32 = 0xF750F000#32 then .instr (.pldReg (w.getLsbD 23) (field w 16 4) (field w 7 5) (ShiftTy.ofBits (field w 5 2)) (field w 0 4)) else
  if w &&& 0xFE5F0F00#32 = 0xF84D0500#32 then sb w 0x0000F0E0#32 0x00000000#32 (.srs (w.getLsbD 24) (w.getLsbD 23) (w.getLsbD 21) (field w 0 5)) else
  if w &&& 0xFE500F00#32 = 0xF8100A00#32 then sb w 0x0000F0FF#32 0x00000000#32 (.rfe (w.getLsbD 24) (w.getLsbD 23) (w.getLsbD 21) (field w 16 4)) else
  if w &&& 0xFE000000#32 = 0xFA000000#32 then .instr (.blxImm (w.getLsbD 24) (field w 0 24)) else
  if w &&& 0xFFF00000#32 = 0xFC400000#32 then .instr (.mcrr2 (field w 16 4) (field w 12 4) (field w 8 4) (field w 4 4) (field w 0 4)) else
  if w &&& 0xFFF00000#32 = 0xFC500000#32 then .instr (.mrrc2 (field w 16 4) (field w 12 4) (field w 8 4) (field w 4 4) (field w 0 4)) else
  if w &&& 0xFF100000#32 = 0xFD000000#32 then .instr (.stc2Offset (w.getLsbD 23) (w.getLsbD 22) (w.getLsbD 21) (field w 16 4) (field w 12 4) (field w 8 4) (field w 0 8)) else
  if w &&& 0xFF300000#32 = 0xFC200000#32 then .instr (.stc2Post (w.getLsbD 23) (w.getLsbD 22) (field w 16 4) (field w 12 4) (field w 8 4) (field w 0 8)) else
  if w &&& 0xFFB00000#32 = 0xFC800000#32 then .instr (.stc2Unindexed (w.getLsbD 22) (field w 16 4) (field w 12 4) (field w 8 4) (field w 0 8)) else
  if w &&& 0xFF100000#32 = 0xFD100000#32 then .instr (.ldc2Offset (w.getLsbD 23) (w.getLsbD 22) (w.getLsbD 21) (field w 16 4) (field w 12 4) (field w 8 4) (field w 0 8)) else
  if w &&& 0xFF300000#32 = 0xFC300000#32 then .instr (.ldc2Post (w.getLsbD 23) (w.getLsbD 22) (field w 16 4) (field w 12 4) (field w 8 4) (field w 0 8)) else
  if w &&& 0xFFB00000#32 = 0xFC900000#32 then .instr (.ldc2Unindexed (w.getLsbD 22) (field w 16 4) (field w 12 4) (field w 8 4) (field w 0 8)) else
  if w &&& 0xFF000010#32 = 0xFE000000#32 then .instr (.cdp2 (field w 20 4) (field w 16 4) (field w 12 4) (field w 8 4) (field w 5 3) (field w 0 4)) else
  if w &&& 0xFF100010#32 = 0xFE000010#32 then .instr (.mcr2 (field w 21 3) (field w 16 4) (field w 12 4) (field w 8 4) (field w 5 3) (field w 0 4)) else
  if w &&& 0xFF100010#32 = 0xFE100010#32 then .instr (.mrc2 (field w 21 3) (field w 16 4) (field w 12 4) (field w 8 4) (field w 5 3) (field w 0 4)) else
  .instr (.undefinedArm (field w 0 28))

/-- Data-processing with a register operand, miscellaneous, multiplies, swap and exclusives, extra loads and stores (R826). -/
noncomputable def decodeClass000 (c : Cond) (w : Word) : Decoded :=
  if w &&& 0x0FB000F0#32 = 0x01000000#32 then sb w 0x000F0F0F#32 0x000F0000#32 (.mrs c (w.getLsbD 22) (field w 12 4)) else
  if w &&& 0x0FB000F0#32 = 0x01200000#32 then sb w 0x0000FF00#32 0x0000F000#32 (.msrReg c (w.getLsbD 22) (field w 16 4) (field w 0 4)) else
  if w &&& 0x0FF000F0#32 = 0x01200010#32 then sb w 0x000FFF00#32 0x000FFF00#32 (.bx c (field w 0 4)) else
  if w &&& 0x0FF000F0#32 = 0x01200020#32 then sb w 0x000FFF00#32 0x000FFF00#32 (.bxj c (field w 0 4)) else
  if w &&& 0x0FF000F0#32 = 0x01200030#32 then sb w 0x000FFF00#32 0x000FFF00#32 (.blxReg c (field w 0 4)) else
  if w &&& 0x0FF000F0#32 = 0x01600010#32 then sb w 0x000F0F00#32 0x000F0F00#32 (.clz c (field w 12 4) (field w 0 4)) else
  if w &&& 0x0FF000F0#32 = 0x01000050#32 then sb w 0x00000F00#32 0x00000000#32 (.qadd c (field w 16 4) (field w 12 4) (field w 0 4)) else
  if w &&& 0x0FF000F0#32 = 0x01200050#32 then sb w 0x00000F00#32 0x00000000#32 (.qsub c (field w 16 4) (field w 12 4) (field w 0 4)) else
  if w &&& 0x0FF000F0#32 = 0x01400050#32 then sb w 0x00000F00#32 0x00000000#32 (.qdadd c (field w 16 4) (field w 12 4) (field w 0 4)) else
  if w &&& 0x0FF000F0#32 = 0x01600050#32 then sb w 0x00000F00#32 0x00000000#32 (.qdsub c (field w 16 4) (field w 12 4) (field w 0 4)) else
  if w &&& 0xFFF000F0#32 = 0xE1200070#32 then .instr (.bkpt (field w 8 12 ++ field w 0 4)) else
  if w &&& 0x0FF000F0#32 = 0x01600070#32 then .instr (.smc c (field w 8 12 ++ field w 0 4)) else
  if w &&& 0x0FF00090#32 = 0x01000080#32 then .instr (.smlaXY c (field w 16 4) (field w 12 4) (field w 8 4) (w.getLsbD 6) (w.getLsbD 5) (field w 0 4)) else
  if w &&& 0x0FF000B0#32 = 0x01200080#32 then .instr (.smlawY c (field w 16 4) (field w 12 4) (field w 8 4) (w.getLsbD 6) (field w 0 4)) else
  if w &&& 0x0FF000B0#32 = 0x012000A0#32 then sb w 0x0000F000#32 0x00000000#32 (.smulwY c (field w 16 4) (field w 8 4) (w.getLsbD 6) (field w 0 4)) else
  if w &&& 0x0FF00090#32 = 0x01400080#32 then .instr (.smlalXY c (field w 16 4) (field w 12 4) (field w 8 4) (w.getLsbD 6) (w.getLsbD 5) (field w 0 4)) else
  if w &&& 0x0FF00090#32 = 0x01600080#32 then sb w 0x0000F000#32 0x00000000#32 (.smulXY c (field w 16 4) (field w 8 4) (w.getLsbD 6) (w.getLsbD 5) (field w 0 4)) else
  if w &&& 0x0FE000F0#32 = 0x00000090#32 then sb w 0x0000F000#32 0x00000000#32 (.mul c (w.getLsbD 20) (field w 16 4) (field w 8 4) (field w 0 4)) else
  if w &&& 0x0FE000F0#32 = 0x00200090#32 then .instr (.mla c (w.getLsbD 20) (field w 16 4) (field w 12 4) (field w 8 4) (field w 0 4)) else
  if w &&& 0x0FF000F0#32 = 0x00400090#32 then .instr (.umaal c (field w 16 4) (field w 12 4) (field w 8 4) (field w 0 4)) else
  if w &&& 0x0FE000F0#32 = 0x00800090#32 then .instr (.umull c (w.getLsbD 20) (field w 16 4) (field w 12 4) (field w 8 4) (field w 0 4)) else
  if w &&& 0x0FE000F0#32 = 0x00A00090#32 then .instr (.umlal c (w.getLsbD 20) (field w 16 4) (field w 12 4) (field w 8 4) (field w 0 4)) else
  if w &&& 0x0FE000F0#32 = 0x00C00090#32 then .instr (.smull c (w.getLsbD 20) (field w 16 4) (field w 12 4) (field w 8 4) (field w 0 4)) else
  if w &&& 0x0FE000F0#32 = 0x00E00090#32 then .instr (.smlal c (w.getLsbD 20) (field w 16 4) (field w 12 4) (field w 8 4) (field w 0 4)) else
  if w &&& 0x0FF000F0#32 = 0x01000090#32 then sb w 0x00000F00#32 0x00000000#32 (.swp c (field w 16 4) (field w 12 4) (field w 0 4)) else
  if w &&& 0x0FF000F0#32 = 0x01400090#32 then sb w 0x00000F00#32 0x00000000#32 (.swpb c (field w 16 4) (field w 12 4) (field w 0 4)) else
  if w &&& 0x0FF000F0#32 = 0x01800090#32 then sb w 0x00000F00#32 0x00000F00#32 (.strex c (field w 16 4) (field w 12 4) (field w 0 4)) else
  if w &&& 0x0FF000F0#32 = 0x01900090#32 then sb w 0x00000F0F#32 0x00000F0F#32 (.ldrex c (field w 16 4) (field w 12 4)) else
  if w &&& 0x0FF000F0#32 = 0x01A00090#32 then sb w 0x00000F00#32 0x00000F00#32 (.strexd c (field w 16 4) (field w 12 4) (field w 0 4)) else
  if w &&& 0x0FF000F0#32 = 0x01B00090#32 then sb w 0x00000F0F#32 0x00000F0F#32 (.ldrexd c (field w 16 4) (field w 12 4)) else
  if w &&& 0x0FF000F0#32 = 0x01C00090#32 then sb w 0x00000F00#32 0x00000F00#32 (.strexb c (field w 16 4) (field w 12 4) (field w 0 4)) else
  if w &&& 0x0FF000F0#32 = 0x01D00090#32 then sb w 0x00000F0F#32 0x00000F0F#32 (.ldrexb c (field w 16 4) (field w 12 4)) else
  if w &&& 0x0FF000F0#32 = 0x01E00090#32 then sb w 0x00000F00#32 0x00000F00#32 (.strexh c (field w 16 4) (field w 12 4) (field w 0 4)) else
  if w &&& 0x0FF000F0#32 = 0x01F00090#32 then sb w 0x00000F0F#32 0x00000F0F#32 (.ldrexh c (field w 16 4) (field w 12 4)) else
  if w &&& 0x0E5000F0#32 = 0x004000B0#32 then .instr (.strhImm c (w.getLsbD 24) (w.getLsbD 23) (w.getLsbD 21) (field w 16 4) (field w 12 4) (field w 8 4) (field w 0 4)) else
  if w &&& 0x0E5000F0#32 = 0x000000B0#32 then sb w 0x00000F00#32 0x00000000#32 (.strhReg c (w.getLsbD 24) (w.getLsbD 23) (w.getLsbD 21) (field w 16 4) (field w 12 4) (field w 0 4)) else
  if w &&& 0x0E5000F0#32 = 0x004000D0#32 then .instr (.ldrdImm c (w.getLsbD 24) (w.getLsbD 23) (w.getLsbD 21) (field w 16 4) (field w 12 4) (field w 8 4) (field w 0 4)) else
  if w &&& 0x0E5000F0#32 = 0x000000D0#32 then sb w 0x00000F00#32 0x00000000#32 (.ldrdReg c (w.getLsbD 24) (w.getLsbD 23) (w.getLsbD 21) (field w 16 4) (field w 12 4) (field w 0 4)) else
  if w &&& 0x0E5000F0#32 = 0x004000F0#32 then .instr (.strdImm c (w.getLsbD 24) (w.getLsbD 23) (w.getLsbD 21) (field w 16 4) (field w 12 4) (field w 8 4) (field w 0 4)) else
  if w &&& 0x0E5000F0#32 = 0x000000F0#32 then sb w 0x00000F00#32 0x00000000#32 (.strdReg c (w.getLsbD 24) (w.getLsbD 23) (w.getLsbD 21) (field w 16 4) (field w 12 4) (field w 0 4)) else
  if w &&& 0x0E5000F0#32 = 0x005000B0#32 then .instr (.ldrhImm c (w.getLsbD 24) (w.getLsbD 23) (w.getLsbD 21) (field w 16 4) (field w 12 4) (field w 8 4) (field w 0 4)) else
  if w &&& 0x0E5000F0#32 = 0x001000B0#32 then sb w 0x00000F00#32 0x00000000#32 (.ldrhReg c (w.getLsbD 24) (w.getLsbD 23) (w.getLsbD 21) (field w 16 4) (field w 12 4) (field w 0 4)) else
  if w &&& 0x0E5000F0#32 = 0x005000D0#32 then .instr (.ldrsbImm c (w.getLsbD 24) (w.getLsbD 23) (w.getLsbD 21) (field w 16 4) (field w 12 4) (field w 8 4) (field w 0 4)) else
  if w &&& 0x0E5000F0#32 = 0x001000D0#32 then sb w 0x00000F00#32 0x00000000#32 (.ldrsbReg c (w.getLsbD 24) (w.getLsbD 23) (w.getLsbD 21) (field w 16 4) (field w 12 4) (field w 0 4)) else
  if w &&& 0x0E5000F0#32 = 0x005000F0#32 then .instr (.ldrshImm c (w.getLsbD 24) (w.getLsbD 23) (w.getLsbD 21) (field w 16 4) (field w 12 4) (field w 8 4) (field w 0 4)) else
  if w &&& 0x0E5000F0#32 = 0x001000F0#32 then sb w 0x00000F00#32 0x00000000#32 (.ldrshReg c (w.getLsbD 24) (w.getLsbD 23) (w.getLsbD 21) (field w 16 4) (field w 12 4) (field w 0 4)) else
  if w &&& 0x0FF00FF0#32 = 0x01A00000#32 then sb w 0x000F0000#32 0x00000000#32 (.cpy c (field w 12 4) (field w 0 4)) else
  if w &&& 0x0FE00010#32 = 0x00000000#32 then .instr (.andShift c (w.getLsbD 20) (field w 16 4) (field w 12 4) (field w 7 5) (ShiftTy.ofBits (field w 5 2)) (field w 0 4)) else
  if w &&& 0x0FE00090#32 = 0x00000010#32 then .instr (.andRegShift c (w.getLsbD 20) (field w 16 4) (field w 12 4) (field w 8 4) (ShiftTy.ofBits (field w 5 2)) (field w 0 4)) else
  if w &&& 0x0FE00010#32 = 0x00200000#32 then .instr (.eorShift c (w.getLsbD 20) (field w 16 4) (field w 12 4) (field w 7 5) (ShiftTy.ofBits (field w 5 2)) (field w 0 4)) else
  if w &&& 0x0FE00090#32 = 0x00200010#32 then .instr (.eorRegShift c (w.getLsbD 20) (field w 16 4) (field w 12 4) (field w 8 4) (ShiftTy.ofBits (field w 5 2)) (field w 0 4)) else
  if w &&& 0x0FE00010#32 = 0x00400000#32 then .instr (.subShift c (w.getLsbD 20) (field w 16 4) (field w 12 4) (field w 7 5) (ShiftTy.ofBits (field w 5 2)) (field w 0 4)) else
  if w &&& 0x0FE00090#32 = 0x00400010#32 then .instr (.subRegShift c (w.getLsbD 20) (field w 16 4) (field w 12 4) (field w 8 4) (ShiftTy.ofBits (field w 5 2)) (field w 0 4)) else
  if w &&& 0x0FE00010#32 = 0x00600000#32 then .instr (.rsbShift c (w.getLsbD 20) (field w 16 4) (field w 12 4) (field w 7 5) (ShiftTy.ofBits (field w 5 2)) (field w 0 4)) else
  if w &&& 0x0FE00090#32 = 0x00600010#32 then .instr (.rsbRegShift c (w.getLsbD 20) (field w 16 4) (field w 12 4) (field w 8 4) (ShiftTy.ofBits (field w 5 2)) (field w 0 4)) else
  if w &&& 0x0FE00010#32 = 0x00800000#32 then .instr (.addShift c (w.getLsbD 20) (field w 16 4) (field w 12 4) (field w 7 5) (ShiftTy.ofBits (field w 5 2)) (field w 0 4)) else
  if w &&& 0x0FE00090#32 = 0x00800010#32 then .instr (.addRegShift c (w.getLsbD 20) (field w 16 4) (field w 12 4) (field w 8 4) (ShiftTy.ofBits (field w 5 2)) (field w 0 4)) else
  if w &&& 0x0FE00010#32 = 0x00A00000#32 then .instr (.adcShift c (w.getLsbD 20) (field w 16 4) (field w 12 4) (field w 7 5) (ShiftTy.ofBits (field w 5 2)) (field w 0 4)) else
  if w &&& 0x0FE00090#32 = 0x00A00010#32 then .instr (.adcRegShift c (w.getLsbD 20) (field w 16 4) (field w 12 4) (field w 8 4) (ShiftTy.ofBits (field w 5 2)) (field w 0 4)) else
  if w &&& 0x0FE00010#32 = 0x00C00000#32 then .instr (.sbcShift c (w.getLsbD 20) (field w 16 4) (field w 12 4) (field w 7 5) (ShiftTy.ofBits (field w 5 2)) (field w 0 4)) else
  if w &&& 0x0FE00090#32 = 0x00C00010#32 then .instr (.sbcRegShift c (w.getLsbD 20) (field w 16 4) (field w 12 4) (field w 8 4) (ShiftTy.ofBits (field w 5 2)) (field w 0 4)) else
  if w &&& 0x0FE00010#32 = 0x00E00000#32 then .instr (.rscShift c (w.getLsbD 20) (field w 16 4) (field w 12 4) (field w 7 5) (ShiftTy.ofBits (field w 5 2)) (field w 0 4)) else
  if w &&& 0x0FE00090#32 = 0x00E00010#32 then .instr (.rscRegShift c (w.getLsbD 20) (field w 16 4) (field w 12 4) (field w 8 4) (ShiftTy.ofBits (field w 5 2)) (field w 0 4)) else
  if w &&& 0x0FF00010#32 = 0x01100000#32 then sb w 0x0000F000#32 0x00000000#32 (.tstShift c (field w 16 4) (field w 7 5) (ShiftTy.ofBits (field w 5 2)) (field w 0 4)) else
  if w &&& 0x0FF00090#32 = 0x01100010#32 then sb w 0x0000F000#32 0x00000000#32 (.tstRegShift c (field w 16 4) (field w 8 4) (ShiftTy.ofBits (field w 5 2)) (field w 0 4)) else
  if w &&& 0x0FF00010#32 = 0x01300000#32 then sb w 0x0000F000#32 0x00000000#32 (.teqShift c (field w 16 4) (field w 7 5) (ShiftTy.ofBits (field w 5 2)) (field w 0 4)) else
  if w &&& 0x0FF00090#32 = 0x01300010#32 then sb w 0x0000F000#32 0x00000000#32 (.teqRegShift c (field w 16 4) (field w 8 4) (ShiftTy.ofBits (field w 5 2)) (field w 0 4)) else
  if w &&& 0x0FF00010#32 = 0x01500000#32 then sb w 0x0000F000#32 0x00000000#32 (.cmpShift c (field w 16 4) (field w 7 5) (ShiftTy.ofBits (field w 5 2)) (field w 0 4)) else
  if w &&& 0x0FF00090#32 = 0x01500010#32 then sb w 0x0000F000#32 0x00000000#32 (.cmpRegShift c (field w 16 4) (field w 8 4) (ShiftTy.ofBits (field w 5 2)) (field w 0 4)) else
  if w &&& 0x0FF00010#32 = 0x01700000#32 then sb w 0x0000F000#32 0x00000000#32 (.cmnShift c (field w 16 4) (field w 7 5) (ShiftTy.ofBits (field w 5 2)) (field w 0 4)) else
  if w &&& 0x0FF00090#32 = 0x01700010#32 then sb w 0x0000F000#32 0x00000000#32 (.cmnRegShift c (field w 16 4) (field w 8 4) (ShiftTy.ofBits (field w 5 2)) (field w 0 4)) else
  if w &&& 0x0FE00010#32 = 0x01800000#32 then .instr (.orrShift c (w.getLsbD 20) (field w 16 4) (field w 12 4) (field w 7 5) (ShiftTy.ofBits (field w 5 2)) (field w 0 4)) else
  if w &&& 0x0FE00090#32 = 0x01800010#32 then .instr (.orrRegShift c (w.getLsbD 20) (field w 16 4) (field w 12 4) (field w 8 4) (ShiftTy.ofBits (field w 5 2)) (field w 0 4)) else
  if w &&& 0x0FE00010#32 = 0x01A00000#32 then sb w 0x000F0000#32 0x00000000#32 (.movShift c (w.getLsbD 20) (field w 12 4) (field w 7 5) (ShiftTy.ofBits (field w 5 2)) (field w 0 4)) else
  if w &&& 0x0FE00090#32 = 0x01A00010#32 then sb w 0x000F0000#32 0x00000000#32 (.movRegShift c (w.getLsbD 20) (field w 12 4) (field w 8 4) (ShiftTy.ofBits (field w 5 2)) (field w 0 4)) else
  if w &&& 0x0FE00010#32 = 0x01C00000#32 then .instr (.bicShift c (w.getLsbD 20) (field w 16 4) (field w 12 4) (field w 7 5) (ShiftTy.ofBits (field w 5 2)) (field w 0 4)) else
  if w &&& 0x0FE00090#32 = 0x01C00010#32 then .instr (.bicRegShift c (w.getLsbD 20) (field w 16 4) (field w 12 4) (field w 8 4) (ShiftTy.ofBits (field w 5 2)) (field w 0 4)) else
  if w &&& 0x0FE00010#32 = 0x01E00000#32 then sb w 0x000F0000#32 0x00000000#32 (.mvnShift c (w.getLsbD 20) (field w 12 4) (field w 7 5) (ShiftTy.ofBits (field w 5 2)) (field w 0 4)) else
  if w &&& 0x0FE00090#32 = 0x01E00010#32 then sb w 0x000F0000#32 0x00000000#32 (.mvnRegShift c (w.getLsbD 20) (field w 12 4) (field w 8 4) (ShiftTy.ofBits (field w 5 2)) (field w 0 4)) else
  if w &&& 0x0FF000F0#32 = 0x01200070#32 then .bkptCond else
  .unallocated c

/-- Data-processing with an immediate operand, MSR immediate, hints (R826). -/
noncomputable def decodeClass001 (c : Cond) (w : Word) : Decoded :=
  if w &&& 0x0FFF0FFF#32 = 0x03200000#32 then sb w 0x0000F000#32 0x0000F000#32 (.nop c) else
  if w &&& 0x0FFF0FFF#32 = 0x03200001#32 then sb w 0x0000F000#32 0x0000F000#32 (.yield c) else
  if w &&& 0x0FFF0F00#32 = 0x03200000#32 then sb w 0x0000F000#32 0x0000F000#32 (.nopReservedHint c (field w 0 8)) else
  if w &&& 0x0FB00000#32 = 0x03200000#32 then sb w 0x0000F000#32 0x0000F000#32 (.msrImm c (w.getLsbD 22) (field w 16 4) (field w 8 4) (field w 0 8)) else
  if w &&& 0x0FE00000#32 = 0x02000000#32 then .instr (.andImm c (w.getLsbD 20) (field w 16 4) (field w 12 4) (field w 8 4) (field w 0 8)) else
  if w &&& 0x0FE00000#32 = 0x02200000#32 then .instr (.eorImm c (w.getLsbD 20) (field w 16 4) (field w 12 4) (field w 8 4) (field w 0 8)) else
  if w &&& 0x0FE00000#32 = 0x02400000#32 then .instr (.subImm c (w.getLsbD 20) (field w 16 4) (field w 12 4) (field w 8 4) (field w 0 8)) else
  if w &&& 0x0FE00000#32 = 0x02600000#32 then .instr (.rsbImm c (w.getLsbD 20) (field w 16 4) (field w 12 4) (field w 8 4) (field w 0 8)) else
  if w &&& 0x0FE00000#32 = 0x02800000#32 then .instr (.addImm c (w.getLsbD 20) (field w 16 4) (field w 12 4) (field w 8 4) (field w 0 8)) else
  if w &&& 0x0FE00000#32 = 0x02A00000#32 then .instr (.adcImm c (w.getLsbD 20) (field w 16 4) (field w 12 4) (field w 8 4) (field w 0 8)) else
  if w &&& 0x0FE00000#32 = 0x02C00000#32 then .instr (.sbcImm c (w.getLsbD 20) (field w 16 4) (field w 12 4) (field w 8 4) (field w 0 8)) else
  if w &&& 0x0FE00000#32 = 0x02E00000#32 then .instr (.rscImm c (w.getLsbD 20) (field w 16 4) (field w 12 4) (field w 8 4) (field w 0 8)) else
  if w &&& 0x0FF00000#32 = 0x03100000#32 then sb w 0x0000F000#32 0x00000000#32 (.tstImm c (field w 16 4) (field w 8 4) (field w 0 8)) else
  if w &&& 0x0FF00000#32 = 0x03300000#32 then sb w 0x0000F000#32 0x00000000#32 (.teqImm c (field w 16 4) (field w 8 4) (field w 0 8)) else
  if w &&& 0x0FF00000#32 = 0x03500000#32 then sb w 0x0000F000#32 0x00000000#32 (.cmpImm c (field w 16 4) (field w 8 4) (field w 0 8)) else
  if w &&& 0x0FF00000#32 = 0x03700000#32 then sb w 0x0000F000#32 0x00000000#32 (.cmnImm c (field w 16 4) (field w 8 4) (field w 0 8)) else
  if w &&& 0x0FE00000#32 = 0x03800000#32 then .instr (.orrImm c (w.getLsbD 20) (field w 16 4) (field w 12 4) (field w 8 4) (field w 0 8)) else
  if w &&& 0x0FE00000#32 = 0x03A00000#32 then sb w 0x000F0000#32 0x00000000#32 (.movImm c (w.getLsbD 20) (field w 12 4) (field w 8 4) (field w 0 8)) else
  if w &&& 0x0FE00000#32 = 0x03C00000#32 then .instr (.bicImm c (w.getLsbD 20) (field w 16 4) (field w 12 4) (field w 8 4) (field w 0 8)) else
  if w &&& 0x0FE00000#32 = 0x03E00000#32 then sb w 0x000F0000#32 0x00000000#32 (.mvnImm c (w.getLsbD 20) (field w 12 4) (field w 8 4) (field w 0 8)) else
  .unallocated c

/-- Load/store word or byte, immediate offset (R837). -/
noncomputable def decodeClass010 (c : Cond) (w : Word) : Decoded :=
  if w &&& 0x0F700000#32 = 0x04300000#32 then .instr (.ldrtImm c (w.getLsbD 23) (field w 16 4) (field w 12 4) (field w 0 12)) else
  if w &&& 0x0F700000#32 = 0x04700000#32 then .instr (.ldrbtImm c (w.getLsbD 23) (field w 16 4) (field w 12 4) (field w 0 12)) else
  if w &&& 0x0F700000#32 = 0x04200000#32 then .instr (.strtImm c (w.getLsbD 23) (field w 16 4) (field w 12 4) (field w 0 12)) else
  if w &&& 0x0F700000#32 = 0x04600000#32 then .instr (.strbtImm c (w.getLsbD 23) (field w 16 4) (field w 12 4) (field w 0 12)) else
  if w &&& 0x0E500000#32 = 0x04100000#32 then .instr (.ldrImm c (w.getLsbD 24) (w.getLsbD 23) (w.getLsbD 21) (field w 16 4) (field w 12 4) (field w 0 12)) else
  if w &&& 0x0E500000#32 = 0x04500000#32 then .instr (.ldrbImm c (w.getLsbD 24) (w.getLsbD 23) (w.getLsbD 21) (field w 16 4) (field w 12 4) (field w 0 12)) else
  if w &&& 0x0E500000#32 = 0x04000000#32 then .instr (.strImm c (w.getLsbD 24) (w.getLsbD 23) (w.getLsbD 21) (field w 16 4) (field w 12 4) (field w 0 12)) else
  if w &&& 0x0E500000#32 = 0x04400000#32 then .instr (.strbImm c (w.getLsbD 24) (w.getLsbD 23) (w.getLsbD 21) (field w 16 4) (field w 12 4) (field w 0 12)) else
  .unallocated c

/-- Load/store word or byte, register offset, and media instructions (R837, R838). -/
noncomputable def decodeClass011 (c : Cond) (w : Word) : Decoded :=
  if w &&& 0x0F700010#32 = 0x06300000#32 then .instr (.ldrtReg c (w.getLsbD 23) (field w 16 4) (field w 12 4) (field w 7 5) (ShiftTy.ofBits (field w 5 2)) (field w 0 4)) else
  if w &&& 0x0F700010#32 = 0x06700000#32 then .instr (.ldrbtReg c (w.getLsbD 23) (field w 16 4) (field w 12 4) (field w 7 5) (ShiftTy.ofBits (field w 5 2)) (field w 0 4)) else
  if w &&& 0x0F700010#32 = 0x06200000#32 then .instr (.strtReg c (w.getLsbD 23) (field w 16 4) (field w 12 4) (field w 7 5) (ShiftTy.ofBits (field w 5 2)) (field w 0 4)) else
  if w &&& 0x0F700010#32 = 0x06600000#32 then .instr (.strbtReg c (w.getLsbD 23) (field w 16 4) (field w 12 4) (field w 7 5) (ShiftTy.ofBits (field w 5 2)) (field w 0 4)) else
  if w &&& 0x0E500010#32 = 0x06100000#32 then .instr (.ldrReg c (w.getLsbD 24) (w.getLsbD 23) (w.getLsbD 21) (field w 16 4) (field w 12 4) (field w 7 5) (ShiftTy.ofBits (field w 5 2)) (field w 0 4)) else
  if w &&& 0x0E500010#32 = 0x06500000#32 then .instr (.ldrbReg c (w.getLsbD 24) (w.getLsbD 23) (w.getLsbD 21) (field w 16 4) (field w 12 4) (field w 7 5) (ShiftTy.ofBits (field w 5 2)) (field w 0 4)) else
  if w &&& 0x0E500010#32 = 0x06000000#32 then .instr (.strReg c (w.getLsbD 24) (w.getLsbD 23) (w.getLsbD 21) (field w 16 4) (field w 12 4) (field w 7 5) (ShiftTy.ofBits (field w 5 2)) (field w 0 4)) else
  if w &&& 0x0E500010#32 = 0x06400000#32 then .instr (.strbReg c (w.getLsbD 24) (w.getLsbD 23) (w.getLsbD 21) (field w 16 4) (field w 12 4) (field w 7 5) (ShiftTy.ofBits (field w 5 2)) (field w 0 4)) else
  if w &&& 0x0FF000F0#32 = 0x06100010#32 then sb w 0x00000F00#32 0x00000F00#32 (.sadd16 c (field w 16 4) (field w 12 4) (field w 0 4)) else
  if w &&& 0x0FF000F0#32 = 0x06200010#32 then sb w 0x00000F00#32 0x00000F00#32 (.qadd16 c (field w 16 4) (field w 12 4) (field w 0 4)) else
  if w &&& 0x0FF000F0#32 = 0x06300010#32 then sb w 0x00000F00#32 0x00000F00#32 (.shadd16 c (field w 16 4) (field w 12 4) (field w 0 4)) else
  if w &&& 0x0FF000F0#32 = 0x06500010#32 then sb w 0x00000F00#32 0x00000F00#32 (.uadd16 c (field w 16 4) (field w 12 4) (field w 0 4)) else
  if w &&& 0x0FF000F0#32 = 0x06600010#32 then sb w 0x00000F00#32 0x00000F00#32 (.uqadd16 c (field w 16 4) (field w 12 4) (field w 0 4)) else
  if w &&& 0x0FF000F0#32 = 0x06700010#32 then sb w 0x00000F00#32 0x00000F00#32 (.uhadd16 c (field w 16 4) (field w 12 4) (field w 0 4)) else
  if w &&& 0x0FF000F0#32 = 0x06100030#32 then sb w 0x00000F00#32 0x00000F00#32 (.saddsubx c (field w 16 4) (field w 12 4) (field w 0 4)) else
  if w &&& 0x0FF000F0#32 = 0x06200030#32 then sb w 0x00000F00#32 0x00000F00#32 (.qaddsubx c (field w 16 4) (field w 12 4) (field w 0 4)) else
  if w &&& 0x0FF000F0#32 = 0x06300030#32 then sb w 0x00000F00#32 0x00000F00#32 (.shaddsubx c (field w 16 4) (field w 12 4) (field w 0 4)) else
  if w &&& 0x0FF000F0#32 = 0x06500030#32 then sb w 0x00000F00#32 0x00000F00#32 (.uaddsubx c (field w 16 4) (field w 12 4) (field w 0 4)) else
  if w &&& 0x0FF000F0#32 = 0x06600030#32 then sb w 0x00000F00#32 0x00000F00#32 (.uqaddsubx c (field w 16 4) (field w 12 4) (field w 0 4)) else
  if w &&& 0x0FF000F0#32 = 0x06700030#32 then sb w 0x00000F00#32 0x00000F00#32 (.uhaddsubx c (field w 16 4) (field w 12 4) (field w 0 4)) else
  if w &&& 0x0FF000F0#32 = 0x06100050#32 then sb w 0x00000F00#32 0x00000F00#32 (.ssubaddx c (field w 16 4) (field w 12 4) (field w 0 4)) else
  if w &&& 0x0FF000F0#32 = 0x06200050#32 then sb w 0x00000F00#32 0x00000F00#32 (.qsubaddx c (field w 16 4) (field w 12 4) (field w 0 4)) else
  if w &&& 0x0FF000F0#32 = 0x06300050#32 then sb w 0x00000F00#32 0x00000F00#32 (.shsubaddx c (field w 16 4) (field w 12 4) (field w 0 4)) else
  if w &&& 0x0FF000F0#32 = 0x06500050#32 then sb w 0x00000F00#32 0x00000F00#32 (.usubaddx c (field w 16 4) (field w 12 4) (field w 0 4)) else
  if w &&& 0x0FF000F0#32 = 0x06600050#32 then sb w 0x00000F00#32 0x00000F00#32 (.uqsubaddx c (field w 16 4) (field w 12 4) (field w 0 4)) else
  if w &&& 0x0FF000F0#32 = 0x06700050#32 then sb w 0x00000F00#32 0x00000F00#32 (.uhsubaddx c (field w 16 4) (field w 12 4) (field w 0 4)) else
  if w &&& 0x0FF000F0#32 = 0x06100070#32 then sb w 0x00000F00#32 0x00000F00#32 (.ssub16 c (field w 16 4) (field w 12 4) (field w 0 4)) else
  if w &&& 0x0FF000F0#32 = 0x06200070#32 then sb w 0x00000F00#32 0x00000F00#32 (.qsub16 c (field w 16 4) (field w 12 4) (field w 0 4)) else
  if w &&& 0x0FF000F0#32 = 0x06300070#32 then sb w 0x00000F00#32 0x00000F00#32 (.shsub16 c (field w 16 4) (field w 12 4) (field w 0 4)) else
  if w &&& 0x0FF000F0#32 = 0x06500070#32 then sb w 0x00000F00#32 0x00000F00#32 (.usub16 c (field w 16 4) (field w 12 4) (field w 0 4)) else
  if w &&& 0x0FF000F0#32 = 0x06600070#32 then sb w 0x00000F00#32 0x00000F00#32 (.uqsub16 c (field w 16 4) (field w 12 4) (field w 0 4)) else
  if w &&& 0x0FF000F0#32 = 0x06700070#32 then sb w 0x00000F00#32 0x00000F00#32 (.uhsub16 c (field w 16 4) (field w 12 4) (field w 0 4)) else
  if w &&& 0x0FF000F0#32 = 0x06100090#32 then sb w 0x00000F00#32 0x00000F00#32 (.sadd8 c (field w 16 4) (field w 12 4) (field w 0 4)) else
  if w &&& 0x0FF000F0#32 = 0x06200090#32 then sb w 0x00000F00#32 0x00000F00#32 (.qadd8 c (field w 16 4) (field w 12 4) (field w 0 4)) else
  if w &&& 0x0FF000F0#32 = 0x06300090#32 then sb w 0x00000F00#32 0x00000F00#32 (.shadd8 c (field w 16 4) (field w 12 4) (field w 0 4)) else
  if w &&& 0x0FF000F0#32 = 0x06500090#32 then sb w 0x00000F00#32 0x00000F00#32 (.uadd8 c (field w 16 4) (field w 12 4) (field w 0 4)) else
  if w &&& 0x0FF000F0#32 = 0x06600090#32 then sb w 0x00000F00#32 0x00000F00#32 (.uqadd8 c (field w 16 4) (field w 12 4) (field w 0 4)) else
  if w &&& 0x0FF000F0#32 = 0x06700090#32 then sb w 0x00000F00#32 0x00000F00#32 (.uhadd8 c (field w 16 4) (field w 12 4) (field w 0 4)) else
  if w &&& 0x0FF000F0#32 = 0x061000F0#32 then sb w 0x00000F00#32 0x00000F00#32 (.ssub8 c (field w 16 4) (field w 12 4) (field w 0 4)) else
  if w &&& 0x0FF000F0#32 = 0x062000F0#32 then sb w 0x00000F00#32 0x00000F00#32 (.qsub8 c (field w 16 4) (field w 12 4) (field w 0 4)) else
  if w &&& 0x0FF000F0#32 = 0x063000F0#32 then sb w 0x00000F00#32 0x00000F00#32 (.shsub8 c (field w 16 4) (field w 12 4) (field w 0 4)) else
  if w &&& 0x0FF000F0#32 = 0x065000F0#32 then sb w 0x00000F00#32 0x00000F00#32 (.usub8 c (field w 16 4) (field w 12 4) (field w 0 4)) else
  if w &&& 0x0FF000F0#32 = 0x066000F0#32 then sb w 0x00000F00#32 0x00000F00#32 (.uqsub8 c (field w 16 4) (field w 12 4) (field w 0 4)) else
  if w &&& 0x0FF000F0#32 = 0x067000F0#32 then sb w 0x00000F00#32 0x00000F00#32 (.uhsub8 c (field w 16 4) (field w 12 4) (field w 0 4)) else
  if w &&& 0x0FF00070#32 = 0x06800010#32 then .instr (.pkhbt c (field w 16 4) (field w 12 4) (field w 7 5) (field w 0 4)) else
  if w &&& 0x0FF00070#32 = 0x06800050#32 then .instr (.pkhtb c (field w 16 4) (field w 12 4) (field w 7 5) (field w 0 4)) else
  if w &&& 0x0FF000F0#32 = 0x06A00030#32 then sb w 0x00000F00#32 0x00000F00#32 (.ssat16 c (field w 16 4) (field w 12 4) (field w 0 4)) else
  if w &&& 0x0FF000F0#32 = 0x06E00030#32 then sb w 0x00000F00#32 0x00000F00#32 (.usat16 c (field w 16 4) (field w 12 4) (field w 0 4)) else
  if w &&& 0x0FE00030#32 = 0x06A00010#32 then .instr (.ssat c (field w 16 5) (field w 12 4) (field w 7 5) (w.getLsbD 6) (field w 0 4)) else
  if w &&& 0x0FE00030#32 = 0x06E00010#32 then .instr (.usat c (field w 16 5) (field w 12 4) (field w 7 5) (w.getLsbD 6) (field w 0 4)) else
  if w &&& 0x0FF000F0#32 = 0x068000B0#32 then sb w 0x00000F00#32 0x00000F00#32 (.sel c (field w 16 4) (field w 12 4) (field w 0 4)) else
  if w &&& 0x0FF000F0#32 = 0x06B00030#32 then sb w 0x000F0F00#32 0x000F0F00#32 (.rev c (field w 12 4) (field w 0 4)) else
  if w &&& 0x0FF000F0#32 = 0x06B000B0#32 then sb w 0x000F0F00#32 0x000F0F00#32 (.rev16 c (field w 12 4) (field w 0 4)) else
  if w &&& 0x0FF000F0#32 = 0x06F000B0#32 then sb w 0x000F0F00#32 0x000F0F00#32 (.revsh c (field w 12 4) (field w 0 4)) else
  if w &&& 0x0FFF00F0#32 = 0x068F0070#32 then sb w 0x00000300#32 0x00000000#32 (.sxtb16 c (field w 12 4) (field w 10 2) (field w 0 4)) else
  if w &&& 0x0FFF00F0#32 = 0x06AF0070#32 then sb w 0x00000300#32 0x00000000#32 (.sxtb c (field w 12 4) (field w 10 2) (field w 0 4)) else
  if w &&& 0x0FFF00F0#32 = 0x06BF0070#32 then sb w 0x00000300#32 0x00000000#32 (.sxth c (field w 12 4) (field w 10 2) (field w 0 4)) else
  if w &&& 0x0FFF00F0#32 = 0x06CF0070#32 then sb w 0x00000300#32 0x00000000#32 (.uxtb16 c (field w 12 4) (field w 10 2) (field w 0 4)) else
  if w &&& 0x0FFF00F0#32 = 0x06EF0070#32 then sb w 0x00000300#32 0x00000000#32 (.uxtb c (field w 12 4) (field w 10 2) (field w 0 4)) else
  if w &&& 0x0FFF00F0#32 = 0x06FF0070#32 then sb w 0x00000300#32 0x00000000#32 (.uxth c (field w 12 4) (field w 10 2) (field w 0 4)) else
  if w &&& 0x0FF000F0#32 = 0x06800070#32 then sb w 0x00000300#32 0x00000000#32 (.sxtab16 c (field w 16 4) (field w 12 4) (field w 10 2) (field w 0 4)) else
  if w &&& 0x0FF000F0#32 = 0x06A00070#32 then sb w 0x00000300#32 0x00000000#32 (.sxtab c (field w 16 4) (field w 12 4) (field w 10 2) (field w 0 4)) else
  if w &&& 0x0FF000F0#32 = 0x06B00070#32 then sb w 0x00000300#32 0x00000000#32 (.sxtah c (field w 16 4) (field w 12 4) (field w 10 2) (field w 0 4)) else
  if w &&& 0x0FF000F0#32 = 0x06C00070#32 then sb w 0x00000300#32 0x00000000#32 (.uxtab16 c (field w 16 4) (field w 12 4) (field w 10 2) (field w 0 4)) else
  if w &&& 0x0FF000F0#32 = 0x06E00070#32 then sb w 0x00000300#32 0x00000000#32 (.uxtab c (field w 16 4) (field w 12 4) (field w 10 2) (field w 0 4)) else
  if w &&& 0x0FF000F0#32 = 0x06F00070#32 then sb w 0x00000300#32 0x00000000#32 (.uxtah c (field w 16 4) (field w 12 4) (field w 10 2) (field w 0 4)) else
  if w &&& 0x0FF0F0D0#32 = 0x0700F010#32 then .instr (.smuad c (field w 16 4) (field w 8 4) (w.getLsbD 5) (field w 0 4)) else
  if w &&& 0x0FF0F0D0#32 = 0x0700F050#32 then .instr (.smusd c (field w 16 4) (field w 8 4) (w.getLsbD 5) (field w 0 4)) else
  if w &&& 0x0FF000D0#32 = 0x07000010#32 then .instr (.smlad c (field w 16 4) (field w 12 4) (field w 8 4) (w.getLsbD 5) (field w 0 4)) else
  if w &&& 0x0FF000D0#32 = 0x07000050#32 then .instr (.smlsd c (field w 16 4) (field w 12 4) (field w 8 4) (w.getLsbD 5) (field w 0 4)) else
  if w &&& 0x0FF000D0#32 = 0x07400010#32 then .instr (.smlald c (field w 16 4) (field w 12 4) (field w 8 4) (w.getLsbD 5) (field w 0 4)) else
  if w &&& 0x0FF000D0#32 = 0x07400050#32 then .instr (.smlsld c (field w 16 4) (field w 12 4) (field w 8 4) (w.getLsbD 5) (field w 0 4)) else
  if w &&& 0x0FF0F0D0#32 = 0x0750F010#32 then .instr (.smmul c (field w 16 4) (field w 8 4) (w.getLsbD 5) (field w 0 4)) else
  if w &&& 0x0FF000D0#32 = 0x07500010#32 then .instr (.smmla c (field w 16 4) (field w 12 4) (field w 8 4) (w.getLsbD 5) (field w 0 4)) else
  if w &&& 0x0FF000D0#32 = 0x075000D0#32 then .instr (.smmls c (field w 16 4) (field w 12 4) (field w 8 4) (w.getLsbD 5) (field w 0 4)) else
  if w &&& 0x0FF0F0F0#32 = 0x0780F010#32 then .instr (.usad8 c (field w 16 4) (field w 8 4) (field w 0 4)) else
  if w &&& 0x0FF000F0#32 = 0x07800010#32 then .instr (.usada8 c (field w 16 4) (field w 12 4) (field w 8 4) (field w 0 4)) else
  .unallocated c

/-- Load/store multiple (R839). -/
noncomputable def decodeClass100 (c : Cond) (w : Word) : Decoded :=
  if w &&& 0x0E500000#32 = 0x08100000#32 then .instr (.ldm1 c (w.getLsbD 24) (w.getLsbD 23) (w.getLsbD 21) (field w 16 4) (field w 0 16)) else
  if w &&& 0x0E508000#32 = 0x08508000#32 then .instr (.ldm3 c (w.getLsbD 24) (w.getLsbD 23) (w.getLsbD 21) (field w 16 4) (field w 0 15)) else
  if w &&& 0x0E508000#32 = 0x08500000#32 then sb w 0x00200000#32 0x00000000#32 (.ldm2 c (w.getLsbD 24) (w.getLsbD 23) (field w 16 4) (field w 0 15)) else
  if w &&& 0x0E500000#32 = 0x08000000#32 then .instr (.stm1 c (w.getLsbD 24) (w.getLsbD 23) (w.getLsbD 21) (field w 16 4) (field w 0 16)) else
  if w &&& 0x0E500000#32 = 0x08400000#32 then sb w 0x00200000#32 0x00000000#32 (.stm2 c (w.getLsbD 24) (w.getLsbD 23) (field w 16 4) (field w 0 16)) else
  .unallocated c

/-- Branches (R840). -/
noncomputable def decodeClass101 (c : Cond) (w : Word) : Decoded :=
  if w &&& 0x0F000000#32 = 0x0A000000#32 then .instr (.b c (field w 0 24)) else
  if w &&& 0x0F000000#32 = 0x0B000000#32 then .instr (.bl c (field w 0 24)) else
  .unallocated c

/-- Coprocessor loads, stores and two-register transfers (R862, R863). -/
noncomputable def decodeClass110 (c : Cond) (w : Word) : Decoded :=
  if w &&& 0x0FF00000#32 = 0x0C400000#32 then .instr (.mcrr c (field w 16 4) (field w 12 4) (field w 8 4) (field w 4 4) (field w 0 4)) else
  if w &&& 0x0FF00000#32 = 0x0C500000#32 then .instr (.mrrc c (field w 16 4) (field w 12 4) (field w 8 4) (field w 4 4) (field w 0 4)) else
  if w &&& 0x0F100000#32 = 0x0D000000#32 then .instr (.stcOffset c (w.getLsbD 23) (w.getLsbD 22) (w.getLsbD 21) (field w 16 4) (field w 12 4) (field w 8 4) (field w 0 8)) else
  if w &&& 0x0F300000#32 = 0x0C200000#32 then .instr (.stcPost c (w.getLsbD 23) (w.getLsbD 22) (field w 16 4) (field w 12 4) (field w 8 4) (field w 0 8)) else
  if w &&& 0x0FB00000#32 = 0x0C800000#32 then .instr (.stcUnindexed c (w.getLsbD 22) (field w 16 4) (field w 12 4) (field w 8 4) (field w 0 8)) else
  if w &&& 0x0F100000#32 = 0x0D100000#32 then .instr (.ldcOffset c (w.getLsbD 23) (w.getLsbD 22) (w.getLsbD 21) (field w 16 4) (field w 12 4) (field w 8 4) (field w 0 8)) else
  if w &&& 0x0F300000#32 = 0x0C300000#32 then .instr (.ldcPost c (w.getLsbD 23) (w.getLsbD 22) (field w 16 4) (field w 12 4) (field w 8 4) (field w 0 8)) else
  if w &&& 0x0FB00000#32 = 0x0C900000#32 then .instr (.ldcUnindexed c (w.getLsbD 22) (field w 16 4) (field w 12 4) (field w 8 4) (field w 0 8)) else
  .unallocated c

/-- Coprocessor data processing, register transfers, SVC (R860, R861, R841). -/
noncomputable def decodeClass111 (c : Cond) (w : Word) : Decoded :=
  if w &&& 0x0F000010#32 = 0x0E000000#32 then .instr (.cdp c (field w 20 4) (field w 16 4) (field w 12 4) (field w 8 4) (field w 5 3) (field w 0 4)) else
  if w &&& 0x0F100010#32 = 0x0E000010#32 then .instr (.mcr c (field w 21 3) (field w 16 4) (field w 12 4) (field w 8 4) (field w 5 3) (field w 0 4)) else
  if w &&& 0x0F100010#32 = 0x0E100010#32 then .instr (.mrc c (field w 21 3) (field w 16 4) (field w 12 4) (field w 8 4) (field w 5 3) (field w 0 4)) else
  if w &&& 0x0F000000#32 = 0x0F000000#32 then .instr (.svc c (field w 0 24)) else
  .unallocated c

/-- VFP11 loads, stores and two-register transfers (R866, R867). -/
noncomputable def decodeVfp110 (c : Cond) (w : Word) : Decoded :=
  if w &&& 0x0F300F00#32 = 0x0D100A00#32 then .instr (.flds c (w.getLsbD 23) (w.getLsbD 22) (field w 16 4) (field w 12 4) (field w 0 8)) else
  if w &&& 0x0F700F00#32 = 0x0D100B00#32 then .instr (.fldd c (w.getLsbD 23) (field w 16 4) (field w 12 4) (field w 0 8)) else
  if w &&& 0x0F300F00#32 = 0x0D000A00#32 then .instr (.fsts c (w.getLsbD 23) (w.getLsbD 22) (field w 16 4) (field w 12 4) (field w 0 8)) else
  if w &&& 0x0F700F00#32 = 0x0D000B00#32 then .instr (.fstd c (w.getLsbD 23) (field w 16 4) (field w 12 4) (field w 0 8)) else
  if w &&& 0x0F900F00#32 = 0x0C900A00#32 then .instr (.fldmsIa c (w.getLsbD 22) (w.getLsbD 21) (field w 16 4) (field w 12 4) (field w 0 8)) else
  if w &&& 0x0FB00F00#32 = 0x0D300A00#32 then .instr (.fldmsDb c (w.getLsbD 22) (field w 16 4) (field w 12 4) (field w 0 8)) else
  if w &&& 0x0FD00F01#32 = 0x0C900B00#32 then .instr (.fldmdIa c (w.getLsbD 21) (field w 16 4) (field w 12 4) (field w 1 7)) else
  if w &&& 0x0FF00F01#32 = 0x0D300B00#32 then .instr (.fldmdDb c (field w 16 4) (field w 12 4) (field w 1 7)) else
  if w &&& 0x0FD00F01#32 = 0x0C900B01#32 then .instr (.fldmxIa c (w.getLsbD 21) (field w 16 4) (field w 12 4) (field w 1 7)) else
  if w &&& 0x0FF00F01#32 = 0x0D300B01#32 then .instr (.fldmxDb c (field w 16 4) (field w 12 4) (field w 1 7)) else
  if w &&& 0x0F900F00#32 = 0x0C800A00#32 then .instr (.fstmsIa c (w.getLsbD 22) (w.getLsbD 21) (field w 16 4) (field w 12 4) (field w 0 8)) else
  if w &&& 0x0FB00F00#32 = 0x0D200A00#32 then .instr (.fstmsDb c (w.getLsbD 22) (field w 16 4) (field w 12 4) (field w 0 8)) else
  if w &&& 0x0FD00F01#32 = 0x0C800B00#32 then .instr (.fstmdIa c (w.getLsbD 21) (field w 16 4) (field w 12 4) (field w 1 7)) else
  if w &&& 0x0FF00F01#32 = 0x0D200B00#32 then .instr (.fstmdDb c (field w 16 4) (field w 12 4) (field w 1 7)) else
  if w &&& 0x0FD00F01#32 = 0x0C800B01#32 then .instr (.fstmxIa c (w.getLsbD 21) (field w 16 4) (field w 12 4) (field w 1 7)) else
  if w &&& 0x0FF00F01#32 = 0x0D200B01#32 then .instr (.fstmxDb c (field w 16 4) (field w 12 4) (field w 1 7)) else
  if w &&& 0x0FF00FF0#32 = 0x0C400B10#32 then .instr (.fmdrr c (field w 16 4) (field w 12 4) (field w 0 4)) else
  if w &&& 0x0FF00FF0#32 = 0x0C500B10#32 then .instr (.fmrrd c (field w 16 4) (field w 12 4) (field w 0 4)) else
  if w &&& 0x0FF00FD0#32 = 0x0C400A10#32 then .instr (.fmsrr c (field w 16 4) (field w 12 4) (w.getLsbD 5) (field w 0 4)) else
  if w &&& 0x0FF00FD0#32 = 0x0C500A10#32 then .instr (.fmrrs c (field w 16 4) (field w 12 4) (w.getLsbD 5) (field w 0 4)) else
  decodeClass110 c w

/-- VFP11 data processing and register transfers (R865, R867). -/
noncomputable def decodeVfp111 (c : Cond) (w : Word) : Decoded :=
  if w &&& 0x0FB00F50#32 = 0x0E000A00#32 then .instr (.fmacs c (w.getLsbD 22) (field w 16 4) (field w 12 4) (w.getLsbD 7) (w.getLsbD 5) (field w 0 4)) else
  if w &&& 0x0FF00FF0#32 = 0x0E000B00#32 then .instr (.fmacd c (field w 16 4) (field w 12 4) (field w 0 4)) else
  if w &&& 0x0FB00F50#32 = 0x0E000A40#32 then .instr (.fnmacs c (w.getLsbD 22) (field w 16 4) (field w 12 4) (w.getLsbD 7) (w.getLsbD 5) (field w 0 4)) else
  if w &&& 0x0FF00FF0#32 = 0x0E000B40#32 then .instr (.fnmacd c (field w 16 4) (field w 12 4) (field w 0 4)) else
  if w &&& 0x0FB00F50#32 = 0x0E100A00#32 then .instr (.fmscs c (w.getLsbD 22) (field w 16 4) (field w 12 4) (w.getLsbD 7) (w.getLsbD 5) (field w 0 4)) else
  if w &&& 0x0FF00FF0#32 = 0x0E100B00#32 then .instr (.fmscd c (field w 16 4) (field w 12 4) (field w 0 4)) else
  if w &&& 0x0FB00F50#32 = 0x0E100A40#32 then .instr (.fnmscs c (w.getLsbD 22) (field w 16 4) (field w 12 4) (w.getLsbD 7) (w.getLsbD 5) (field w 0 4)) else
  if w &&& 0x0FF00FF0#32 = 0x0E100B40#32 then .instr (.fnmscd c (field w 16 4) (field w 12 4) (field w 0 4)) else
  if w &&& 0x0FB00F50#32 = 0x0E200A00#32 then .instr (.fmuls c (w.getLsbD 22) (field w 16 4) (field w 12 4) (w.getLsbD 7) (w.getLsbD 5) (field w 0 4)) else
  if w &&& 0x0FF00FF0#32 = 0x0E200B00#32 then .instr (.fmuld c (field w 16 4) (field w 12 4) (field w 0 4)) else
  if w &&& 0x0FB00F50#32 = 0x0E200A40#32 then .instr (.fnmuls c (w.getLsbD 22) (field w 16 4) (field w 12 4) (w.getLsbD 7) (w.getLsbD 5) (field w 0 4)) else
  if w &&& 0x0FF00FF0#32 = 0x0E200B40#32 then .instr (.fnmuld c (field w 16 4) (field w 12 4) (field w 0 4)) else
  if w &&& 0x0FB00F50#32 = 0x0E300A00#32 then .instr (.fadds c (w.getLsbD 22) (field w 16 4) (field w 12 4) (w.getLsbD 7) (w.getLsbD 5) (field w 0 4)) else
  if w &&& 0x0FF00FF0#32 = 0x0E300B00#32 then .instr (.faddd c (field w 16 4) (field w 12 4) (field w 0 4)) else
  if w &&& 0x0FB00F50#32 = 0x0E300A40#32 then .instr (.fsubs c (w.getLsbD 22) (field w 16 4) (field w 12 4) (w.getLsbD 7) (w.getLsbD 5) (field w 0 4)) else
  if w &&& 0x0FF00FF0#32 = 0x0E300B40#32 then .instr (.fsubd c (field w 16 4) (field w 12 4) (field w 0 4)) else
  if w &&& 0x0FB00F50#32 = 0x0E800A00#32 then .instr (.fdivs c (w.getLsbD 22) (field w 16 4) (field w 12 4) (w.getLsbD 7) (w.getLsbD 5) (field w 0 4)) else
  if w &&& 0x0FF00FF0#32 = 0x0E800B00#32 then .instr (.fdivd c (field w 16 4) (field w 12 4) (field w 0 4)) else
  if w &&& 0x0FBF0FD0#32 = 0x0EB00A40#32 then .instr (.fcpys c (w.getLsbD 22) (field w 12 4) (w.getLsbD 5) (field w 0 4)) else
  if w &&& 0x0FFF0FF0#32 = 0x0EB00B40#32 then .instr (.fcpyd c (field w 12 4) (field w 0 4)) else
  if w &&& 0x0FBF0FD0#32 = 0x0EB00AC0#32 then .instr (.fabss c (w.getLsbD 22) (field w 12 4) (w.getLsbD 5) (field w 0 4)) else
  if w &&& 0x0FFF0FF0#32 = 0x0EB00BC0#32 then .instr (.fabsd c (field w 12 4) (field w 0 4)) else
  if w &&& 0x0FBF0FD0#32 = 0x0EB10A40#32 then .instr (.fnegs c (w.getLsbD 22) (field w 12 4) (w.getLsbD 5) (field w 0 4)) else
  if w &&& 0x0FFF0FF0#32 = 0x0EB10B40#32 then .instr (.fnegd c (field w 12 4) (field w 0 4)) else
  if w &&& 0x0FBF0FD0#32 = 0x0EB10AC0#32 then .instr (.fsqrts c (w.getLsbD 22) (field w 12 4) (w.getLsbD 5) (field w 0 4)) else
  if w &&& 0x0FFF0FF0#32 = 0x0EB10BC0#32 then .instr (.fsqrtd c (field w 12 4) (field w 0 4)) else
  if w &&& 0x0FBF0FD0#32 = 0x0EB40A40#32 then .instr (.fcmps c (w.getLsbD 22) (field w 12 4) (w.getLsbD 5) (field w 0 4)) else
  if w &&& 0x0FFF0FF0#32 = 0x0EB40B40#32 then .instr (.fcmpd c (field w 12 4) (field w 0 4)) else
  if w &&& 0x0FBF0FD0#32 = 0x0EB40AC0#32 then .instr (.fcmpes c (w.getLsbD 22) (field w 12 4) (w.getLsbD 5) (field w 0 4)) else
  if w &&& 0x0FFF0FF0#32 = 0x0EB40BC0#32 then .instr (.fcmped c (field w 12 4) (field w 0 4)) else
  if w &&& 0x0FBF0FD0#32 = 0x0EB50A40#32 then sb w 0x0000002F#32 0x00000000#32 (.fcmpzs c (w.getLsbD 22) (field w 12 4)) else
  if w &&& 0x0FFF0FD0#32 = 0x0EB50B40#32 then sb w 0x0000002F#32 0x00000000#32 (.fcmpzd c (field w 12 4)) else
  if w &&& 0x0FBF0FD0#32 = 0x0EB50AC0#32 then sb w 0x0000002F#32 0x00000000#32 (.fcmpezs c (w.getLsbD 22) (field w 12 4)) else
  if w &&& 0x0FFF0FD0#32 = 0x0EB50BC0#32 then sb w 0x0000002F#32 0x00000000#32 (.fcmpezd c (field w 12 4)) else
  if w &&& 0x0FFF0FD0#32 = 0x0EB70AC0#32 then .instr (.fcvtds c (field w 12 4) (w.getLsbD 5) (field w 0 4)) else
  if w &&& 0x0FBF0FF0#32 = 0x0EB70BC0#32 then .instr (.fcvtsd c (w.getLsbD 22) (field w 12 4) (field w 0 4)) else
  if w &&& 0x0FBF0FD0#32 = 0x0EB80A40#32 then .instr (.fuitos c (w.getLsbD 22) (field w 12 4) (w.getLsbD 5) (field w 0 4)) else
  if w &&& 0x0FFF0FD0#32 = 0x0EB80B40#32 then .instr (.fuitod c (field w 12 4) (w.getLsbD 5) (field w 0 4)) else
  if w &&& 0x0FBF0FD0#32 = 0x0EB80AC0#32 then .instr (.fsitos c (w.getLsbD 22) (field w 12 4) (w.getLsbD 5) (field w 0 4)) else
  if w &&& 0x0FFF0FD0#32 = 0x0EB80BC0#32 then .instr (.fsitod c (field w 12 4) (w.getLsbD 5) (field w 0 4)) else
  if w &&& 0x0FBF0FD0#32 = 0x0EBC0A40#32 then .instr (.ftouis c (w.getLsbD 22) (field w 12 4) (w.getLsbD 5) (field w 0 4)) else
  if w &&& 0x0FBF0FF0#32 = 0x0EBC0B40#32 then .instr (.ftouid c (w.getLsbD 22) (field w 12 4) (field w 0 4)) else
  if w &&& 0x0FBF0FD0#32 = 0x0EBC0AC0#32 then .instr (.ftouizs c (w.getLsbD 22) (field w 12 4) (w.getLsbD 5) (field w 0 4)) else
  if w &&& 0x0FBF0FF0#32 = 0x0EBC0BC0#32 then .instr (.ftouizd c (w.getLsbD 22) (field w 12 4) (field w 0 4)) else
  if w &&& 0x0FBF0FD0#32 = 0x0EBD0A40#32 then .instr (.ftosis c (w.getLsbD 22) (field w 12 4) (w.getLsbD 5) (field w 0 4)) else
  if w &&& 0x0FBF0FF0#32 = 0x0EBD0B40#32 then .instr (.ftosid c (w.getLsbD 22) (field w 12 4) (field w 0 4)) else
  if w &&& 0x0FBF0FD0#32 = 0x0EBD0AC0#32 then .instr (.ftosizs c (w.getLsbD 22) (field w 12 4) (w.getLsbD 5) (field w 0 4)) else
  if w &&& 0x0FBF0FF0#32 = 0x0EBD0BC0#32 then .instr (.ftosizd c (w.getLsbD 22) (field w 12 4) (field w 0 4)) else
  if w &&& 0x0FFFFF90#32 = 0x0EF1FA10#32 then sb w 0x0000006F#32 0x00000000#32 (.fmstat c) else
  if w &&& 0x0FF00F10#32 = 0x0E000A10#32 then sb w 0x0000006F#32 0x00000000#32 (.fmsr c (field w 16 4) (field w 12 4) (w.getLsbD 7)) else
  if w &&& 0x0FF00F10#32 = 0x0E100A10#32 then sb w 0x0000006F#32 0x00000000#32 (.fmrs c (field w 16 4) (field w 12 4) (w.getLsbD 7)) else
  if w &&& 0x0FF00F90#32 = 0x0E000B10#32 then sb w 0x0000006F#32 0x00000000#32 (.fmdlr c (field w 16 4) (field w 12 4)) else
  if w &&& 0x0FF00F90#32 = 0x0E100B10#32 then sb w 0x0000006F#32 0x00000000#32 (.fmrdl c (field w 16 4) (field w 12 4)) else
  if w &&& 0x0FF00F90#32 = 0x0E200B10#32 then sb w 0x0000006F#32 0x00000000#32 (.fmdhr c (field w 16 4) (field w 12 4)) else
  if w &&& 0x0FF00F90#32 = 0x0E300B10#32 then sb w 0x0000006F#32 0x00000000#32 (.fmrdh c (field w 16 4) (field w 12 4)) else
  if w &&& 0x0FF00F90#32 = 0x0EE00A10#32 then sb w 0x0000006F#32 0x00000000#32 (.fmxr c (field w 16 4) (field w 12 4)) else
  if w &&& 0x0FF00F90#32 = 0x0EF00A10#32 then sb w 0x0000006F#32 0x00000000#32 (.fmrx c (field w 16 4) (field w 12 4)) else
  decodeClass111 c w

/-- The conditional space, by bits [27:25] (R826); the VFP11 rows come before the generic coprocessor rows (R829). -/
noncomputable def decodeCond (c : Cond) (w : Word) : Decoded :=
  match (field w 25 3).toNat with
  | 0 => decodeClass000 c w
  | 1 => decodeClass001 c w
  | 2 => decodeClass010 c w
  | 3 => decodeClass011 c w
  | 4 => decodeClass100 c w
  | 5 => decodeClass101 c w
  | 6 => decodeVfp110 c w
  | _ => decodeVfp111 c w

/-- The ARM decoder (R821 steps 1 to 4). -/
noncomputable def decodeArm (w : Word) : Decoded :=
  match Cond.ofBits (field w 28 4) with
  | some c => decodeCond c w
  | none => decodeUncond w

/-- The Thumb decoder (R821, R870 to R890). -/
noncomputable def decodeThumb (w : BitVec 16) : Decoded :=
  if w &&& 0xFFC0#16 = 0x1C00#16 then .instr (.tMov2 (field w 3 3) (field w 0 3)) else
  if w &&& 0xF800#16 = 0x0000#16 then .instr (.tLsl1 (field w 6 5) (field w 3 3) (field w 0 3)) else
  if w &&& 0xF800#16 = 0x0800#16 then .instr (.tLsr1 (field w 6 5) (field w 3 3) (field w 0 3)) else
  if w &&& 0xF800#16 = 0x1000#16 then .instr (.tAsr1 (field w 6 5) (field w 3 3) (field w 0 3)) else
  if w &&& 0xFE00#16 = 0x1800#16 then .instr (.tAdd3 (field w 6 3) (field w 3 3) (field w 0 3)) else
  if w &&& 0xFE00#16 = 0x1A00#16 then .instr (.tSub3 (field w 6 3) (field w 3 3) (field w 0 3)) else
  if w &&& 0xFE00#16 = 0x1C00#16 then .instr (.tAdd1 (field w 6 3) (field w 3 3) (field w 0 3)) else
  if w &&& 0xFE00#16 = 0x1E00#16 then .instr (.tSub1 (field w 6 3) (field w 3 3) (field w 0 3)) else
  if w &&& 0xF800#16 = 0x2000#16 then .instr (.tMov1 (field w 8 3) (field w 0 8)) else
  if w &&& 0xF800#16 = 0x2800#16 then .instr (.tCmp1 (field w 8 3) (field w 0 8)) else
  if w &&& 0xF800#16 = 0x3000#16 then .instr (.tAdd2 (field w 8 3) (field w 0 8)) else
  if w &&& 0xF800#16 = 0x3800#16 then .instr (.tSub2 (field w 8 3) (field w 0 8)) else
  if w &&& 0xFFC0#16 = 0x4000#16 then .instr (.tAnd (field w 3 3) (field w 0 3)) else
  if w &&& 0xFFC0#16 = 0x4040#16 then .instr (.tEor (field w 3 3) (field w 0 3)) else
  if w &&& 0xFFC0#16 = 0x4080#16 then .instr (.tLsl2 (field w 3 3) (field w 0 3)) else
  if w &&& 0xFFC0#16 = 0x40C0#16 then .instr (.tLsr2 (field w 3 3) (field w 0 3)) else
  if w &&& 0xFFC0#16 = 0x4100#16 then .instr (.tAsr2 (field w 3 3) (field w 0 3)) else
  if w &&& 0xFFC0#16 = 0x4140#16 then .instr (.tAdc (field w 3 3) (field w 0 3)) else
  if w &&& 0xFFC0#16 = 0x4180#16 then .instr (.tSbc (field w 3 3) (field w 0 3)) else
  if w &&& 0xFFC0#16 = 0x41C0#16 then .instr (.tRor (field w 3 3) (field w 0 3)) else
  if w &&& 0xFFC0#16 = 0x4200#16 then .instr (.tTst (field w 3 3) (field w 0 3)) else
  if w &&& 0xFFC0#16 = 0x4240#16 then .instr (.tNeg (field w 3 3) (field w 0 3)) else
  if w &&& 0xFFC0#16 = 0x4280#16 then .instr (.tCmp2 (field w 3 3) (field w 0 3)) else
  if w &&& 0xFFC0#16 = 0x42C0#16 then .instr (.tCmn (field w 3 3) (field w 0 3)) else
  if w &&& 0xFFC0#16 = 0x4300#16 then .instr (.tOrr (field w 3 3) (field w 0 3)) else
  if w &&& 0xFFC0#16 = 0x4340#16 then .instr (.tMul (field w 3 3) (field w 0 3)) else
  if w &&& 0xFFC0#16 = 0x4380#16 then .instr (.tBic (field w 3 3) (field w 0 3)) else
  if w &&& 0xFFC0#16 = 0x43C0#16 then .instr (.tMvn (field w 3 3) (field w 0 3)) else
  if w &&& 0xFF00#16 = 0x4400#16 then .instr (.tAdd4 (w.getLsbD 7) (w.getLsbD 6) (field w 3 3) (field w 0 3)) else
  if w &&& 0xFF00#16 = 0x4500#16 then .instr (.tCmp3 (w.getLsbD 7) (w.getLsbD 6) (field w 3 3) (field w 0 3)) else
  if w &&& 0xFFC0#16 = 0x4600#16 then .instr (.tCpy (field w 3 3) (field w 0 3)) else
  if w &&& 0xFF00#16 = 0x4600#16 then .instr (.tMov3 (w.getLsbD 7) (w.getLsbD 6) (field w 3 3) (field w 0 3)) else
  if w &&& 0xFF80#16 = 0x4700#16 then sb w 0x0007#16 0x0000#16 (.tBx (w.getLsbD 6) (field w 3 3)) else
  if w &&& 0xFF80#16 = 0x4780#16 then sb w 0x0007#16 0x0000#16 (.tBlx2 (w.getLsbD 6) (field w 3 3)) else
  if w &&& 0xF800#16 = 0x4800#16 then .instr (.tLdr3 (field w 8 3) (field w 0 8)) else
  if w &&& 0xFE00#16 = 0x5000#16 then .instr (.tStr2 (field w 6 3) (field w 3 3) (field w 0 3)) else
  if w &&& 0xFE00#16 = 0x5200#16 then .instr (.tStrh2 (field w 6 3) (field w 3 3) (field w 0 3)) else
  if w &&& 0xFE00#16 = 0x5400#16 then .instr (.tStrb2 (field w 6 3) (field w 3 3) (field w 0 3)) else
  if w &&& 0xFE00#16 = 0x5600#16 then .instr (.tLdrsb (field w 6 3) (field w 3 3) (field w 0 3)) else
  if w &&& 0xFE00#16 = 0x5800#16 then .instr (.tLdr2 (field w 6 3) (field w 3 3) (field w 0 3)) else
  if w &&& 0xFE00#16 = 0x5A00#16 then .instr (.tLdrh2 (field w 6 3) (field w 3 3) (field w 0 3)) else
  if w &&& 0xFE00#16 = 0x5C00#16 then .instr (.tLdrb2 (field w 6 3) (field w 3 3) (field w 0 3)) else
  if w &&& 0xFE00#16 = 0x5E00#16 then .instr (.tLdrsh (field w 6 3) (field w 3 3) (field w 0 3)) else
  if w &&& 0xF800#16 = 0x6000#16 then .instr (.tStr1 (field w 6 5) (field w 3 3) (field w 0 3)) else
  if w &&& 0xF800#16 = 0x6800#16 then .instr (.tLdr1 (field w 6 5) (field w 3 3) (field w 0 3)) else
  if w &&& 0xF800#16 = 0x7000#16 then .instr (.tStrb1 (field w 6 5) (field w 3 3) (field w 0 3)) else
  if w &&& 0xF800#16 = 0x7800#16 then .instr (.tLdrb1 (field w 6 5) (field w 3 3) (field w 0 3)) else
  if w &&& 0xF800#16 = 0x8000#16 then .instr (.tStrh1 (field w 6 5) (field w 3 3) (field w 0 3)) else
  if w &&& 0xF800#16 = 0x8800#16 then .instr (.tLdrh1 (field w 6 5) (field w 3 3) (field w 0 3)) else
  if w &&& 0xF800#16 = 0x9000#16 then .instr (.tStr3 (field w 8 3) (field w 0 8)) else
  if w &&& 0xF800#16 = 0x9800#16 then .instr (.tLdr4 (field w 8 3) (field w 0 8)) else
  if w &&& 0xF800#16 = 0xA000#16 then .instr (.tAdd5 (field w 8 3) (field w 0 8)) else
  if w &&& 0xF800#16 = 0xA800#16 then .instr (.tAdd6 (field w 8 3) (field w 0 8)) else
  if w &&& 0xFF80#16 = 0xB000#16 then .instr (.tAdd7 (field w 0 7)) else
  if w &&& 0xFF80#16 = 0xB080#16 then .instr (.tSub4 (field w 0 7)) else
  if w &&& 0xFFC0#16 = 0xB200#16 then .instr (.tSxth (field w 3 3) (field w 0 3)) else
  if w &&& 0xFFC0#16 = 0xB240#16 then .instr (.tSxtb (field w 3 3) (field w 0 3)) else
  if w &&& 0xFFC0#16 = 0xB280#16 then .instr (.tUxth (field w 3 3) (field w 0 3)) else
  if w &&& 0xFFC0#16 = 0xB2C0#16 then .instr (.tUxtb (field w 3 3) (field w 0 3)) else
  if w &&& 0xFE00#16 = 0xB400#16 then .instr (.tPush (w.getLsbD 8) (field w 0 8)) else
  if w &&& 0xFE00#16 = 0xBC00#16 then .instr (.tPop (w.getLsbD 8) (field w 0 8)) else
  if w &&& 0xFFF0#16 = 0xB650#16 then sb w 0x0007#16 0x0000#16 (.tSetend (w.getLsbD 3)) else
  if w &&& 0xFFE0#16 = 0xB660#16 then sb w 0x0008#16 0x0000#16 (.tCps (w.getLsbD 4) (w.getLsbD 2) (w.getLsbD 1) (w.getLsbD 0)) else
  if w &&& 0xFFC0#16 = 0xBA00#16 then .instr (.tRev (field w 3 3) (field w 0 3)) else
  if w &&& 0xFFC0#16 = 0xBA40#16 then .instr (.tRev16 (field w 3 3) (field w 0 3)) else
  if w &&& 0xFFC0#16 = 0xBAC0#16 then .instr (.tRevsh (field w 3 3) (field w 0 3)) else
  if w &&& 0xFF00#16 = 0xBE00#16 then .instr (.tBkpt (field w 0 8)) else
  if w &&& 0xF800#16 = 0xC000#16 then .instr (.tStmia (field w 8 3) (field w 0 8)) else
  if w &&& 0xF800#16 = 0xC800#16 then .instr (.tLdmia (field w 8 3) (field w 0 8)) else
  if w &&& 0xFF00#16 = 0xDF00#16 then .instr (.tSvc (field w 0 8)) else
  if w &&& 0xFF00#16 = 0xDE00#16 then .instr (.tUndefined (field w 0 8)) else
  if w &&& 0xF000#16 = 0xD000#16 then
    match Cond.ofBits (field w 8 4) with
    | some c => .instr (.tB1 c (field w 0 8))
    | none => .unallocatedThumb
  else
  if w &&& 0xF800#16 = 0xE000#16 then .instr (.tB2 (field w 0 11)) else
  if w &&& 0xF801#16 = 0xE800#16 then .instr (.tBlx1Suffix (field w 1 10)) else
  if w &&& 0xF800#16 = 0xF000#16 then .instr (.tBlBlxPrefix (field w 0 11)) else
  if w &&& 0xF800#16 = 0xF800#16 then .instr (.tBlSuffix (field w 0 11)) else
  .unallocatedThumb

/-- A field's bits put at bit `lo` of an instruction. -/
def place {n : Nat} (b : BitVec n) (lo : Nat) : Word := (b.setWidth 32) <<< lo

/-- A one-bit field put at bit `lo` of an instruction. -/
def placeB (b : Bool) (lo : Nat) : Word := place (BitVec.ofBool b) lo

/-- The bits of an instruction, from its row: fixed bits, should-be bits, fields. A Thumb instruction stands in the low
halfword. -/
def encode : Instr → Word
  | .cps imod mmod aBit iBit fBit mode => 0xF1000000#32 ||| place imod 18 ||| placeB mmod 17 ||| placeB aBit 8 ||| placeB iBit 7 ||| placeB fBit 6 ||| place mode 0
  | .setend e => 0xF1010000#32 ||| placeB e 9
  | .clrex => 0xF57FF01F#32
  | .pldImm u rn imm => 0xF550F000#32 ||| placeB u 23 ||| place rn 16 ||| place imm 0
  | .pldReg u rn amount ty rm => 0xF750F000#32 ||| placeB u 23 ||| place rn 16 ||| place amount 7 ||| place ty.toBits 5 ||| place rm 0
  | .srs p u wb mode => 0xF84D0500#32 ||| placeB p 24 ||| placeB u 23 ||| placeB wb 21 ||| place mode 0
  | .rfe p u wb rn => 0xF8100A00#32 ||| placeB p 24 ||| placeB u 23 ||| placeB wb 21 ||| place rn 16
  | .blxImm h imm => 0xFA000000#32 ||| placeB h 24 ||| place imm 0
  | .mcrr2 rn rd cp op crm => 0xFC400000#32 ||| place rn 16 ||| place rd 12 ||| place cp 8 ||| place op 4 ||| place crm 0
  | .mrrc2 rn rd cp op crm => 0xFC500000#32 ||| place rn 16 ||| place rd 12 ||| place cp 8 ||| place op 4 ||| place crm 0
  | .stc2Offset u nBit wb rn crd cp imm => 0xFD000000#32 ||| placeB u 23 ||| placeB nBit 22 ||| placeB wb 21 ||| place rn 16 ||| place crd 12 ||| place cp 8 ||| place imm 0
  | .stc2Post u nBit rn crd cp imm => 0xFC200000#32 ||| placeB u 23 ||| placeB nBit 22 ||| place rn 16 ||| place crd 12 ||| place cp 8 ||| place imm 0
  | .stc2Unindexed nBit rn crd cp opt => 0xFC800000#32 ||| placeB nBit 22 ||| place rn 16 ||| place crd 12 ||| place cp 8 ||| place opt 0
  | .ldc2Offset u nBit wb rn crd cp imm => 0xFD100000#32 ||| placeB u 23 ||| placeB nBit 22 ||| placeB wb 21 ||| place rn 16 ||| place crd 12 ||| place cp 8 ||| place imm 0
  | .ldc2Post u nBit rn crd cp imm => 0xFC300000#32 ||| placeB u 23 ||| placeB nBit 22 ||| place rn 16 ||| place crd 12 ||| place cp 8 ||| place imm 0
  | .ldc2Unindexed nBit rn crd cp opt => 0xFC900000#32 ||| placeB nBit 22 ||| place rn 16 ||| place crd 12 ||| place cp 8 ||| place opt 0
  | .cdp2 op1 crn crd cp op2 crm => 0xFE000000#32 ||| place op1 20 ||| place crn 16 ||| place crd 12 ||| place cp 8 ||| place op2 5 ||| place crm 0
  | .mcr2 op1 crn rd cp op2 crm => 0xFE000010#32 ||| place op1 21 ||| place crn 16 ||| place rd 12 ||| place cp 8 ||| place op2 5 ||| place crm 0
  | .mrc2 op1 crn rd cp op2 crm => 0xFE100010#32 ||| place op1 21 ||| place crn 16 ||| place rd 12 ||| place cp 8 ||| place op2 5 ||| place crm 0
  | .undefinedArm ignored => 0xF0000000#32 ||| place ignored 0
  | .fmacs c dBit fn fd nBit mBit fm => 0x0E000A00#32 ||| place c.toBits 28 ||| placeB dBit 22 ||| place fn 16 ||| place fd 12 ||| placeB nBit 7 ||| placeB mBit 5 ||| place fm 0
  | .fmacd c fn fd fm => 0x0E000B00#32 ||| place c.toBits 28 ||| place fn 16 ||| place fd 12 ||| place fm 0
  | .fnmacs c dBit fn fd nBit mBit fm => 0x0E000A40#32 ||| place c.toBits 28 ||| placeB dBit 22 ||| place fn 16 ||| place fd 12 ||| placeB nBit 7 ||| placeB mBit 5 ||| place fm 0
  | .fnmacd c fn fd fm => 0x0E000B40#32 ||| place c.toBits 28 ||| place fn 16 ||| place fd 12 ||| place fm 0
  | .fmscs c dBit fn fd nBit mBit fm => 0x0E100A00#32 ||| place c.toBits 28 ||| placeB dBit 22 ||| place fn 16 ||| place fd 12 ||| placeB nBit 7 ||| placeB mBit 5 ||| place fm 0
  | .fmscd c fn fd fm => 0x0E100B00#32 ||| place c.toBits 28 ||| place fn 16 ||| place fd 12 ||| place fm 0
  | .fnmscs c dBit fn fd nBit mBit fm => 0x0E100A40#32 ||| place c.toBits 28 ||| placeB dBit 22 ||| place fn 16 ||| place fd 12 ||| placeB nBit 7 ||| placeB mBit 5 ||| place fm 0
  | .fnmscd c fn fd fm => 0x0E100B40#32 ||| place c.toBits 28 ||| place fn 16 ||| place fd 12 ||| place fm 0
  | .fmuls c dBit fn fd nBit mBit fm => 0x0E200A00#32 ||| place c.toBits 28 ||| placeB dBit 22 ||| place fn 16 ||| place fd 12 ||| placeB nBit 7 ||| placeB mBit 5 ||| place fm 0
  | .fmuld c fn fd fm => 0x0E200B00#32 ||| place c.toBits 28 ||| place fn 16 ||| place fd 12 ||| place fm 0
  | .fnmuls c dBit fn fd nBit mBit fm => 0x0E200A40#32 ||| place c.toBits 28 ||| placeB dBit 22 ||| place fn 16 ||| place fd 12 ||| placeB nBit 7 ||| placeB mBit 5 ||| place fm 0
  | .fnmuld c fn fd fm => 0x0E200B40#32 ||| place c.toBits 28 ||| place fn 16 ||| place fd 12 ||| place fm 0
  | .fadds c dBit fn fd nBit mBit fm => 0x0E300A00#32 ||| place c.toBits 28 ||| placeB dBit 22 ||| place fn 16 ||| place fd 12 ||| placeB nBit 7 ||| placeB mBit 5 ||| place fm 0
  | .faddd c fn fd fm => 0x0E300B00#32 ||| place c.toBits 28 ||| place fn 16 ||| place fd 12 ||| place fm 0
  | .fsubs c dBit fn fd nBit mBit fm => 0x0E300A40#32 ||| place c.toBits 28 ||| placeB dBit 22 ||| place fn 16 ||| place fd 12 ||| placeB nBit 7 ||| placeB mBit 5 ||| place fm 0
  | .fsubd c fn fd fm => 0x0E300B40#32 ||| place c.toBits 28 ||| place fn 16 ||| place fd 12 ||| place fm 0
  | .fdivs c dBit fn fd nBit mBit fm => 0x0E800A00#32 ||| place c.toBits 28 ||| placeB dBit 22 ||| place fn 16 ||| place fd 12 ||| placeB nBit 7 ||| placeB mBit 5 ||| place fm 0
  | .fdivd c fn fd fm => 0x0E800B00#32 ||| place c.toBits 28 ||| place fn 16 ||| place fd 12 ||| place fm 0
  | .fcpys c dBit fd mBit fm => 0x0EB00A40#32 ||| place c.toBits 28 ||| placeB dBit 22 ||| place fd 12 ||| placeB mBit 5 ||| place fm 0
  | .fcpyd c fd fm => 0x0EB00B40#32 ||| place c.toBits 28 ||| place fd 12 ||| place fm 0
  | .fabss c dBit fd mBit fm => 0x0EB00AC0#32 ||| place c.toBits 28 ||| placeB dBit 22 ||| place fd 12 ||| placeB mBit 5 ||| place fm 0
  | .fabsd c fd fm => 0x0EB00BC0#32 ||| place c.toBits 28 ||| place fd 12 ||| place fm 0
  | .fnegs c dBit fd mBit fm => 0x0EB10A40#32 ||| place c.toBits 28 ||| placeB dBit 22 ||| place fd 12 ||| placeB mBit 5 ||| place fm 0
  | .fnegd c fd fm => 0x0EB10B40#32 ||| place c.toBits 28 ||| place fd 12 ||| place fm 0
  | .fsqrts c dBit fd mBit fm => 0x0EB10AC0#32 ||| place c.toBits 28 ||| placeB dBit 22 ||| place fd 12 ||| placeB mBit 5 ||| place fm 0
  | .fsqrtd c fd fm => 0x0EB10BC0#32 ||| place c.toBits 28 ||| place fd 12 ||| place fm 0
  | .fcmps c dBit fd mBit fm => 0x0EB40A40#32 ||| place c.toBits 28 ||| placeB dBit 22 ||| place fd 12 ||| placeB mBit 5 ||| place fm 0
  | .fcmpd c fd fm => 0x0EB40B40#32 ||| place c.toBits 28 ||| place fd 12 ||| place fm 0
  | .fcmpes c dBit fd mBit fm => 0x0EB40AC0#32 ||| place c.toBits 28 ||| placeB dBit 22 ||| place fd 12 ||| placeB mBit 5 ||| place fm 0
  | .fcmped c fd fm => 0x0EB40BC0#32 ||| place c.toBits 28 ||| place fd 12 ||| place fm 0
  | .fcmpzs c dBit fd => 0x0EB50A40#32 ||| place c.toBits 28 ||| placeB dBit 22 ||| place fd 12
  | .fcmpzd c fd => 0x0EB50B40#32 ||| place c.toBits 28 ||| place fd 12
  | .fcmpezs c dBit fd => 0x0EB50AC0#32 ||| place c.toBits 28 ||| placeB dBit 22 ||| place fd 12
  | .fcmpezd c fd => 0x0EB50BC0#32 ||| place c.toBits 28 ||| place fd 12
  | .fcvtds c fd mBit fm => 0x0EB70AC0#32 ||| place c.toBits 28 ||| place fd 12 ||| placeB mBit 5 ||| place fm 0
  | .fcvtsd c dBit fd fm => 0x0EB70BC0#32 ||| place c.toBits 28 ||| placeB dBit 22 ||| place fd 12 ||| place fm 0
  | .fuitos c dBit fd mBit fm => 0x0EB80A40#32 ||| place c.toBits 28 ||| placeB dBit 22 ||| place fd 12 ||| placeB mBit 5 ||| place fm 0
  | .fuitod c fd mBit fm => 0x0EB80B40#32 ||| place c.toBits 28 ||| place fd 12 ||| placeB mBit 5 ||| place fm 0
  | .fsitos c dBit fd mBit fm => 0x0EB80AC0#32 ||| place c.toBits 28 ||| placeB dBit 22 ||| place fd 12 ||| placeB mBit 5 ||| place fm 0
  | .fsitod c fd mBit fm => 0x0EB80BC0#32 ||| place c.toBits 28 ||| place fd 12 ||| placeB mBit 5 ||| place fm 0
  | .ftouis c dBit fd mBit fm => 0x0EBC0A40#32 ||| place c.toBits 28 ||| placeB dBit 22 ||| place fd 12 ||| placeB mBit 5 ||| place fm 0
  | .ftouid c dBit fd fm => 0x0EBC0B40#32 ||| place c.toBits 28 ||| placeB dBit 22 ||| place fd 12 ||| place fm 0
  | .ftouizs c dBit fd mBit fm => 0x0EBC0AC0#32 ||| place c.toBits 28 ||| placeB dBit 22 ||| place fd 12 ||| placeB mBit 5 ||| place fm 0
  | .ftouizd c dBit fd fm => 0x0EBC0BC0#32 ||| place c.toBits 28 ||| placeB dBit 22 ||| place fd 12 ||| place fm 0
  | .ftosis c dBit fd mBit fm => 0x0EBD0A40#32 ||| place c.toBits 28 ||| placeB dBit 22 ||| place fd 12 ||| placeB mBit 5 ||| place fm 0
  | .ftosid c dBit fd fm => 0x0EBD0B40#32 ||| place c.toBits 28 ||| placeB dBit 22 ||| place fd 12 ||| place fm 0
  | .ftosizs c dBit fd mBit fm => 0x0EBD0AC0#32 ||| place c.toBits 28 ||| placeB dBit 22 ||| place fd 12 ||| placeB mBit 5 ||| place fm 0
  | .ftosizd c dBit fd fm => 0x0EBD0BC0#32 ||| place c.toBits 28 ||| placeB dBit 22 ||| place fd 12 ||| place fm 0
  | .flds c u dBit rn fd imm => 0x0D100A00#32 ||| place c.toBits 28 ||| placeB u 23 ||| placeB dBit 22 ||| place rn 16 ||| place fd 12 ||| place imm 0
  | .fldd c u rn fd imm => 0x0D100B00#32 ||| place c.toBits 28 ||| placeB u 23 ||| place rn 16 ||| place fd 12 ||| place imm 0
  | .fsts c u dBit rn fd imm => 0x0D000A00#32 ||| place c.toBits 28 ||| placeB u 23 ||| placeB dBit 22 ||| place rn 16 ||| place fd 12 ||| place imm 0
  | .fstd c u rn fd imm => 0x0D000B00#32 ||| place c.toBits 28 ||| placeB u 23 ||| place rn 16 ||| place fd 12 ||| place imm 0
  | .fldmsIa c dBit wb rn fd imm => 0x0C900A00#32 ||| place c.toBits 28 ||| placeB dBit 22 ||| placeB wb 21 ||| place rn 16 ||| place fd 12 ||| place imm 0
  | .fldmsDb c dBit rn fd imm => 0x0D300A00#32 ||| place c.toBits 28 ||| placeB dBit 22 ||| place rn 16 ||| place fd 12 ||| place imm 0
  | .fldmdIa c wb rn fd immHi => 0x0C900B00#32 ||| place c.toBits 28 ||| placeB wb 21 ||| place rn 16 ||| place fd 12 ||| place immHi 1
  | .fldmdDb c rn fd immHi => 0x0D300B00#32 ||| place c.toBits 28 ||| place rn 16 ||| place fd 12 ||| place immHi 1
  | .fldmxIa c wb rn fd immHi => 0x0C900B01#32 ||| place c.toBits 28 ||| placeB wb 21 ||| place rn 16 ||| place fd 12 ||| place immHi 1
  | .fldmxDb c rn fd immHi => 0x0D300B01#32 ||| place c.toBits 28 ||| place rn 16 ||| place fd 12 ||| place immHi 1
  | .fstmsIa c dBit wb rn fd imm => 0x0C800A00#32 ||| place c.toBits 28 ||| placeB dBit 22 ||| placeB wb 21 ||| place rn 16 ||| place fd 12 ||| place imm 0
  | .fstmsDb c dBit rn fd imm => 0x0D200A00#32 ||| place c.toBits 28 ||| placeB dBit 22 ||| place rn 16 ||| place fd 12 ||| place imm 0
  | .fstmdIa c wb rn fd immHi => 0x0C800B00#32 ||| place c.toBits 28 ||| placeB wb 21 ||| place rn 16 ||| place fd 12 ||| place immHi 1
  | .fstmdDb c rn fd immHi => 0x0D200B00#32 ||| place c.toBits 28 ||| place rn 16 ||| place fd 12 ||| place immHi 1
  | .fstmxIa c wb rn fd immHi => 0x0C800B01#32 ||| place c.toBits 28 ||| placeB wb 21 ||| place rn 16 ||| place fd 12 ||| place immHi 1
  | .fstmxDb c rn fd immHi => 0x0D200B01#32 ||| place c.toBits 28 ||| place rn 16 ||| place fd 12 ||| place immHi 1
  | .fmstat c => 0x0EF1FA10#32 ||| place c.toBits 28
  | .fmsr c fn rd nBit => 0x0E000A10#32 ||| place c.toBits 28 ||| place fn 16 ||| place rd 12 ||| placeB nBit 7
  | .fmrs c fn rd nBit => 0x0E100A10#32 ||| place c.toBits 28 ||| place fn 16 ||| place rd 12 ||| placeB nBit 7
  | .fmdlr c fn rd => 0x0E000B10#32 ||| place c.toBits 28 ||| place fn 16 ||| place rd 12
  | .fmrdl c fn rd => 0x0E100B10#32 ||| place c.toBits 28 ||| place fn 16 ||| place rd 12
  | .fmdhr c fn rd => 0x0E200B10#32 ||| place c.toBits 28 ||| place fn 16 ||| place rd 12
  | .fmrdh c fn rd => 0x0E300B10#32 ||| place c.toBits 28 ||| place fn 16 ||| place rd 12
  | .fmxr c sysReg rd => 0x0EE00A10#32 ||| place c.toBits 28 ||| place sysReg 16 ||| place rd 12
  | .fmrx c sysReg rd => 0x0EF00A10#32 ||| place c.toBits 28 ||| place sysReg 16 ||| place rd 12
  | .fmdrr c rn rd fm => 0x0C400B10#32 ||| place c.toBits 28 ||| place rn 16 ||| place rd 12 ||| place fm 0
  | .fmrrd c rn rd fm => 0x0C500B10#32 ||| place c.toBits 28 ||| place rn 16 ||| place rd 12 ||| place fm 0
  | .fmsrr c rn rd mBit fm => 0x0C400A10#32 ||| place c.toBits 28 ||| place rn 16 ||| place rd 12 ||| placeB mBit 5 ||| place fm 0
  | .fmrrs c rn rd mBit fm => 0x0C500A10#32 ||| place c.toBits 28 ||| place rn 16 ||| place rd 12 ||| placeB mBit 5 ||| place fm 0
  | .mrs c r rd => 0x010F0000#32 ||| place c.toBits 28 ||| placeB r 22 ||| place rd 12
  | .msrReg c r fields rm => 0x0120F000#32 ||| place c.toBits 28 ||| placeB r 22 ||| place fields 16 ||| place rm 0
  | .bx c rm => 0x012FFF10#32 ||| place c.toBits 28 ||| place rm 0
  | .bxj c rm => 0x012FFF20#32 ||| place c.toBits 28 ||| place rm 0
  | .blxReg c rm => 0x012FFF30#32 ||| place c.toBits 28 ||| place rm 0
  | .clz c rd rm => 0x016F0F10#32 ||| place c.toBits 28 ||| place rd 12 ||| place rm 0
  | .qadd c rn rd rm => 0x01000050#32 ||| place c.toBits 28 ||| place rn 16 ||| place rd 12 ||| place rm 0
  | .qsub c rn rd rm => 0x01200050#32 ||| place c.toBits 28 ||| place rn 16 ||| place rd 12 ||| place rm 0
  | .qdadd c rn rd rm => 0x01400050#32 ||| place c.toBits 28 ||| place rn 16 ||| place rd 12 ||| place rm 0
  | .qdsub c rn rd rm => 0x01600050#32 ||| place c.toBits 28 ||| place rn 16 ||| place rd 12 ||| place rm 0
  | .bkpt imm => 0xE1200070#32 ||| place (field imm 4 12) 8 ||| place (field imm 0 4) 0
  | .smc c imm => 0x01600070#32 ||| place c.toBits 28 ||| place (field imm 4 12) 8 ||| place (field imm 0 4) 0
  | .smlaXY c rd rn rs y x rm => 0x01000080#32 ||| place c.toBits 28 ||| place rd 16 ||| place rn 12 ||| place rs 8 ||| placeB y 6 ||| placeB x 5 ||| place rm 0
  | .smlawY c rd rn rs y rm => 0x01200080#32 ||| place c.toBits 28 ||| place rd 16 ||| place rn 12 ||| place rs 8 ||| placeB y 6 ||| place rm 0
  | .smulwY c rd rs y rm => 0x012000A0#32 ||| place c.toBits 28 ||| place rd 16 ||| place rs 8 ||| placeB y 6 ||| place rm 0
  | .smlalXY c rdHi rdLo rs y x rm => 0x01400080#32 ||| place c.toBits 28 ||| place rdHi 16 ||| place rdLo 12 ||| place rs 8 ||| placeB y 6 ||| placeB x 5 ||| place rm 0
  | .smulXY c rd rs y x rm => 0x01600080#32 ||| place c.toBits 28 ||| place rd 16 ||| place rs 8 ||| placeB y 6 ||| placeB x 5 ||| place rm 0
  | .mul c sf rd rs rm => 0x00000090#32 ||| place c.toBits 28 ||| placeB sf 20 ||| place rd 16 ||| place rs 8 ||| place rm 0
  | .mla c sf rd rn rs rm => 0x00200090#32 ||| place c.toBits 28 ||| placeB sf 20 ||| place rd 16 ||| place rn 12 ||| place rs 8 ||| place rm 0
  | .umaal c rdHi rdLo rs rm => 0x00400090#32 ||| place c.toBits 28 ||| place rdHi 16 ||| place rdLo 12 ||| place rs 8 ||| place rm 0
  | .umull c sf rdHi rdLo rs rm => 0x00800090#32 ||| place c.toBits 28 ||| placeB sf 20 ||| place rdHi 16 ||| place rdLo 12 ||| place rs 8 ||| place rm 0
  | .umlal c sf rdHi rdLo rs rm => 0x00A00090#32 ||| place c.toBits 28 ||| placeB sf 20 ||| place rdHi 16 ||| place rdLo 12 ||| place rs 8 ||| place rm 0
  | .smull c sf rdHi rdLo rs rm => 0x00C00090#32 ||| place c.toBits 28 ||| placeB sf 20 ||| place rdHi 16 ||| place rdLo 12 ||| place rs 8 ||| place rm 0
  | .smlal c sf rdHi rdLo rs rm => 0x00E00090#32 ||| place c.toBits 28 ||| placeB sf 20 ||| place rdHi 16 ||| place rdLo 12 ||| place rs 8 ||| place rm 0
  | .swp c rn rd rm => 0x01000090#32 ||| place c.toBits 28 ||| place rn 16 ||| place rd 12 ||| place rm 0
  | .swpb c rn rd rm => 0x01400090#32 ||| place c.toBits 28 ||| place rn 16 ||| place rd 12 ||| place rm 0
  | .strex c rn rd rm => 0x01800F90#32 ||| place c.toBits 28 ||| place rn 16 ||| place rd 12 ||| place rm 0
  | .ldrex c rn rd => 0x01900F9F#32 ||| place c.toBits 28 ||| place rn 16 ||| place rd 12
  | .strexd c rn rd rm => 0x01A00F90#32 ||| place c.toBits 28 ||| place rn 16 ||| place rd 12 ||| place rm 0
  | .ldrexd c rn rd => 0x01B00F9F#32 ||| place c.toBits 28 ||| place rn 16 ||| place rd 12
  | .strexb c rn rd rm => 0x01C00F90#32 ||| place c.toBits 28 ||| place rn 16 ||| place rd 12 ||| place rm 0
  | .ldrexb c rn rd => 0x01D00F9F#32 ||| place c.toBits 28 ||| place rn 16 ||| place rd 12
  | .strexh c rn rd rm => 0x01E00F90#32 ||| place c.toBits 28 ||| place rn 16 ||| place rd 12 ||| place rm 0
  | .ldrexh c rn rd => 0x01F00F9F#32 ||| place c.toBits 28 ||| place rn 16 ||| place rd 12
  | .strhImm c p u wb rn rd immH immL => 0x004000B0#32 ||| place c.toBits 28 ||| placeB p 24 ||| placeB u 23 ||| placeB wb 21 ||| place rn 16 ||| place rd 12 ||| place immH 8 ||| place immL 0
  | .strhReg c p u wb rn rd rm => 0x000000B0#32 ||| place c.toBits 28 ||| placeB p 24 ||| placeB u 23 ||| placeB wb 21 ||| place rn 16 ||| place rd 12 ||| place rm 0
  | .ldrdImm c p u wb rn rd immH immL => 0x004000D0#32 ||| place c.toBits 28 ||| placeB p 24 ||| placeB u 23 ||| placeB wb 21 ||| place rn 16 ||| place rd 12 ||| place immH 8 ||| place immL 0
  | .ldrdReg c p u wb rn rd rm => 0x000000D0#32 ||| place c.toBits 28 ||| placeB p 24 ||| placeB u 23 ||| placeB wb 21 ||| place rn 16 ||| place rd 12 ||| place rm 0
  | .strdImm c p u wb rn rd immH immL => 0x004000F0#32 ||| place c.toBits 28 ||| placeB p 24 ||| placeB u 23 ||| placeB wb 21 ||| place rn 16 ||| place rd 12 ||| place immH 8 ||| place immL 0
  | .strdReg c p u wb rn rd rm => 0x000000F0#32 ||| place c.toBits 28 ||| placeB p 24 ||| placeB u 23 ||| placeB wb 21 ||| place rn 16 ||| place rd 12 ||| place rm 0
  | .ldrhImm c p u wb rn rd immH immL => 0x005000B0#32 ||| place c.toBits 28 ||| placeB p 24 ||| placeB u 23 ||| placeB wb 21 ||| place rn 16 ||| place rd 12 ||| place immH 8 ||| place immL 0
  | .ldrhReg c p u wb rn rd rm => 0x001000B0#32 ||| place c.toBits 28 ||| placeB p 24 ||| placeB u 23 ||| placeB wb 21 ||| place rn 16 ||| place rd 12 ||| place rm 0
  | .ldrsbImm c p u wb rn rd immH immL => 0x005000D0#32 ||| place c.toBits 28 ||| placeB p 24 ||| placeB u 23 ||| placeB wb 21 ||| place rn 16 ||| place rd 12 ||| place immH 8 ||| place immL 0
  | .ldrsbReg c p u wb rn rd rm => 0x001000D0#32 ||| place c.toBits 28 ||| placeB p 24 ||| placeB u 23 ||| placeB wb 21 ||| place rn 16 ||| place rd 12 ||| place rm 0
  | .ldrshImm c p u wb rn rd immH immL => 0x005000F0#32 ||| place c.toBits 28 ||| placeB p 24 ||| placeB u 23 ||| placeB wb 21 ||| place rn 16 ||| place rd 12 ||| place immH 8 ||| place immL 0
  | .ldrshReg c p u wb rn rd rm => 0x001000F0#32 ||| place c.toBits 28 ||| placeB p 24 ||| placeB u 23 ||| placeB wb 21 ||| place rn 16 ||| place rd 12 ||| place rm 0
  | .nop c => 0x0320F000#32 ||| place c.toBits 28
  | .yield c => 0x0320F001#32 ||| place c.toBits 28
  | .nopReservedHint c hint => 0x0320F000#32 ||| place c.toBits 28 ||| place hint 0
  | .msrImm c r fields rot imm => 0x0320F000#32 ||| place c.toBits 28 ||| placeB r 22 ||| place fields 16 ||| place rot 8 ||| place imm 0
  | .cpy c rd rm => 0x01A00000#32 ||| place c.toBits 28 ||| place rd 12 ||| place rm 0
  | .andImm c sf rn rd rot imm => 0x02000000#32 ||| place c.toBits 28 ||| placeB sf 20 ||| place rn 16 ||| place rd 12 ||| place rot 8 ||| place imm 0
  | .andShift c sf rn rd amount ty rm => 0x00000000#32 ||| place c.toBits 28 ||| placeB sf 20 ||| place rn 16 ||| place rd 12 ||| place amount 7 ||| place ty.toBits 5 ||| place rm 0
  | .andRegShift c sf rn rd rs ty rm => 0x00000010#32 ||| place c.toBits 28 ||| placeB sf 20 ||| place rn 16 ||| place rd 12 ||| place rs 8 ||| place ty.toBits 5 ||| place rm 0
  | .eorImm c sf rn rd rot imm => 0x02200000#32 ||| place c.toBits 28 ||| placeB sf 20 ||| place rn 16 ||| place rd 12 ||| place rot 8 ||| place imm 0
  | .eorShift c sf rn rd amount ty rm => 0x00200000#32 ||| place c.toBits 28 ||| placeB sf 20 ||| place rn 16 ||| place rd 12 ||| place amount 7 ||| place ty.toBits 5 ||| place rm 0
  | .eorRegShift c sf rn rd rs ty rm => 0x00200010#32 ||| place c.toBits 28 ||| placeB sf 20 ||| place rn 16 ||| place rd 12 ||| place rs 8 ||| place ty.toBits 5 ||| place rm 0
  | .subImm c sf rn rd rot imm => 0x02400000#32 ||| place c.toBits 28 ||| placeB sf 20 ||| place rn 16 ||| place rd 12 ||| place rot 8 ||| place imm 0
  | .subShift c sf rn rd amount ty rm => 0x00400000#32 ||| place c.toBits 28 ||| placeB sf 20 ||| place rn 16 ||| place rd 12 ||| place amount 7 ||| place ty.toBits 5 ||| place rm 0
  | .subRegShift c sf rn rd rs ty rm => 0x00400010#32 ||| place c.toBits 28 ||| placeB sf 20 ||| place rn 16 ||| place rd 12 ||| place rs 8 ||| place ty.toBits 5 ||| place rm 0
  | .rsbImm c sf rn rd rot imm => 0x02600000#32 ||| place c.toBits 28 ||| placeB sf 20 ||| place rn 16 ||| place rd 12 ||| place rot 8 ||| place imm 0
  | .rsbShift c sf rn rd amount ty rm => 0x00600000#32 ||| place c.toBits 28 ||| placeB sf 20 ||| place rn 16 ||| place rd 12 ||| place amount 7 ||| place ty.toBits 5 ||| place rm 0
  | .rsbRegShift c sf rn rd rs ty rm => 0x00600010#32 ||| place c.toBits 28 ||| placeB sf 20 ||| place rn 16 ||| place rd 12 ||| place rs 8 ||| place ty.toBits 5 ||| place rm 0
  | .addImm c sf rn rd rot imm => 0x02800000#32 ||| place c.toBits 28 ||| placeB sf 20 ||| place rn 16 ||| place rd 12 ||| place rot 8 ||| place imm 0
  | .addShift c sf rn rd amount ty rm => 0x00800000#32 ||| place c.toBits 28 ||| placeB sf 20 ||| place rn 16 ||| place rd 12 ||| place amount 7 ||| place ty.toBits 5 ||| place rm 0
  | .addRegShift c sf rn rd rs ty rm => 0x00800010#32 ||| place c.toBits 28 ||| placeB sf 20 ||| place rn 16 ||| place rd 12 ||| place rs 8 ||| place ty.toBits 5 ||| place rm 0
  | .adcImm c sf rn rd rot imm => 0x02A00000#32 ||| place c.toBits 28 ||| placeB sf 20 ||| place rn 16 ||| place rd 12 ||| place rot 8 ||| place imm 0
  | .adcShift c sf rn rd amount ty rm => 0x00A00000#32 ||| place c.toBits 28 ||| placeB sf 20 ||| place rn 16 ||| place rd 12 ||| place amount 7 ||| place ty.toBits 5 ||| place rm 0
  | .adcRegShift c sf rn rd rs ty rm => 0x00A00010#32 ||| place c.toBits 28 ||| placeB sf 20 ||| place rn 16 ||| place rd 12 ||| place rs 8 ||| place ty.toBits 5 ||| place rm 0
  | .sbcImm c sf rn rd rot imm => 0x02C00000#32 ||| place c.toBits 28 ||| placeB sf 20 ||| place rn 16 ||| place rd 12 ||| place rot 8 ||| place imm 0
  | .sbcShift c sf rn rd amount ty rm => 0x00C00000#32 ||| place c.toBits 28 ||| placeB sf 20 ||| place rn 16 ||| place rd 12 ||| place amount 7 ||| place ty.toBits 5 ||| place rm 0
  | .sbcRegShift c sf rn rd rs ty rm => 0x00C00010#32 ||| place c.toBits 28 ||| placeB sf 20 ||| place rn 16 ||| place rd 12 ||| place rs 8 ||| place ty.toBits 5 ||| place rm 0
  | .rscImm c sf rn rd rot imm => 0x02E00000#32 ||| place c.toBits 28 ||| placeB sf 20 ||| place rn 16 ||| place rd 12 ||| place rot 8 ||| place imm 0
  | .rscShift c sf rn rd amount ty rm => 0x00E00000#32 ||| place c.toBits 28 ||| placeB sf 20 ||| place rn 16 ||| place rd 12 ||| place amount 7 ||| place ty.toBits 5 ||| place rm 0
  | .rscRegShift c sf rn rd rs ty rm => 0x00E00010#32 ||| place c.toBits 28 ||| placeB sf 20 ||| place rn 16 ||| place rd 12 ||| place rs 8 ||| place ty.toBits 5 ||| place rm 0
  | .tstImm c rn rot imm => 0x03100000#32 ||| place c.toBits 28 ||| place rn 16 ||| place rot 8 ||| place imm 0
  | .tstShift c rn amount ty rm => 0x01100000#32 ||| place c.toBits 28 ||| place rn 16 ||| place amount 7 ||| place ty.toBits 5 ||| place rm 0
  | .tstRegShift c rn rs ty rm => 0x01100010#32 ||| place c.toBits 28 ||| place rn 16 ||| place rs 8 ||| place ty.toBits 5 ||| place rm 0
  | .teqImm c rn rot imm => 0x03300000#32 ||| place c.toBits 28 ||| place rn 16 ||| place rot 8 ||| place imm 0
  | .teqShift c rn amount ty rm => 0x01300000#32 ||| place c.toBits 28 ||| place rn 16 ||| place amount 7 ||| place ty.toBits 5 ||| place rm 0
  | .teqRegShift c rn rs ty rm => 0x01300010#32 ||| place c.toBits 28 ||| place rn 16 ||| place rs 8 ||| place ty.toBits 5 ||| place rm 0
  | .cmpImm c rn rot imm => 0x03500000#32 ||| place c.toBits 28 ||| place rn 16 ||| place rot 8 ||| place imm 0
  | .cmpShift c rn amount ty rm => 0x01500000#32 ||| place c.toBits 28 ||| place rn 16 ||| place amount 7 ||| place ty.toBits 5 ||| place rm 0
  | .cmpRegShift c rn rs ty rm => 0x01500010#32 ||| place c.toBits 28 ||| place rn 16 ||| place rs 8 ||| place ty.toBits 5 ||| place rm 0
  | .cmnImm c rn rot imm => 0x03700000#32 ||| place c.toBits 28 ||| place rn 16 ||| place rot 8 ||| place imm 0
  | .cmnShift c rn amount ty rm => 0x01700000#32 ||| place c.toBits 28 ||| place rn 16 ||| place amount 7 ||| place ty.toBits 5 ||| place rm 0
  | .cmnRegShift c rn rs ty rm => 0x01700010#32 ||| place c.toBits 28 ||| place rn 16 ||| place rs 8 ||| place ty.toBits 5 ||| place rm 0
  | .orrImm c sf rn rd rot imm => 0x03800000#32 ||| place c.toBits 28 ||| placeB sf 20 ||| place rn 16 ||| place rd 12 ||| place rot 8 ||| place imm 0
  | .orrShift c sf rn rd amount ty rm => 0x01800000#32 ||| place c.toBits 28 ||| placeB sf 20 ||| place rn 16 ||| place rd 12 ||| place amount 7 ||| place ty.toBits 5 ||| place rm 0
  | .orrRegShift c sf rn rd rs ty rm => 0x01800010#32 ||| place c.toBits 28 ||| placeB sf 20 ||| place rn 16 ||| place rd 12 ||| place rs 8 ||| place ty.toBits 5 ||| place rm 0
  | .movImm c sf rd rot imm => 0x03A00000#32 ||| place c.toBits 28 ||| placeB sf 20 ||| place rd 12 ||| place rot 8 ||| place imm 0
  | .movShift c sf rd amount ty rm => 0x01A00000#32 ||| place c.toBits 28 ||| placeB sf 20 ||| place rd 12 ||| place amount 7 ||| place ty.toBits 5 ||| place rm 0
  | .movRegShift c sf rd rs ty rm => 0x01A00010#32 ||| place c.toBits 28 ||| placeB sf 20 ||| place rd 12 ||| place rs 8 ||| place ty.toBits 5 ||| place rm 0
  | .bicImm c sf rn rd rot imm => 0x03C00000#32 ||| place c.toBits 28 ||| placeB sf 20 ||| place rn 16 ||| place rd 12 ||| place rot 8 ||| place imm 0
  | .bicShift c sf rn rd amount ty rm => 0x01C00000#32 ||| place c.toBits 28 ||| placeB sf 20 ||| place rn 16 ||| place rd 12 ||| place amount 7 ||| place ty.toBits 5 ||| place rm 0
  | .bicRegShift c sf rn rd rs ty rm => 0x01C00010#32 ||| place c.toBits 28 ||| placeB sf 20 ||| place rn 16 ||| place rd 12 ||| place rs 8 ||| place ty.toBits 5 ||| place rm 0
  | .mvnImm c sf rd rot imm => 0x03E00000#32 ||| place c.toBits 28 ||| placeB sf 20 ||| place rd 12 ||| place rot 8 ||| place imm 0
  | .mvnShift c sf rd amount ty rm => 0x01E00000#32 ||| place c.toBits 28 ||| placeB sf 20 ||| place rd 12 ||| place amount 7 ||| place ty.toBits 5 ||| place rm 0
  | .mvnRegShift c sf rd rs ty rm => 0x01E00010#32 ||| place c.toBits 28 ||| placeB sf 20 ||| place rd 12 ||| place rs 8 ||| place ty.toBits 5 ||| place rm 0
  | .ldrtImm c u rn rd imm => 0x04300000#32 ||| place c.toBits 28 ||| placeB u 23 ||| place rn 16 ||| place rd 12 ||| place imm 0
  | .ldrtReg c u rn rd amount ty rm => 0x06300000#32 ||| place c.toBits 28 ||| placeB u 23 ||| place rn 16 ||| place rd 12 ||| place amount 7 ||| place ty.toBits 5 ||| place rm 0
  | .ldrbtImm c u rn rd imm => 0x04700000#32 ||| place c.toBits 28 ||| placeB u 23 ||| place rn 16 ||| place rd 12 ||| place imm 0
  | .ldrbtReg c u rn rd amount ty rm => 0x06700000#32 ||| place c.toBits 28 ||| placeB u 23 ||| place rn 16 ||| place rd 12 ||| place amount 7 ||| place ty.toBits 5 ||| place rm 0
  | .strtImm c u rn rd imm => 0x04200000#32 ||| place c.toBits 28 ||| placeB u 23 ||| place rn 16 ||| place rd 12 ||| place imm 0
  | .strtReg c u rn rd amount ty rm => 0x06200000#32 ||| place c.toBits 28 ||| placeB u 23 ||| place rn 16 ||| place rd 12 ||| place amount 7 ||| place ty.toBits 5 ||| place rm 0
  | .strbtImm c u rn rd imm => 0x04600000#32 ||| place c.toBits 28 ||| placeB u 23 ||| place rn 16 ||| place rd 12 ||| place imm 0
  | .strbtReg c u rn rd amount ty rm => 0x06600000#32 ||| place c.toBits 28 ||| placeB u 23 ||| place rn 16 ||| place rd 12 ||| place amount 7 ||| place ty.toBits 5 ||| place rm 0
  | .ldrImm c p u wb rn rd imm => 0x04100000#32 ||| place c.toBits 28 ||| placeB p 24 ||| placeB u 23 ||| placeB wb 21 ||| place rn 16 ||| place rd 12 ||| place imm 0
  | .ldrReg c p u wb rn rd amount ty rm => 0x06100000#32 ||| place c.toBits 28 ||| placeB p 24 ||| placeB u 23 ||| placeB wb 21 ||| place rn 16 ||| place rd 12 ||| place amount 7 ||| place ty.toBits 5 ||| place rm 0
  | .ldrbImm c p u wb rn rd imm => 0x04500000#32 ||| place c.toBits 28 ||| placeB p 24 ||| placeB u 23 ||| placeB wb 21 ||| place rn 16 ||| place rd 12 ||| place imm 0
  | .ldrbReg c p u wb rn rd amount ty rm => 0x06500000#32 ||| place c.toBits 28 ||| placeB p 24 ||| placeB u 23 ||| placeB wb 21 ||| place rn 16 ||| place rd 12 ||| place amount 7 ||| place ty.toBits 5 ||| place rm 0
  | .strImm c p u wb rn rd imm => 0x04000000#32 ||| place c.toBits 28 ||| placeB p 24 ||| placeB u 23 ||| placeB wb 21 ||| place rn 16 ||| place rd 12 ||| place imm 0
  | .strReg c p u wb rn rd amount ty rm => 0x06000000#32 ||| place c.toBits 28 ||| placeB p 24 ||| placeB u 23 ||| placeB wb 21 ||| place rn 16 ||| place rd 12 ||| place amount 7 ||| place ty.toBits 5 ||| place rm 0
  | .strbImm c p u wb rn rd imm => 0x04400000#32 ||| place c.toBits 28 ||| placeB p 24 ||| placeB u 23 ||| placeB wb 21 ||| place rn 16 ||| place rd 12 ||| place imm 0
  | .strbReg c p u wb rn rd amount ty rm => 0x06400000#32 ||| place c.toBits 28 ||| placeB p 24 ||| placeB u 23 ||| placeB wb 21 ||| place rn 16 ||| place rd 12 ||| place amount 7 ||| place ty.toBits 5 ||| place rm 0
  | .sadd16 c rn rd rm => 0x06100F10#32 ||| place c.toBits 28 ||| place rn 16 ||| place rd 12 ||| place rm 0
  | .qadd16 c rn rd rm => 0x06200F10#32 ||| place c.toBits 28 ||| place rn 16 ||| place rd 12 ||| place rm 0
  | .shadd16 c rn rd rm => 0x06300F10#32 ||| place c.toBits 28 ||| place rn 16 ||| place rd 12 ||| place rm 0
  | .uadd16 c rn rd rm => 0x06500F10#32 ||| place c.toBits 28 ||| place rn 16 ||| place rd 12 ||| place rm 0
  | .uqadd16 c rn rd rm => 0x06600F10#32 ||| place c.toBits 28 ||| place rn 16 ||| place rd 12 ||| place rm 0
  | .uhadd16 c rn rd rm => 0x06700F10#32 ||| place c.toBits 28 ||| place rn 16 ||| place rd 12 ||| place rm 0
  | .saddsubx c rn rd rm => 0x06100F30#32 ||| place c.toBits 28 ||| place rn 16 ||| place rd 12 ||| place rm 0
  | .qaddsubx c rn rd rm => 0x06200F30#32 ||| place c.toBits 28 ||| place rn 16 ||| place rd 12 ||| place rm 0
  | .shaddsubx c rn rd rm => 0x06300F30#32 ||| place c.toBits 28 ||| place rn 16 ||| place rd 12 ||| place rm 0
  | .uaddsubx c rn rd rm => 0x06500F30#32 ||| place c.toBits 28 ||| place rn 16 ||| place rd 12 ||| place rm 0
  | .uqaddsubx c rn rd rm => 0x06600F30#32 ||| place c.toBits 28 ||| place rn 16 ||| place rd 12 ||| place rm 0
  | .uhaddsubx c rn rd rm => 0x06700F30#32 ||| place c.toBits 28 ||| place rn 16 ||| place rd 12 ||| place rm 0
  | .ssubaddx c rn rd rm => 0x06100F50#32 ||| place c.toBits 28 ||| place rn 16 ||| place rd 12 ||| place rm 0
  | .qsubaddx c rn rd rm => 0x06200F50#32 ||| place c.toBits 28 ||| place rn 16 ||| place rd 12 ||| place rm 0
  | .shsubaddx c rn rd rm => 0x06300F50#32 ||| place c.toBits 28 ||| place rn 16 ||| place rd 12 ||| place rm 0
  | .usubaddx c rn rd rm => 0x06500F50#32 ||| place c.toBits 28 ||| place rn 16 ||| place rd 12 ||| place rm 0
  | .uqsubaddx c rn rd rm => 0x06600F50#32 ||| place c.toBits 28 ||| place rn 16 ||| place rd 12 ||| place rm 0
  | .uhsubaddx c rn rd rm => 0x06700F50#32 ||| place c.toBits 28 ||| place rn 16 ||| place rd 12 ||| place rm 0
  | .ssub16 c rn rd rm => 0x06100F70#32 ||| place c.toBits 28 ||| place rn 16 ||| place rd 12 ||| place rm 0
  | .qsub16 c rn rd rm => 0x06200F70#32 ||| place c.toBits 28 ||| place rn 16 ||| place rd 12 ||| place rm 0
  | .shsub16 c rn rd rm => 0x06300F70#32 ||| place c.toBits 28 ||| place rn 16 ||| place rd 12 ||| place rm 0
  | .usub16 c rn rd rm => 0x06500F70#32 ||| place c.toBits 28 ||| place rn 16 ||| place rd 12 ||| place rm 0
  | .uqsub16 c rn rd rm => 0x06600F70#32 ||| place c.toBits 28 ||| place rn 16 ||| place rd 12 ||| place rm 0
  | .uhsub16 c rn rd rm => 0x06700F70#32 ||| place c.toBits 28 ||| place rn 16 ||| place rd 12 ||| place rm 0
  | .sadd8 c rn rd rm => 0x06100F90#32 ||| place c.toBits 28 ||| place rn 16 ||| place rd 12 ||| place rm 0
  | .qadd8 c rn rd rm => 0x06200F90#32 ||| place c.toBits 28 ||| place rn 16 ||| place rd 12 ||| place rm 0
  | .shadd8 c rn rd rm => 0x06300F90#32 ||| place c.toBits 28 ||| place rn 16 ||| place rd 12 ||| place rm 0
  | .uadd8 c rn rd rm => 0x06500F90#32 ||| place c.toBits 28 ||| place rn 16 ||| place rd 12 ||| place rm 0
  | .uqadd8 c rn rd rm => 0x06600F90#32 ||| place c.toBits 28 ||| place rn 16 ||| place rd 12 ||| place rm 0
  | .uhadd8 c rn rd rm => 0x06700F90#32 ||| place c.toBits 28 ||| place rn 16 ||| place rd 12 ||| place rm 0
  | .ssub8 c rn rd rm => 0x06100FF0#32 ||| place c.toBits 28 ||| place rn 16 ||| place rd 12 ||| place rm 0
  | .qsub8 c rn rd rm => 0x06200FF0#32 ||| place c.toBits 28 ||| place rn 16 ||| place rd 12 ||| place rm 0
  | .shsub8 c rn rd rm => 0x06300FF0#32 ||| place c.toBits 28 ||| place rn 16 ||| place rd 12 ||| place rm 0
  | .usub8 c rn rd rm => 0x06500FF0#32 ||| place c.toBits 28 ||| place rn 16 ||| place rd 12 ||| place rm 0
  | .uqsub8 c rn rd rm => 0x06600FF0#32 ||| place c.toBits 28 ||| place rn 16 ||| place rd 12 ||| place rm 0
  | .uhsub8 c rn rd rm => 0x06700FF0#32 ||| place c.toBits 28 ||| place rn 16 ||| place rd 12 ||| place rm 0
  | .pkhbt c rn rd amount rm => 0x06800010#32 ||| place c.toBits 28 ||| place rn 16 ||| place rd 12 ||| place amount 7 ||| place rm 0
  | .pkhtb c rn rd amount rm => 0x06800050#32 ||| place c.toBits 28 ||| place rn 16 ||| place rd 12 ||| place amount 7 ||| place rm 0
  | .ssat16 c sat rd rm => 0x06A00F30#32 ||| place c.toBits 28 ||| place sat 16 ||| place rd 12 ||| place rm 0
  | .usat16 c sat rd rm => 0x06E00F30#32 ||| place c.toBits 28 ||| place sat 16 ||| place rd 12 ||| place rm 0
  | .ssat c sat rd amount sh rm => 0x06A00010#32 ||| place c.toBits 28 ||| place sat 16 ||| place rd 12 ||| place amount 7 ||| placeB sh 6 ||| place rm 0
  | .usat c sat rd amount sh rm => 0x06E00010#32 ||| place c.toBits 28 ||| place sat 16 ||| place rd 12 ||| place amount 7 ||| placeB sh 6 ||| place rm 0
  | .sel c rn rd rm => 0x06800FB0#32 ||| place c.toBits 28 ||| place rn 16 ||| place rd 12 ||| place rm 0
  | .rev c rd rm => 0x06BF0F30#32 ||| place c.toBits 28 ||| place rd 12 ||| place rm 0
  | .rev16 c rd rm => 0x06BF0FB0#32 ||| place c.toBits 28 ||| place rd 12 ||| place rm 0
  | .revsh c rd rm => 0x06FF0FB0#32 ||| place c.toBits 28 ||| place rd 12 ||| place rm 0
  | .sxtb16 c rd rot rm => 0x068F0070#32 ||| place c.toBits 28 ||| place rd 12 ||| place rot 10 ||| place rm 0
  | .sxtb c rd rot rm => 0x06AF0070#32 ||| place c.toBits 28 ||| place rd 12 ||| place rot 10 ||| place rm 0
  | .sxth c rd rot rm => 0x06BF0070#32 ||| place c.toBits 28 ||| place rd 12 ||| place rot 10 ||| place rm 0
  | .uxtb16 c rd rot rm => 0x06CF0070#32 ||| place c.toBits 28 ||| place rd 12 ||| place rot 10 ||| place rm 0
  | .uxtb c rd rot rm => 0x06EF0070#32 ||| place c.toBits 28 ||| place rd 12 ||| place rot 10 ||| place rm 0
  | .uxth c rd rot rm => 0x06FF0070#32 ||| place c.toBits 28 ||| place rd 12 ||| place rot 10 ||| place rm 0
  | .sxtab16 c rn rd rot rm => 0x06800070#32 ||| place c.toBits 28 ||| place rn 16 ||| place rd 12 ||| place rot 10 ||| place rm 0
  | .sxtab c rn rd rot rm => 0x06A00070#32 ||| place c.toBits 28 ||| place rn 16 ||| place rd 12 ||| place rot 10 ||| place rm 0
  | .sxtah c rn rd rot rm => 0x06B00070#32 ||| place c.toBits 28 ||| place rn 16 ||| place rd 12 ||| place rot 10 ||| place rm 0
  | .uxtab16 c rn rd rot rm => 0x06C00070#32 ||| place c.toBits 28 ||| place rn 16 ||| place rd 12 ||| place rot 10 ||| place rm 0
  | .uxtab c rn rd rot rm => 0x06E00070#32 ||| place c.toBits 28 ||| place rn 16 ||| place rd 12 ||| place rot 10 ||| place rm 0
  | .uxtah c rn rd rot rm => 0x06F00070#32 ||| place c.toBits 28 ||| place rn 16 ||| place rd 12 ||| place rot 10 ||| place rm 0
  | .smuad c rd rs x rm => 0x0700F010#32 ||| place c.toBits 28 ||| place rd 16 ||| place rs 8 ||| placeB x 5 ||| place rm 0
  | .smusd c rd rs x rm => 0x0700F050#32 ||| place c.toBits 28 ||| place rd 16 ||| place rs 8 ||| placeB x 5 ||| place rm 0
  | .smlad c rd rn rs x rm => 0x07000010#32 ||| place c.toBits 28 ||| place rd 16 ||| place rn 12 ||| place rs 8 ||| placeB x 5 ||| place rm 0
  | .smlsd c rd rn rs x rm => 0x07000050#32 ||| place c.toBits 28 ||| place rd 16 ||| place rn 12 ||| place rs 8 ||| placeB x 5 ||| place rm 0
  | .smlald c rdHi rdLo rs x rm => 0x07400010#32 ||| place c.toBits 28 ||| place rdHi 16 ||| place rdLo 12 ||| place rs 8 ||| placeB x 5 ||| place rm 0
  | .smlsld c rdHi rdLo rs x rm => 0x07400050#32 ||| place c.toBits 28 ||| place rdHi 16 ||| place rdLo 12 ||| place rs 8 ||| placeB x 5 ||| place rm 0
  | .smmul c rd rs r rm => 0x0750F010#32 ||| place c.toBits 28 ||| place rd 16 ||| place rs 8 ||| placeB r 5 ||| place rm 0
  | .smmla c rd rn rs r rm => 0x07500010#32 ||| place c.toBits 28 ||| place rd 16 ||| place rn 12 ||| place rs 8 ||| placeB r 5 ||| place rm 0
  | .smmls c rd rn rs r rm => 0x075000D0#32 ||| place c.toBits 28 ||| place rd 16 ||| place rn 12 ||| place rs 8 ||| placeB r 5 ||| place rm 0
  | .usad8 c rd rs rm => 0x0780F010#32 ||| place c.toBits 28 ||| place rd 16 ||| place rs 8 ||| place rm 0
  | .usada8 c rd rn rs rm => 0x07800010#32 ||| place c.toBits 28 ||| place rd 16 ||| place rn 12 ||| place rs 8 ||| place rm 0
  | .ldm1 c p u wb rn regs => 0x08100000#32 ||| place c.toBits 28 ||| placeB p 24 ||| placeB u 23 ||| placeB wb 21 ||| place rn 16 ||| place regs 0
  | .ldm3 c p u wb rn regs => 0x08508000#32 ||| place c.toBits 28 ||| placeB p 24 ||| placeB u 23 ||| placeB wb 21 ||| place rn 16 ||| place regs 0
  | .ldm2 c p u rn regs => 0x08500000#32 ||| place c.toBits 28 ||| placeB p 24 ||| placeB u 23 ||| place rn 16 ||| place regs 0
  | .stm1 c p u wb rn regs => 0x08000000#32 ||| place c.toBits 28 ||| placeB p 24 ||| placeB u 23 ||| placeB wb 21 ||| place rn 16 ||| place regs 0
  | .stm2 c p u rn regs => 0x08400000#32 ||| place c.toBits 28 ||| placeB p 24 ||| placeB u 23 ||| place rn 16 ||| place regs 0
  | .b c imm => 0x0A000000#32 ||| place c.toBits 28 ||| place imm 0
  | .bl c imm => 0x0B000000#32 ||| place c.toBits 28 ||| place imm 0
  | .mcrr c rn rd cp op crm => 0x0C400000#32 ||| place c.toBits 28 ||| place rn 16 ||| place rd 12 ||| place cp 8 ||| place op 4 ||| place crm 0
  | .mrrc c rn rd cp op crm => 0x0C500000#32 ||| place c.toBits 28 ||| place rn 16 ||| place rd 12 ||| place cp 8 ||| place op 4 ||| place crm 0
  | .stcOffset c u nBit wb rn crd cp imm => 0x0D000000#32 ||| place c.toBits 28 ||| placeB u 23 ||| placeB nBit 22 ||| placeB wb 21 ||| place rn 16 ||| place crd 12 ||| place cp 8 ||| place imm 0
  | .stcPost c u nBit rn crd cp imm => 0x0C200000#32 ||| place c.toBits 28 ||| placeB u 23 ||| placeB nBit 22 ||| place rn 16 ||| place crd 12 ||| place cp 8 ||| place imm 0
  | .stcUnindexed c nBit rn crd cp opt => 0x0C800000#32 ||| place c.toBits 28 ||| placeB nBit 22 ||| place rn 16 ||| place crd 12 ||| place cp 8 ||| place opt 0
  | .ldcOffset c u nBit wb rn crd cp imm => 0x0D100000#32 ||| place c.toBits 28 ||| placeB u 23 ||| placeB nBit 22 ||| placeB wb 21 ||| place rn 16 ||| place crd 12 ||| place cp 8 ||| place imm 0
  | .ldcPost c u nBit rn crd cp imm => 0x0C300000#32 ||| place c.toBits 28 ||| placeB u 23 ||| placeB nBit 22 ||| place rn 16 ||| place crd 12 ||| place cp 8 ||| place imm 0
  | .ldcUnindexed c nBit rn crd cp opt => 0x0C900000#32 ||| place c.toBits 28 ||| placeB nBit 22 ||| place rn 16 ||| place crd 12 ||| place cp 8 ||| place opt 0
  | .cdp c op1 crn crd cp op2 crm => 0x0E000000#32 ||| place c.toBits 28 ||| place op1 20 ||| place crn 16 ||| place crd 12 ||| place cp 8 ||| place op2 5 ||| place crm 0
  | .mcr c op1 crn rd cp op2 crm => 0x0E000010#32 ||| place c.toBits 28 ||| place op1 21 ||| place crn 16 ||| place rd 12 ||| place cp 8 ||| place op2 5 ||| place crm 0
  | .mrc c op1 crn rd cp op2 crm => 0x0E100010#32 ||| place c.toBits 28 ||| place op1 21 ||| place crn 16 ||| place rd 12 ||| place cp 8 ||| place op2 5 ||| place crm 0
  | .svc c imm => 0x0F000000#32 ||| place c.toBits 28 ||| place imm 0
  | .tMov2 rn rd => 0x00001C00#32 ||| place rn 3 ||| place rd 0
  | .tLsl1 imm rm rd => 0x00000000#32 ||| place imm 6 ||| place rm 3 ||| place rd 0
  | .tLsr1 imm rm rd => 0x00000800#32 ||| place imm 6 ||| place rm 3 ||| place rd 0
  | .tAsr1 imm rm rd => 0x00001000#32 ||| place imm 6 ||| place rm 3 ||| place rd 0
  | .tAdd3 rm rn rd => 0x00001800#32 ||| place rm 6 ||| place rn 3 ||| place rd 0
  | .tSub3 rm rn rd => 0x00001A00#32 ||| place rm 6 ||| place rn 3 ||| place rd 0
  | .tAdd1 imm rn rd => 0x00001C00#32 ||| place imm 6 ||| place rn 3 ||| place rd 0
  | .tSub1 imm rn rd => 0x00001E00#32 ||| place imm 6 ||| place rn 3 ||| place rd 0
  | .tMov1 rd imm => 0x00002000#32 ||| place rd 8 ||| place imm 0
  | .tCmp1 rn imm => 0x00002800#32 ||| place rn 8 ||| place imm 0
  | .tAdd2 rd imm => 0x00003000#32 ||| place rd 8 ||| place imm 0
  | .tSub2 rd imm => 0x00003800#32 ||| place rd 8 ||| place imm 0
  | .tAnd rm rd => 0x00004000#32 ||| place rm 3 ||| place rd 0
  | .tEor rm rd => 0x00004040#32 ||| place rm 3 ||| place rd 0
  | .tLsl2 rm rd => 0x00004080#32 ||| place rm 3 ||| place rd 0
  | .tLsr2 rm rd => 0x000040C0#32 ||| place rm 3 ||| place rd 0
  | .tAsr2 rm rd => 0x00004100#32 ||| place rm 3 ||| place rd 0
  | .tAdc rm rd => 0x00004140#32 ||| place rm 3 ||| place rd 0
  | .tSbc rm rd => 0x00004180#32 ||| place rm 3 ||| place rd 0
  | .tRor rm rd => 0x000041C0#32 ||| place rm 3 ||| place rd 0
  | .tTst rm rd => 0x00004200#32 ||| place rm 3 ||| place rd 0
  | .tNeg rm rd => 0x00004240#32 ||| place rm 3 ||| place rd 0
  | .tCmp2 rm rd => 0x00004280#32 ||| place rm 3 ||| place rd 0
  | .tCmn rm rd => 0x000042C0#32 ||| place rm 3 ||| place rd 0
  | .tOrr rm rd => 0x00004300#32 ||| place rm 3 ||| place rd 0
  | .tMul rm rd => 0x00004340#32 ||| place rm 3 ||| place rd 0
  | .tBic rm rd => 0x00004380#32 ||| place rm 3 ||| place rd 0
  | .tMvn rm rd => 0x000043C0#32 ||| place rm 3 ||| place rd 0
  | .tAdd4 h1 h2 rm rd => 0x00004400#32 ||| placeB h1 7 ||| placeB h2 6 ||| place rm 3 ||| place rd 0
  | .tCmp3 h1 h2 rm rn => 0x00004500#32 ||| placeB h1 7 ||| placeB h2 6 ||| place rm 3 ||| place rn 0
  | .tCpy rm rd => 0x00004600#32 ||| place rm 3 ||| place rd 0
  | .tMov3 h1 h2 rm rd => 0x00004600#32 ||| placeB h1 7 ||| placeB h2 6 ||| place rm 3 ||| place rd 0
  | .tBx h2 rm => 0x00004700#32 ||| placeB h2 6 ||| place rm 3
  | .tBlx2 h2 rm => 0x00004780#32 ||| placeB h2 6 ||| place rm 3
  | .tLdr3 rd imm => 0x00004800#32 ||| place rd 8 ||| place imm 0
  | .tStr2 rm rn rd => 0x00005000#32 ||| place rm 6 ||| place rn 3 ||| place rd 0
  | .tStrh2 rm rn rd => 0x00005200#32 ||| place rm 6 ||| place rn 3 ||| place rd 0
  | .tStrb2 rm rn rd => 0x00005400#32 ||| place rm 6 ||| place rn 3 ||| place rd 0
  | .tLdrsb rm rn rd => 0x00005600#32 ||| place rm 6 ||| place rn 3 ||| place rd 0
  | .tLdr2 rm rn rd => 0x00005800#32 ||| place rm 6 ||| place rn 3 ||| place rd 0
  | .tLdrh2 rm rn rd => 0x00005A00#32 ||| place rm 6 ||| place rn 3 ||| place rd 0
  | .tLdrb2 rm rn rd => 0x00005C00#32 ||| place rm 6 ||| place rn 3 ||| place rd 0
  | .tLdrsh rm rn rd => 0x00005E00#32 ||| place rm 6 ||| place rn 3 ||| place rd 0
  | .tStr1 imm rn rd => 0x00006000#32 ||| place imm 6 ||| place rn 3 ||| place rd 0
  | .tLdr1 imm rn rd => 0x00006800#32 ||| place imm 6 ||| place rn 3 ||| place rd 0
  | .tStrb1 imm rn rd => 0x00007000#32 ||| place imm 6 ||| place rn 3 ||| place rd 0
  | .tLdrb1 imm rn rd => 0x00007800#32 ||| place imm 6 ||| place rn 3 ||| place rd 0
  | .tStrh1 imm rn rd => 0x00008000#32 ||| place imm 6 ||| place rn 3 ||| place rd 0
  | .tLdrh1 imm rn rd => 0x00008800#32 ||| place imm 6 ||| place rn 3 ||| place rd 0
  | .tStr3 rd imm => 0x00009000#32 ||| place rd 8 ||| place imm 0
  | .tLdr4 rd imm => 0x00009800#32 ||| place rd 8 ||| place imm 0
  | .tAdd5 rd imm => 0x0000A000#32 ||| place rd 8 ||| place imm 0
  | .tAdd6 rd imm => 0x0000A800#32 ||| place rd 8 ||| place imm 0
  | .tAdd7 imm => 0x0000B000#32 ||| place imm 0
  | .tSub4 imm => 0x0000B080#32 ||| place imm 0
  | .tSxth rm rd => 0x0000B200#32 ||| place rm 3 ||| place rd 0
  | .tSxtb rm rd => 0x0000B240#32 ||| place rm 3 ||| place rd 0
  | .tUxth rm rd => 0x0000B280#32 ||| place rm 3 ||| place rd 0
  | .tUxtb rm rd => 0x0000B2C0#32 ||| place rm 3 ||| place rd 0
  | .tPush r regs => 0x0000B400#32 ||| placeB r 8 ||| place regs 0
  | .tPop r regs => 0x0000BC00#32 ||| placeB r 8 ||| place regs 0
  | .tSetend e => 0x0000B650#32 ||| placeB e 3
  | .tCps imod aBit iBit fBit => 0x0000B660#32 ||| placeB imod 4 ||| placeB aBit 2 ||| placeB iBit 1 ||| placeB fBit 0
  | .tRev rm rd => 0x0000BA00#32 ||| place rm 3 ||| place rd 0
  | .tRev16 rm rd => 0x0000BA40#32 ||| place rm 3 ||| place rd 0
  | .tRevsh rm rd => 0x0000BAC0#32 ||| place rm 3 ||| place rd 0
  | .tBkpt imm => 0x0000BE00#32 ||| place imm 0
  | .tStmia rn regs => 0x0000C000#32 ||| place rn 8 ||| place regs 0
  | .tLdmia rn regs => 0x0000C800#32 ||| place rn 8 ||| place regs 0
  | .tSvc imm => 0x0000DF00#32 ||| place imm 0
  | .tUndefined ignored => 0x0000DE00#32 ||| place ignored 0
  | .tB1 c imm => 0x0000D000#32 ||| place c.toBits 8 ||| place imm 0
  | .tB2 imm => 0x0000E000#32 ||| place imm 0
  | .tBlx1Suffix immHi => 0x0000E800#32 ||| place immHi 1
  | .tBlBlxPrefix imm => 0x0000F000#32 ||| place imm 0
  | .tBlSuffix imm => 0x0000F800#32 ||| place imm 0

/-- The instruction set an instruction belongs to. -/
def Instr.isa : Instr → Isa
  | .cps _ _ _ _ _ _ => .arm
  | .setend _ => .arm
  | .clrex => .arm
  | .pldImm _ _ _ => .arm
  | .pldReg _ _ _ _ _ => .arm
  | .srs _ _ _ _ => .arm
  | .rfe _ _ _ _ => .arm
  | .blxImm _ _ => .arm
  | .mcrr2 _ _ _ _ _ => .arm
  | .mrrc2 _ _ _ _ _ => .arm
  | .stc2Offset _ _ _ _ _ _ _ => .arm
  | .stc2Post _ _ _ _ _ _ => .arm
  | .stc2Unindexed _ _ _ _ _ => .arm
  | .ldc2Offset _ _ _ _ _ _ _ => .arm
  | .ldc2Post _ _ _ _ _ _ => .arm
  | .ldc2Unindexed _ _ _ _ _ => .arm
  | .cdp2 _ _ _ _ _ _ => .arm
  | .mcr2 _ _ _ _ _ _ => .arm
  | .mrc2 _ _ _ _ _ _ => .arm
  | .undefinedArm _ => .arm
  | .fmacs _ _ _ _ _ _ _ => .arm
  | .fmacd _ _ _ _ => .arm
  | .fnmacs _ _ _ _ _ _ _ => .arm
  | .fnmacd _ _ _ _ => .arm
  | .fmscs _ _ _ _ _ _ _ => .arm
  | .fmscd _ _ _ _ => .arm
  | .fnmscs _ _ _ _ _ _ _ => .arm
  | .fnmscd _ _ _ _ => .arm
  | .fmuls _ _ _ _ _ _ _ => .arm
  | .fmuld _ _ _ _ => .arm
  | .fnmuls _ _ _ _ _ _ _ => .arm
  | .fnmuld _ _ _ _ => .arm
  | .fadds _ _ _ _ _ _ _ => .arm
  | .faddd _ _ _ _ => .arm
  | .fsubs _ _ _ _ _ _ _ => .arm
  | .fsubd _ _ _ _ => .arm
  | .fdivs _ _ _ _ _ _ _ => .arm
  | .fdivd _ _ _ _ => .arm
  | .fcpys _ _ _ _ _ => .arm
  | .fcpyd _ _ _ => .arm
  | .fabss _ _ _ _ _ => .arm
  | .fabsd _ _ _ => .arm
  | .fnegs _ _ _ _ _ => .arm
  | .fnegd _ _ _ => .arm
  | .fsqrts _ _ _ _ _ => .arm
  | .fsqrtd _ _ _ => .arm
  | .fcmps _ _ _ _ _ => .arm
  | .fcmpd _ _ _ => .arm
  | .fcmpes _ _ _ _ _ => .arm
  | .fcmped _ _ _ => .arm
  | .fcmpzs _ _ _ => .arm
  | .fcmpzd _ _ => .arm
  | .fcmpezs _ _ _ => .arm
  | .fcmpezd _ _ => .arm
  | .fcvtds _ _ _ _ => .arm
  | .fcvtsd _ _ _ _ => .arm
  | .fuitos _ _ _ _ _ => .arm
  | .fuitod _ _ _ _ => .arm
  | .fsitos _ _ _ _ _ => .arm
  | .fsitod _ _ _ _ => .arm
  | .ftouis _ _ _ _ _ => .arm
  | .ftouid _ _ _ _ => .arm
  | .ftouizs _ _ _ _ _ => .arm
  | .ftouizd _ _ _ _ => .arm
  | .ftosis _ _ _ _ _ => .arm
  | .ftosid _ _ _ _ => .arm
  | .ftosizs _ _ _ _ _ => .arm
  | .ftosizd _ _ _ _ => .arm
  | .flds _ _ _ _ _ _ => .arm
  | .fldd _ _ _ _ _ => .arm
  | .fsts _ _ _ _ _ _ => .arm
  | .fstd _ _ _ _ _ => .arm
  | .fldmsIa _ _ _ _ _ _ => .arm
  | .fldmsDb _ _ _ _ _ => .arm
  | .fldmdIa _ _ _ _ _ => .arm
  | .fldmdDb _ _ _ _ => .arm
  | .fldmxIa _ _ _ _ _ => .arm
  | .fldmxDb _ _ _ _ => .arm
  | .fstmsIa _ _ _ _ _ _ => .arm
  | .fstmsDb _ _ _ _ _ => .arm
  | .fstmdIa _ _ _ _ _ => .arm
  | .fstmdDb _ _ _ _ => .arm
  | .fstmxIa _ _ _ _ _ => .arm
  | .fstmxDb _ _ _ _ => .arm
  | .fmstat _ => .arm
  | .fmsr _ _ _ _ => .arm
  | .fmrs _ _ _ _ => .arm
  | .fmdlr _ _ _ => .arm
  | .fmrdl _ _ _ => .arm
  | .fmdhr _ _ _ => .arm
  | .fmrdh _ _ _ => .arm
  | .fmxr _ _ _ => .arm
  | .fmrx _ _ _ => .arm
  | .fmdrr _ _ _ _ => .arm
  | .fmrrd _ _ _ _ => .arm
  | .fmsrr _ _ _ _ _ => .arm
  | .fmrrs _ _ _ _ _ => .arm
  | .mrs _ _ _ => .arm
  | .msrReg _ _ _ _ => .arm
  | .bx _ _ => .arm
  | .bxj _ _ => .arm
  | .blxReg _ _ => .arm
  | .clz _ _ _ => .arm
  | .qadd _ _ _ _ => .arm
  | .qsub _ _ _ _ => .arm
  | .qdadd _ _ _ _ => .arm
  | .qdsub _ _ _ _ => .arm
  | .bkpt _ => .arm
  | .smc _ _ => .arm
  | .smlaXY _ _ _ _ _ _ _ => .arm
  | .smlawY _ _ _ _ _ _ => .arm
  | .smulwY _ _ _ _ _ => .arm
  | .smlalXY _ _ _ _ _ _ _ => .arm
  | .smulXY _ _ _ _ _ _ => .arm
  | .mul _ _ _ _ _ => .arm
  | .mla _ _ _ _ _ _ => .arm
  | .umaal _ _ _ _ _ => .arm
  | .umull _ _ _ _ _ _ => .arm
  | .umlal _ _ _ _ _ _ => .arm
  | .smull _ _ _ _ _ _ => .arm
  | .smlal _ _ _ _ _ _ => .arm
  | .swp _ _ _ _ => .arm
  | .swpb _ _ _ _ => .arm
  | .strex _ _ _ _ => .arm
  | .ldrex _ _ _ => .arm
  | .strexd _ _ _ _ => .arm
  | .ldrexd _ _ _ => .arm
  | .strexb _ _ _ _ => .arm
  | .ldrexb _ _ _ => .arm
  | .strexh _ _ _ _ => .arm
  | .ldrexh _ _ _ => .arm
  | .strhImm _ _ _ _ _ _ _ _ => .arm
  | .strhReg _ _ _ _ _ _ _ => .arm
  | .ldrdImm _ _ _ _ _ _ _ _ => .arm
  | .ldrdReg _ _ _ _ _ _ _ => .arm
  | .strdImm _ _ _ _ _ _ _ _ => .arm
  | .strdReg _ _ _ _ _ _ _ => .arm
  | .ldrhImm _ _ _ _ _ _ _ _ => .arm
  | .ldrhReg _ _ _ _ _ _ _ => .arm
  | .ldrsbImm _ _ _ _ _ _ _ _ => .arm
  | .ldrsbReg _ _ _ _ _ _ _ => .arm
  | .ldrshImm _ _ _ _ _ _ _ _ => .arm
  | .ldrshReg _ _ _ _ _ _ _ => .arm
  | .nop _ => .arm
  | .yield _ => .arm
  | .nopReservedHint _ _ => .arm
  | .msrImm _ _ _ _ _ => .arm
  | .cpy _ _ _ => .arm
  | .andImm _ _ _ _ _ _ => .arm
  | .andShift _ _ _ _ _ _ _ => .arm
  | .andRegShift _ _ _ _ _ _ _ => .arm
  | .eorImm _ _ _ _ _ _ => .arm
  | .eorShift _ _ _ _ _ _ _ => .arm
  | .eorRegShift _ _ _ _ _ _ _ => .arm
  | .subImm _ _ _ _ _ _ => .arm
  | .subShift _ _ _ _ _ _ _ => .arm
  | .subRegShift _ _ _ _ _ _ _ => .arm
  | .rsbImm _ _ _ _ _ _ => .arm
  | .rsbShift _ _ _ _ _ _ _ => .arm
  | .rsbRegShift _ _ _ _ _ _ _ => .arm
  | .addImm _ _ _ _ _ _ => .arm
  | .addShift _ _ _ _ _ _ _ => .arm
  | .addRegShift _ _ _ _ _ _ _ => .arm
  | .adcImm _ _ _ _ _ _ => .arm
  | .adcShift _ _ _ _ _ _ _ => .arm
  | .adcRegShift _ _ _ _ _ _ _ => .arm
  | .sbcImm _ _ _ _ _ _ => .arm
  | .sbcShift _ _ _ _ _ _ _ => .arm
  | .sbcRegShift _ _ _ _ _ _ _ => .arm
  | .rscImm _ _ _ _ _ _ => .arm
  | .rscShift _ _ _ _ _ _ _ => .arm
  | .rscRegShift _ _ _ _ _ _ _ => .arm
  | .tstImm _ _ _ _ => .arm
  | .tstShift _ _ _ _ _ => .arm
  | .tstRegShift _ _ _ _ _ => .arm
  | .teqImm _ _ _ _ => .arm
  | .teqShift _ _ _ _ _ => .arm
  | .teqRegShift _ _ _ _ _ => .arm
  | .cmpImm _ _ _ _ => .arm
  | .cmpShift _ _ _ _ _ => .arm
  | .cmpRegShift _ _ _ _ _ => .arm
  | .cmnImm _ _ _ _ => .arm
  | .cmnShift _ _ _ _ _ => .arm
  | .cmnRegShift _ _ _ _ _ => .arm
  | .orrImm _ _ _ _ _ _ => .arm
  | .orrShift _ _ _ _ _ _ _ => .arm
  | .orrRegShift _ _ _ _ _ _ _ => .arm
  | .movImm _ _ _ _ _ => .arm
  | .movShift _ _ _ _ _ _ => .arm
  | .movRegShift _ _ _ _ _ _ => .arm
  | .bicImm _ _ _ _ _ _ => .arm
  | .bicShift _ _ _ _ _ _ _ => .arm
  | .bicRegShift _ _ _ _ _ _ _ => .arm
  | .mvnImm _ _ _ _ _ => .arm
  | .mvnShift _ _ _ _ _ _ => .arm
  | .mvnRegShift _ _ _ _ _ _ => .arm
  | .ldrtImm _ _ _ _ _ => .arm
  | .ldrtReg _ _ _ _ _ _ _ => .arm
  | .ldrbtImm _ _ _ _ _ => .arm
  | .ldrbtReg _ _ _ _ _ _ _ => .arm
  | .strtImm _ _ _ _ _ => .arm
  | .strtReg _ _ _ _ _ _ _ => .arm
  | .strbtImm _ _ _ _ _ => .arm
  | .strbtReg _ _ _ _ _ _ _ => .arm
  | .ldrImm _ _ _ _ _ _ _ => .arm
  | .ldrReg _ _ _ _ _ _ _ _ _ => .arm
  | .ldrbImm _ _ _ _ _ _ _ => .arm
  | .ldrbReg _ _ _ _ _ _ _ _ _ => .arm
  | .strImm _ _ _ _ _ _ _ => .arm
  | .strReg _ _ _ _ _ _ _ _ _ => .arm
  | .strbImm _ _ _ _ _ _ _ => .arm
  | .strbReg _ _ _ _ _ _ _ _ _ => .arm
  | .sadd16 _ _ _ _ => .arm
  | .qadd16 _ _ _ _ => .arm
  | .shadd16 _ _ _ _ => .arm
  | .uadd16 _ _ _ _ => .arm
  | .uqadd16 _ _ _ _ => .arm
  | .uhadd16 _ _ _ _ => .arm
  | .saddsubx _ _ _ _ => .arm
  | .qaddsubx _ _ _ _ => .arm
  | .shaddsubx _ _ _ _ => .arm
  | .uaddsubx _ _ _ _ => .arm
  | .uqaddsubx _ _ _ _ => .arm
  | .uhaddsubx _ _ _ _ => .arm
  | .ssubaddx _ _ _ _ => .arm
  | .qsubaddx _ _ _ _ => .arm
  | .shsubaddx _ _ _ _ => .arm
  | .usubaddx _ _ _ _ => .arm
  | .uqsubaddx _ _ _ _ => .arm
  | .uhsubaddx _ _ _ _ => .arm
  | .ssub16 _ _ _ _ => .arm
  | .qsub16 _ _ _ _ => .arm
  | .shsub16 _ _ _ _ => .arm
  | .usub16 _ _ _ _ => .arm
  | .uqsub16 _ _ _ _ => .arm
  | .uhsub16 _ _ _ _ => .arm
  | .sadd8 _ _ _ _ => .arm
  | .qadd8 _ _ _ _ => .arm
  | .shadd8 _ _ _ _ => .arm
  | .uadd8 _ _ _ _ => .arm
  | .uqadd8 _ _ _ _ => .arm
  | .uhadd8 _ _ _ _ => .arm
  | .ssub8 _ _ _ _ => .arm
  | .qsub8 _ _ _ _ => .arm
  | .shsub8 _ _ _ _ => .arm
  | .usub8 _ _ _ _ => .arm
  | .uqsub8 _ _ _ _ => .arm
  | .uhsub8 _ _ _ _ => .arm
  | .pkhbt _ _ _ _ _ => .arm
  | .pkhtb _ _ _ _ _ => .arm
  | .ssat16 _ _ _ _ => .arm
  | .usat16 _ _ _ _ => .arm
  | .ssat _ _ _ _ _ _ => .arm
  | .usat _ _ _ _ _ _ => .arm
  | .sel _ _ _ _ => .arm
  | .rev _ _ _ => .arm
  | .rev16 _ _ _ => .arm
  | .revsh _ _ _ => .arm
  | .sxtb16 _ _ _ _ => .arm
  | .sxtb _ _ _ _ => .arm
  | .sxth _ _ _ _ => .arm
  | .uxtb16 _ _ _ _ => .arm
  | .uxtb _ _ _ _ => .arm
  | .uxth _ _ _ _ => .arm
  | .sxtab16 _ _ _ _ _ => .arm
  | .sxtab _ _ _ _ _ => .arm
  | .sxtah _ _ _ _ _ => .arm
  | .uxtab16 _ _ _ _ _ => .arm
  | .uxtab _ _ _ _ _ => .arm
  | .uxtah _ _ _ _ _ => .arm
  | .smuad _ _ _ _ _ => .arm
  | .smusd _ _ _ _ _ => .arm
  | .smlad _ _ _ _ _ _ => .arm
  | .smlsd _ _ _ _ _ _ => .arm
  | .smlald _ _ _ _ _ _ => .arm
  | .smlsld _ _ _ _ _ _ => .arm
  | .smmul _ _ _ _ _ => .arm
  | .smmla _ _ _ _ _ _ => .arm
  | .smmls _ _ _ _ _ _ => .arm
  | .usad8 _ _ _ _ => .arm
  | .usada8 _ _ _ _ _ => .arm
  | .ldm1 _ _ _ _ _ _ => .arm
  | .ldm3 _ _ _ _ _ _ => .arm
  | .ldm2 _ _ _ _ _ => .arm
  | .stm1 _ _ _ _ _ _ => .arm
  | .stm2 _ _ _ _ _ => .arm
  | .b _ _ => .arm
  | .bl _ _ => .arm
  | .mcrr _ _ _ _ _ _ => .arm
  | .mrrc _ _ _ _ _ _ => .arm
  | .stcOffset _ _ _ _ _ _ _ _ => .arm
  | .stcPost _ _ _ _ _ _ _ => .arm
  | .stcUnindexed _ _ _ _ _ _ => .arm
  | .ldcOffset _ _ _ _ _ _ _ _ => .arm
  | .ldcPost _ _ _ _ _ _ _ => .arm
  | .ldcUnindexed _ _ _ _ _ _ => .arm
  | .cdp _ _ _ _ _ _ _ => .arm
  | .mcr _ _ _ _ _ _ _ => .arm
  | .mrc _ _ _ _ _ _ _ => .arm
  | .svc _ _ => .arm
  | .tMov2 _ _ => .thumb
  | .tLsl1 _ _ _ => .thumb
  | .tLsr1 _ _ _ => .thumb
  | .tAsr1 _ _ _ => .thumb
  | .tAdd3 _ _ _ => .thumb
  | .tSub3 _ _ _ => .thumb
  | .tAdd1 _ _ _ => .thumb
  | .tSub1 _ _ _ => .thumb
  | .tMov1 _ _ => .thumb
  | .tCmp1 _ _ => .thumb
  | .tAdd2 _ _ => .thumb
  | .tSub2 _ _ => .thumb
  | .tAnd _ _ => .thumb
  | .tEor _ _ => .thumb
  | .tLsl2 _ _ => .thumb
  | .tLsr2 _ _ => .thumb
  | .tAsr2 _ _ => .thumb
  | .tAdc _ _ => .thumb
  | .tSbc _ _ => .thumb
  | .tRor _ _ => .thumb
  | .tTst _ _ => .thumb
  | .tNeg _ _ => .thumb
  | .tCmp2 _ _ => .thumb
  | .tCmn _ _ => .thumb
  | .tOrr _ _ => .thumb
  | .tMul _ _ => .thumb
  | .tBic _ _ => .thumb
  | .tMvn _ _ => .thumb
  | .tAdd4 _ _ _ _ => .thumb
  | .tCmp3 _ _ _ _ => .thumb
  | .tCpy _ _ => .thumb
  | .tMov3 _ _ _ _ => .thumb
  | .tBx _ _ => .thumb
  | .tBlx2 _ _ => .thumb
  | .tLdr3 _ _ => .thumb
  | .tStr2 _ _ _ => .thumb
  | .tStrh2 _ _ _ => .thumb
  | .tStrb2 _ _ _ => .thumb
  | .tLdrsb _ _ _ => .thumb
  | .tLdr2 _ _ _ => .thumb
  | .tLdrh2 _ _ _ => .thumb
  | .tLdrb2 _ _ _ => .thumb
  | .tLdrsh _ _ _ => .thumb
  | .tStr1 _ _ _ => .thumb
  | .tLdr1 _ _ _ => .thumb
  | .tStrb1 _ _ _ => .thumb
  | .tLdrb1 _ _ _ => .thumb
  | .tStrh1 _ _ _ => .thumb
  | .tLdrh1 _ _ _ => .thumb
  | .tStr3 _ _ => .thumb
  | .tLdr4 _ _ => .thumb
  | .tAdd5 _ _ => .thumb
  | .tAdd6 _ _ => .thumb
  | .tAdd7 _ => .thumb
  | .tSub4 _ => .thumb
  | .tSxth _ _ => .thumb
  | .tSxtb _ _ => .thumb
  | .tUxth _ _ => .thumb
  | .tUxtb _ _ => .thumb
  | .tPush _ _ => .thumb
  | .tPop _ _ => .thumb
  | .tSetend _ => .thumb
  | .tCps _ _ _ _ => .thumb
  | .tRev _ _ => .thumb
  | .tRev16 _ _ => .thumb
  | .tRevsh _ _ => .thumb
  | .tBkpt _ => .thumb
  | .tStmia _ _ => .thumb
  | .tLdmia _ _ => .thumb
  | .tSvc _ => .thumb
  | .tUndefined _ => .thumb
  | .tB1 _ _ => .thumb
  | .tB2 _ => .thumb
  | .tBlx1Suffix _ => .thumb
  | .tBlBlxPrefix _ => .thumb
  | .tBlSuffix _ => .thumb

/-- The instruction that a decoding identifies, whatever becomes of its should-be bits; none where no row matches. -/
def Decoded.instr? : Decoded → Option Instr
  | .instr i => some i
  | .shouldBe i => some i
  | .bkptCond => none
  | .unallocated _ => none
  | .unallocatedThumb => none

/-- The decoder for the instruction set in force. -/
noncomputable def decodeFor (isa : Isa) (w : Word) : Decoded :=
  match isa with
  | .arm => decodeArm w
  | .thumb => decodeThumb (w.setWidth 16)

/-- The instruction this decoder reads from an opcode-table word: sixteen bits are a Thumb instruction, thirty-two an ARM
instruction. -/
noncomputable def decodeTableWord (nbits w : Nat) : Option Instr :=
  if nbits = 16 then (decodeThumb (BitVec.ofNat 16 w)).instr? else
  if nbits = 32 then (decodeArm (BitVec.ofNat 32 w)).instr? else none

end Sys2Proof
end

