-- ==== Sys2Proof/Machine/Fetch.lean ====
section
/-! DEFINITION. Fetch: what happens at an instruction boundary before an instruction runs: debug requests and interrupts
(R430, R1557, R1558, R1575), the fetch (R546, R554), vector catch and breakpoints (R417, R433, R436), the imprecise Data
Abort (R1564), in the order of R437 and R1572; and the resets (R1640 to R1643). -/

namespace Sys2Proof.Machine

/-! Debug requests and interrupts -/

/-- A Halt or EDBGRQ request enters Debug state at the first boundary at which debug is permitted (R431, decision D15). -/
def State.debugRequest (s : State) : Option Entry :=
  if !s.debugPermitted then none
  else if s.dbg.haltRequest then some .haltCommand
  else if s.pins.edbgrq then some .edbgrq
  else none

/-- Enter Debug state on a request; a Halt request is then done with. -/
def State.acceptRequest (s : State) (e : Entry) : State :=
  let t := s.enterDebug e
  { t with dbg := { t.dbg with haltRequest := t.dbg.haltRequest && e != .haltCommand } }

/-- The interrupt to take: FIQ before IRQ (R1572); DSCR[11] inhibits both (R413), and both are ignored while IRQADDRV is
HIGH (R1581). -/
def State.interrupt (s : State) : Option Exc :=
  if s.dbg.dscr.getLsbD 11 || s.pins.irqAddrV then none
  else if !s.pins.nFIQ && !s.cpsr.f then some .fiq
  else if !s.pins.nIRQ && !s.cpsr.i then some .irq
  else none

/-! The fetch -/

/-- A Prefetch Abort (R692, R1553, R1554): IFSR says why, IFAR where. -/
def State.prefetchAbort (s : State) (f : MmuFault) : State :=
  enterException (.prefetchAbort f.error.isSome)
    (s.setBankOf (s.faultWorld f.error.isSome) fun b => { b with ifsr := ifsrOf f, ifar := s.fcse (!s.isSecure) s.pc })

/-- The physical address of byte `i` of an instruction of `n` bytes: with B = 1 the halfwords of a word are numbered
backwards (R554). -/
def State.fetchPa (s : State) (pa : Word) (n i : Nat) : Word :=
  (if s.bigEndian32 && n == 2 then pa ^^^ 2 else pa) + BitVec.ofNat 32 i

/-- The key of that byte. -/
def State.fetchKey (s : State) (ns : Bool) (pa : Word) (n i : Nat) : Nat := s.byteKey true ns (s.fetchPa pa n i)

/-- A byte of the instruction is not covered by an IMB sequence. -/
def State.staleFetch (s : State) (ns : Bool) (pa : Word) (n : Nat) : Nat → Bool
  | 0 => false
  | k + 1 => s.staleFetch ns pa n k || s.isStaleCode ns (s.fcse (!s.isSecure) s.pc) (s.fetchKey ns pa n k)

/-- The fetch goes through the instruction cache, whose linefills are enabled (R308, R572, R744). -/
def State.fetchFills (s : State) (x : Translation) : Bool :=
  x.attrs.ty == .normal && x.attrs.inner != 0 && !x.attrs.shared && s.sctlr 12 && !s.cp15.cbor.getLsbD (if x.ns then 1 else 4)

/-- The request of the fetch (R795, R800) on the instruction port, of doublewords (R802): a linefill, from the doubleword of
the instruction around its line, or else the words from the instruction's up to the end of the 32-byte block. -/
def State.fetchRequest (s : State) (x : Translation) (n : Nat) : Request where
  port := .instruction
  write := false
  pa := s.fetchPa x.pa n 0 &&& (if s.fetchFills x then ~~~7#32 else ~~~3#32)
  size := 8
  beats := if s.fetchFills x then 4 else 4 - x.pa.toNat % 32 / 8
  burst := if s.fetchFills x && x.pa.extractLsb' 3 2 != 0 then .wrap else .incr
  strobes := 0
  ns := x.ns
  priv := s.privileged
  instr := true
  lock := .normal
  attrs := x.attrs

/-- The error with which the platform answers the instruction's own bytes, if the fetch reaches the platform. -/
def State.fetchError (s : State) (x : Translation) (n : Nat) : Option BusError :=
  if (s.tcmOf false x.ns x.pa).isSome then none else s.transferError (s.fetchRequest x n) (s.fetchPa x.pa n 0) n

/-- The bytes of the instruction, the first least significant. -/
def State.fetchBytes (s : State) (ns : Bool) (pa : Word) (n : Nat) : Nat → Word
  | 0 => 0
  | k + 1 => s.fetchBytes ns pa n k ||| ((Memory.read s.mem (s.fetchKey ns pa n k)).setWidth 32 <<< (8 * k))

/-- A byte of the fetch reaches a device, which answers any value (R636). -/
def State.fetchesDevice (s : State) (x : Translation) (n : Nat) : Bool :=
  (s.tcmOf false x.ns x.pa).isNone && s.reachesDevice (s.fetchRequest x n) (s.fetchPa x.pa n 0) n

/-- Fetch the instruction of `n` bytes at the PC (R546). -/
def fetch (n : Nat) : Exec Word := fun s =>
  let ns := !s.isSecure
  match s.translate ns (s.asidOf ns) (s.fcse ns s.pc) .execute s.privileged .fetch with
  | .refused r => .error (.refused r)
  | .abort f t => .error (.took (t.prefetchAbort f))
  | .ok x t =>
    match t.fetchError x n with
    | some e => .error (.took (t.prefetchAbort { status := 0b01000, domain := some x.domain, error := some e }))
    | none =>
      if t.staleFetch x.ns x.pa n n then .error (.refused .staleCode)
      else if t.fetchesDevice x n then draw t
      else .ok (t.fetchBytes x.ns x.pa n n, t)

/-! Vector catch (R417, R436) -/

/-- The bits of the VCR that have effect: in Monitor debug-mode the abort vectors are not caught (R432). -/
def State.caughtVectors (s : State) : Word :=
  if s.monitorDebug then s.dbg.vcr &&& ~~~0x18001818#32 else s.dbg.vcr

/-- One of the bits from `first` up, at vector offsets 4, 8, ..., is set and its vector is at the PC. -/
def State.catches (s : State) (bit : Nat) (vector : Word) : Bool := s.caughtVectors.getLsbD bit && s.pc == vector

/-- The vector of IRQ in the current world (R417). -/
def State.irqVector (s : State) : Word :=
  if s.sctlr 24 then (if s.isSecure then s.dbg.lastIrqSecure else s.dbg.lastIrqNonSecure)
  else s.vectorBase (!s.isSecure) + 0x18

/-- The instruction at the PC is at a vector that the VCR catches in the current world. -/
def State.vectorCaught (s : State) : Bool :=
  let v := s.vectorBase (!s.isSecure)
  let m := s.cp15.mvbar
  if s.isSecure then
    (s.catches 0 0 && !s.sctlr 13) || s.catches 1 (v + 0x04) || s.catches 2 (v + 0x08) || s.catches 3 (v + 0x0C) ||
      s.catches 4 (v + 0x10) || s.catches 6 s.irqVector || s.catches 7 (v + 0x1C) || s.catches 10 (m + 0x08) ||
      s.catches 11 (m + 0x0C) || s.catches 12 (m + 0x10) || s.catches 14 (m + 0x18) || s.catches 15 (m + 0x1C)
  else
    s.catches 25 (v + 0x04) || s.catches 26 (v + 0x08) || s.catches 27 (v + 0x0C) || s.catches 28 (v + 0x10) ||
      s.catches 30 s.irqVector || s.catches 31 (v + 0x1C)

/-! Breakpoints (R422, R433) -/

/-- A byte lane of the instruction at an MVA is selected by a control register. -/
def State.laneHit (s : State) (c a : Word) : Bool :=
  if s.thumb then
    if a.getLsbD 1 != s.bigEndian32 then c.extractLsb' 7 2 != 0 else c.extractLsb' 5 2 != 0
  else c.extractLsb' 5 4 != 0

/-- Breakpoint pair `k` gives an event at the PC; in Monitor debug-mode privileged code is spared the unlinked context ID
and the mismatch kinds (R432). Of an unlinked context ID breakpoint BCR[8:5] counts too (R421; DEDUCED, log 83: the cases of
R433 leave the field out). -/
def State.breaks (s : State) (k : Fin 6) : Bool :=
  let c := s.dbg.bcr[k]
  let a := s.fcse (!s.isSecure) s.pc
  let lanes := s.laneHit c a
  let addrHit := (a >>> 2 == s.dbg.bvr[k] >>> 2) && lanes
  let number := c.extractLsb' 16 4
  let linked := s.linked number && number.toNat != k.val
  let spared := s.monitorDebug && s.privileged
  let event : Bool :=
    if c.extractLsb' 20 3 = 0b000#3 then addrHit
    else if c.extractLsb' 20 3 = 0b001#3 then addrHit && linked
    else if c.extractLsb' 20 3 = 0b010#3 then !spared && lanes && s.dbg.bvr[k] == s.bank.contextId
    else if c.extractLsb' 20 3 = 0b100#3 then !spared && !addrHit
    else if c.extractLsb' 20 3 = 0b101#3 then !spared && !addrHit && linked
    else false
  c.getLsbD 0 && event && s.worldOk (c.extractLsb' 14 2) && privOk (c.extractLsb' 1 2) s.privileged

/-- The debug event at the instruction about to run: vector catch before breakpoint (R437, decision D16). -/
def State.fetchEvent (s : State) : Option Entry :=
  if !(s.haltingDebug || s.monitorDebug) then none
  else if s.vectorCaught then some .vectorCatch
  else if (List.finRange 6).any s.breaks then some .breakpoint
  else none

/-! The imprecise Data Abort (R1555, R1564) -/

/-- Take the pending one: the FAR is zero, in the world whose access caused it, or with SCR.EA in the Secure one (R634,
R692). -/
def State.takeImprecise (s : State) (p : PendingAbort) : State :=
  let t := s.setBankOf (!p.secure && !s.cp15.scr.getLsbD 3) fun b =>
    { b with far := 0, dfsr := dfsrOf { status := 0b10110, domain := none, error := some p.error } p.write }
  enterException (.dataAbort true) { t with pendingAbort := none }

/-! The boundary -/

/-- Whether the PC is a multiple of the instruction length (R54). -/
def State.pcAligned (s : State) : Bool := if s.cpsr.t then !s.pc.getLsbD 0 else s.pc.extractLsb' 0 2 == 0

/-- The instruction at the PC is committed for execution (R468). -/
def State.commit (s : State) : State :=
  { s with jumped := false, wrapped := false, dbg := { s.dbg with sample := s.pcSample } }

/-- The instruction is BKPT. -/
def isBkpt : Decoded → Bool
  | .instr (.bkpt _) | .instr (.tBkpt _) => true
  | _ => false

/-- The pending imprecise abort that is taken before the instruction that was fetched (R1564). A BKPT that is a debug event
ranks with the Prefetch Abort, above the abort (R437); one that is an exception ranks below it (R1572): DEDUCED (log 17). -/
def State.abortBefore (s : State) (d : Decoded) : Option PendingAbort :=
  if s.cpsr.a || (isBkpt d && !s.cpsr.j && s.breaksOnBkpt) then none else s.pendingAbort

/-- From the boundary to the decoded instruction, where nothing comes between: in the order of R437 and R1572. With J = 1
and T = 1 the next instruction is Undefined (R43, R1540); Jazelle state is refused. -/
noncomputable def nextInstruction : Exec Decoded := do
  let request ← look State.debugRequest
  let interrupt ← look State.interrupt
  let jazelle ← look fun s => s.cpsr.j
  let thumb ← look fun s => s.cpsr.t
  let aligned ← look State.pcAligned
  match request, interrupt with
  | some e, _ => endWith fun s => s.acceptRequest e
  | none, some x => endWith (enterException x)
  | none, none =>
    if jazelle && !thumb then refuse .jazelle
    else if !aligned then fun _ => .error (.fault .misalignedPc)
    else do
      let w ← fetch (if thumb then 2 else 4)
      let event ← look State.fetchEvent
      let d := decodeFor (if thumb then .thumb else .arm) w
      let abort ← look fun s => s.abortBefore d
      match event, abort with
      | some e, _ => endWith fun s => s.instructionEvent e
      | none, some p => endWith fun s => s.takeImprecise p
      | none, none =>
        if jazelle then takeUndefined
        else do
          update State.commit
          pure d

/-! Reset (R1550, R1640 to R1643) -/

/-- A status register field with an unspecified value. -/
def openPsr (p : Psr) (w : Word) : Psr :=
  { p.setNZCV (w.extractLsb' 28 4) with q := w.getLsbD 27, ge := w.extractLsb' 16 4 }

/-- What the power-on and the processor reset share, with nVFPRESETIN: what has no reset value is any value. Memory, the
TCMs and the RAMs of the data cache stay; no line counts, since the Master Valid bits are 0 (R1643). -/
def State.coreReset (s : State) : State :=
  let free (k : Nat) : Word := Config.freeWord (s.draws + k)
  let mask (w : Word) : Word := w &&& psrMask
  let r := State.resetWith s.pins
  let dma (d : DmaChannel) (k : Nat) : DmaChannel :=
    { d with intStart := free k, extStart := free (k + 1), intEnd := free (k + 2), context := free (k + 3) }
  { r with
    gpr := Vector.ofFn fun k => free k.val
    cpsr := openPsr r.cpsr (free 32)
    spsr := { fiq := mask (free 33), irq := mask (free 34), svc := mask (free 35), mon := mask (free 36),
              abt := mask (free 37), und := mask (free 38) }
    vfp := { r.vfp with s := Vector.ofFn fun k => free (40 + k.val), fpinst2 := free 39 }
    cp15 := { r.cp15 with
      dma := #v[dma DmaChannel.reset 72, dma DmaChannel.reset 76]
      tlbLock := Vector.ofFn fun k =>
        { va := lockVaWord (free (80 + k.val)), pa := lockPaWord (free (88 + k.val)) &&& ~~~1#32
          attr := lockAttrWord (free (96 + k.val)) } }
    dbg := s.dbg
    mem := s.mem
    dcache := s.dcache
    transfers := s.transfers
    irqAcks := s.irqAcks
    draws := s.draws + 104 }

/-- The processor reset (R1642): the debug registers stay, and Debug state is left. DESIGN CHOICE (log 106): a Halt request
that is pending stays pending. -/
def State.processorReset (s : State) : State :=
  s.coreReset.setDebug fun d =>
    { d with dscr := (d.dscr &&& ~~~0x80001#32) ||| 2, instCompl := true, watchHit := none }

/-- The power-on reset (R1642, R1643): the debug registers too, the WFAR to any value (R416 and R1640 before the summary
table of R220, which has 0: DEDUCED, log 79), but not the DBGTAP controller. External memory stays, and
so do the RAMs of the data cache, as at an exit from Dormant mode (R1601), with no line that counts; what the TCMs hold is
supplied by the host, as bytes under their keys. DESIGN CHOICE (log 106): a pending Halt request is dropped. -/
def State.powerOnReset (s : State) (tcm : List Host.Cell) : State :=
  let t := s.coreReset
  let free (k : Nat) : Word := Config.freeWord (t.draws + k)
  { t with
    dbg := { Debug.reset with
      rdtr := free 0, wdtr := free 1, wfar := free 2, itr := free 3
      bvr := Vector.ofFn fun k => free (4 + k.val) &&& (Cp14.bvr k).bits
      wvr := Vector.ofFn fun k => free (10 + k.val) &&& (Cp14.wvr k).bits
      tapInstr := s.dbg.tapInstr, tapChain := s.dbg.tapChain }
    mem := (tcm.filter fun c => isTcmKey c.1).foldl (fun m c => Memory.write m c.1 c.2)
      (s.mem.filter fun c => !isTcmKey c.1)
    draws := t.draws + 12 }

/-- The VFP reset alone (R1642, R1640 part C). -/
def State.vfpReset (s : State) : State :=
  { s with
    vfp := { Vfp.reset with
      s := Vector.ofFn fun k => Config.freeWord (s.draws + k.val), fpinst2 := Config.freeWord (s.draws + 32) }
    draws := s.draws + 33 }

end Sys2Proof.Machine
end

