-- ==== Sys2Proof/Machine/Run.lean ====
section
/-! DEFINITION. Run: one step of the machine: the DMA engine, the boundary, one instruction, the watchpoint it triggered,
and the performance counters (R355 to R358, R434, R784). -/

namespace Sys2Proof.Machine

/-! The performance counters -/

/-- The branch instructions (R358, event 0x05); the first half of a Thumb BL is none. -/
def isBranch : Instr → Bool
  | .b _ _ => true
  | .bl _ _ => true
  | .blxImm _ _ => true
  | .bx _ _ => true
  | .bxj _ _ => true
  | .blxReg _ _ => true
  | .tB1 _ _ => true
  | .tB2 _ => true
  | .tBx _ _ => true
  | .tBlx2 _ _ => true
  | .tBlSuffix _ => true
  | .tBlx1Suffix _ => true
  | _ => false

/-- How often an event happened in a step from `s` to `t` that took some cycles and executed this instruction, if any
(R358): events that depend on the microarchitecture happen `other` times (decision D13). DESIGN CHOICE (log 21): every
instruction that has been decoded counts as executed, one whose condition fails, or that ends in an exception, too: N24 of
91_not_in_source.md leaves it open. -/
def eventCount (e : BitVec 8) (s t : State) (i : Option Instr) (cycles other : Nat) : Nat :=
  if e = 0x07 then i.isSome.toNat
  else if e = 0x05 then (i.any isBranch).toNat
  else if e = 0x0D then (i.isSome && t.jumped && t.cpsr.mode == s.cpsr.mode).toNat
  else if e = 0xFF then cycles
  else other

/-- Add to a counter: its new value, and its overflow flag at a bit of the PMNC. -/
def addCount (old : Word) (n bit : Nat) : Word × Word :=
  (BitVec.ofNat 32 (old.toNat + n), bitAt (decide (2 ^ 32 ≤ old.toNat + n)) bit)

/-- The counters after a step from `s` to `t` (R355 to R357): the cycle counter always, the others outside Debug state
where non-invasive debug is permitted. DESIGN CHOICE (log 108): the cycles counted towards the next 64 stay while D = 0. -/
def State.counted (t s : State) (i : Option Instr) (cycles other0 other1 : Nat) : State :=
  let c := t.cp15
  let ticks := if c.pmnc.getLsbD 3 then (c.ccntPrescale.toNat + cycles) / 64 else cycles
  let on := !s.halted && s.tracePermitted
  let n0 := if on then eventCount (c.pmnc.extractLsb' 20 8) s t i cycles other0 else 0
  let n1 := if on then eventCount (c.pmnc.extractLsb' 12 8) s t i cycles other1 else 0
  let (cc, fc) := addCount c.ccnt ticks 10
  let (c0, f0) := addCount c.pmn[0] n0 8
  let (c1, f1) := addCount c.pmn[1] n1 9
  let new := fc ||| f0 ||| f1
  { t with cp15 := { c with
      ccnt := cc
      ccntPrescale := if c.pmnc.getLsbD 3 then BitVec.ofNat 6 (c.ccntPrescale.toNat + cycles) else c.ccntPrescale
      pmn := #v[c0, c1]
      pmnc := c.pmnc ||| new
      pmuInterrupt := c.pmuInterrupt || (new &&& (c.pmnc <<< 4)) != 0 } }

/-- Count a step, where the counters were enabled before it and still are: the cycles are a free value. -/
def State.count (t s : State) (i : Option Instr) : State :=
  if s.cp15.pmnc.getLsbD 0 && t.cp15.pmnc.getLsbD 0 then
    let free (k : Nat) : Nat := ((Config.freeWord (t.draws + k)).extractLsb' 0 16).toNat
    { t with draws := t.draws + 3 }.counted s i (free 0) (free 1) (free 2)
  else t

/-! One instruction -/

/-- The meaning of what was decoded: should-be bits that are not as they should be are refused (R845, U54), as is BKPT
under a condition (R825); what no row matches is Undefined where its condition passes (R844). -/
def execDecoded (d : Decoded) (s : State) : Host.Outcome State Fault Refusal :=
  match d with
  | .instr i => exec i s
  | .shouldBe _ => .refused .unpredictableEncoding
  | .bkptCond => .refused .unpredictableEncoding
  | .unallocated c => outcome (conditional c takeUndefined) s
  | .unallocatedThumb => outcome takeUndefined s

/-- Execute: the meaning from state `t`, the watchpoint event at its end, the counters of the step that began in `s`. A step
that has run past address 0xFFFFFFFF is refused (U3). -/
def runDecoded (s t : State) (d : Decoded) : Host.Outcome State Fault Refusal :=
  match execDecoded d t with
  | .next u => if u.wrapped then .refused .addressWrap else .next ((t.watchpointEvent u).count s d.instr?)
  | .fault f => .fault f
  | .refused r => .refused r

/-- A step that executes no instruction. -/
def stopped (s : State) : Stop → Host.Outcome State Fault Refusal
  | .took t => .next (t.count s none)
  | .fault f => .fault f
  | .refused r => .refused r

/-- One step, the DMA engine apart. In Debug state no instruction is fetched (R447). -/
noncomputable def coreStep (s t : State) : Host.Outcome State Fault Refusal :=
  if t.halted then .next (t.count s none)
  else
    match nextInstruction t with
    | .error e => stopped s e
    | .ok (d, u) => runDecoded s u d

/-- One step (R784: the DMA engine may move between any two instructions). -/
noncomputable def machineStep (s : State) : Host.Outcome State Fault Refusal :=
  match dmaInterval s with
  | .error e => stopped s e
  | .ok (_, t) => coreStep s t

/-! The debugger's instructions -/

/-- Issue (R464, R470): in Debug state the debugger's ARM instruction is executed at once; without effect where it may not
be issued. Each one reads its own free value for the PC (R451). -/
noncomputable def State.debuggerIssue (s : State) (w : Word) : Host.Outcome State Fault Refusal :=
  if s.mayIssue then
    let t := { s with draws := s.draws + 1, jumped := false, wrapped := false
                      dbg := { s.dbg with itr := w, instCompl := false } }
    match runDecoded s t (decodeFor .arm w) with
    | .next u => .next (u.setDebug fun d => { d with instCompl := true })
    | .fault f => .fault f
    | .refused r => .refused r
  else .next s

/-! Placing an instruction -/

/-- Write the low `n` bytes of a word at the physical address from which an instruction of `n` bytes is fetched, as if
they had always been there. -/
def State.placeBytes (s : State) (ns : Bool) (pa w : Word) (n : Nat) : Nat → State
  | 0 => s
  | k + 1 =>
    let t := s.placeBytes ns pa w n k
    let key := s.fetchKey ns pa n k
    { t with
      mem := Memory.write t.mem key (w.extractLsb' (8 * k) 8)
      codeStale := t.codeStale.filter fun c => c.key != key }

/-- The state whose next step fetches the low `n` bytes of a word as an instruction: Thumb state where `n` is 2. -/
def State.placeInstruction (s : State) (w : Word) (n : Nat) : State :=
  let s := { s with cpsr := { s.cpsr with t := n == 2, j := false }, pc := if n == 2 then s.pc &&& ~~~1#32 else s.pc &&& ~~~3#32 }
  let ns := !s.isSecure
  match s.translate ns (s.asidOf ns) (s.fcse ns s.pc) .execute s.privileged .fetch with
  | .ok x _ => s.placeBytes x.ns x.pa w n n
  | .abort _ _ => s
  | .refused _ => s

end Sys2Proof.Machine
end

