-- ==== Sys2Proof/Machine/Step.lean ====
section
/-! DEFINITION. Step: the step function, and the state in which a given instruction comes next. -/

namespace Sys2Proof.Machine

/-- One step of the machine: see Run. -/
noncomputable def step (s : State) : Host.Outcome State Fault Refusal := Sys2Proof.Machine.machineStep s

/-- The state with an instruction of `nbits` bits stored where the next step fetches it: sixteen bits are a Thumb
instruction, thirty-two an ARM instruction. -/
def State.withFetchWord (s : State) (nbits w : Nat) : State := s.placeInstruction (BitVec.ofNat 32 w) (nbits / 8)

end Sys2Proof.Machine
end

