-- ==== Sys2Proof/Safety.lean ====
section
/-! DEFINITION. Safety: what a well-behaved state and a well-behaved run are, and the words in which the claims of the
certificates are stated. -/

namespace Sys2Proof.Machine

/-! The invariant -/

/-- The three vector bases are multiples of 32 (R340 to R342), and of the FCSE PID Registers only the process ID is not
zero (R345). -/
def State.basesAligned (s : State) : Bool :=
  s.secure.vbar.extractLsb' 0 5 == 0 && s.nonSecure.vbar.extractLsb' 0 5 == 0 && s.cp15.mvbar.extractLsb' 0 5 == 0 &&
    s.secure.fcse.extractLsb' 0 25 == 0 && s.nonSecure.fcse.extractLsb' 0 25 == 0

/-- The reserved bits of every saved status register are zero (R58). -/
def Spsrs.reservedZero (r : Spsrs) : Bool :=
  [r.fiq, r.irq, r.svc, r.mon, r.abt, r.und].all fun w => w &&& ~~~psrMask == 0

/-- What holds in every state that a run from reset reaches: the memory is in canonical form; the vector bases and the
FCSE PIDs are aligned and the saved status registers have no reserved bit; no watchpoint is left over from an
instruction; outside Debug state the PC is a multiple of the instruction length (R54). -/
structure State.Inv (s : State) : Prop where
  memory : Memory.wf s.mem = true
  bases : s.basesAligned = true
  saved : s.spsr.reservedZero = true
  watch : s.dbg.watchHit = none
  pc : s.halted = true ∨ s.pcAligned = true

/-! A safe step -/

/-- A run has not stopped with a fault. The refusals are not faults: they say that the model gives no meaning. -/
def State.safeStep (s : State) : Prop := ∀ f, step s ≠ .fault f

/-! Words of the claims -/

/-- Nothing stands between the boundary and the next instruction: no DMA transfer runs, and there is no debug request, no
interrupt, no Jazelle state and no misaligned PC. -/
def State.quiet (s : State) : Bool :=
  !s.halted && s.running.isNone && s.debugRequest.isNone && s.interrupt.isNone && !s.cpsr.j && s.pcAligned

/-- No vector catch, breakpoint or unmasked imprecise abort stops the instruction that has been fetched. -/
def State.clear (s : State) : Bool := s.fetchEvent.isNone && (s.cpsr.a || s.pendingAbort.isNone)

/-- The instruction set in force. -/
def State.isa (s : State) : Isa := if s.cpsr.t then .thumb else .arm

/-- The state after a data-processing instruction that writes Rd: the result, the flags where S is set, and the PC. -/
def State.done (s : State) (sf : Bool) (rd : RegNo) (r : Word) (flags : Psr) : State :=
  (if sf then (s.setReg rd r).setFlags flags else s.setReg rd r).next

/-- The memory is plain: the MMU of the current world is off and so is TEX remap, so that the data cache takes no part; no
TCM is enabled, nothing answers an error, there are no devices, data are little-endian, and of the FCSE PID Register only
the process ID is not zero. -/
def State.plainMemory (s : State) : Bool :=
  !s.sctlr 0 && !s.sctlr 28 && !s.cp15.dtcm[0].region.getLsbD 0 && !s.cp15.dtcm[1].region.getLsbD 0 &&
    !s.cp15.itcm[0].region.getLsbD 0 && !s.cp15.itcm[1].region.getLsbD 0 && s.pins.errors.isEmpty &&
    s.pins.devices.isEmpty && s.bank.ppmr == 0 && s.bank.fcse.extractLsb' 0 25 == 0 && !s.cpsr.e && !s.bigEndian32

/-- The key of the byte at an address of plain memory (FCSE apart, R541). -/
def State.plainKey (s : State) (va : Word) : Nat := s.extKey (!s.isSecure) (s.fcse (!s.isSecure) va)

/-- The byte, and the little-endian word, at an address of plain memory. -/
def State.plainByte (s : State) (va : Word) : Byte := Memory.read s.mem (s.plainKey va)
def State.plainWord (s : State) (va : Word) : Word :=
  s.plainByte (va + 3) ++ s.plainByte (va + 2) ++ s.plainByte (va + 1) ++ s.plainByte va

/-- The state in which a piece at an address is translated: what `readPiece` and `writePiece` note first. -/
def State.pieceState (s : State) (p : Acc) (va : Word) (n : Nat) : State := (s.noteWatch p va n).notePast p va

/-- The keys of the bytes that a store of single bytes reaches, each through its own translation. -/
def splitKeys (p : Acc) (va : Word) (s : State) : List Byte → List Nat
  | [] => []
  | b :: bs =>
    match translateData p va true (s.pieceState p va 1), writePiece p va [b] true s with
    | .ok (x, t), .ok (_, u) => t.pieceKey x 0 :: splitKeys p (va + 1) u bs
    | .ok (x, t), .error _ => [t.pieceKey x 0]
    | .error _, _ => []

/-- The keys of the bytes that `memWrite` reaches: those of the aligned address, or those of the single bytes. -/
def storedKeys (p : Acc) (addr : Word) (n : Nat) (v : Word) (s : State) : List Nat :=
  match alignData p addr s with
  | .ok ((a, true), t) => splitKeys { p with first := a } a t (valueBytes t.bigEndian n v)
  | .ok ((a, false), t) =>
    match translateData (p.keepLow addr a) a false (t.pieceState (p.keepLow addr a) a n) with
    | .ok (x, u) => (List.range n).map (u.pieceKey x)
    | .error _ => []
  | .error _ => []

/-- The keys of the bytes that storing words upwards from an aligned address reaches. -/
def wordKeys (p : Acc) (a : Word) (s : State) : List Word → List Nat
  | [] => []
  | w :: ws =>
    match translateData p a false (s.pieceState p a 4), writeWordAt p a w s with
    | .ok (x, t), .ok (_, u) => (List.range 4).map (t.pieceKey x) ++ wordKeys p (a + 4) u ws
    | .ok (x, t), .error _ => (List.range 4).map (t.pieceKey x)
    | .error _, _ => []

/-- The data cache holds a line with this byte of external memory. -/
def State.holds (s : State) (key : Nat) : Bool :=
  s.dcache.any fun l => (List.range 32).any fun i => s.extKey l.ns (l.pa + BitVec.ofNat 32 i) == key

/-- The vectors of the exceptions an instruction can take, in the current world or in Secure Monitor mode. -/
def State.isVector (s : State) (a : Word) : Bool :=
  [0x04#32, 0x08, 0x0C, 0x10].any fun o => a == s.vectorBase (!s.isSecure) + o || a == s.cp15.mvbar + o

/-! The states after an instruction that completes -/

/-- After an instruction that only writes one register. -/
def State.wrote (s : State) (rd : RegNo) (r : Word) : State := (s.setReg rd r).next

/-- After a logical opcode: N and Z of the result, C of the shifter (R901). -/
def State.logicalDone (s : State) (sf : Bool) (rd : RegNo) (r : Word) (b : Shifted) : State :=
  s.done sf rd r (s.cpsr.logical r b.carry)

/-- After an arithmetic opcode: N and Z of the result, the carry and the overflow of the sum (R901). -/
def State.sumDone (s : State) (sf : Bool) (rd : RegNo) (r : Sum) : State := s.done sf rd r.value (s.cpsr.arithmetic r)

/-- After an opcode that only sets flags. -/
def State.flagged (s : State) (p : Psr) : State := (s.setFlags p).next

/-- After a multiply: N and Z of the result where S is set (R962). -/
def State.mulDone (s : State) (sf : Bool) (rd : RegNo) (r : Word) : State := s.done sf rd r (s.cpsr.setNZ r)

/-- After a long multiply (R962). -/
def State.longDone (s : State) (sf : Bool) (hi lo : RegNo) (r : DWord) : State :=
  let t := (s.setReg lo (r.extractLsb' 0 32)).setReg hi (r.extractLsb' 32 32)
  (if sf then t.setFlags (s.cpsr.setNZ64 r) else t).next

/-- After an instruction that sets the Q flag where its result did not fit (R60). -/
def State.stickyDone (s : State) (rd : RegNo) (r : Word) (q : Bool) : State :=
  ((s.setReg rd r).setFlags (s.cpsr.stickQ q)).next

/-- After a parallel addition or subtraction: the GE bits only where the prefix writes them (R1023). -/
def State.lanesDone (s : State) (rd : RegNo) (r : Word × BitVec 4) (writesGe : Bool) : State :=
  (if writesGe then (s.setReg rd r.1).setFlags { s.cpsr with ge := r.2 } else s.setReg rd r.1).next

/-- The base register written back, where the addressing mode does that. -/
def State.based (s : State) (rn : RegNo) : Option Word → State
  | none => s
  | some v => s.setReg rn v

/-- A data access of an instruction that loads, and of one that stores. -/
def loadOf (ty : AccType) (priv : Bool) : Acc := { ty := ty, write := false, priv := priv }
def storeOf (ty : AccType) (priv : Bool) : Acc := { ty := ty, write := true, priv := priv }

/-- A branch that takes the instruction set from bit 0 of the target (R1121); bits [1:0] are not 0b10. -/
def State.interwork (s : State) (v : Word) : State :=
  if v.getLsbD 0 then { s with cpsr := { s.cpsr with t := true } }.branchTo (v &&& ~~~1#32)
  else { s with cpsr := { s.cpsr with t := false } }.branchTo v

/-- After a return from an exception: the CPSR, and the PC without the low bits that the instruction set does not have
(R905). -/
def State.returned (s : State) (p : Psr) (target : Word) : State :=
  (s.setCpsr p).branchTo (if p.t then target &&& ~~~1#32 else target &&& ~~~3#32)

/-- The VFP11 may be used: the world, the access field, the enable bit, and no exception pending (R499, R528). -/
def State.vfpUsable (s : State) (cp11 : Bool) : Bool :=
  (s.isSecure || (s.cp15.nsacr.getLsbD 10 && s.cp15.nsacr.getLsbD 11)) &&
    (s.cpAccess cp11 == 0b11#2 || (s.cpAccess cp11 == 0b01#2 && s.privileged)) && s.vfp.fpexc.getLsbD 30 &&
    !s.vfp.fpexc.getLsbD 31

/-- A normal value is the magnitude `num / den`, of that sign, rounded: with `q` its significand and one unit of that as the
scale, the magnitude is at most half a unit away, and half a unit only where `q` is even; or it is less than a unit above,
or below. Below a power of two the units are half as long. Comparisons of natural numbers only. -/
def Prec.nearby (p : Prec) (mode : Rounding) (neg : Bool) (num den : Nat) (v : DWord) : Bool :=
  let q := p.sig v
  let unit := 2 ^ (p.exp v).toNat * den
  let x := num * 2 ^ (-(p.exp v)).toNat
  let err := (x - q * unit) + (q * unit - x)
  let ulp := if x < 2 ^ p.frac * unit then unit else 2 * unit
  p.isNormal v && p.negative v == neg &&
    match mode with
    | .nearest => decide (4 * err < ulp) || (decide (4 * err = ulp) && q % 2 == 0)
    | .zero => decide (q * unit ≤ x) && decide (2 * err < ulp)
    | .plus => decide (if neg then q * unit ≤ x else x ≤ q * unit) && decide (2 * err < ulp)
    | .minus => decide (if neg then x ≤ q * unit else q * unit ≤ x) && decide (2 * err < ulp)

/-- After an operation of the VFP11: the result put where it goes and its flags accumulated, or the bounce recorded. -/
def State.settled (s : State) (word : Word) (put : DWord → State → State) : Verdict → State
  | .done r => ((put r.bits s).setFpscr ((put r.bits s).vfp.fpscr ||| r.flags)).next
  | .bounce f => (s.enterExceptional word f 0).next

/-- `Iterate` of R1444 for iterations `i` to `i + left - 1` of `ShortVector` (R502), in order, `d`, `n` and `m` being the
registers of an iteration: each completed one writes its destination and accumulates its flags; a bounce records the word with
the registers of its iteration and the number of those after it, and ends the rest (R529). -/
def State.iterated (s : State) (p : Prec) (op : FpOp) (base : Word) (d n m : Nat → BitVec 5) (i : Nat) : Nat → State
  | 0 => s
  | left + 1 =>
    match op.verdict p s.vfp.fpscr (s.fp p (d i)) (s.fp p (n i)) (s.fp p (m i)) with
    | .bounce f =>
      s.enterExceptional
        (base ||| fdField p (d i) ||| (if op = .sqrt then 0 else fnField p (n i)) ||| fmField p (m i)) f left
    | .done r =>
      ((s.setFp p (d i) r.bits).setFpscr ((s.setFp p (d i) r.bits).vfp.fpscr ||| r.flags)).iterated p op base d n m
        (i + 1) left

/-- After a compare. -/
def State.compared (s : State) (p : Prec) (signal : Bool) (word : Word) (a b : DWord) : State :=
  s.settled word (fun r t => t.setFpscr ((t.vfp.fpscr &&& 0x0FFFFFFF#32) ||| (r.setWidth 32 <<< 28)))
    (compareVerdict signal p s.vfp.fpscr a b)

/-- Privileged use of CP15 in the Secure world, with CP15SDISABLE LOW and no DMA transfer under way. -/
def State.secureAdmin (s : State) : Bool := s.privileged && s.isSecure && !s.pins.cp15sdisable && !s.dmaBusy

/-- The condition field of an instruction; none of those that execute unconditionally. The hints carry a condition that
has no effect, and so does not count. -/
def condOf? : Instr → Option Cond
  | .cps _ _ _ _ _ _ => none
  | .setend _ => none
  | .clrex => none
  | .pldImm _ _ _ => none
  | .pldReg _ _ _ _ _ => none
  | .srs _ _ _ _ => none
  | .rfe _ _ _ _ => none
  | .blxImm _ _ => none
  | .mcrr2 _ _ _ _ _ => none
  | .mrrc2 _ _ _ _ _ => none
  | .stc2Offset _ _ _ _ _ _ _ => none
  | .stc2Post _ _ _ _ _ _ => none
  | .stc2Unindexed _ _ _ _ _ => none
  | .ldc2Offset _ _ _ _ _ _ _ => none
  | .ldc2Post _ _ _ _ _ _ => none
  | .ldc2Unindexed _ _ _ _ _ => none
  | .cdp2 _ _ _ _ _ _ => none
  | .mcr2 _ _ _ _ _ _ => none
  | .mrc2 _ _ _ _ _ _ => none
  | .undefinedArm _ => none
  | .fmacs c _ _ _ _ _ _ => some c
  | .fmacd c _ _ _ => some c
  | .fnmacs c _ _ _ _ _ _ => some c
  | .fnmacd c _ _ _ => some c
  | .fmscs c _ _ _ _ _ _ => some c
  | .fmscd c _ _ _ => some c
  | .fnmscs c _ _ _ _ _ _ => some c
  | .fnmscd c _ _ _ => some c
  | .fmuls c _ _ _ _ _ _ => some c
  | .fmuld c _ _ _ => some c
  | .fnmuls c _ _ _ _ _ _ => some c
  | .fnmuld c _ _ _ => some c
  | .fadds c _ _ _ _ _ _ => some c
  | .faddd c _ _ _ => some c
  | .fsubs c _ _ _ _ _ _ => some c
  | .fsubd c _ _ _ => some c
  | .fdivs c _ _ _ _ _ _ => some c
  | .fdivd c _ _ _ => some c
  | .fcpys c _ _ _ _ => some c
  | .fcpyd c _ _ => some c
  | .fabss c _ _ _ _ => some c
  | .fabsd c _ _ => some c
  | .fnegs c _ _ _ _ => some c
  | .fnegd c _ _ => some c
  | .fsqrts c _ _ _ _ => some c
  | .fsqrtd c _ _ => some c
  | .fcmps c _ _ _ _ => some c
  | .fcmpd c _ _ => some c
  | .fcmpes c _ _ _ _ => some c
  | .fcmped c _ _ => some c
  | .fcmpzs c _ _ => some c
  | .fcmpzd c _ => some c
  | .fcmpezs c _ _ => some c
  | .fcmpezd c _ => some c
  | .fcvtds c _ _ _ => some c
  | .fcvtsd c _ _ _ => some c
  | .fuitos c _ _ _ _ => some c
  | .fuitod c _ _ _ => some c
  | .fsitos c _ _ _ _ => some c
  | .fsitod c _ _ _ => some c
  | .ftouis c _ _ _ _ => some c
  | .ftouid c _ _ _ => some c
  | .ftouizs c _ _ _ _ => some c
  | .ftouizd c _ _ _ => some c
  | .ftosis c _ _ _ _ => some c
  | .ftosid c _ _ _ => some c
  | .ftosizs c _ _ _ _ => some c
  | .ftosizd c _ _ _ => some c
  | .flds c _ _ _ _ _ => some c
  | .fldd c _ _ _ _ => some c
  | .fsts c _ _ _ _ _ => some c
  | .fstd c _ _ _ _ => some c
  | .fldmsIa c _ _ _ _ _ => some c
  | .fldmsDb c _ _ _ _ => some c
  | .fldmdIa c _ _ _ _ => some c
  | .fldmdDb c _ _ _ => some c
  | .fldmxIa c _ _ _ _ => some c
  | .fldmxDb c _ _ _ => some c
  | .fstmsIa c _ _ _ _ _ => some c
  | .fstmsDb c _ _ _ _ => some c
  | .fstmdIa c _ _ _ _ => some c
  | .fstmdDb c _ _ _ => some c
  | .fstmxIa c _ _ _ _ => some c
  | .fstmxDb c _ _ _ => some c
  | .fmstat c => some c
  | .fmsr c _ _ _ => some c
  | .fmrs c _ _ _ => some c
  | .fmdlr c _ _ => some c
  | .fmrdl c _ _ => some c
  | .fmdhr c _ _ => some c
  | .fmrdh c _ _ => some c
  | .fmxr c _ _ => some c
  | .fmrx c _ _ => some c
  | .fmdrr c _ _ _ => some c
  | .fmrrd c _ _ _ => some c
  | .fmsrr c _ _ _ _ => some c
  | .fmrrs c _ _ _ _ => some c
  | .mrs c _ _ => some c
  | .msrReg c _ _ _ => some c
  | .bx c _ => some c
  | .bxj c _ => some c
  | .blxReg c _ => some c
  | .clz c _ _ => some c
  | .qadd c _ _ _ => some c
  | .qsub c _ _ _ => some c
  | .qdadd c _ _ _ => some c
  | .qdsub c _ _ _ => some c
  | .bkpt _ => none
  | .smc c _ => some c
  | .smlaXY c _ _ _ _ _ _ => some c
  | .smlawY c _ _ _ _ _ => some c
  | .smulwY c _ _ _ _ => some c
  | .smlalXY c _ _ _ _ _ _ => some c
  | .smulXY c _ _ _ _ _ => some c
  | .mul c _ _ _ _ => some c
  | .mla c _ _ _ _ _ => some c
  | .umaal c _ _ _ _ => some c
  | .umull c _ _ _ _ _ => some c
  | .umlal c _ _ _ _ _ => some c
  | .smull c _ _ _ _ _ => some c
  | .smlal c _ _ _ _ _ => some c
  | .swp c _ _ _ => some c
  | .swpb c _ _ _ => some c
  | .strex c _ _ _ => some c
  | .ldrex c _ _ => some c
  | .strexd c _ _ _ => some c
  | .ldrexd c _ _ => some c
  | .strexb c _ _ _ => some c
  | .ldrexb c _ _ => some c
  | .strexh c _ _ _ => some c
  | .ldrexh c _ _ => some c
  | .strhImm c _ _ _ _ _ _ _ => some c
  | .strhReg c _ _ _ _ _ _ => some c
  | .ldrdImm c _ _ _ _ _ _ _ => some c
  | .ldrdReg c _ _ _ _ _ _ => some c
  | .strdImm c _ _ _ _ _ _ _ => some c
  | .strdReg c _ _ _ _ _ _ => some c
  | .ldrhImm c _ _ _ _ _ _ _ => some c
  | .ldrhReg c _ _ _ _ _ _ => some c
  | .ldrsbImm c _ _ _ _ _ _ _ => some c
  | .ldrsbReg c _ _ _ _ _ _ => some c
  | .ldrshImm c _ _ _ _ _ _ _ => some c
  | .ldrshReg c _ _ _ _ _ _ => some c
  | .nop _ => none
  | .yield _ => none
  | .nopReservedHint _ _ => none
  | .msrImm c _ _ _ _ => some c
  | .cpy c _ _ => some c
  | .andImm c _ _ _ _ _ => some c
  | .andShift c _ _ _ _ _ _ => some c
  | .andRegShift c _ _ _ _ _ _ => some c
  | .eorImm c _ _ _ _ _ => some c
  | .eorShift c _ _ _ _ _ _ => some c
  | .eorRegShift c _ _ _ _ _ _ => some c
  | .subImm c _ _ _ _ _ => some c
  | .subShift c _ _ _ _ _ _ => some c
  | .subRegShift c _ _ _ _ _ _ => some c
  | .rsbImm c _ _ _ _ _ => some c
  | .rsbShift c _ _ _ _ _ _ => some c
  | .rsbRegShift c _ _ _ _ _ _ => some c
  | .addImm c _ _ _ _ _ => some c
  | .addShift c _ _ _ _ _ _ => some c
  | .addRegShift c _ _ _ _ _ _ => some c
  | .adcImm c _ _ _ _ _ => some c
  | .adcShift c _ _ _ _ _ _ => some c
  | .adcRegShift c _ _ _ _ _ _ => some c
  | .sbcImm c _ _ _ _ _ => some c
  | .sbcShift c _ _ _ _ _ _ => some c
  | .sbcRegShift c _ _ _ _ _ _ => some c
  | .rscImm c _ _ _ _ _ => some c
  | .rscShift c _ _ _ _ _ _ => some c
  | .rscRegShift c _ _ _ _ _ _ => some c
  | .tstImm c _ _ _ => some c
  | .tstShift c _ _ _ _ => some c
  | .tstRegShift c _ _ _ _ => some c
  | .teqImm c _ _ _ => some c
  | .teqShift c _ _ _ _ => some c
  | .teqRegShift c _ _ _ _ => some c
  | .cmpImm c _ _ _ => some c
  | .cmpShift c _ _ _ _ => some c
  | .cmpRegShift c _ _ _ _ => some c
  | .cmnImm c _ _ _ => some c
  | .cmnShift c _ _ _ _ => some c
  | .cmnRegShift c _ _ _ _ => some c
  | .orrImm c _ _ _ _ _ => some c
  | .orrShift c _ _ _ _ _ _ => some c
  | .orrRegShift c _ _ _ _ _ _ => some c
  | .movImm c _ _ _ _ => some c
  | .movShift c _ _ _ _ _ => some c
  | .movRegShift c _ _ _ _ _ => some c
  | .bicImm c _ _ _ _ _ => some c
  | .bicShift c _ _ _ _ _ _ => some c
  | .bicRegShift c _ _ _ _ _ _ => some c
  | .mvnImm c _ _ _ _ => some c
  | .mvnShift c _ _ _ _ _ => some c
  | .mvnRegShift c _ _ _ _ _ => some c
  | .ldrtImm c _ _ _ _ => some c
  | .ldrtReg c _ _ _ _ _ _ => some c
  | .ldrbtImm c _ _ _ _ => some c
  | .ldrbtReg c _ _ _ _ _ _ => some c
  | .strtImm c _ _ _ _ => some c
  | .strtReg c _ _ _ _ _ _ => some c
  | .strbtImm c _ _ _ _ => some c
  | .strbtReg c _ _ _ _ _ _ => some c
  | .ldrImm c _ _ _ _ _ _ => some c
  | .ldrReg c _ _ _ _ _ _ _ _ => some c
  | .ldrbImm c _ _ _ _ _ _ => some c
  | .ldrbReg c _ _ _ _ _ _ _ _ => some c
  | .strImm c _ _ _ _ _ _ => some c
  | .strReg c _ _ _ _ _ _ _ _ => some c
  | .strbImm c _ _ _ _ _ _ => some c
  | .strbReg c _ _ _ _ _ _ _ _ => some c
  | .sadd16 c _ _ _ => some c
  | .qadd16 c _ _ _ => some c
  | .shadd16 c _ _ _ => some c
  | .uadd16 c _ _ _ => some c
  | .uqadd16 c _ _ _ => some c
  | .uhadd16 c _ _ _ => some c
  | .saddsubx c _ _ _ => some c
  | .qaddsubx c _ _ _ => some c
  | .shaddsubx c _ _ _ => some c
  | .uaddsubx c _ _ _ => some c
  | .uqaddsubx c _ _ _ => some c
  | .uhaddsubx c _ _ _ => some c
  | .ssubaddx c _ _ _ => some c
  | .qsubaddx c _ _ _ => some c
  | .shsubaddx c _ _ _ => some c
  | .usubaddx c _ _ _ => some c
  | .uqsubaddx c _ _ _ => some c
  | .uhsubaddx c _ _ _ => some c
  | .ssub16 c _ _ _ => some c
  | .qsub16 c _ _ _ => some c
  | .shsub16 c _ _ _ => some c
  | .usub16 c _ _ _ => some c
  | .uqsub16 c _ _ _ => some c
  | .uhsub16 c _ _ _ => some c
  | .sadd8 c _ _ _ => some c
  | .qadd8 c _ _ _ => some c
  | .shadd8 c _ _ _ => some c
  | .uadd8 c _ _ _ => some c
  | .uqadd8 c _ _ _ => some c
  | .uhadd8 c _ _ _ => some c
  | .ssub8 c _ _ _ => some c
  | .qsub8 c _ _ _ => some c
  | .shsub8 c _ _ _ => some c
  | .usub8 c _ _ _ => some c
  | .uqsub8 c _ _ _ => some c
  | .uhsub8 c _ _ _ => some c
  | .pkhbt c _ _ _ _ => some c
  | .pkhtb c _ _ _ _ => some c
  | .ssat16 c _ _ _ => some c
  | .usat16 c _ _ _ => some c
  | .ssat c _ _ _ _ _ => some c
  | .usat c _ _ _ _ _ => some c
  | .sel c _ _ _ => some c
  | .rev c _ _ => some c
  | .rev16 c _ _ => some c
  | .revsh c _ _ => some c
  | .sxtb16 c _ _ _ => some c
  | .sxtb c _ _ _ => some c
  | .sxth c _ _ _ => some c
  | .uxtb16 c _ _ _ => some c
  | .uxtb c _ _ _ => some c
  | .uxth c _ _ _ => some c
  | .sxtab16 c _ _ _ _ => some c
  | .sxtab c _ _ _ _ => some c
  | .sxtah c _ _ _ _ => some c
  | .uxtab16 c _ _ _ _ => some c
  | .uxtab c _ _ _ _ => some c
  | .uxtah c _ _ _ _ => some c
  | .smuad c _ _ _ _ => some c
  | .smusd c _ _ _ _ => some c
  | .smlad c _ _ _ _ _ => some c
  | .smlsd c _ _ _ _ _ => some c
  | .smlald c _ _ _ _ _ => some c
  | .smlsld c _ _ _ _ _ => some c
  | .smmul c _ _ _ _ => some c
  | .smmla c _ _ _ _ _ => some c
  | .smmls c _ _ _ _ _ => some c
  | .usad8 c _ _ _ => some c
  | .usada8 c _ _ _ _ => some c
  | .ldm1 c _ _ _ _ _ => some c
  | .ldm3 c _ _ _ _ _ => some c
  | .ldm2 c _ _ _ _ => some c
  | .stm1 c _ _ _ _ _ => some c
  | .stm2 c _ _ _ _ => some c
  | .b c _ => some c
  | .bl c _ => some c
  | .mcrr c _ _ _ _ _ => some c
  | .mrrc c _ _ _ _ _ => some c
  | .stcOffset c _ _ _ _ _ _ _ => some c
  | .stcPost c _ _ _ _ _ _ => some c
  | .stcUnindexed c _ _ _ _ _ => some c
  | .ldcOffset c _ _ _ _ _ _ _ => some c
  | .ldcPost c _ _ _ _ _ _ => some c
  | .ldcUnindexed c _ _ _ _ _ => some c
  | .cdp c _ _ _ _ _ _ => some c
  | .mcr c _ _ _ _ _ _ => some c
  | .mrc c _ _ _ _ _ _ => some c
  | .svc c _ => some c
  | .tMov2 _ _ => none
  | .tLsl1 _ _ _ => none
  | .tLsr1 _ _ _ => none
  | .tAsr1 _ _ _ => none
  | .tAdd3 _ _ _ => none
  | .tSub3 _ _ _ => none
  | .tAdd1 _ _ _ => none
  | .tSub1 _ _ _ => none
  | .tMov1 _ _ => none
  | .tCmp1 _ _ => none
  | .tAdd2 _ _ => none
  | .tSub2 _ _ => none
  | .tAnd _ _ => none
  | .tEor _ _ => none
  | .tLsl2 _ _ => none
  | .tLsr2 _ _ => none
  | .tAsr2 _ _ => none
  | .tAdc _ _ => none
  | .tSbc _ _ => none
  | .tRor _ _ => none
  | .tTst _ _ => none
  | .tNeg _ _ => none
  | .tCmp2 _ _ => none
  | .tCmn _ _ => none
  | .tOrr _ _ => none
  | .tMul _ _ => none
  | .tBic _ _ => none
  | .tMvn _ _ => none
  | .tAdd4 _ _ _ _ => none
  | .tCmp3 _ _ _ _ => none
  | .tCpy _ _ => none
  | .tMov3 _ _ _ _ => none
  | .tBx _ _ => none
  | .tBlx2 _ _ => none
  | .tLdr3 _ _ => none
  | .tStr2 _ _ _ => none
  | .tStrh2 _ _ _ => none
  | .tStrb2 _ _ _ => none
  | .tLdrsb _ _ _ => none
  | .tLdr2 _ _ _ => none
  | .tLdrh2 _ _ _ => none
  | .tLdrb2 _ _ _ => none
  | .tLdrsh _ _ _ => none
  | .tStr1 _ _ _ => none
  | .tLdr1 _ _ _ => none
  | .tStrb1 _ _ _ => none
  | .tLdrb1 _ _ _ => none
  | .tStrh1 _ _ _ => none
  | .tLdrh1 _ _ _ => none
  | .tStr3 _ _ => none
  | .tLdr4 _ _ => none
  | .tAdd5 _ _ => none
  | .tAdd6 _ _ => none
  | .tAdd7 _ => none
  | .tSub4 _ => none
  | .tSxth _ _ => none
  | .tSxtb _ _ => none
  | .tUxth _ _ => none
  | .tUxtb _ _ => none
  | .tPush _ _ => none
  | .tPop _ _ => none
  | .tSetend _ => none
  | .tCps _ _ _ _ => none
  | .tRev _ _ => none
  | .tRev16 _ _ => none
  | .tRevsh _ _ => none
  | .tBkpt _ => none
  | .tStmia _ _ => none
  | .tLdmia _ _ => none
  | .tSvc _ => none
  | .tUndefined _ => none
  | .tB1 c _ => some c
  | .tB2 _ => none
  | .tBlx1Suffix _ => none
  | .tBlBlxPrefix _ => none
  | .tBlSuffix _ => none

/-- The register combinations and field values that the architecture makes Unpredictable (U54; R846, R961, R1021, R1147,
R1266 and the rules of the instructions). The VFP transfers have refusals of their own. -/
def forbidden : Instr → Bool
  | .cps imod mmod aBit iBit fBit mode => cpsRefused imod mmod (aBit || iBit || fBit) mode
  | .pldReg _ _ _ _ rm => [rm].contains 15
  | .mrs _ _ rd => [rd].contains 15
  | .msrReg _ _ _ rm => [rm].contains 15
  | .bxj _ rm => [rm].contains 15
  | .blxReg _ rm => [rm].contains 15
  | .clz _ rd rm => [rd, rm].contains 15
  | .qadd _ rn rd rm => [rn, rd, rm].contains 15
  | .qsub _ rn rd rm => [rn, rd, rm].contains 15
  | .qdadd _ rn rd rm => [rn, rd, rm].contains 15
  | .qdsub _ rn rd rm => [rn, rd, rm].contains 15
  | .smlaXY _ rd rn rs _ _ rm => [rd, rn, rs, rm].contains 15
  | .smlawY _ rd rn rs _ rm => [rd, rn, rs, rm].contains 15
  | .smulwY _ rd rs _ rm => [rd, rs, rm].contains 15
  | .smlalXY _ rdHi rdLo rs _ _ rm => [rdHi, rdLo, rs, rm].contains 15 || rdHi == rdLo
  | .smulXY _ rd rs _ _ rm => [rd, rs, rm].contains 15
  | .mul _ _ rd rs rm => [rd, rs, rm].contains 15
  | .mla _ _ rd rn rs rm => [rd, rn, rs, rm].contains 15
  | .umaal _ rdHi rdLo rs rm => [rdHi, rdLo, rs, rm].contains 15 || rdHi == rdLo
  | .umull _ _ rdHi rdLo rs rm => [rdHi, rdLo, rs, rm].contains 15 || rdHi == rdLo
  | .umlal _ _ rdHi rdLo rs rm => [rdHi, rdLo, rs, rm].contains 15 || rdHi == rdLo
  | .smull _ _ rdHi rdLo rs rm => [rdHi, rdLo, rs, rm].contains 15 || rdHi == rdLo
  | .smlal _ _ rdHi rdLo rs rm => [rdHi, rdLo, rs, rm].contains 15 || rdHi == rdLo
  | .swp _ rn rd rm => [rn, rd, rm].contains 15 || rn == rd || rn == rm
  | .swpb _ rn rd rm => [rn, rd, rm].contains 15 || rn == rd || rn == rm
  | .strex _ rn rd rm => [rn, rd, rm].contains 15 || rd == rn || rd == rm
  | .ldrex _ rn rd => [rn, rd].contains 15
  | .strexd _ rn rd rm => [rn, rd, rm].contains 15 || rd == rn || rd == rm || rd == rm + 1 || rm.getLsbD 0 || rm == 14
  | .ldrexd _ rn rd => [rn, rd].contains 15 || rd.getLsbD 0 || rd == 14
  | .strexb _ rn rd rm => [rn, rd, rm].contains 15 || rd == rn || rd == rm
  | .ldrexb _ rn rd => [rn, rd].contains 15
  | .strexh _ rn rd rm => [rn, rd, rm].contains 15 || rd == rn || rd == rm
  | .ldrexh _ rn rd => [rn, rd].contains 15
  | .strhImm _ p _ wb rn rd _ _ => (!p || wb) && (rn == 15 || rd == rn) || rd == 15 || (!p && wb)
  | .strhReg _ p _ wb rn rd rm => (!p || wb) && (rn == 15 || rd == rn || rm == rn) || rm == 15 || rd == 15 ||
      (!p && wb)
  | .ldrdImm _ p _ wb rn rd _ _ => rd.getLsbD 0 || rd == 14 || (!p || wb) && (rn == 15 || rd == rn ||
      rd + 1 == rn) || (!p && wb)
  | .ldrdReg _ p _ wb rn rd rm => rd.getLsbD 0 || rd == 14 || (!p || wb) && (rn == 15 || rd == rn || rd + 1 == rn ||
      rm == rn) || rm == 15 || rm == rd || rm == rd + 1 || (!p && wb)
  | .strdImm _ p _ wb rn rd _ _ => rd.getLsbD 0 || rd == 14 || (!p || wb) && (rn == 15 || rd == rn ||
      rd + 1 == rn) || (!p && wb)
  | .strdReg _ p _ wb rn rd rm => rd.getLsbD 0 || rd == 14 || (!p || wb) && (rn == 15 || rd == rn || rd + 1 == rn ||
      rm == rn) || rm == 15 || (!p && wb)
  | .ldrhImm _ p _ wb rn rd _ _ => (!p || wb) && (rn == 15 || rd == rn) || rd == 15 || (!p && wb)
  | .ldrhReg _ p _ wb rn rd rm => (!p || wb) && (rn == 15 || rd == rn || rm == rn) || rm == 15 || rd == 15 ||
      (!p && wb)
  | .ldrsbImm _ p _ wb rn rd _ _ => (!p || wb) && (rn == 15 || rd == rn) || rd == 15 || (!p && wb)
  | .ldrsbReg _ p _ wb rn rd rm => (!p || wb) && (rn == 15 || rd == rn || rm == rn) || rm == 15 || rd == 15 ||
      (!p && wb)
  | .ldrshImm _ p _ wb rn rd _ _ => (!p || wb) && (rn == 15 || rd == rn) || rd == 15 || (!p && wb)
  | .ldrshReg _ p _ wb rn rd rm => (!p || wb) && (rn == 15 || rd == rn || rm == rn) || rm == 15 || rd == 15 ||
      (!p && wb)
  | .andRegShift _ _ rn rd rs _ rm => [rd, rn, rs, rm].contains 15
  | .eorRegShift _ _ rn rd rs _ rm => [rd, rn, rs, rm].contains 15
  | .subRegShift _ _ rn rd rs _ rm => [rd, rn, rs, rm].contains 15
  | .rsbRegShift _ _ rn rd rs _ rm => [rd, rn, rs, rm].contains 15
  | .addRegShift _ _ rn rd rs _ rm => [rd, rn, rs, rm].contains 15
  | .adcRegShift _ _ rn rd rs _ rm => [rd, rn, rs, rm].contains 15
  | .sbcRegShift _ _ rn rd rs _ rm => [rd, rn, rs, rm].contains 15
  | .rscRegShift _ _ rn rd rs _ rm => [rd, rn, rs, rm].contains 15
  | .tstRegShift _ rn rs _ rm => [rn, rs, rm].contains 15
  | .teqRegShift _ rn rs _ rm => [rn, rs, rm].contains 15
  | .cmpRegShift _ rn rs _ rm => [rn, rs, rm].contains 15
  | .cmnRegShift _ rn rs _ rm => [rn, rs, rm].contains 15
  | .orrRegShift _ _ rn rd rs _ rm => [rd, rn, rs, rm].contains 15
  | .movRegShift _ _ rd rs _ rm => [rd, rs, rm].contains 15
  | .bicRegShift _ _ rn rd rs _ rm => [rd, rn, rs, rm].contains 15
  | .mvnRegShift _ _ rd rs _ rm => [rd, rs, rm].contains 15
  | .ldrtImm _ _ rn rd _ => (rn == 15 || rd == rn) || rd == 15
  | .ldrtReg _ _ rn rd _ _ rm => (rn == 15 || rd == rn || rm == rn) || rm == 15 || rd == 15
  | .ldrbtImm _ _ rn rd _ => (rn == 15 || rd == rn) || rd == 15
  | .ldrbtReg _ _ rn rd _ _ rm => (rn == 15 || rd == rn || rm == rn) || rm == 15 || rd == 15
  | .strtImm _ _ rn rd _ => (rn == 15 || rd == rn) || rd == 15
  | .strtReg _ _ rn rd _ _ rm => (rn == 15 || rd == rn || rm == rn) || rm == 15 || rd == 15
  | .strbtImm _ _ rn rd _ => (rn == 15 || rd == rn) || rd == 15
  | .strbtReg _ _ rn rd _ _ rm => (rn == 15 || rd == rn || rm == rn) || rm == 15 || rd == 15
  | .ldrImm _ p _ wb rn rd _ => (!p || wb) && (rn == 15 || rd == rn)
  | .ldrReg _ p _ wb rn rd _ _ rm => (!p || wb) && (rn == 15 || rd == rn || rm == rn) || rm == 15
  | .ldrbImm _ p _ wb rn rd _ => (!p || wb) && (rn == 15 || rd == rn) || rd == 15
  | .ldrbReg _ p _ wb rn rd _ _ rm => (!p || wb) && (rn == 15 || rd == rn || rm == rn) || rm == 15 || rd == 15
  | .strImm _ p _ wb rn rd _ => (!p || wb) && (rn == 15 || rd == rn)
  | .strReg _ p _ wb rn rd _ _ rm => (!p || wb) && (rn == 15 || rd == rn || rm == rn) || rm == 15
  | .strbImm _ p _ wb rn rd _ => (!p || wb) && (rn == 15 || rd == rn) || rd == 15
  | .strbReg _ p _ wb rn rd _ _ rm => (!p || wb) && (rn == 15 || rd == rn || rm == rn) || rm == 15 || rd == 15
  | .sadd16 _ rn rd rm => [rn, rd, rm].contains 15
  | .qadd16 _ rn rd rm => [rn, rd, rm].contains 15
  | .shadd16 _ rn rd rm => [rn, rd, rm].contains 15
  | .uadd16 _ rn rd rm => [rn, rd, rm].contains 15
  | .uqadd16 _ rn rd rm => [rn, rd, rm].contains 15
  | .uhadd16 _ rn rd rm => [rn, rd, rm].contains 15
  | .saddsubx _ rn rd rm => [rn, rd, rm].contains 15
  | .qaddsubx _ rn rd rm => [rn, rd, rm].contains 15
  | .shaddsubx _ rn rd rm => [rn, rd, rm].contains 15
  | .uaddsubx _ rn rd rm => [rn, rd, rm].contains 15
  | .uqaddsubx _ rn rd rm => [rn, rd, rm].contains 15
  | .uhaddsubx _ rn rd rm => [rn, rd, rm].contains 15
  | .ssubaddx _ rn rd rm => [rn, rd, rm].contains 15
  | .qsubaddx _ rn rd rm => [rn, rd, rm].contains 15
  | .shsubaddx _ rn rd rm => [rn, rd, rm].contains 15
  | .usubaddx _ rn rd rm => [rn, rd, rm].contains 15
  | .uqsubaddx _ rn rd rm => [rn, rd, rm].contains 15
  | .uhsubaddx _ rn rd rm => [rn, rd, rm].contains 15
  | .ssub16 _ rn rd rm => [rn, rd, rm].contains 15
  | .qsub16 _ rn rd rm => [rn, rd, rm].contains 15
  | .shsub16 _ rn rd rm => [rn, rd, rm].contains 15
  | .usub16 _ rn rd rm => [rn, rd, rm].contains 15
  | .uqsub16 _ rn rd rm => [rn, rd, rm].contains 15
  | .uhsub16 _ rn rd rm => [rn, rd, rm].contains 15
  | .sadd8 _ rn rd rm => [rn, rd, rm].contains 15
  | .qadd8 _ rn rd rm => [rn, rd, rm].contains 15
  | .shadd8 _ rn rd rm => [rn, rd, rm].contains 15
  | .uadd8 _ rn rd rm => [rn, rd, rm].contains 15
  | .uqadd8 _ rn rd rm => [rn, rd, rm].contains 15
  | .uhadd8 _ rn rd rm => [rn, rd, rm].contains 15
  | .ssub8 _ rn rd rm => [rn, rd, rm].contains 15
  | .qsub8 _ rn rd rm => [rn, rd, rm].contains 15
  | .shsub8 _ rn rd rm => [rn, rd, rm].contains 15
  | .usub8 _ rn rd rm => [rn, rd, rm].contains 15
  | .uqsub8 _ rn rd rm => [rn, rd, rm].contains 15
  | .uhsub8 _ rn rd rm => [rn, rd, rm].contains 15
  | .pkhbt _ rn rd _ rm => [rn, rd, rm].contains 15
  | .pkhtb _ rn rd _ rm => [rn, rd, rm].contains 15
  | .ssat16 _ _ rd rm => [rd, rm].contains 15
  | .usat16 _ _ rd rm => [rd, rm].contains 15
  | .ssat _ _ rd _ _ rm => [rd, rm].contains 15
  | .usat _ _ rd _ _ rm => [rd, rm].contains 15
  | .sel _ rn rd rm => [rn, rd, rm].contains 15
  | .rev _ rd rm => [rd, rm].contains 15
  | .rev16 _ rd rm => [rd, rm].contains 15
  | .revsh _ rd rm => [rd, rm].contains 15
  | .sxtb16 _ rd _ rm => [rd, rm].contains 15
  | .sxtb _ rd _ rm => [rd, rm].contains 15
  | .sxth _ rd _ rm => [rd, rm].contains 15
  | .uxtb16 _ rd _ rm => [rd, rm].contains 15
  | .uxtb _ rd _ rm => [rd, rm].contains 15
  | .uxth _ rd _ rm => [rd, rm].contains 15
  | .sxtab16 _ rn rd _ rm => [rn, rd, rm].contains 15
  | .sxtab _ rn rd _ rm => [rn, rd, rm].contains 15
  | .sxtah _ rn rd _ rm => [rn, rd, rm].contains 15
  | .uxtab16 _ rn rd _ rm => [rn, rd, rm].contains 15
  | .uxtab _ rn rd _ rm => [rn, rd, rm].contains 15
  | .uxtah _ rn rd _ rm => [rn, rd, rm].contains 15
  | .smuad _ rd rs _ rm => [rd, rs, rm].contains 15
  | .smusd _ rd rs _ rm => [rd, rs, rm].contains 15
  | .smlad _ rd rn rs _ rm => [rd, rn, rs, rm].contains 15
  | .smlsd _ rd rn rs _ rm => [rd, rn, rs, rm].contains 15
  | .smlald _ rdHi rdLo rs _ rm => [rdHi, rdLo, rs, rm].contains 15 || rdHi == rdLo
  | .smlsld _ rdHi rdLo rs _ rm => [rdHi, rdLo, rs, rm].contains 15 || rdHi == rdLo
  | .smmul _ rd rs _ rm => [rd, rs, rm].contains 15
  | .smmla _ rd rn rs _ rm => [rd, rn, rs, rm].contains 15
  | .smmls _ rd rn rs _ rm => [rd, rn, rs, rm].contains 15
  | .usad8 _ rd rs rm => [rd, rs, rm].contains 15
  | .usada8 _ rd rn rs rm => [rd, rn, rs, rm].contains 15
  | .ldm1 _ _ _ wb rn regs => regs == 0 || rn == 15 || (wb && regs.getLsbD rn.toNat)
  | .ldm3 _ _ _ wb rn regs => rn == 15 || (wb && regs.getLsbD rn.toNat)
  | .ldm2 _ _ _ rn regs => regs == 0 || rn == 15
  | .stm1 _ _ _ wb rn regs => regs == 0 || rn == 15 || (wb && regs.getLsbD rn.toNat && (listed regs).head? != some rn)
  | .stm2 _ _ _ rn regs => regs == 0 || rn == 15
  | .tAdd4 h1 h2 _ _ => !(h1 || h2)
  | .tCmp3 h1 h2 _ rn => !(h1 || h2) || high h1 rn == 15
  | .tBlx2 h2 rm => high h2 rm == 15
  | .tPush r regs => (regs == 0 && !r)
  | .tPop r regs => (regs == 0 && !r)
  | .tCps _ aBit iBit fBit => !(aBit || iBit || fBit)
  | .tStmia rn regs => regs == 0 || (regs.getLsbD rn.toNat && (lowListed regs).head? != some (low rn))
  | .tLdmia _ regs => regs == 0
  | .setend _ | .clrex | .pldImm _ _ _ | .srs _ _ _ _ | .rfe _ _ _ _ | .blxImm _ _ | .mcrr2 _ _ _ _ _
  | .mrrc2 _ _ _ _ _ | .stc2Offset _ _ _ _ _ _ _ | .stc2Post _ _ _ _ _ _ | .stc2Unindexed _ _ _ _ _
  | .ldc2Offset _ _ _ _ _ _ _ | .ldc2Post _ _ _ _ _ _ | .ldc2Unindexed _ _ _ _ _ | .cdp2 _ _ _ _ _ _
  | .mcr2 _ _ _ _ _ _ | .mrc2 _ _ _ _ _ _ | .undefinedArm _ | .fmacs _ _ _ _ _ _ _ | .fmacd _ _ _ _
  | .fnmacs _ _ _ _ _ _ _ | .fnmacd _ _ _ _ | .fmscs _ _ _ _ _ _ _ | .fmscd _ _ _ _ | .fnmscs _ _ _ _ _ _ _
  | .fnmscd _ _ _ _ | .fmuls _ _ _ _ _ _ _ | .fmuld _ _ _ _ | .fnmuls _ _ _ _ _ _ _ | .fnmuld _ _ _ _
  | .fadds _ _ _ _ _ _ _ | .faddd _ _ _ _ | .fsubs _ _ _ _ _ _ _ | .fsubd _ _ _ _ | .fdivs _ _ _ _ _ _ _
  | .fdivd _ _ _ _ | .fcpys _ _ _ _ _ | .fcpyd _ _ _ | .fabss _ _ _ _ _ | .fabsd _ _ _ | .fnegs _ _ _ _ _
  | .fnegd _ _ _ | .fsqrts _ _ _ _ _ | .fsqrtd _ _ _ | .fcmps _ _ _ _ _ | .fcmpd _ _ _ | .fcmpes _ _ _ _ _
  | .fcmped _ _ _ | .fcmpzs _ _ _ | .fcmpzd _ _ | .fcmpezs _ _ _ | .fcmpezd _ _ | .fcvtds _ _ _ _
  | .fcvtsd _ _ _ _ | .fuitos _ _ _ _ _ | .fuitod _ _ _ _ | .fsitos _ _ _ _ _ | .fsitod _ _ _ _
  | .ftouis _ _ _ _ _ | .ftouid _ _ _ _ | .ftouizs _ _ _ _ _ | .ftouizd _ _ _ _ | .ftosis _ _ _ _ _
  | .ftosid _ _ _ _ | .ftosizs _ _ _ _ _ | .ftosizd _ _ _ _ | .flds _ _ _ _ _ _ | .fldd _ _ _ _ _
  | .fsts _ _ _ _ _ _ | .fstd _ _ _ _ _ | .fldmsIa _ _ _ _ _ _ | .fldmsDb _ _ _ _ _ | .fldmdIa _ _ _ _ _
  | .fldmdDb _ _ _ _ | .fldmxIa _ _ _ _ _ | .fldmxDb _ _ _ _ | .fstmsIa _ _ _ _ _ _ | .fstmsDb _ _ _ _ _
  | .fstmdIa _ _ _ _ _ | .fstmdDb _ _ _ _ | .fstmxIa _ _ _ _ _ | .fstmxDb _ _ _ _ | .fmstat _ | .fmsr _ _ _ _
  | .fmrs _ _ _ _ | .fmdlr _ _ _ | .fmrdl _ _ _ | .fmdhr _ _ _ | .fmrdh _ _ _ | .fmxr _ _ _ | .fmrx _ _ _
  | .fmdrr _ _ _ _ | .fmrrd _ _ _ _ | .fmsrr _ _ _ _ _ | .fmrrs _ _ _ _ _ | .bx _ _ | .bkpt _ | .smc _ _
  | .nop _ | .yield _ | .nopReservedHint _ _ | .msrImm _ _ _ _ _ | .cpy _ _ _ | .andImm _ _ _ _ _ _
  | .andShift _ _ _ _ _ _ _ | .eorImm _ _ _ _ _ _ | .eorShift _ _ _ _ _ _ _ | .subImm _ _ _ _ _ _
  | .subShift _ _ _ _ _ _ _ | .rsbImm _ _ _ _ _ _ | .rsbShift _ _ _ _ _ _ _ | .addImm _ _ _ _ _ _
  | .addShift _ _ _ _ _ _ _ | .adcImm _ _ _ _ _ _ | .adcShift _ _ _ _ _ _ _ | .sbcImm _ _ _ _ _ _
  | .sbcShift _ _ _ _ _ _ _ | .rscImm _ _ _ _ _ _ | .rscShift _ _ _ _ _ _ _ | .tstImm _ _ _ _
  | .tstShift _ _ _ _ _ | .teqImm _ _ _ _ | .teqShift _ _ _ _ _ | .cmpImm _ _ _ _ | .cmpShift _ _ _ _ _
  | .cmnImm _ _ _ _ | .cmnShift _ _ _ _ _ | .orrImm _ _ _ _ _ _ | .orrShift _ _ _ _ _ _ _ | .movImm _ _ _ _ _
  | .movShift _ _ _ _ _ _ | .bicImm _ _ _ _ _ _ | .bicShift _ _ _ _ _ _ _ | .mvnImm _ _ _ _ _
  | .mvnShift _ _ _ _ _ _ | .b _ _ | .bl _ _ | .mcrr _ _ _ _ _ _ | .mrrc _ _ _ _ _ _
  | .stcOffset _ _ _ _ _ _ _ _ | .stcPost _ _ _ _ _ _ _ | .stcUnindexed _ _ _ _ _ _
  | .ldcOffset _ _ _ _ _ _ _ _ | .ldcPost _ _ _ _ _ _ _ | .ldcUnindexed _ _ _ _ _ _ | .cdp _ _ _ _ _ _ _
  | .mcr _ _ _ _ _ _ _ | .mrc _ _ _ _ _ _ _ | .svc _ _ | .tMov2 _ _ | .tLsl1 _ _ _ | .tLsr1 _ _ _
  | .tAsr1 _ _ _ | .tAdd3 _ _ _ | .tSub3 _ _ _ | .tAdd1 _ _ _ | .tSub1 _ _ _ | .tMov1 _ _ | .tCmp1 _ _
  | .tAdd2 _ _ | .tSub2 _ _ | .tAnd _ _ | .tEor _ _ | .tLsl2 _ _ | .tLsr2 _ _ | .tAsr2 _ _ | .tAdc _ _
  | .tSbc _ _ | .tRor _ _ | .tTst _ _ | .tNeg _ _ | .tCmp2 _ _ | .tCmn _ _ | .tOrr _ _ | .tMul _ _ | .tBic _ _
  | .tMvn _ _ | .tCpy _ _ | .tMov3 _ _ _ _ | .tBx _ _ | .tLdr3 _ _ | .tStr2 _ _ _ | .tStrh2 _ _ _
  | .tStrb2 _ _ _ | .tLdrsb _ _ _ | .tLdr2 _ _ _ | .tLdrh2 _ _ _ | .tLdrb2 _ _ _ | .tLdrsh _ _ _
  | .tStr1 _ _ _ | .tLdr1 _ _ _ | .tStrb1 _ _ _ | .tLdrb1 _ _ _ | .tStrh1 _ _ _ | .tLdrh1 _ _ _ | .tStr3 _ _
  | .tLdr4 _ _ | .tAdd5 _ _ | .tAdd6 _ _ | .tAdd7 _ | .tSub4 _ | .tSxth _ _ | .tSxtb _ _ | .tUxth _ _
  | .tUxtb _ _ | .tSetend _ | .tRev _ _ | .tRev16 _ _ | .tRevsh _ _ | .tBkpt _ | .tSvc _ | .tUndefined _
  | .tB1 _ _ | .tB2 _ | .tBlx1Suffix _ | .tBlBlxPrefix _ | .tBlSuffix _ => false

/-- The VFP instructions that need the VFP11 usable, with the coprocessor number that is checked: true is 11 (R499). -/
def vfpSide : Instr → Option Bool
  | .fmacs _ _ _ _ _ _ _ => some false
  | .fmacd _ _ _ _ => some true
  | .fnmacs _ _ _ _ _ _ _ => some false
  | .fnmacd _ _ _ _ => some true
  | .fmscs _ _ _ _ _ _ _ => some false
  | .fmscd _ _ _ _ => some true
  | .fnmscs _ _ _ _ _ _ _ => some false
  | .fnmscd _ _ _ _ => some true
  | .fmuls _ _ _ _ _ _ _ => some false
  | .fmuld _ _ _ _ => some true
  | .fnmuls _ _ _ _ _ _ _ => some false
  | .fnmuld _ _ _ _ => some true
  | .fadds _ _ _ _ _ _ _ => some false
  | .faddd _ _ _ _ => some true
  | .fsubs _ _ _ _ _ _ _ => some false
  | .fsubd _ _ _ _ => some true
  | .fdivs _ _ _ _ _ _ _ => some false
  | .fdivd _ _ _ _ => some true
  | .fcpys _ _ _ _ _ => some false
  | .fcpyd _ _ _ => some true
  | .fabss _ _ _ _ _ => some false
  | .fabsd _ _ _ => some true
  | .fnegs _ _ _ _ _ => some false
  | .fnegd _ _ _ => some true
  | .fsqrts _ _ _ _ _ => some false
  | .fsqrtd _ _ _ => some true
  | .fcmps _ _ _ _ _ => some false
  | .fcmpd _ _ _ => some true
  | .fcmpes _ _ _ _ _ => some false
  | .fcmped _ _ _ => some true
  | .fcmpzs _ _ _ => some false
  | .fcmpzd _ _ => some true
  | .fcmpezs _ _ _ => some false
  | .fcmpezd _ _ => some true
  | .fcvtds _ _ _ _ => some false
  | .fcvtsd _ _ _ _ => some true
  | .fuitos _ _ _ _ _ => some false
  | .fuitod _ _ _ _ => some true
  | .fsitos _ _ _ _ _ => some false
  | .fsitod _ _ _ _ => some true
  | .ftouis _ _ _ _ _ => some false
  | .ftouid _ _ _ _ => some true
  | .ftouizs _ _ _ _ _ => some false
  | .ftouizd _ _ _ _ => some true
  | .ftosis _ _ _ _ _ => some false
  | .ftosid _ _ _ _ => some true
  | .ftosizs _ _ _ _ _ => some false
  | .ftosizd _ _ _ _ => some true
  | .flds _ _ _ _ _ _ => some false
  | .fldd _ _ _ _ _ => some true
  | .fsts _ _ _ _ _ _ => some false
  | .fstd _ _ _ _ _ => some true
  | .fldmsIa _ _ _ _ _ _ => some false
  | .fldmsDb _ _ _ _ _ => some false
  | .fldmdIa _ _ _ _ _ => some true
  | .fldmdDb _ _ _ _ => some true
  | .fldmxIa _ _ _ _ _ => some true
  | .fldmxDb _ _ _ _ => some true
  | .fstmsIa _ _ _ _ _ _ => some false
  | .fstmsDb _ _ _ _ _ => some false
  | .fstmdIa _ _ _ _ _ => some true
  | .fstmdDb _ _ _ _ => some true
  | .fstmxIa _ _ _ _ _ => some true
  | .fstmxDb _ _ _ _ => some true
  | .fmstat _ => some false
  | .fmsr _ _ _ _ => some false
  | .fmrs _ _ _ _ => some false
  | .fmdlr _ _ _ => some true
  | .fmrdl _ _ _ => some true
  | .fmdhr _ _ _ => some true
  | .fmrdh _ _ _ => some true
  | .fmdrr _ _ _ _ => some true
  | .fmrrd _ _ _ _ => some true
  | .fmsrr _ _ _ _ _ => some false
  | .fmrrs _ _ _ _ _ => some false
  | .cps _ _ _ _ _ _ | .setend _ | .clrex | .pldImm _ _ _ | .pldReg _ _ _ _ _ | .srs _ _ _ _ | .rfe _ _ _ _
  | .blxImm _ _ | .mcrr2 _ _ _ _ _ | .mrrc2 _ _ _ _ _ | .stc2Offset _ _ _ _ _ _ _ | .stc2Post _ _ _ _ _ _
  | .stc2Unindexed _ _ _ _ _ | .ldc2Offset _ _ _ _ _ _ _ | .ldc2Post _ _ _ _ _ _ | .ldc2Unindexed _ _ _ _ _
  | .cdp2 _ _ _ _ _ _ | .mcr2 _ _ _ _ _ _ | .mrc2 _ _ _ _ _ _ | .undefinedArm _ | .fmxr _ _ _ | .fmrx _ _ _
  | .mrs _ _ _ | .msrReg _ _ _ _ | .bx _ _ | .bxj _ _ | .blxReg _ _ | .clz _ _ _ | .qadd _ _ _ _
  | .qsub _ _ _ _ | .qdadd _ _ _ _ | .qdsub _ _ _ _ | .bkpt _ | .smc _ _ | .smlaXY _ _ _ _ _ _ _
  | .smlawY _ _ _ _ _ _ | .smulwY _ _ _ _ _ | .smlalXY _ _ _ _ _ _ _ | .smulXY _ _ _ _ _ _ | .mul _ _ _ _ _
  | .mla _ _ _ _ _ _ | .umaal _ _ _ _ _ | .umull _ _ _ _ _ _ | .umlal _ _ _ _ _ _ | .smull _ _ _ _ _ _
  | .smlal _ _ _ _ _ _ | .swp _ _ _ _ | .swpb _ _ _ _ | .strex _ _ _ _ | .ldrex _ _ _ | .strexd _ _ _ _
  | .ldrexd _ _ _ | .strexb _ _ _ _ | .ldrexb _ _ _ | .strexh _ _ _ _ | .ldrexh _ _ _
  | .strhImm _ _ _ _ _ _ _ _ | .strhReg _ _ _ _ _ _ _ | .ldrdImm _ _ _ _ _ _ _ _ | .ldrdReg _ _ _ _ _ _ _
  | .strdImm _ _ _ _ _ _ _ _ | .strdReg _ _ _ _ _ _ _ | .ldrhImm _ _ _ _ _ _ _ _ | .ldrhReg _ _ _ _ _ _ _
  | .ldrsbImm _ _ _ _ _ _ _ _ | .ldrsbReg _ _ _ _ _ _ _ | .ldrshImm _ _ _ _ _ _ _ _ | .ldrshReg _ _ _ _ _ _ _
  | .nop _ | .yield _ | .nopReservedHint _ _ | .msrImm _ _ _ _ _ | .cpy _ _ _ | .andImm _ _ _ _ _ _
  | .andShift _ _ _ _ _ _ _ | .andRegShift _ _ _ _ _ _ _ | .eorImm _ _ _ _ _ _ | .eorShift _ _ _ _ _ _ _
  | .eorRegShift _ _ _ _ _ _ _ | .subImm _ _ _ _ _ _ | .subShift _ _ _ _ _ _ _ | .subRegShift _ _ _ _ _ _ _
  | .rsbImm _ _ _ _ _ _ | .rsbShift _ _ _ _ _ _ _ | .rsbRegShift _ _ _ _ _ _ _ | .addImm _ _ _ _ _ _
  | .addShift _ _ _ _ _ _ _ | .addRegShift _ _ _ _ _ _ _ | .adcImm _ _ _ _ _ _ | .adcShift _ _ _ _ _ _ _
  | .adcRegShift _ _ _ _ _ _ _ | .sbcImm _ _ _ _ _ _ | .sbcShift _ _ _ _ _ _ _ | .sbcRegShift _ _ _ _ _ _ _
  | .rscImm _ _ _ _ _ _ | .rscShift _ _ _ _ _ _ _ | .rscRegShift _ _ _ _ _ _ _ | .tstImm _ _ _ _
  | .tstShift _ _ _ _ _ | .tstRegShift _ _ _ _ _ | .teqImm _ _ _ _ | .teqShift _ _ _ _ _
  | .teqRegShift _ _ _ _ _ | .cmpImm _ _ _ _ | .cmpShift _ _ _ _ _ | .cmpRegShift _ _ _ _ _ | .cmnImm _ _ _ _
  | .cmnShift _ _ _ _ _ | .cmnRegShift _ _ _ _ _ | .orrImm _ _ _ _ _ _ | .orrShift _ _ _ _ _ _ _
  | .orrRegShift _ _ _ _ _ _ _ | .movImm _ _ _ _ _ | .movShift _ _ _ _ _ _ | .movRegShift _ _ _ _ _ _
  | .bicImm _ _ _ _ _ _ | .bicShift _ _ _ _ _ _ _ | .bicRegShift _ _ _ _ _ _ _ | .mvnImm _ _ _ _ _
  | .mvnShift _ _ _ _ _ _ | .mvnRegShift _ _ _ _ _ _ | .ldrtImm _ _ _ _ _ | .ldrtReg _ _ _ _ _ _ _
  | .ldrbtImm _ _ _ _ _ | .ldrbtReg _ _ _ _ _ _ _ | .strtImm _ _ _ _ _ | .strtReg _ _ _ _ _ _ _
  | .strbtImm _ _ _ _ _ | .strbtReg _ _ _ _ _ _ _ | .ldrImm _ _ _ _ _ _ _ | .ldrReg _ _ _ _ _ _ _ _ _
  | .ldrbImm _ _ _ _ _ _ _ | .ldrbReg _ _ _ _ _ _ _ _ _ | .strImm _ _ _ _ _ _ _ | .strReg _ _ _ _ _ _ _ _ _
  | .strbImm _ _ _ _ _ _ _ | .strbReg _ _ _ _ _ _ _ _ _ | .sadd16 _ _ _ _ | .qadd16 _ _ _ _ | .shadd16 _ _ _ _
  | .uadd16 _ _ _ _ | .uqadd16 _ _ _ _ | .uhadd16 _ _ _ _ | .saddsubx _ _ _ _ | .qaddsubx _ _ _ _
  | .shaddsubx _ _ _ _ | .uaddsubx _ _ _ _ | .uqaddsubx _ _ _ _ | .uhaddsubx _ _ _ _ | .ssubaddx _ _ _ _
  | .qsubaddx _ _ _ _ | .shsubaddx _ _ _ _ | .usubaddx _ _ _ _ | .uqsubaddx _ _ _ _ | .uhsubaddx _ _ _ _
  | .ssub16 _ _ _ _ | .qsub16 _ _ _ _ | .shsub16 _ _ _ _ | .usub16 _ _ _ _ | .uqsub16 _ _ _ _
  | .uhsub16 _ _ _ _ | .sadd8 _ _ _ _ | .qadd8 _ _ _ _ | .shadd8 _ _ _ _ | .uadd8 _ _ _ _ | .uqadd8 _ _ _ _
  | .uhadd8 _ _ _ _ | .ssub8 _ _ _ _ | .qsub8 _ _ _ _ | .shsub8 _ _ _ _ | .usub8 _ _ _ _ | .uqsub8 _ _ _ _
  | .uhsub8 _ _ _ _ | .pkhbt _ _ _ _ _ | .pkhtb _ _ _ _ _ | .ssat16 _ _ _ _ | .usat16 _ _ _ _
  | .ssat _ _ _ _ _ _ | .usat _ _ _ _ _ _ | .sel _ _ _ _ | .rev _ _ _ | .rev16 _ _ _ | .revsh _ _ _
  | .sxtb16 _ _ _ _ | .sxtb _ _ _ _ | .sxth _ _ _ _ | .uxtb16 _ _ _ _ | .uxtb _ _ _ _ | .uxth _ _ _ _
  | .sxtab16 _ _ _ _ _ | .sxtab _ _ _ _ _ | .sxtah _ _ _ _ _ | .uxtab16 _ _ _ _ _ | .uxtab _ _ _ _ _
  | .uxtah _ _ _ _ _ | .smuad _ _ _ _ _ | .smusd _ _ _ _ _ | .smlad _ _ _ _ _ _ | .smlsd _ _ _ _ _ _
  | .smlald _ _ _ _ _ _ | .smlsld _ _ _ _ _ _ | .smmul _ _ _ _ _ | .smmla _ _ _ _ _ _ | .smmls _ _ _ _ _ _
  | .usad8 _ _ _ _ | .usada8 _ _ _ _ _ | .ldm1 _ _ _ _ _ _ | .ldm3 _ _ _ _ _ _ | .ldm2 _ _ _ _ _
  | .stm1 _ _ _ _ _ _ | .stm2 _ _ _ _ _ | .b _ _ | .bl _ _ | .mcrr _ _ _ _ _ _ | .mrrc _ _ _ _ _ _
  | .stcOffset _ _ _ _ _ _ _ _ | .stcPost _ _ _ _ _ _ _ | .stcUnindexed _ _ _ _ _ _
  | .ldcOffset _ _ _ _ _ _ _ _ | .ldcPost _ _ _ _ _ _ _ | .ldcUnindexed _ _ _ _ _ _ | .cdp _ _ _ _ _ _ _
  | .mcr _ _ _ _ _ _ _ | .mrc _ _ _ _ _ _ _ | .svc _ _ | .tMov2 _ _ | .tLsl1 _ _ _ | .tLsr1 _ _ _
  | .tAsr1 _ _ _ | .tAdd3 _ _ _ | .tSub3 _ _ _ | .tAdd1 _ _ _ | .tSub1 _ _ _ | .tMov1 _ _ | .tCmp1 _ _
  | .tAdd2 _ _ | .tSub2 _ _ | .tAnd _ _ | .tEor _ _ | .tLsl2 _ _ | .tLsr2 _ _ | .tAsr2 _ _ | .tAdc _ _
  | .tSbc _ _ | .tRor _ _ | .tTst _ _ | .tNeg _ _ | .tCmp2 _ _ | .tCmn _ _ | .tOrr _ _ | .tMul _ _ | .tBic _ _
  | .tMvn _ _ | .tAdd4 _ _ _ _ | .tCmp3 _ _ _ _ | .tCpy _ _ | .tMov3 _ _ _ _ | .tBx _ _ | .tBlx2 _ _
  | .tLdr3 _ _ | .tStr2 _ _ _ | .tStrh2 _ _ _ | .tStrb2 _ _ _ | .tLdrsb _ _ _ | .tLdr2 _ _ _ | .tLdrh2 _ _ _
  | .tLdrb2 _ _ _ | .tLdrsh _ _ _ | .tStr1 _ _ _ | .tLdr1 _ _ _ | .tStrb1 _ _ _ | .tLdrb1 _ _ _
  | .tStrh1 _ _ _ | .tLdrh1 _ _ _ | .tStr3 _ _ | .tLdr4 _ _ | .tAdd5 _ _ | .tAdd6 _ _ | .tAdd7 _ | .tSub4 _
  | .tSxth _ _ | .tSxtb _ _ | .tUxth _ _ | .tUxtb _ _ | .tPush _ _ | .tPop _ _ | .tSetend _ | .tCps _ _ _ _
  | .tRev _ _ | .tRev16 _ _ | .tRevsh _ _ | .tBkpt _ | .tStmia _ _ | .tLdmia _ _ | .tSvc _ | .tUndefined _
  | .tB1 _ _ | .tB2 _ | .tBlx1Suffix _ | .tBlBlxPrefix _ | .tBlSuffix _ => none

/-- The instructions that write the CPSR from a value: MSR to the CPSR, and the forms that restore it from a saved status. -/
def restoresStatus : Instr → Bool
  | .rfe _ _ _ _ => true
  | .msrReg _ r _ _ => !r
  | .msrImm _ r _ _ _ => !r
  | .andImm _ sf _ rd _ _ => sf && rd == 15
  | .andShift _ sf _ rd _ _ _ => sf && rd == 15
  | .eorImm _ sf _ rd _ _ => sf && rd == 15
  | .eorShift _ sf _ rd _ _ _ => sf && rd == 15
  | .subImm _ sf _ rd _ _ => sf && rd == 15
  | .subShift _ sf _ rd _ _ _ => sf && rd == 15
  | .rsbImm _ sf _ rd _ _ => sf && rd == 15
  | .rsbShift _ sf _ rd _ _ _ => sf && rd == 15
  | .addImm _ sf _ rd _ _ => sf && rd == 15
  | .addShift _ sf _ rd _ _ _ => sf && rd == 15
  | .adcImm _ sf _ rd _ _ => sf && rd == 15
  | .adcShift _ sf _ rd _ _ _ => sf && rd == 15
  | .sbcImm _ sf _ rd _ _ => sf && rd == 15
  | .sbcShift _ sf _ rd _ _ _ => sf && rd == 15
  | .rscImm _ sf _ rd _ _ => sf && rd == 15
  | .rscShift _ sf _ rd _ _ _ => sf && rd == 15
  | .orrImm _ sf _ rd _ _ => sf && rd == 15
  | .orrShift _ sf _ rd _ _ _ => sf && rd == 15
  | .movImm _ sf rd _ _ => sf && rd == 15
  | .movShift _ sf rd _ _ _ => sf && rd == 15
  | .bicImm _ sf _ rd _ _ => sf && rd == 15
  | .bicShift _ sf _ rd _ _ _ => sf && rd == 15
  | .mvnImm _ sf rd _ _ => sf && rd == 15
  | .mvnShift _ sf rd _ _ _ => sf && rd == 15
  | .ldm3 _ _ _ _ _ _ => true
  | .cps _ _ _ _ _ _ | .setend _ | .clrex | .pldImm _ _ _ | .pldReg _ _ _ _ _ | .srs _ _ _ _ | .blxImm _ _
  | .mcrr2 _ _ _ _ _ | .mrrc2 _ _ _ _ _ | .stc2Offset _ _ _ _ _ _ _ | .stc2Post _ _ _ _ _ _
  | .stc2Unindexed _ _ _ _ _ | .ldc2Offset _ _ _ _ _ _ _ | .ldc2Post _ _ _ _ _ _ | .ldc2Unindexed _ _ _ _ _
  | .cdp2 _ _ _ _ _ _ | .mcr2 _ _ _ _ _ _ | .mrc2 _ _ _ _ _ _ | .undefinedArm _ | .fmacs _ _ _ _ _ _ _
  | .fmacd _ _ _ _ | .fnmacs _ _ _ _ _ _ _ | .fnmacd _ _ _ _ | .fmscs _ _ _ _ _ _ _ | .fmscd _ _ _ _
  | .fnmscs _ _ _ _ _ _ _ | .fnmscd _ _ _ _ | .fmuls _ _ _ _ _ _ _ | .fmuld _ _ _ _ | .fnmuls _ _ _ _ _ _ _
  | .fnmuld _ _ _ _ | .fadds _ _ _ _ _ _ _ | .faddd _ _ _ _ | .fsubs _ _ _ _ _ _ _ | .fsubd _ _ _ _
  | .fdivs _ _ _ _ _ _ _ | .fdivd _ _ _ _ | .fcpys _ _ _ _ _ | .fcpyd _ _ _ | .fabss _ _ _ _ _ | .fabsd _ _ _
  | .fnegs _ _ _ _ _ | .fnegd _ _ _ | .fsqrts _ _ _ _ _ | .fsqrtd _ _ _ | .fcmps _ _ _ _ _ | .fcmpd _ _ _
  | .fcmpes _ _ _ _ _ | .fcmped _ _ _ | .fcmpzs _ _ _ | .fcmpzd _ _ | .fcmpezs _ _ _ | .fcmpezd _ _
  | .fcvtds _ _ _ _ | .fcvtsd _ _ _ _ | .fuitos _ _ _ _ _ | .fuitod _ _ _ _ | .fsitos _ _ _ _ _
  | .fsitod _ _ _ _ | .ftouis _ _ _ _ _ | .ftouid _ _ _ _ | .ftouizs _ _ _ _ _ | .ftouizd _ _ _ _
  | .ftosis _ _ _ _ _ | .ftosid _ _ _ _ | .ftosizs _ _ _ _ _ | .ftosizd _ _ _ _ | .flds _ _ _ _ _ _
  | .fldd _ _ _ _ _ | .fsts _ _ _ _ _ _ | .fstd _ _ _ _ _ | .fldmsIa _ _ _ _ _ _ | .fldmsDb _ _ _ _ _
  | .fldmdIa _ _ _ _ _ | .fldmdDb _ _ _ _ | .fldmxIa _ _ _ _ _ | .fldmxDb _ _ _ _ | .fstmsIa _ _ _ _ _ _
  | .fstmsDb _ _ _ _ _ | .fstmdIa _ _ _ _ _ | .fstmdDb _ _ _ _ | .fstmxIa _ _ _ _ _ | .fstmxDb _ _ _ _
  | .fmstat _ | .fmsr _ _ _ _ | .fmrs _ _ _ _ | .fmdlr _ _ _ | .fmrdl _ _ _ | .fmdhr _ _ _ | .fmrdh _ _ _
  | .fmxr _ _ _ | .fmrx _ _ _ | .fmdrr _ _ _ _ | .fmrrd _ _ _ _ | .fmsrr _ _ _ _ _ | .fmrrs _ _ _ _ _
  | .mrs _ _ _ | .bx _ _ | .bxj _ _ | .blxReg _ _ | .clz _ _ _ | .qadd _ _ _ _ | .qsub _ _ _ _
  | .qdadd _ _ _ _ | .qdsub _ _ _ _ | .bkpt _ | .smc _ _ | .smlaXY _ _ _ _ _ _ _ | .smlawY _ _ _ _ _ _
  | .smulwY _ _ _ _ _ | .smlalXY _ _ _ _ _ _ _ | .smulXY _ _ _ _ _ _ | .mul _ _ _ _ _ | .mla _ _ _ _ _ _
  | .umaal _ _ _ _ _ | .umull _ _ _ _ _ _ | .umlal _ _ _ _ _ _ | .smull _ _ _ _ _ _ | .smlal _ _ _ _ _ _
  | .swp _ _ _ _ | .swpb _ _ _ _ | .strex _ _ _ _ | .ldrex _ _ _ | .strexd _ _ _ _ | .ldrexd _ _ _
  | .strexb _ _ _ _ | .ldrexb _ _ _ | .strexh _ _ _ _ | .ldrexh _ _ _ | .strhImm _ _ _ _ _ _ _ _
  | .strhReg _ _ _ _ _ _ _ | .ldrdImm _ _ _ _ _ _ _ _ | .ldrdReg _ _ _ _ _ _ _ | .strdImm _ _ _ _ _ _ _ _
  | .strdReg _ _ _ _ _ _ _ | .ldrhImm _ _ _ _ _ _ _ _ | .ldrhReg _ _ _ _ _ _ _ | .ldrsbImm _ _ _ _ _ _ _ _
  | .ldrsbReg _ _ _ _ _ _ _ | .ldrshImm _ _ _ _ _ _ _ _ | .ldrshReg _ _ _ _ _ _ _ | .nop _ | .yield _
  | .nopReservedHint _ _ | .cpy _ _ _ | .andRegShift _ _ _ _ _ _ _ | .eorRegShift _ _ _ _ _ _ _
  | .subRegShift _ _ _ _ _ _ _ | .rsbRegShift _ _ _ _ _ _ _ | .addRegShift _ _ _ _ _ _ _
  | .adcRegShift _ _ _ _ _ _ _ | .sbcRegShift _ _ _ _ _ _ _ | .rscRegShift _ _ _ _ _ _ _ | .tstImm _ _ _ _
  | .tstShift _ _ _ _ _ | .tstRegShift _ _ _ _ _ | .teqImm _ _ _ _ | .teqShift _ _ _ _ _
  | .teqRegShift _ _ _ _ _ | .cmpImm _ _ _ _ | .cmpShift _ _ _ _ _ | .cmpRegShift _ _ _ _ _ | .cmnImm _ _ _ _
  | .cmnShift _ _ _ _ _ | .cmnRegShift _ _ _ _ _ | .orrRegShift _ _ _ _ _ _ _ | .movRegShift _ _ _ _ _ _
  | .bicRegShift _ _ _ _ _ _ _ | .mvnRegShift _ _ _ _ _ _ | .ldrtImm _ _ _ _ _ | .ldrtReg _ _ _ _ _ _ _
  | .ldrbtImm _ _ _ _ _ | .ldrbtReg _ _ _ _ _ _ _ | .strtImm _ _ _ _ _ | .strtReg _ _ _ _ _ _ _
  | .strbtImm _ _ _ _ _ | .strbtReg _ _ _ _ _ _ _ | .ldrImm _ _ _ _ _ _ _ | .ldrReg _ _ _ _ _ _ _ _ _
  | .ldrbImm _ _ _ _ _ _ _ | .ldrbReg _ _ _ _ _ _ _ _ _ | .strImm _ _ _ _ _ _ _ | .strReg _ _ _ _ _ _ _ _ _
  | .strbImm _ _ _ _ _ _ _ | .strbReg _ _ _ _ _ _ _ _ _ | .sadd16 _ _ _ _ | .qadd16 _ _ _ _ | .shadd16 _ _ _ _
  | .uadd16 _ _ _ _ | .uqadd16 _ _ _ _ | .uhadd16 _ _ _ _ | .saddsubx _ _ _ _ | .qaddsubx _ _ _ _
  | .shaddsubx _ _ _ _ | .uaddsubx _ _ _ _ | .uqaddsubx _ _ _ _ | .uhaddsubx _ _ _ _ | .ssubaddx _ _ _ _
  | .qsubaddx _ _ _ _ | .shsubaddx _ _ _ _ | .usubaddx _ _ _ _ | .uqsubaddx _ _ _ _ | .uhsubaddx _ _ _ _
  | .ssub16 _ _ _ _ | .qsub16 _ _ _ _ | .shsub16 _ _ _ _ | .usub16 _ _ _ _ | .uqsub16 _ _ _ _
  | .uhsub16 _ _ _ _ | .sadd8 _ _ _ _ | .qadd8 _ _ _ _ | .shadd8 _ _ _ _ | .uadd8 _ _ _ _ | .uqadd8 _ _ _ _
  | .uhadd8 _ _ _ _ | .ssub8 _ _ _ _ | .qsub8 _ _ _ _ | .shsub8 _ _ _ _ | .usub8 _ _ _ _ | .uqsub8 _ _ _ _
  | .uhsub8 _ _ _ _ | .pkhbt _ _ _ _ _ | .pkhtb _ _ _ _ _ | .ssat16 _ _ _ _ | .usat16 _ _ _ _
  | .ssat _ _ _ _ _ _ | .usat _ _ _ _ _ _ | .sel _ _ _ _ | .rev _ _ _ | .rev16 _ _ _ | .revsh _ _ _
  | .sxtb16 _ _ _ _ | .sxtb _ _ _ _ | .sxth _ _ _ _ | .uxtb16 _ _ _ _ | .uxtb _ _ _ _ | .uxth _ _ _ _
  | .sxtab16 _ _ _ _ _ | .sxtab _ _ _ _ _ | .sxtah _ _ _ _ _ | .uxtab16 _ _ _ _ _ | .uxtab _ _ _ _ _
  | .uxtah _ _ _ _ _ | .smuad _ _ _ _ _ | .smusd _ _ _ _ _ | .smlad _ _ _ _ _ _ | .smlsd _ _ _ _ _ _
  | .smlald _ _ _ _ _ _ | .smlsld _ _ _ _ _ _ | .smmul _ _ _ _ _ | .smmla _ _ _ _ _ _ | .smmls _ _ _ _ _ _
  | .usad8 _ _ _ _ | .usada8 _ _ _ _ _ | .ldm1 _ _ _ _ _ _ | .ldm2 _ _ _ _ _ | .stm1 _ _ _ _ _ _
  | .stm2 _ _ _ _ _ | .b _ _ | .bl _ _ | .mcrr _ _ _ _ _ _ | .mrrc _ _ _ _ _ _ | .stcOffset _ _ _ _ _ _ _ _
  | .stcPost _ _ _ _ _ _ _ | .stcUnindexed _ _ _ _ _ _ | .ldcOffset _ _ _ _ _ _ _ _ | .ldcPost _ _ _ _ _ _ _
  | .ldcUnindexed _ _ _ _ _ _ | .cdp _ _ _ _ _ _ _ | .mcr _ _ _ _ _ _ _ | .mrc _ _ _ _ _ _ _ | .svc _ _
  | .tMov2 _ _ | .tLsl1 _ _ _ | .tLsr1 _ _ _ | .tAsr1 _ _ _ | .tAdd3 _ _ _ | .tSub3 _ _ _ | .tAdd1 _ _ _
  | .tSub1 _ _ _ | .tMov1 _ _ | .tCmp1 _ _ | .tAdd2 _ _ | .tSub2 _ _ | .tAnd _ _ | .tEor _ _ | .tLsl2 _ _
  | .tLsr2 _ _ | .tAsr2 _ _ | .tAdc _ _ | .tSbc _ _ | .tRor _ _ | .tTst _ _ | .tNeg _ _ | .tCmp2 _ _
  | .tCmn _ _ | .tOrr _ _ | .tMul _ _ | .tBic _ _ | .tMvn _ _ | .tAdd4 _ _ _ _ | .tCmp3 _ _ _ _ | .tCpy _ _
  | .tMov3 _ _ _ _ | .tBx _ _ | .tBlx2 _ _ | .tLdr3 _ _ | .tStr2 _ _ _ | .tStrh2 _ _ _ | .tStrb2 _ _ _
  | .tLdrsb _ _ _ | .tLdr2 _ _ _ | .tLdrh2 _ _ _ | .tLdrb2 _ _ _ | .tLdrsh _ _ _ | .tStr1 _ _ _ | .tLdr1 _ _ _
  | .tStrb1 _ _ _ | .tLdrb1 _ _ _ | .tStrh1 _ _ _ | .tLdrh1 _ _ _ | .tStr3 _ _ | .tLdr4 _ _ | .tAdd5 _ _
  | .tAdd6 _ _ | .tAdd7 _ | .tSub4 _ | .tSxth _ _ | .tSxtb _ _ | .tUxth _ _ | .tUxtb _ _ | .tPush _ _
  | .tPop _ _ | .tSetend _ | .tCps _ _ _ _ | .tRev _ _ | .tRev16 _ _ | .tRevsh _ _ | .tBkpt _ | .tStmia _ _
  | .tLdmia _ _ | .tSvc _ | .tUndefined _ | .tB1 _ _ | .tB2 _ | .tBlx1Suffix _ | .tBlBlxPrefix _
  | .tBlSuffix _ => false

end Sys2Proof.Machine
end

