-- ==== Sys2Proof/Certificates/Slice0/Obligations.lean ====
section
/-! DEFINITION. Obligations: the statements for the provers. The lists pair instructions of one shape with what each of
them computes; `State.done` and the other names of states after an instruction stand in Safety. -/

section

open Sys2Proof Sys2Proof.Machine

/-- What reset forces (R69). -/
def Obligations.ResetState : Prop :=
  ∀ p : Pins,
    let s := State.resetWith p
    s.cp15.scr.getLsbD 0 = false ∧ s.cpsr.mode = .svc ∧ s.cpsr.a = true ∧ s.cpsr.i = true ∧ s.cpsr.f = true ∧
    s.cpsr.t = false ∧ s.cpsr.j = false ∧ s.cpsr.e = s.secure.sctlr.getLsbD 25 ∧
    s.secure.sctlr.getLsbD 25 = (p.bigendinit && p.ubitinit) ∧ s.secure.sctlr.getLsbD 13 = p.vinithi ∧
    s.pc = (if s.secure.sctlr.getLsbD 13 then 0xFFFF0000#32 else 0#32)

/-- The reset values of the system registers (R106, R426, R537, R1640). -/
def Obligations.ResetRegisters : Prop :=
  ∀ p : Pins,
    let s := State.resetWith p
    (∀ ns, let b := s.bankOf ns
      b.ttbr0 = 0 ∧ b.ttbr1 = 0 ∧ b.ttbcr = 0 ∧ b.dacr = 0 ∧ b.dfsr = 0 ∧ b.ifsr = 0 ∧ b.far = 0 ∧ b.ifar = 0 ∧
      b.prrr = 0x00098AA4#32 ∧ b.nmrr = 0x44E048E0#32 ∧ b.vbar = 0 ∧ b.fcse = 0 ∧ b.contextId = 0) ∧
    s.cp15.actlr = 7 ∧ s.cp15.cpacr = 0 ∧ s.cp15.sder = 0 ∧ s.cp15.nsacr = 0 ∧
    s.cp15.dLock = 0xFFFFFFF0#32 ∧ s.cp15.iLock = 0xFFFFFFF0#32 ∧ s.cp15.mvbar = 0 ∧ s.cp15.pmnc = 0 ∧
    (∀ c, (s.channel c).state = 0 ∧ (s.channel c).control = 0x08000000#32) ∧
    (∀ k : Fin 8, s.cp15.tlbLock[k].pa.getLsbD 0 = false) ∧
    s.dbg.dscr = 2 ∧ s.dbg.vcr = 0 ∧ s.vfp.fpscr = 0 ∧ s.vfp.fpexc = 0 ∧ s.vfp.fpinst = 0xEE000A00#32 ∧
    s.exclLocal = false ∧ s.exclGlobal = none ∧ s.pendingAbort = none ∧ s.halted = false

/-- Reset has the invariant (R54, R58, R340, R342, R345). -/
def Obligations.ResetHasInv : Prop :=
  ∀ p : Pins, (State.resetWith p).Inv

/-- Every step keeps the invariant, and none faults (R54, R55, R58, R68, R340, R342, R345, R434). -/
def Obligations.StepKeepsInv : Prop :=
  ∀ s : State, s.Inv → (∀ t, step s = .next t → t.Inv) ∧ s.safeStep

/-- No step changes an input (R1645, R30, R39). That the inputs and the choices of the platform stay as they are for a whole
run is the model's choice, DESIGN CHOICE of log 18, and no rule of the spec. -/
def Obligations.StepKeepsPins : Prop :=
  ∀ s t : State, step s = .next t → t.pins = s.pins

/-- A step runs the decoded instruction (R546, R821, R434, R355, R468, R56). -/
def Obligations.StepRunsDecoded : Prop :=
  ∀ (s u : State) (w : Word) (i : Instr),
    s.quiet = true → fetch (if s.cpsr.t then 2 else 4) s = .ok (w, u) → u.clear = true →
    decodeFor s.isa w = .instr i → i.WellFormed →
    let v : State := { u with jumped := false, wrapped := false, dbg := { u.dbg with sample := u.pcSample } }
    (∀ t, exec i v = .next t → t.wrapped = false → step s = .next ((v.watchpointEvent t).count s (some i))) ∧
    (∀ t, exec i v = .next t → t.wrapped = false → t.dbg.watchHit = none → s.cp15.pmnc.getLsbD 0 = false →
      step s = .next t) ∧
    (∀ t, exec i v = .next t → t.wrapped = true → step s = .refused .addressWrap) ∧
    (∀ r, exec i v = .refused r → step s = .refused r)

/-- A fetch reads the word at the PC (R546, R554, R541). That with the MMU off and a nonzero FCSE PID it reads at the modified
virtual address is the model's choice (DESIGN CHOICE, log 82). -/
def Obligations.FetchReadsMemory : Prop :=
  ∀ s : State, s.plainMemory = true → s.codeStale = [] →
    (s.pc.extractLsb' 0 2 = 0 → fetch 4 s = .ok (s.plainWord s.pc, s)) ∧
    (s.pc.getLsbD 0 = false →
      fetch 2 s = .ok ((s.plainByte (s.pc + 1) ++ s.plainByte s.pc).setWidth 32, s))

/-- Decoding an encoded instruction gives it back (R821, R826, R829, R844). -/
def Obligations.DecodeEncode : Prop :=
  ∀ i : Instr, i.WellFormed → decodeFor i.isa (encode i) = .instr i

/-- What is decoded is well-formed and encodes to the same word (R821, R829, R845). -/
def Obligations.EncodeDecode : Prop :=
  (∀ (w : Word) (i : Instr), decodeArm w = .instr i → i.WellFormed ∧ i.isa = .arm ∧ encode i = w) ∧
  (∀ (w : Half) (i : Instr), decodeThumb w = .instr i → i.WellFormed ∧ i.isa = .thumb ∧ encode i = w.setWidth 32)

/-- A few words decode to their instructions (R830, R842, R1245, R1267, R1271). -/
def Obligations.DecodedWords : Prop :=
  decodeArm 0xE2811004#32 = .instr (.addImm .al false 1 1 0 4) ∧
  decodeArm 0xE1A00211#32 = .instr (.movRegShift .al false 0 2 .lsl 1) ∧
  decodeArm 0xE0020190#32 = .instr (.mul .al false 2 1 0) ∧
  decodeArm 0xE5912008#32 = .instr (.ldrImm .al true true false 1 2 8) ∧
  decodeArm 0xE92D4010#32 = .instr (.stm1 .al true false true 13 0x4010) ∧
  decodeArm 0xEAFFFFFE#32 = .instr (.b .al 0xFFFFFE) ∧
  decodeArm 0xEF000001#32 = .instr (.svc .al 1) ∧
  decodeArm 0xF57FF01F#32 = .instr .clrex ∧
  decodeArm 0xF1010200#32 = .instr (.setend true) ∧
  decodeArm 0xE320F000#32 = .instr (.nop .al) ∧
  decodeArm 0xEE311A02#32 = .instr (.fadds .al false 1 1 false false 2) ∧
  decodeThumb 0x3105#16 = .instr (.tAdd2 1 5) ∧
  decodeThumb 0xB510#16 = .instr (.tPush true 0x10) ∧
  decodeThumb 0x4770#16 = .instr (.tBx true 6)

/-- When a condition passes (R823). -/
def Obligations.ConditionTable : Prop :=
  (∀ c : Cond, Cond.ofBits c.toBits = some c) ∧ Cond.ofBits 0b1111 = none ∧
  (∀ p : Psr,
    (Cond.ofBits 0b0000).map (Cond.passes · p) = some p.z ∧ (Cond.ofBits 0b0001).map (Cond.passes · p) = some (!p.z) ∧
    (Cond.ofBits 0b0010).map (Cond.passes · p) = some p.c ∧ (Cond.ofBits 0b0011).map (Cond.passes · p) = some (!p.c) ∧
    (Cond.ofBits 0b0100).map (Cond.passes · p) = some p.n ∧ (Cond.ofBits 0b0101).map (Cond.passes · p) = some (!p.n) ∧
    (Cond.ofBits 0b0110).map (Cond.passes · p) = some p.v ∧ (Cond.ofBits 0b0111).map (Cond.passes · p) = some (!p.v) ∧
    (Cond.ofBits 0b1000).map (Cond.passes · p) = some (p.c && !p.z) ∧
    (Cond.ofBits 0b1001).map (Cond.passes · p) = some (!p.c || p.z) ∧
    (Cond.ofBits 0b1010).map (Cond.passes · p) = some (p.n == p.v) ∧
    (Cond.ofBits 0b1011).map (Cond.passes · p) = some (p.n != p.v) ∧
    (Cond.ofBits 0b1100).map (Cond.passes · p) = some (!p.z && p.n == p.v) ∧
    (Cond.ofBits 0b1101).map (Cond.passes · p) = some (p.z || p.n != p.v) ∧
    (Cond.ofBits 0b1110).map (Cond.passes · p) = some true)

/-- An instruction whose condition fails has no effect (R824, R1123). -/
def Obligations.FailedConditionSkips : Prop :=
  ∀ (i : Instr) (c : Cond) (s : State), condOf? i = some c → Cond.passes c s.cpsr = false → s.halted = false →
    let n := if s.cpsr.t then 2 else 4
    exec i s = .next { s with
      pc := s.pc + BitVec.ofNat 32 n, wrapped := s.wrapped || decide (2 ^ 32 ≤ s.pc.toNat + n) }

/-- User mode is left only through a vector (R66, R1591, R1261, R1544, R905). -/
def Obligations.UserModeConfined : Prop :=
  ∀ (i : Instr) (s t : State), s.cpsr.mode = .usr → s.halted = false → exec i s = .next t →
    (t.cpsr.mode = .usr ∧ t.cpsr.a = s.cpsr.a ∧ t.cpsr.i = s.cpsr.i ∧ t.cpsr.f = s.cpsr.f) ∨
    (t.cpsr.mode ≠ .usr ∧ t.cpsr.i = true ∧ s.isVector t.pc = true ∧
      ∃ w, t.spsr.get? t.cpsr.mode = some w ∧ w.extractLsb' 0 5 = Mode.usr.toBits)

/-- The Non-secure world cannot change Secure configuration (R103, R104, R150, R153, R155, R342, R692). That an external
abort which SCR.EA routes to Secure Monitor mode writes the Secure fault registers is log 26 (DEDUCED). -/
def Obligations.NonSecureConfined : Prop :=
  ∀ (i : Instr) (s t : State), s.isSecure = false → s.halted = false → exec i s = .next t →
    t.cp15.scr = s.cp15.scr ∧ t.cp15.sder = s.cp15.sder ∧ t.cp15.nsacr = s.cp15.nsacr ∧
    t.cp15.actlr = s.cp15.actlr ∧ t.cp15.mvbar = s.cp15.mvbar ∧ t.cp15.savc = s.cp15.savc ∧
    t.cp15.sctlr = s.cp15.sctlr ∧ t.cp15.dtcm.map (·.nsAccess) = s.cp15.dtcm.map (·.nsAccess) ∧
    t.cp15.itcm.map (·.nsAccess) = s.cp15.itcm.map (·.nsAccess) ∧
    { t.secure with cacheDirty := s.secure.cacheDirty, dfsr := s.secure.dfsr, ifsr := s.secure.ifsr,
                    far := s.secure.far, ifar := s.secure.ifar } = s.secure ∧
    (t.cpsr.mode ≠ .mon → t.secure.dfsr = s.secure.dfsr ∧ t.secure.ifsr = s.secure.ifsr ∧
      t.secure.far = s.secure.far ∧ t.secure.ifar = s.secure.ifar)

/-- The Non-secure world cannot change Secure memory (R542, R229, R768, R150, R746). -/
def Obligations.SecureMemoryUntouched : Prop :=
  ∀ (i : Instr) (s t : State), s.Inv → s.isSecure = false → s.halted = false → (∀ pa, s.splits pa = true) →
    s.running = none → (∀ l ∈ s.dcache, l.ns = false → l.dirty = false) → exec i s = .next t →
    (∀ k, k < 0x100000000 → Memory.read t.mem k = Memory.read s.mem k) ∧
    (∀ l ∈ t.dcache, l.ns = false → l.dirty = false)

/-- The common entry sequence of an exception (R1544). -/
def Obligations.ExceptionEntry : Prop :=
  ∀ (x : Exc) (s : State),
    let monitor := x = .smc ∨ ((x = .prefetchAbort true ∨ x = .dataAbort true) ∧ s.cp15.scr.getLsbD 3 = true) ∨
      (x = .irq ∧ s.cp15.scr.getLsbD 1 = true) ∨ (x = .fiq ∧ s.cp15.scr.getLsbD 2 = true)
    let t := enterException x s
    let mode := if monitor then Mode.mon else x.mode
    let secure := monitor ∨ t.cp15.scr.getLsbD 0 = false
    t.cp15.scr = (if s.cpsr.mode = .mon then s.cp15.scr &&& ~~~1#32 else s.cp15.scr) ∧
    t.cpsr.mode = mode ∧ t.gpr[slot mode 14] = x.link s.pc s.thumb ∧ t.spsr.get? mode = some s.cpsr.toWord ∧
    t.cpsr.t = false ∧ t.cpsr.j = false ∧ t.cpsr.i = true ∧
    (t.cpsr.f = true ↔ s.cpsr.f = true ∨ monitor ∨ (x = .fiq ∧ (secure ∨ s.cp15.scr.getLsbD 4 = true))) ∧
    (t.cpsr.a = true ↔ s.cpsr.a = true ∨ monitor ∨
      (x ≠ .undefined ∧ x ≠ .svc ∧ (secure ∨ s.cp15.scr.getLsbD 5 = true))) ∧
    (secure → t.cpsr.e = s.secure.sctlr.getLsbD 25) ∧ (¬secure → t.cpsr.e = s.nonSecure.sctlr.getLsbD 25) ∧
    t.pc = x.vector s monitor (¬secure)

/-- Return values, modes and vectors (R1540, R1541, R1545). -/
def Obligations.ExceptionVectors : Prop :=
  (∀ pc thumb, Exc.undefined.link pc thumb = pc + (if thumb then 2 else 4) ∧
    Exc.svc.link pc thumb = pc + (if thumb then 2 else 4) ∧ Exc.smc.link pc thumb = pc + 4 ∧
    Exc.irq.link pc thumb = pc + 4 ∧ Exc.fiq.link pc thumb = pc + 4 ∧
    ∀ ext, (Exc.prefetchAbort ext).link pc thumb = pc + 4 ∧ (Exc.dataAbort ext).link pc thumb = pc + 8) ∧
  (Exc.undefined.mode = .und ∧ Exc.svc.mode = .svc ∧ Exc.smc.mode = .mon ∧ Exc.irq.mode = .irq ∧ Exc.fiq.mode = .fiq ∧
    ∀ ext, (Exc.prefetchAbort ext).mode = .abt ∧ (Exc.dataAbort ext).mode = .abt) ∧
  (∀ s : State, ∀ ns,
    let base := if (s.bankOf ns).sctlr.getLsbD 13 then 0xFFFF0000#32 else (s.bankOf ns).vbar
    Exc.undefined.vector s false ns = base + 0x04 ∧ Exc.svc.vector s false ns = base + 0x08 ∧
    (∀ ext, (Exc.prefetchAbort ext).vector s false ns = base + 0x0C ∧
      (Exc.dataAbort ext).vector s false ns = base + 0x10) ∧
    Exc.irq.vector s false ns =
      (if (s.bankOf ns).sctlr.getLsbD 24 then s.pins.irqAddr ++ 0#2 else base + 0x18) ∧
    Exc.fiq.vector s false ns = base + 0x1C ∧
    Exc.smc.vector s true ns = s.cp15.mvbar + 0x08 ∧ Exc.irq.vector s true ns = s.cp15.mvbar + 0x18 ∧
    Exc.fiq.vector s true ns = s.cp15.mvbar + 0x1C ∧
    (Exc.prefetchAbort true).vector s true ns = s.cp15.mvbar + 0x0C ∧
    (Exc.dataAbort true).vector s true ns = s.cp15.mvbar + 0x10)

/-- Interrupts at the boundary (R1557, R1558, R1572, R413, R1581). -/
def Obligations.InterruptsAreTaken : Prop :=
  ∀ s : State, s.running = none → s.debugRequest = none → s.halted = false → s.dbg.dscr.getLsbD 11 = false →
    s.pins.irqAddrV = false →
    (s.pins.nFIQ = false → s.cpsr.f = false → step s = .next ((enterException .fiq s).count s none)) ∧
    (s.pins.nFIQ = true ∨ s.cpsr.f = true → s.pins.nIRQ = false → s.cpsr.i = false →
      step s = .next ((enterException .irq s).count s none))

/-- SVC, SMC and BKPT enter their exceptions (R1268, R1269, R1270, R1420, R1421, R440, R1544). -/
def Obligations.SystemCallResults : Prop :=
  ∀ (s : State) (c : Cond) (imm : BitVec 24) (imm16 : BitVec 16) (imm8 : BitVec 8), s.halted = false →
    (Cond.passes c s.cpsr = true →
      exec (.svc c imm) s = .next (enterException .svc s) ∧
      (s.privileged = true → exec (.smc c imm16) s = .next (enterException .smc s)) ∧
      (s.privileged = false → exec (.smc c imm16) s = .next (enterException .undefined s))) ∧
    exec (.tSvc imm8) s = .next (enterException .svc s) ∧
    (∀ i, i = .bkpt imm16 ∨ i = .tBkpt imm8 →
      (s.haltingDebug = false → s.monitorDebug = false →
        exec i s = .next (enterException (.prefetchAbort false)
          (s.setBankOf (!s.isSecure) fun b => { b with ifsr := 2 }))) ∧
      (s.haltingDebug = true → exec i s = .next (s.enterDebug .bkpt)) ∧
      (s.haltingDebug = false → s.monitorDebug = true → exec i s = .next ((s.setEntry .bkpt).debugPrefetchAbort)))

/-- Instructions that are Undefined (R844, R1302, R1307, R1311, R1414, R1315, 92_eei_decisions.md). -/
def Obligations.UndefinedResults : Prop :=
  ∀ (s : State) (c : Cond) (a b d e f : BitVec 4) (x y : BitVec 3) (g : BitVec 8) (h : BitVec 28) (p q r : Bool),
    s.halted = false →
    exec (.undefinedArm h) s = .next (enterException .undefined s) ∧
    exec (.tUndefined g) s = .next (enterException .undefined s) ∧
    exec (.cdp2 a b d e x f) s = .next (enterException .undefined s) ∧
    exec (.mcr2 x a b d y e) s = .next (enterException .undefined s) ∧
    exec (.mrc2 x a b d y e) s = .next (enterException .undefined s) ∧
    exec (.mrrc2 a b d e f) s = .next (enterException .undefined s) ∧
    exec (.ldc2Offset p q r a b d g) s = .next (enterException .undefined s) ∧
    exec (.ldc2Post p q a b d g) s = .next (enterException .undefined s) ∧
    exec (.ldc2Unindexed p a b d g) s = .next (enterException .undefined s) ∧
    exec (.stc2Offset p q r a b d g) s = .next (enterException .undefined s) ∧
    exec (.stc2Post p q a b d g) s = .next (enterException .undefined s) ∧
    exec (.stc2Unindexed p a b d g) s = .next (enterException .undefined s) ∧
    (d ≠ 15 → exec (.mcrr2 a b d e f) s = .next (enterException .undefined s)) ∧
    (Cond.passes c s.cpsr = true → (e ≠ 10 ∧ e ≠ 11) ∨ (e = 10 ∧ s.vfpUsable false = true) ∨
        (e = 11 ∧ s.vfpUsable true = true) →
      exec (.cdp c a b d e x f) s = .next (enterException .undefined s) ∧
      exec (.mrrc c a b e d f) s = .next (enterException .undefined s)) ∧
    (Cond.passes c s.cpsr = true → execDecoded (.unallocated c) s = .next (enterException .undefined s)) ∧
    (Cond.passes c s.cpsr = false → execDecoded (.unallocated c) s = .next s.next) ∧
    execDecoded .unallocatedThumb s = .next (enterException .undefined s)

/-- MOVS PC, R14 after SVC resumes the caller (R1268, R905, R1544, R1545, R68). -/
def Obligations.SupervisorCallReturns : Prop :=
  ∀ (s t : State) (imm : BitVec 24), s.halted = false → s.cpsr.t = false → s.cpsr.j = false → s.pcAligned = true →
    s.cpsr.mode ≠ .svc → s.cpsr.mode ≠ .mon → exec (.svc .al imm) s = .next t →
    ∃ u, exec (.movShift .al true 15 0 .lsl 14) t = .next u ∧ u.cpsr = s.cpsr ∧ u.pc = s.pc + 4 ∧
      (∀ n : RegNo, n ≠ 15 → u.reg n = s.reg n) ∧ u.mem = s.mem ∧ u.cp15 = s.cp15 ∧ u.secure = s.secure ∧
      u.nonSecure = s.nonSecure

/-- AddWithCarry, and the sixteen opcodes with an immediate operand (R903). -/
def Obligations.ImmediateOpcodes : Prop :=
  (∀ (x y : Word) (cin : Bool), let r := addWithCarry x y cin
    r.value.toNat = (x.toNat + y.toNat + cin.toNat) % 2 ^ 32 ∧
    (r.carry = true ↔ 2 ^ 32 ≤ x.toNat + y.toNat + cin.toNat) ∧
    (r.overflow = true ↔ x.toInt + y.toInt + (cin.toNat : Int) < -2 ^ 31 ∨
      2 ^ 31 - 1 < x.toInt + y.toInt + (cin.toNat : Int)) ∧
    (r.overflow = true ↔ x.getLsbD 31 = y.getLsbD 31 ∧ r.value.getLsbD 31 ≠ x.getLsbD 31)) ∧
  (∀ x y : Word, (addWithCarry x (~~~y) true).value = x - y ∧
    ((addWithCarry x (~~~y) true).carry = true ↔ y.toNat ≤ x.toNat)) ∧
  ∀ (s : State) (c : Cond) (sf : Bool) (rn rd : RegNo) (rot : BitVec 4) (imm : BitVec 8),
    Cond.passes c s.cpsr = true → rd ≠ 15 →
    let o := shiftedImm rot imm s.cpsr.c
    let n := s.reg rn
    let k := s.cpsr.c
    (∀ x ∈ [(Instr.addImm c sf rn rd rot imm, addWithCarry n o.value false),
            (.adcImm c sf rn rd rot imm, addWithCarry n o.value k),
            (.subImm c sf rn rd rot imm, addWithCarry n (~~~o.value) true),
            (.sbcImm c sf rn rd rot imm, addWithCarry n (~~~o.value) k),
            (.rsbImm c sf rn rd rot imm, addWithCarry (~~~n) o.value true),
            (.rscImm c sf rn rd rot imm, addWithCarry (~~~n) o.value k)],
      exec x.1 s = .next (s.sumDone sf rd x.2)) ∧
    (∀ x ∈ [(Instr.andImm c sf rn rd rot imm, n &&& o.value), (.eorImm c sf rn rd rot imm, n ^^^ o.value),
            (.orrImm c sf rn rd rot imm, n ||| o.value), (.bicImm c sf rn rd rot imm, n &&& ~~~o.value),
            (.movImm c sf rd rot imm, o.value), (.mvnImm c sf rd rot imm, ~~~o.value)],
      exec x.1 s = .next (s.logicalDone sf rd x.2 o)) ∧
    exec (.tstImm c rn rot imm) s = .next (s.flagged (s.cpsr.logical (n &&& o.value) o.carry)) ∧
    exec (.teqImm c rn rot imm) s = .next (s.flagged (s.cpsr.logical (n ^^^ o.value) o.carry)) ∧
    exec (.cmpImm c rn rot imm) s = .next (s.flagged (s.cpsr.arithmetic (addWithCarry n (~~~o.value) true))) ∧
    exec (.cmnImm c rn rot imm) s = .next (s.flagged (s.cpsr.arithmetic (addWithCarry n o.value false)))

/-- The opcodes with a register shifted by a constant, and CPY (R901, R902, R903, R904, R922). -/
def Obligations.ShiftOpcodes : Prop :=
  ∀ (s : State) (c : Cond) (sf : Bool) (rn rd rm : RegNo) (ty : ShiftTy) (a : BitVec 5),
    Cond.passes c s.cpsr = true → rd ≠ 15 →
    let o := shiftedConst ty a (s.reg rm) s.cpsr.c
    let n := s.reg rn
    let k := s.cpsr.c
    (∀ x ∈ [(Instr.addShift c sf rn rd a ty rm, addWithCarry n o.value false),
            (.adcShift c sf rn rd a ty rm, addWithCarry n o.value k),
            (.subShift c sf rn rd a ty rm, addWithCarry n (~~~o.value) true),
            (.sbcShift c sf rn rd a ty rm, addWithCarry n (~~~o.value) k),
            (.rsbShift c sf rn rd a ty rm, addWithCarry (~~~n) o.value true),
            (.rscShift c sf rn rd a ty rm, addWithCarry (~~~n) o.value k)],
      exec x.1 s = .next (s.sumDone sf rd x.2)) ∧
    (∀ x ∈ [(Instr.andShift c sf rn rd a ty rm, n &&& o.value), (.eorShift c sf rn rd a ty rm, n ^^^ o.value),
            (.orrShift c sf rn rd a ty rm, n ||| o.value), (.bicShift c sf rn rd a ty rm, n &&& ~~~o.value),
            (.movShift c sf rd a ty rm, o.value), (.mvnShift c sf rd a ty rm, ~~~o.value)],
      exec x.1 s = .next (s.logicalDone sf rd x.2 o)) ∧
    exec (.tstShift c rn a ty rm) s = .next (s.flagged (s.cpsr.logical (n &&& o.value) o.carry)) ∧
    exec (.teqShift c rn a ty rm) s = .next (s.flagged (s.cpsr.logical (n ^^^ o.value) o.carry)) ∧
    exec (.cmpShift c rn a ty rm) s = .next (s.flagged (s.cpsr.arithmetic (addWithCarry n (~~~o.value) true))) ∧
    exec (.cmnShift c rn a ty rm) s = .next (s.flagged (s.cpsr.arithmetic (addWithCarry n o.value false))) ∧
    exec (.cpy c rd rm) s = .next (s.wrote rd (s.reg rm))

/-- The opcodes with a register shifted by a register (R901, R902, R903, R904, R846). -/
def Obligations.RegisterShiftOpcodes : Prop :=
  ∀ (s : State) (c : Cond) (sf : Bool) (rn rd rs rm : RegNo) (ty : ShiftTy), Cond.passes c s.cpsr = true →
    let o := shiftedReg ty (s.reg rs) (s.reg rm) s.cpsr.c
    let n := s.reg rn
    let k := s.cpsr.c
    let sums := [(Instr.addRegShift c sf rn rd rs ty rm, addWithCarry n o.value false),
      (.adcRegShift c sf rn rd rs ty rm, addWithCarry n o.value k),
      (.subRegShift c sf rn rd rs ty rm, addWithCarry n (~~~o.value) true),
      (.sbcRegShift c sf rn rd rs ty rm, addWithCarry n (~~~o.value) k),
      (.rsbRegShift c sf rn rd rs ty rm, addWithCarry (~~~n) o.value true),
      (.rscRegShift c sf rn rd rs ty rm, addWithCarry (~~~n) o.value k)]
    let logics := [(Instr.andRegShift c sf rn rd rs ty rm, n &&& o.value),
      (.eorRegShift c sf rn rd rs ty rm, n ^^^ o.value), (.orrRegShift c sf rn rd rs ty rm, n ||| o.value),
      (.bicRegShift c sf rn rd rs ty rm, n &&& ~~~o.value)]
    let moves := [(Instr.movRegShift c sf rd rs ty rm, o.value), (.mvnRegShift c sf rd rs ty rm, ~~~o.value)]
    let tests := [(Instr.tstRegShift c rn rs ty rm, s.cpsr.logical (n &&& o.value) o.carry),
      (.teqRegShift c rn rs ty rm, s.cpsr.logical (n ^^^ o.value) o.carry),
      (.cmpRegShift c rn rs ty rm, s.cpsr.arithmetic (addWithCarry n (~~~o.value) true)),
      (.cmnRegShift c rn rs ty rm, s.cpsr.arithmetic (addWithCarry n o.value false))]
    (15 ∉ [rn, rd, rs, rm] →
      (∀ x ∈ sums, exec x.1 s = .next (s.sumDone sf rd x.2)) ∧
      (∀ x ∈ logics, exec x.1 s = .next (s.logicalDone sf rd x.2 o))) ∧
    (15 ∉ [rd, rs, rm] → ∀ x ∈ moves, exec x.1 s = .next (s.logicalDone sf rd x.2 o)) ∧
    (15 ∉ [rn, rs, rm] → ∀ x ∈ tests, exec x.1 s = .next (s.flagged x.2)) ∧
    (15 ∈ [rn, rd, rs, rm] →
      (∀ x ∈ sums, exec x.1 s = .refused .unpredictableEncoding) ∧
      (∀ x ∈ logics, exec x.1 s = .refused .unpredictableEncoding)) ∧
    (15 ∈ [rd, rs, rm] → ∀ x ∈ moves, exec x.1 s = .refused .unpredictableEncoding) ∧
    (15 ∈ [rn, rs, rm] → ∀ x ∈ tests, exec x.1 s = .refused .unpredictableEncoding)

/-- The shifter operand bit by bit (R902). -/
def Obligations.ShifterBits : Prop :=
  (∀ (rot : BitVec 4) (imm : BitVec 8) (k : Bool), let o := shiftedImm rot imm k
    (∀ i, i < 32 → o.value.getLsbD i = (imm.setWidth 32).getLsbD ((i + 2 * rot.toNat) % 32)) ∧
    o.carry = (if rot = 0 then k else o.value.getLsbD 31)) ∧
  (∀ (a : BitVec 5) (v : Word) (k : Bool), a ≠ 0 → ∀ i, i < 32 →
    (shiftedConst .lsl a v k).value.getLsbD i = (decide (a.toNat ≤ i) && v.getLsbD (i - a.toNat)) ∧
    (shiftedConst .lsl a v k).carry = v.getLsbD (32 - a.toNat) ∧
    (shiftedConst .lsr a v k).value.getLsbD i = v.getLsbD (i + a.toNat) ∧
    (shiftedConst .asr a v k).value.getLsbD i = (if i + a.toNat < 32 then v.getLsbD (i + a.toNat) else v.getLsbD 31) ∧
    (shiftedConst .ror a v k).value.getLsbD i = v.getLsbD ((i + a.toNat) % 32) ∧
    ∀ ty, ty ≠ .lsl → (shiftedConst ty a v k).carry = v.getLsbD (a.toNat - 1)) ∧
  (∀ (v : Word) (k : Bool),
    shiftedConst .lsl 0 v k = { value := v, carry := k } ∧
    shiftedConst .lsr 0 v k = { value := 0, carry := v.getLsbD 31 } ∧
    shiftedConst .asr 0 v k = { value := if v.getLsbD 31 then 0xFFFFFFFF#32 else 0, carry := v.getLsbD 31 } ∧
    (shiftedConst .ror 0 v k).carry = v.getLsbD 0 ∧
    ∀ i, i < 32 → (shiftedConst .ror 0 v k).value.getLsbD i = (if i = 31 then k else v.getLsbD (i + 1))) ∧
  (∀ (ty : ShiftTy) (b v : Word) (k : Bool), let n := (b.extractLsb' 0 8).toNat
    (n = 0 → shiftedReg ty b v k = { value := v, carry := k }) ∧
    (0 < n → n < 32 → shiftedReg ty b v k = shiftedConst ty (BitVec.ofNat 5 n) v k) ∧
    (32 ≤ n →
      shiftedReg .lsl b v k = { value := 0, carry := decide (n = 32) && v.getLsbD 0 } ∧
      shiftedReg .lsr b v k = { value := 0, carry := decide (n = 32) && v.getLsbD 31 } ∧
      shiftedReg .asr b v k = shiftedConst .asr 0 v k ∧
      (n % 32 = 0 → shiftedReg .ror b v k = { value := v, carry := v.getLsbD 31 }) ∧
      (n % 32 ≠ 0 → shiftedReg .ror b v k = shiftedConst .ror (BitVec.ofNat 5 (n % 32)) v k)))

/-- Data processing with R15 as destination, CPY among it (R905, R922, R53, R46, R63, R64, R67). -/
def Obligations.PcDestination : Prop :=
  ∀ (s : State) (c : Cond) (sf : Bool) (rn rm : RegNo) (rot : BitVec 4) (imm : BitVec 8) (ty : ShiftTy) (a : BitVec 5),
    Cond.passes c s.cpsr = true →
    let o := shiftedImm rot imm s.cpsr.c
    let h := shiftedConst ty a (s.reg rm) s.cpsr.c
    let n := s.reg rn
    let k := s.cpsr.c
    exec (.cpy c 15 rm) s = .next (s.branchKeep (s.reg rm)) ∧
    ∀ x ∈ [(Instr.andImm c sf rn 15 rot imm, n &&& o.value), (.andShift c sf rn 15 a ty rm, n &&& h.value),
           (.eorImm c sf rn 15 rot imm, n ^^^ o.value), (.eorShift c sf rn 15 a ty rm, n ^^^ h.value),
           (.orrImm c sf rn 15 rot imm, n ||| o.value), (.orrShift c sf rn 15 a ty rm, n ||| h.value),
           (.bicImm c sf rn 15 rot imm, n &&& ~~~o.value), (.bicShift c sf rn 15 a ty rm, n &&& ~~~h.value),
           (.movImm c sf 15 rot imm, o.value), (.movShift c sf 15 a ty rm, h.value),
           (.mvnImm c sf 15 rot imm, ~~~o.value), (.mvnShift c sf 15 a ty rm, ~~~h.value),
           (.addImm c sf rn 15 rot imm, n + o.value), (.addShift c sf rn 15 a ty rm, n + h.value),
           (.subImm c sf rn 15 rot imm, n - o.value), (.subShift c sf rn 15 a ty rm, n - h.value),
           (.rsbImm c sf rn 15 rot imm, o.value - n), (.rsbShift c sf rn 15 a ty rm, h.value - n),
           (.adcImm c sf rn 15 rot imm, (addWithCarry n o.value k).value),
           (.adcShift c sf rn 15 a ty rm, (addWithCarry n h.value k).value),
           (.sbcImm c sf rn 15 rot imm, (addWithCarry n (~~~o.value) k).value),
           (.sbcShift c sf rn 15 a ty rm, (addWithCarry n (~~~h.value) k).value),
           (.rscImm c sf rn 15 rot imm, (addWithCarry (~~~n) o.value k).value),
           (.rscShift c sf rn 15 a ty rm, (addWithCarry (~~~n) h.value k).value)],
      (sf = false → exec x.1 s = .next (s.branchKeep x.2)) ∧
      (sf = true → s.halted = false →
        (s.spsr.get? s.cpsr.mode = none → exec x.1 s = .refused .noSpsr) ∧
        (∀ v, s.spsr.get? s.cpsr.mode = some v → Mode.ofBits? (v.extractLsb' 0 5) = none →
          exec x.1 s = .refused .illegalMode) ∧
        (∀ v, s.spsr.get? s.cpsr.mode = some v → (Mode.ofBits? (v.extractLsb' 0 5)).isSome = true →
          ∃ p, s.cpsr.merge v (s.returnMask v) = some p ∧
            (s.isSecure = true → p.toWord = v &&& psrMask) ∧
            exec x.1 s = .next (s.returned p x.2)))

/-- The multiplies, dual multiplies and sums of differences that set no Q flag (R961, R962, R963, R964, R965, R969,
R972, R974, R1060, R1078, R1080, R1082). -/
def Obligations.MultiplyResults : Prop :=
  ∀ (s : State) (c : Cond) (sf x y r : Bool) (rd rn rs rm : RegNo), Cond.passes c s.cpsr = true →
    15 ∉ [rd, rn, rs, rm] →
    let m := s.reg rm
    let q := s.reg rs
    let p := products m q x
    let n := (s.reg rn).toInt * 2 ^ 32
    exec (.mul c sf rd rs rm) s = .next (s.mulDone sf rd (m * q)) ∧
    exec (.mla c sf rd rn rs rm) s = .next (s.mulDone sf rd (m * q + s.reg rn)) ∧
    (∀ z ∈ [(Instr.smulXY c rd rs y x rm, narrow (half m x * half q y)),
            (.smulwY c rd rs y rm, narrow (m.toInt * half q y / 2 ^ 16)), (.smusd c rd rs x rm, narrow (p.1 - p.2)),
            (.smmul c rd rs r rm, highWord (m.toInt * q.toInt + rounding r)),
            (.smmla c rd rn rs r rm, highWord (n + m.toInt * q.toInt + rounding r)),
            (.smmls c rd rn rs r rm, highWord (n - m.toInt * q.toInt + rounding r)),
            (.usad8 c rd rs rm, BitVec.ofNat 32 (differences m q)),
            (.usada8 c rd rn rs rm, s.reg rn + BitVec.ofNat 32 (differences m q))],
      exec z.1 s = .next (s.wrote rd z.2)) ∧
    (rd ≠ rn →
      let pair : DWord := s.reg rd ++ s.reg rn
      let u := BitVec.ofNat 64 (m.toNat * q.toNat)
      let i := BitVec.ofInt 64 (m.toInt * q.toInt)
      (∀ z ∈ [(Instr.umull c sf rd rn rs rm, u), (.umlal c sf rd rn rs rm, u + pair), (.smull c sf rd rn rs rm, i),
              (.smlal c sf rd rn rs rm, i + pair)],
        exec z.1 s = .next (s.longDone sf rd rn z.2)) ∧
      (∀ z ∈ [(Instr.umaal c rd rn rs rm,
                BitVec.ofNat 64 (m.toNat * q.toNat + (s.reg rn).toNat + (s.reg rd).toNat)),
              (.smlalXY c rd rn rs y x rm, BitVec.ofInt 64 (half m x * half q y) + pair),
              (.smlald c rd rn rs x rm, BitVec.ofInt 64 (p.1 + p.2) + pair),
              (.smlsld c rd rn rs x rm, BitVec.ofInt 64 (p.1 - p.2) + pair)],
        exec z.1 s = .next (s.longDone false rd rn z.2)))

/-- The instructions that set the Q flag (R60, R971, R973, R975, R976, R977, R978, R1074, R1076, R1077, R1083, R1084).
-/
def Obligations.SaturatingResults : Prop :=
  ∀ (s : State) (c : Cond) (x y sh : Bool) (rd rn rs rm : RegNo) (sat amount : BitVec 5) (sat4 : BitVec 4),
    Cond.passes c s.cpsr = true → 15 ∉ [rd, rn, rs, rm] →
    let m := s.reg rm
    let q := s.reg rs
    let n := (s.reg rn).toInt
    let d := signedSat (2 * n) 32
    let p := products m q x
    let w := (narrow (m.toInt * half q y / 2 ^ 16)).toInt + n
    let o := (satOperand amount sh m).toInt
    (∀ z ∈ [(Instr.qadd c rn rd rm, m.toInt + n, false), (.qsub c rn rd rm, m.toInt - n, false),
            (.qdadd c rn rd rm, m.toInt + d.1, d.2), (.qdsub c rn rd rm, m.toInt - d.1, d.2)],
      exec z.1 s = .next (s.stickyDone rd (narrow (signedSat z.2.1 32).1) (z.2.2 || (signedSat z.2.1 32).2))) ∧
    (∀ z ∈ [(Instr.smlaXY c rd rn rs y x rm, half m x * half q y + n), (.smlawY c rd rn rs y rm, w),
            (.smuad c rd rs x rm, p.1 + p.2), (.smlad c rd rn rs x rm, p.1 + p.2 + n),
            (.smlsd c rd rn rs x rm, p.1 - p.2 + n)],
      exec z.1 s = .next (s.stickyDone rd (narrow z.2) (outside z.2 32))) ∧
    exec (.ssat c sat rd amount sh rm) s =
      .next (s.stickyDone rd (narrow (signedSat o (sat.toNat + 1)).1) (signedSat o (sat.toNat + 1)).2) ∧
    exec (.usat c sat rd amount sh rm) s =
      .next (s.stickyDone rd (narrow (unsignedSat o sat.toNat).1) (unsignedSat o sat.toNat).2) ∧
    (∀ z ∈ [(Instr.ssat16 c sat4 rd rm, fun v => signedSat v (sat4.toNat + 1)),
            (.usat16 c sat4 rd rm, fun v => unsignedSat v sat4.toNat)],
      exec z.1 s = .next (s.stickyDone rd
        (BitVec.ofInt 16 (z.2 (half m true)).1 ++ BitVec.ofInt 16 (z.2 (half m false)).1)
        ((z.2 (half m false)).2 || (z.2 (half m true)).2)))

/-- Only a write of the status register clears Q (R60, R1023, R962). -/
def Obligations.QFlagIsSticky : Prop :=
  ∀ (i : Instr) (s t : State), restoresStatus i = false → s.cpsr.q = true → exec i s = .next t → t.cpsr.q = true

/-- The thirty-six parallel additions and subtractions (R1022, R1023, R961). -/
def Obligations.ParallelResults : Prop :=
  (∀ (p : LanePrefix) (a b : Word),
    let X (v : Word) (lo w : Nat) : Int :=
      if p = .s ∨ p = .q ∨ p = .sh then (v.extractLsb' lo w).toInt else (v.extractLsb' lo w).toNat
    let put (o : LaneOp) (lo w : Nat) (x : Int) : Prop :=
      let r : BitVec w := (o.apply p a b).1.extractLsb' lo w
      match p with
      | .s => (r.toNat : Int) = x % 2 ^ w
      | .u => (r.toNat : Int) = x % 2 ^ w
      | .q => r.toInt = max (-2 ^ (w - 1)) (min (2 ^ (w - 1) - 1) x)
      | .uq => (r.toNat : Int) = max 0 (min (2 ^ w - 1) x)
      | .sh => (r.toNat : Int) = x / 2 % 2 ^ w
      | .uh => (r.toNat : Int) = x / 2 % 2 ^ w
    put .add16 16 16 (X a 16 16 + X b 16 16) ∧ put .add16 0 16 (X a 0 16 + X b 0 16) ∧
    put .addsubx 16 16 (X a 16 16 + X b 0 16) ∧ put .addsubx 0 16 (X a 0 16 - X b 16 16) ∧
    put .subaddx 16 16 (X a 16 16 - X b 0 16) ∧ put .subaddx 0 16 (X a 0 16 + X b 16 16) ∧
    put .sub16 16 16 (X a 16 16 - X b 16 16) ∧ put .sub16 0 16 (X a 0 16 - X b 0 16) ∧
    ∀ i, i < 4 → put .add8 (8 * i) 8 (X a (8 * i) 8 + X b (8 * i) 8) ∧
      put .sub8 (8 * i) 8 (X a (8 * i) 8 - X b (8 * i) 8)) ∧
  ∀ (s : State) (c : Cond) (rn rd rm : RegNo), Cond.passes c s.cpsr = true → 15 ∉ [rn, rd, rm] →
    ∀ x ∈ [(Instr.sadd16 c rn rd rm, LanePrefix.s, LaneOp.add16), (.qadd16 c rn rd rm, .q, .add16),
           (.shadd16 c rn rd rm, .sh, .add16), (.uadd16 c rn rd rm, .u, .add16), (.uqadd16 c rn rd rm, .uq, .add16),
           (.uhadd16 c rn rd rm, .uh, .add16), (.saddsubx c rn rd rm, .s, .addsubx),
           (.qaddsubx c rn rd rm, .q, .addsubx), (.shaddsubx c rn rd rm, .sh, .addsubx),
           (.uaddsubx c rn rd rm, .u, .addsubx), (.uqaddsubx c rn rd rm, .uq, .addsubx),
           (.uhaddsubx c rn rd rm, .uh, .addsubx), (.ssubaddx c rn rd rm, .s, .subaddx),
           (.qsubaddx c rn rd rm, .q, .subaddx), (.shsubaddx c rn rd rm, .sh, .subaddx),
           (.usubaddx c rn rd rm, .u, .subaddx), (.uqsubaddx c rn rd rm, .uq, .subaddx),
           (.uhsubaddx c rn rd rm, .uh, .subaddx), (.ssub16 c rn rd rm, .s, .sub16), (.qsub16 c rn rd rm, .q, .sub16),
           (.shsub16 c rn rd rm, .sh, .sub16), (.usub16 c rn rd rm, .u, .sub16), (.uqsub16 c rn rd rm, .uq, .sub16),
           (.uhsub16 c rn rd rm, .uh, .sub16), (.sadd8 c rn rd rm, .s, .add8), (.qadd8 c rn rd rm, .q, .add8),
           (.shadd8 c rn rd rm, .sh, .add8), (.uadd8 c rn rd rm, .u, .add8), (.uqadd8 c rn rd rm, .uq, .add8),
           (.uhadd8 c rn rd rm, .uh, .add8), (.ssub8 c rn rd rm, .s, .sub8), (.qsub8 c rn rd rm, .q, .sub8),
           (.shsub8 c rn rd rm, .sh, .sub8), (.usub8 c rn rd rm, .u, .sub8), (.uqsub8 c rn rd rm, .uq, .sub8),
           (.uhsub8 c rn rd rm, .uh, .sub8)],
      exec x.1 s = .next (s.lanesDone rd (x.2.2.apply x.2.1 (s.reg rn) (s.reg rm)) x.2.1.writesGe)

/-- Who writes the GE bits, with what, and who reads them (R61, R1087). -/
def Obligations.GeBits : Prop :=
  ∀ (s : State) (c : Cond) (rn rd rm : RegNo), Cond.passes c s.cpsr = true →
    (15 ∈ [rn, rd, rm] → exec (.sel c rn rd rm) s = .refused .unpredictableEncoding) ∧
    (15 ∉ [rn, rd, rm] →
    let a := s.reg rn
    let b := s.reg rm
    let S (v : Word) (lo width : Nat) : Int := (v.extractLsb' lo width).toInt
    let U (v : Word) (lo width : Nat) : Int := (v.extractLsb' lo width).toNat
    let two (hi lo : Prop) (p : BitVec 4) : Prop :=
      (p.getLsbD 3 = true ↔ hi) ∧ (p.getLsbD 2 = true ↔ hi) ∧ (p.getLsbD 1 = true ↔ lo) ∧ (p.getLsbD 0 = true ↔ lo)
    let four (f : Nat → Prop) (p : BitVec 4) : Prop := ∀ i, i < 4 → (p.getLsbD i = true ↔ f i)
    (∀ x ∈ [(Instr.sadd16 c rn rd rm, two (0 ≤ S a 16 16 + S b 16 16) (0 ≤ S a 0 16 + S b 0 16)),
            (.ssub16 c rn rd rm, two (0 ≤ S a 16 16 - S b 16 16) (0 ≤ S a 0 16 - S b 0 16)),
            (.saddsubx c rn rd rm, two (0 ≤ S a 16 16 + S b 0 16) (0 ≤ S a 0 16 - S b 16 16)),
            (.ssubaddx c rn rd rm, two (0 ≤ S a 16 16 - S b 0 16) (0 ≤ S a 0 16 + S b 16 16)),
            (.sadd8 c rn rd rm, four fun i => 0 ≤ S a (8 * i) 8 + S b (8 * i) 8),
            (.ssub8 c rn rd rm, four fun i => 0 ≤ S a (8 * i) 8 - S b (8 * i) 8),
            (.uadd16 c rn rd rm, two (2 ^ 16 ≤ U a 16 16 + U b 16 16) (2 ^ 16 ≤ U a 0 16 + U b 0 16)),
            (.usub16 c rn rd rm, two (0 ≤ U a 16 16 - U b 16 16) (0 ≤ U a 0 16 - U b 0 16)),
            (.uaddsubx c rn rd rm, two (2 ^ 16 ≤ U a 16 16 + U b 0 16) (0 ≤ U a 0 16 - U b 16 16)),
            (.usubaddx c rn rd rm, two (0 ≤ U a 16 16 - U b 0 16) (2 ^ 16 ≤ U a 0 16 + U b 16 16)),
            (.uadd8 c rn rd rm, four fun i => 2 ^ 8 ≤ U a (8 * i) 8 + U b (8 * i) 8),
            (.usub8 c rn rd rm, four fun i => 0 ≤ U a (8 * i) 8 - U b (8 * i) 8)],
      ∃ t, exec x.1 s = .next t ∧ x.2 t.cpsr.ge) ∧
    (∀ i ∈ [Instr.qadd16 c rn rd rm, .qsub16 c rn rd rm, .qaddsubx c rn rd rm, .qsubaddx c rn rd rm,
            .qadd8 c rn rd rm, .qsub8 c rn rd rm, .shadd16 c rn rd rm, .shsub16 c rn rd rm, .shaddsubx c rn rd rm,
            .shsubaddx c rn rd rm, .shadd8 c rn rd rm, .shsub8 c rn rd rm, .uqadd16 c rn rd rm, .uqsub16 c rn rd rm,
            .uqaddsubx c rn rd rm, .uqsubaddx c rn rd rm, .uqadd8 c rn rd rm, .uqsub8 c rn rd rm,
            .uhadd16 c rn rd rm, .uhsub16 c rn rd rm, .uhaddsubx c rn rd rm, .uhsubaddx c rn rd rm,
            .uhadd8 c rn rd rm, .uhsub8 c rn rd rm],
      ∃ t, exec i s = .next t ∧ t.cpsr.ge = s.cpsr.ge) ∧
    ∃ r : Word, exec (.sel c rn rd rm) s = .next (s.wrote rd r) ∧
      ∀ i, i < 4 → r.extractLsb' (8 * i) 8 =
        (if s.cpsr.ge.getLsbD i then a.extractLsb' (8 * i) 8 else b.extractLsb' (8 * i) 8))

/-- Extensions, packing, reversal and CLZ (R924, R1062, R1066, R1070, R1073, R1088, R1089, R1090, R1091, R1092). -/
def Obligations.PackExtendResults : Prop :=
  ∀ (s : State) (c : Cond) (rn rd rm : RegNo) (rot : BitVec 2) (amount : BitVec 5), Cond.passes c s.cpsr = true →
    15 ∉ [rn, rd, rm] →
    let m := s.reg rm
    let n := s.reg rn
    let v := m.rotateRight (8 * rot.toNat)
    let top : Word := if amount = 0 then m.sshiftRight 31 else m.sshiftRight amount.toNat
    ∀ x ∈ [(Instr.sxtb c rd rot rm, (v.extractLsb' 0 8).signExtend 32),
           (.sxth c rd rot rm, (v.extractLsb' 0 16).signExtend 32),
           (.uxtb c rd rot rm, (v.extractLsb' 0 8).setWidth 32), (.uxth c rd rot rm, (v.extractLsb' 0 16).setWidth 32),
           (.sxtb16 c rd rot rm, (v.extractLsb' 16 8).signExtend 16 ++ (v.extractLsb' 0 8).signExtend 16),
           (.uxtb16 c rd rot rm, (v.extractLsb' 16 8).setWidth 16 ++ (v.extractLsb' 0 8).setWidth 16),
           (.sxtab c rn rd rot rm, n + (v.extractLsb' 0 8).signExtend 32),
           (.sxtah c rn rd rot rm, n + (v.extractLsb' 0 16).signExtend 32),
           (.uxtab c rn rd rot rm, n + (v.extractLsb' 0 8).setWidth 32),
           (.uxtah c rn rd rot rm, n + (v.extractLsb' 0 16).setWidth 32),
           (.sxtab16 c rn rd rot rm, (n.extractLsb' 16 16 + (v.extractLsb' 16 8).signExtend 16) ++
             (n.extractLsb' 0 16 + (v.extractLsb' 0 8).signExtend 16)),
           (.uxtab16 c rn rd rot rm, (n.extractLsb' 16 16 + (v.extractLsb' 16 8).setWidth 16) ++
             (n.extractLsb' 0 16 + (v.extractLsb' 0 8).setWidth 16)),
           (.pkhbt c rn rd amount rm, (m <<< amount.toNat).extractLsb' 16 16 ++ n.extractLsb' 0 16),
           (.pkhtb c rn rd amount rm, n.extractLsb' 16 16 ++ top.extractLsb' 0 16),
           (.rev c rd rm, m.extractLsb' 0 8 ++ m.extractLsb' 8 8 ++ m.extractLsb' 16 8 ++ m.extractLsb' 24 8),
           (.rev16 c rd rm, m.extractLsb' 16 8 ++ m.extractLsb' 24 8 ++ m.extractLsb' 0 8 ++ m.extractLsb' 8 8),
           (.revsh c rd rm, (m.extractLsb' 0 8 ++ m.extractLsb' 8 8 : BitVec 16).signExtend 32),
           (.clz c rd rm, BitVec.ofNat 32 (leadingZeros m 32))],
      exec x.1 s = .next (s.wrote rd x.2)

/-- The branches (R1121, R1123, R1124, R1125, R1126, R1127, R1128, R1383, R1384, R1413, R1414, R1415). That the target of the
second half of the Thumb BL has bit 0 cleared is DEDUCED (log 43): R1413 has no AND there. So is it that a branch in Debug
state, where the PC may read as any value, drops the low bits that the PC does not have (log 22). -/
def Obligations.BranchResults : Prop :=
  let go (s : State) (a : Word) : State :=
    s.branchTo (if s.halted then (if s.cpsr.t then a &&& ~~~1#32 else a &&& ~~~3#32) else a)
  (∀ (s : State) (c : Cond) (imm : BitVec 24) (h : Bool) (rm : RegNo), Cond.passes c s.cpsr = true →
    let target := s.readPc + (imm.signExtend 32 <<< 2)
    let linked := s.setReg 14 (s.readPc - 4)
    let v := s.reg rm
    exec (.b c imm) s = .next (go s target) ∧
    exec (.bl c imm) s = .next (go linked target) ∧
    exec (.blxImm h imm) s = .next (go { linked with cpsr := { s.cpsr with t := true } }
      (target + (if h then 2 else 0))) ∧
    (v.getLsbD 0 = true ∨ v.getLsbD 1 = false →
      exec (.bx c rm) s = .next (s.interwork v) ∧
      (rm ≠ 15 → exec (.bxj c rm) s = .next (s.interwork v) ∧ exec (.blxReg c rm) s = .next (linked.interwork v))) ∧
    (v.getLsbD 0 = false → v.getLsbD 1 = true →
      exec (.bx c rm) s = .refused .branchTarget ∧
      (rm ≠ 15 → exec (.bxj c rm) s = .refused .branchTarget ∧ exec (.blxReg c rm) s = .refused .branchTarget)) ∧
    exec (.bxj c 15) s = .refused .unpredictableEncoding ∧ exec (.blxReg c 15) s = .refused .unpredictableEncoding) ∧
  (∀ (s : State) (c : Cond) (i8 : BitVec 8) (i10 : BitVec 10) (i11 : BitVec 11) (h : Bool) (rm : LowReg),
    let v := s.reg (high h rm)
    let linked := s.setReg 14 ((s.readPc - 2) ||| 1)
    (Cond.passes c s.cpsr = true → exec (.tB1 c i8) s = .next (go s (s.readPc + (i8.signExtend 32 <<< 1)))) ∧
    exec (.tB2 i11) s = .next (go s (s.readPc + (i11.signExtend 32 <<< 1))) ∧
    exec (.tBlBlxPrefix i11) s = .next (s.wrote 14 (s.readPc + (i11.signExtend 32 <<< 12))) ∧
    exec (.tBlSuffix i11) s = .next (linked.branchTo ((s.reg 14 + (i11.setWidth 32 <<< 1)) &&& ~~~1#32)) ∧
    exec (.tBlx1Suffix i10) s = .next ({ linked with cpsr := { s.cpsr with t := false } }.branchTo
      ((s.reg 14 + (i10.setWidth 32 <<< 2)) &&& ~~~3#32)) ∧
    (v.getLsbD 0 = true ∨ v.getLsbD 1 = false → exec (.tBx h rm) s = .next (s.interwork v) ∧
      (high h rm ≠ 15 → exec (.tBlx2 h rm) s = .next (linked.interwork v))) ∧
    (v.getLsbD 0 = false → v.getLsbD 1 = true → exec (.tBx h rm) s = .refused .branchTarget ∧
      (high h rm ≠ 15 → exec (.tBlx2 h rm) s = .refused .branchTarget)) ∧
    (high h rm = 15 → exec (.tBlx2 h rm) s = .refused .unpredictableEncoding))

/-- The loads of one register (R1142, R1143, R1144, R1147, R1150, R1152, R1155, R1156, R1160, R1161, R1162). -/
def Obligations.LoadResults : Prop :=
  ∀ (s t : State) (c : Cond) (p u wb : Bool) (rn rd rm : RegNo) (imm : BitVec 12) (hi lo : BitVec 4) (ty : ShiftTy)
    (amount : BitVec 5) (v : Word), Cond.passes c s.cpsr = true → rd ≠ 15 →
    let shifted := (shiftedConst ty amount (s.reg rm) s.cpsr.c).value
    let split := (hi ++ lo).setWidth 32
    let writes := !p || wb
    let back (r : RegNo) : Prop := writes = true → rn ≠ 15 ∧ rd ≠ rn ∧ r ≠ rn
    let load (i : Instr) (a : Indexed) (ty : AccType) (n : Nat) (priv : Bool) (r : Word) : Prop :=
      memRead (loadOf ty priv) a.addr n s = .ok (v, t) → exec i s = .next ((t.based rn a.back).wrote rd r)
    (back rd →
      load (.ldrImm c p u wb rn rd imm) (indexed p u wb rn (imm.setWidth 32) s) .wload 4 s.privileged v ∧
      load (.ldrbImm c p u wb rn rd imm) (indexed p u wb rn (imm.setWidth 32) s) .byte 1 s.privileged v) ∧
    (back rm → rm ≠ 15 →
      load (.ldrReg c p u wb rn rd amount ty rm) (indexed p u wb rn shifted s) .wload 4 s.privileged v ∧
      load (.ldrbReg c p u wb rn rd amount ty rm) (indexed p u wb rn shifted s) .byte 1 s.privileged v) ∧
    (p = true ∨ wb = false →
      (back rd →
        load (.ldrhImm c p u wb rn rd hi lo) (indexed p u wb rn split s) .half 2 s.privileged v ∧
        load (.ldrsbImm c p u wb rn rd hi lo) (indexed p u wb rn split s) .byte 1 s.privileged (sextByte v) ∧
        load (.ldrshImm c p u wb rn rd hi lo) (indexed p u wb rn split s) .half 2 s.privileged (sextHalf v)) ∧
      (back rm → rm ≠ 15 →
        load (.ldrhReg c p u wb rn rd rm) (indexed p u wb rn (s.reg rm) s) .half 2 s.privileged v ∧
        load (.ldrsbReg c p u wb rn rd rm) (indexed p u wb rn (s.reg rm) s) .byte 1 s.privileged (sextByte v) ∧
        load (.ldrshReg c p u wb rn rd rm) (indexed p u wb rn (s.reg rm) s) .half 2 s.privileged (sextHalf v))) ∧
    (rn ≠ 15 → rd ≠ rn →
      load (.ldrtImm c u rn rd imm) (indexed false u true rn (imm.setWidth 32) s) .wload 4 false v ∧
      load (.ldrbtImm c u rn rd imm) (indexed false u true rn (imm.setWidth 32) s) .byte 1 false v ∧
      (rm ≠ 15 → rm ≠ rn →
        load (.ldrtReg c u rn rd amount ty rm) (indexed false u true rn shifted s) .wload 4 false v ∧
        load (.ldrbtReg c u rn rd amount ty rm) (indexed false u true rn shifted s) .byte 1 false v))

/-- The stores of one register (R1142, R1143, R1144, R1147, R1149, R1153, R1154, R1157, R1158, R1163). -/
def Obligations.StoreResults : Prop :=
  ∀ (s t : State) (c : Cond) (p u wb : Bool) (rn rd rm : RegNo) (imm : BitVec 12) (hi lo : BitVec 4) (ty : ShiftTy)
    (amount : BitVec 5), Cond.passes c s.cpsr = true →
    let shifted := (shiftedConst ty amount (s.reg rm) s.cpsr.c).value
    let split := (hi ++ lo).setWidth 32
    let writes := !p || wb
    let back (r : RegNo) : Prop := writes = true → rn ≠ 15 ∧ rd ≠ rn ∧ r ≠ rn
    let store (i : Instr) (a : Indexed) (ty : AccType) (n : Nat) (priv : Bool) : Prop :=
      memWrite (storeOf ty priv) a.addr n (s.storedReg rd) s = .ok ((), t) → exec i s = .next ((t.based rn a.back).next)
    (back rd →
      store (.strImm c p u wb rn rd imm) (indexed p u wb rn (imm.setWidth 32) s) .wstore 4 s.privileged ∧
      (rd ≠ 15 → store (.strbImm c p u wb rn rd imm) (indexed p u wb rn (imm.setWidth 32) s) .byte 1 s.privileged)) ∧
    (back rm → rm ≠ 15 →
      store (.strReg c p u wb rn rd amount ty rm) (indexed p u wb rn shifted s) .wstore 4 s.privileged ∧
      (rd ≠ 15 → store (.strbReg c p u wb rn rd amount ty rm) (indexed p u wb rn shifted s) .byte 1 s.privileged)) ∧
    (rd ≠ 15 → p = true ∨ wb = false →
      (back rd → store (.strhImm c p u wb rn rd hi lo) (indexed p u wb rn split s) .half 2 s.privileged) ∧
      (back rm → rm ≠ 15 →
        store (.strhReg c p u wb rn rd rm) (indexed p u wb rn (s.reg rm) s) .half 2 s.privileged)) ∧
    (rd ≠ 15 → rn ≠ 15 → rd ≠ rn →
      store (.strtImm c u rn rd imm) (indexed false u true rn (imm.setWidth 32) s) .wstore 4 false ∧
      store (.strbtImm c u rn rd imm) (indexed false u true rn (imm.setWidth 32) s) .byte 1 false ∧
      (rm ≠ 15 → rm ≠ rn →
        store (.strtReg c u rn rd amount ty rm) (indexed false u true rn shifted s) .wstore 4 false ∧
        store (.strbtReg c u rn rd amount ty rm) (indexed false u true rn shifted s) .byte 1 false))

/-- Loads of the PC (R1121, R1148, R1151, R1190, R140, R55). That with the L4 bit set the low bits are dropped which the
instruction set in force does not have is DEDUCED (log 41): R140 says only that the T bit is not set. -/
def Obligations.PcTransferResults : Prop :=
  ∀ (s t : State) (c : Cond) (p u wb : Bool) (rn rm : RegNo) (imm : BitVec 12) (ty : ShiftTy) (amount : BitVec 5)
    (v : Word), Cond.passes c s.cpsr = true → ((!p || wb) = true → rn ≠ 15 ∧ rm ≠ rn) → rm ≠ 15 →
    let shifted := (shiftedConst ty amount (s.reg rm) s.cpsr.c).value
    ∀ x ∈ [(Instr.ldrImm c p u wb rn 15 imm, indexed p u wb rn (imm.setWidth 32) s),
           (.ldrReg c p u wb rn 15 amount ty rm, indexed p u wb rn shifted s)],
      memRead { loadOf .wload s.privileged with loadsPc := true } x.2.addr 4 s = .ok (v, t) →
      let w := t.based rn x.2.back
      (t.cp15.sctlr.getLsbD 15 = true → exec x.1 s = .next (w.branchKeep v)) ∧
      (t.cp15.sctlr.getLsbD 15 = false → v.getLsbD 0 = true ∨ v.getLsbD 1 = false →
        exec x.1 s = .next (w.interwork v)) ∧
      (t.cp15.sctlr.getLsbD 15 = false → v.getLsbD 0 = false → v.getLsbD 1 = true → exec x.1 s = .refused .branchTarget)

/-- LDRD and STRD, the DMA engine between their words (R1144, R1147, R1164, R1165, R583, R585). -/
def Obligations.DoubleResults : Prop :=
  ∀ (s t v w : State) (c : Cond) (p u wb k : Bool) (rn rd rm : RegNo) (hi lo : BitVec 4) (b x y : Word),
    Cond.passes c s.cpsr = true → p = true ∨ wb = false → rd.getLsbD 0 = false → rd ≠ 14 →
    ((!p || wb) = true → rn ≠ 15 ∧ rd ≠ rn ∧ rd + 1 ≠ rn ∧ rm ≠ rn) → rm ≠ 15 →
    let ld := loadOf .twoWord s.privileged
    let st := storeOf .twoWord s.privileged
    (∀ i ∈ [(Instr.ldrdImm c p u wb rn rd hi lo, indexed p u wb rn ((hi ++ lo).setWidth 32) s),
            (.ldrdReg c p u wb rn rd rm, indexed p u wb rn (s.reg rm) s)],
      rm ≠ rd → rm ≠ rd + 1 → alignData ld i.2.addr s = .ok ((b, k), s) →
      readWordAt (ld.block b 2) b s = .ok (x, t) → dmaInterval t = .ok ((), v) →
      readWordAt (ld.block b 2) (b + 4) v = .ok (y, w) →
      exec i.1 s = .next (((w.based rn i.2.back).setReg rd x).wrote (rd + 1) y)) ∧
    (∀ i ∈ [(Instr.strdImm c p u wb rn rd hi lo, indexed p u wb rn ((hi ++ lo).setWidth 32) s),
            (.strdReg c p u wb rn rd rm, indexed p u wb rn (s.reg rm) s)],
      alignData st i.2.addr s = .ok ((b, k), s) →
      writeWords (st.block b 2) b [s.reg rd, s.reg (rd + 1)] s = .ok ((), t) →
      exec i.1 s = .next ((t.based rn i.2.back).next))

/-- LDM and STM (R1145, R1147, R1190, R1191, R1192, R1193, R1194, R140). That with the L4 bit set the low bits of the word for
the PC are dropped which the instruction set in force does not have is DEDUCED (log 41). -/
def Obligations.MultipleResults : Prop :=
  ∀ (s t : State) (c : Cond) (p u wb : Bool) (rn : RegNo) (regs : BitVec 16) (low : BitVec 15)
    (ws : List (RegNo × Word)), Cond.passes c s.cpsr = true → rn ≠ 15 →
    let m := s.cpsr.mode
    let rs := listed regs
    let ls := listed (low.setWidth 16)
    let k (n : Nat) := block p u (s.reg rn) n
    let back (n : Nat) : Option Word := if wb then some (k n).back else none
    let banked : Prop := m ≠ .usr ∧ m ≠ .sys
    (rs ≠ [] → (wb = true → rn ∉ rs) → loadBlock false m rn rs (k rs.length).start s = .ok (ws, t) →
      let w := (t.based rn (back rs.length)).putRegs m ws
      (15 ∉ rs → exec (.ldm1 c p u wb rn regs) s = .next w.next) ∧
      (15 ∈ rs → w.cp15.sctlr.getLsbD 15 = true → exec (.ldm1 c p u wb rn regs) s = .next (w.branchKeep (pcWord ws))) ∧
      (15 ∈ rs → w.cp15.sctlr.getLsbD 15 = false → (pcWord ws).getLsbD 0 = true ∨ (pcWord ws).getLsbD 1 = false →
        exec (.ldm1 c p u wb rn regs) s = .next (w.interwork (pcWord ws))) ∧
      (15 ∈ rs → w.cp15.sctlr.getLsbD 15 = false → (pcWord ws).getLsbD 0 = false → (pcWord ws).getLsbD 1 = true →
        exec (.ldm1 c p u wb rn regs) s = .refused .branchTarget)) ∧
    (banked → ls ≠ [] → loadBlock false .usr rn ls (k ls.length).start s = .ok (ws, t) →
      exec (.ldm2 c p u rn low) s = .next (t.putRegs .usr ws).next) ∧
    (banked → (wb = true → rn ∉ ls) → loadBlock true m rn (ls ++ [15]) (k (ls.length + 1)).start s = .ok (ws, t) →
      let w := (t.based rn (back (ls.length + 1))).putRegs m ws
      ∀ v q, w.halted = false → w.spsr.get? m = some v → (Mode.ofBits? (v.extractLsb' 0 5)).isSome = true →
        w.cpsr.merge v (w.returnMask v) = some q →
        exec (.ldm3 c p u wb rn low) s = .next (w.returned q (pcWord ws))) ∧
    (rs ≠ [] → (wb = true → rn ∈ rs → rs.head? = some rn) →
      storeBlock (k rs.length).start (rs.map s.storedReg) s = .ok ((), t) →
      exec (.stm1 c p u wb rn regs) s = .next (t.based rn (back rs.length)).next) ∧
    (banked → rs ≠ [] →
      storeBlock (k rs.length).start (rs.map fun r => if r = 15 then s.storedPc else s.regOf .usr r) s = .ok ((), t) →
      exec (.stm2 c p u rn regs) s = .next t.next)

/-- SRS and RFE, the DMA engine between their words (R1145, R1196, R1197, R905, R583, R585). -/
def Obligations.SaveReturnResults : Prop :=
  ∀ (s t d w : State) (p u wb k : Bool) (rn : RegNo) (mode : BitVec 5) (m : Mode) (b v a : Word) (q : Psr),
    (∀ psr, s.spsr.get? s.cpsr.mode = some psr → Mode.ofBits? mode = some m → (s.isSecure = true ∨ m ≠ .mon) →
      let n := block p u (s.regOf m 13) 2
      storeBlock n.start [s.reg 14, psr] s = .ok ((), t) →
      exec (.srs p u wb mode) s = .next (if wb then t.setRegOf m 13 n.back else t).next) ∧
    (s.spsr.get? s.cpsr.mode = none → exec (.srs p u wb mode) s = .refused .noSpsr) ∧
    ((s.spsr.get? s.cpsr.mode).isSome = true → s.isSecure = false → mode = 0b10110#5 →
      exec (.srs p u wb mode) s = .next s.undefined) ∧
    (s.privileged = false ∨ rn = 15 → exec (.rfe p u wb rn) s = .refused .unpredictableEncoding) ∧
    (s.privileged = true → rn ≠ 15 →
      let n := block p u (s.reg rn) 2
      let acc : Acc := { loadOf .multi true with loadsPc := true }
      let words : Acc := { acc.block b 2 with lead := some (b + 4) }
      alignData acc n.start s = .ok ((b, k), s) → readWordAt words (b + 4) s = .ok (v, t) →
      dmaInterval t = .ok ((), d) → readWordAt words b d = .ok (a, w) →
      let z := w.based rn (if wb then some n.back else none)
      z.halted = false → (Mode.ofBits? (v.extractLsb' 0 5)).isSome = true → z.cpsr.merge v (z.returnMask v) = some q →
      exec (.rfe p u wb rn) s = .next (z.returned q a))

/-- Swaps and exclusive accesses, of the registers that R1233 allows (R620, R621, R622, R624, R626, R1235, R1236, R1237,
R1238, R1239, R1240, R1241, R1242, R1243, R1244). That the write transfer of a Shared store-exclusive which the global
monitor does not let pass is made, and an error in its answer reported, and that after an imprecise error the status and the
tag are as without one, is DEDUCED (log 27). -/
def Obligations.SwapExclusiveResults : Prop :=
  ∀ (s t u w z : State) (c : Cond) (rn rd rm : RegNo) (a old : Word) (k : Bool) (x y : Translation) (bs : List Byte),
    Cond.passes c s.cpsr = true → 15 ∉ [rn, rd, rm] →
    (∀ i ∈ [(Instr.swp c rn rd rm, 4, if s.sctlr 22 then AccType.wsync else .wload,
              if s.sctlr 22 then AccType.wsync else .wstore), (.swpb c rn rd rm, 1, .bsync, .bsync)],
      let ld : Acc := { loadOf i.2.2.1 s.privileged with swap := true }
      let st : Acc := { storeOf i.2.2.2 s.privileged with swap := true }
      rn ≠ rd → rn ≠ rm → alignData ld (s.reg rn) s = .ok ((a, k), s) →
      translateData (ld.keepLow (s.reg rn) a) a false s = .ok (x, t) →
      translateData (st.keepLow (s.reg rn) a) a false t = .ok (y, u) → memRead ld (s.reg rn) i.2.1 u = .ok (old, w) →
      memWrite st (s.reg rn) i.2.1 (s.reg rm) w = .ok ((), z) → exec i.1 s = .next (z.wrote rd old)) ∧
    (∀ i ∈ [(Instr.ldrex c rn rd, AccType.wsync, 4), (.ldrexb c rn rd, .bsync, 1), (.ldrexh c rn rd, .hwsync, 2)],
      loadExclusive i.2.1 i.2.2 rn s = .ok (bs, t) → exec i.1 s = .next (t.wrote rd (bytesValue t.bigEndian bs))) ∧
    (∀ ty n, let ld : Acc := { loadOf ty s.privileged with excl := true }
      alignData ld (s.reg rn) s = .ok ((a, k), s) → translateData ld a false (s.noteWatch ld a n) = .ok (x, t) →
      checkEndianness n t = .ok ((), t) → readRouted ld a x n t = .ok (some bs, u) →
      loadExclusive ty n rn s = .ok (bs, { u with
        exclLocal := true, exclGlobal := if x.attrs.shared then some (x.pa, n) else u.exclGlobal })) ∧
    (rd.getLsbD 0 = false → rd ≠ 14 → loadExclusive .dwsync 8 rn s = .ok (bs, t) →
      exec (.ldrexd c rn rd) s = .next ((t.setReg rd (bytesValue t.bigEndian (bs.take 4))).wrote (rd + 1)
        (bytesValue t.bigEndian (bs.drop 4)))) ∧
    (∀ i ∈ [(Instr.strex c rn rd rm, AccType.wsync, s.regBytes 4 rm), (.strexb c rn rd rm, .bsync, s.regBytes 1 rm),
            (.strexh c rn rd rm, .hwsync, s.regBytes 2 rm),
            (.strexd c rn rd rm, .dwsync, s.regBytes 4 rm ++ s.regBytes 4 (rm + 1))],
      let st : Acc := { storeOf i.2.1 s.privileged with excl := true }
      let n := i.2.2.length
      rd ≠ rn → rd ≠ rm → (i.2.1 = .dwsync → rd ≠ rm + 1 ∧ rm.getLsbD 0 = false ∧ rm ≠ 14) →
      alignData st (s.reg rn) s = .ok ((a, k), s) →
      (s.exclLocal = false → exec i.1 s = .next ((s.noteWatch st a n).wrote rd 1)) ∧
      (s.exclLocal = true → translateData st a false (s.noteWatch st a n) = .ok (x, t) →
        checkEndianness n t = .ok ((), t) →
        (x.attrs.shared = false → writeRouted st a x i.2.2 t = .ok ((), u) →
          exec i.1 s = .next ({ u with exclLocal := false }.wrote rd 0)) ∧
        (x.attrs.shared = true →
          let q := t.singleRequest st x n
          let tagged := t.exclGlobal = some (x.pa, n) ∧ t.noMonitorAt q = false
          let drawn : State := { t with draws := t.draws + 1 }
          let turnedAway (v : State) : Prop :=
            (t.pieceError q x n = none →
              exec i.1 s = .next ({ v.notePiece st a x q i.2.2 none with exclLocal := false }.wrote rd 1)) ∧
            (∀ e, t.pieceError q x n = some e →
              exec i.1 s = .next ({ (v.notePiece st a x q i.2.2 (some e)).impreciseAbort e true with
                exclLocal := false }.wrote rd 1))
          (¬tagged → turnedAway t) ∧
          (tagged → (Config.freeWord t.draws).getLsbD 0 = false → turnedAway { drawn with exclGlobal := none }) ∧
          (tagged → (Config.freeWord t.draws).getLsbD 0 = true → writeRouted st a x i.2.2 drawn = .ok ((), u) →
            exec i.1 s = .next ({ u with exclLocal := false, exclGlobal := none }.wrote rd 0)))))

/-- CLREX, SETEND, NOP, YIELD, the reserved hints and PLD (R1186, R1245, R1267, R1271). -/
def Obligations.HintResults : Prop :=
  ∀ (s : State) (c : Cond) (hint : BitVec 8) (e u : Bool) (rn rd rm : RegNo) (imm : BitVec 12) (ty : ShiftTy)
    (amount : BitVec 5), s.halted = false →
    (decodeArm 0xF57FF01F#32 = .instr .clrex ∧ decodeArm 0xF1010200#32 = .instr (.setend true) ∧
      decodeArm 0xF1010000#32 = .instr (.setend false) ∧ decodeArm 0xE320F000#32 = .instr (.nop .al) ∧
      decodeArm 0xE320F001#32 = .instr (.yield .al) ∧ decodeArm 0xE320F0FF#32 = .instr (.nopReservedHint .al 0xFF) ∧
      decodeArm 0x0320F000#32 = .instr (.nop .eq) ∧ decodeArm 0xF5D1F000#32 = .instr (.pldImm true 1 0) ∧
      decodeArm 0xF551F004#32 = .instr (.pldImm false 1 4) ∧
      decodeArm 0xF7D1F102#32 = .instr (.pldReg true 1 2 .lsl 2)) ∧
    let past := s.wrapped || decide (2 ^ 32 ≤ s.pc.toNat + s.instrLength.toNat)
    exec .clrex s = .next { s with exclLocal := false, pc := s.pc + s.instrLength, wrapped := past } ∧
    (∀ t, exec .clrex s = .next t → Cond.passes c s.cpsr = true → 15 ∉ [rn, rd, rm] → rd ≠ rn → rd ≠ rm →
      t.reg rn &&& 3 = 0 → ∃ v, exec (.strex c rn rd rm) t = .next v ∧ v.reg rd = 1 ∧ v.mem = s.mem) ∧
    (∀ i, i = .setend e ∨ i = .tSetend e →
      exec i s = .next { s with cpsr := { s.cpsr with e := e }, pc := s.pc + s.instrLength, wrapped := past }) ∧
    (∀ i, i = .nop c ∨ i = .yield c ∨ i = .nopReservedHint c hint ∨ i = .pldImm u rn imm ∨
        (rm ≠ 15 ∧ i = .pldReg u rn amount ty rm) →
      exec i s = .next { s with pc := s.pc + s.instrLength, wrapped := past }) ∧
    exec (.pldReg u rn amount ty 15) s = .refused .unpredictableEncoding ∧
    (s.cpsr.t = false → s.instrLength = 4)

/-- MRS, MSR and CPS (R1261, R1263, R1264, R1265, R1266, R1422, R63, R64, R66, R67, R1591): the bits that may change are
R1261's UserMask and, in a privileged mode, PrivMask, less what the Non-secure world may not change. -/
def Obligations.StatusResults : Prop :=
  ∀ (s : State) (c : Cond) (rd rm : RegNo) (fields rot : BitVec 4) (imm : BitVec 8) (im : BitVec 2) (mm a f i : Bool)
    (mode : BitVec 5), Cond.passes c s.cpsr = true → s.halted = false → rd ≠ 15 → rm ≠ 15 →
    let bytes := fieldMask fields
    let forms (r : Bool) :=
      [(Instr.msrReg c r fields rm, s.reg rm),
       (.msrImm c r fields rot imm, (imm.setWidth 32).rotateRight (2 * rot.toNat))]
    let ns := !s.isSecure
    let kept (v : Word) : Word :=
      (if ns && !s.cp15.scr.getLsbD 5 then 0x100#32 else 0) ||| (if ns && !s.cp15.scr.getLsbD 4 then 0x40#32 else 0) |||
        (if ns && v.extractLsb' 0 5 == 0b10110#5 then 0x1F#32 else 0)
    let sets (x : Instr) (v chosen : Word) : Prop :=
      let m := chosen &&& (if s.privileged then 0xF80F0200#32 ||| 0x1DF#32 else 0xF80F0200#32) &&& ~~~kept v
      let wrong := m &&& 0x1F#32 ≠ 0 ∧ v.extractLsb' 0 5 ∉
        [0b10000#5, 0b10001#5, 0b10010#5, 0b10011#5, 0b10110#5, 0b10111#5, 0b11011#5, 0b11111#5]
      (wrong → exec x s = .refused .illegalMode) ∧
      (¬wrong → ∃ q : Psr, q.toWord = (s.cpsr.toWord &&& ~~~m) ||| (v &&& m) ∧
        exec x s = .next { s with cpsr := q }.next)
    exec (.mrs c false rd) s = .next (s.wrote rd s.cpsr.toWord) ∧
    (∀ v, s.spsr.get? s.cpsr.mode = some v → exec (.mrs c true rd) s = .next (s.wrote rd v)) ∧
    (s.spsr.get? s.cpsr.mode = none → exec (.mrs c true rd) s = .refused .noSpsr ∧
      ∀ x ∈ forms true, exec x.1 s = .refused .noSpsr) ∧
    (∀ x ∈ forms false, sets x.1 x.2 bytes) ∧
    (∀ x ∈ forms true, ∀ v, s.spsr.get? s.cpsr.mode = some v →
      let w := (v &&& ~~~(bytes &&& psrMask)) ||| (x.2 &&& (bytes &&& psrMask))
      exec x.1 s = .next { s with spsr := s.spsr.put s.cpsr.mode w }.next) ∧
    (cpsRefused im mm (a || i || f) mode = false →
      let flags := bitAt a 8 ||| bitAt i 7 ||| bitAt f 6
      let v := (if im.getLsbD 0 then flags else 0) ||| (if mm then mode.setWidth 32 else 0)
      let mask := (if im.getLsbD 1 then flags else 0) ||| (if mm then 0x1F#32 else 0)
      (s.privileged = false → exec (.cps im mm a i f mode) s = .next s.next) ∧
      (s.privileged = true → sets (.cps im mm a i f mode) v mask)) ∧
    (cpsRefused im mm (a || i || f) mode = true → exec (.cps im mm a i f mode) s = .refused .unpredictableEncoding) ∧
    ((a || i || f) = true →
      let flags := bitAt a 8 ||| bitAt i 7 ||| bitAt f 6
      (s.privileged = false → exec (.tCps mm a i f) s = .next s.next) ∧
      (s.privileged = true → sets (.tCps mm a i f) (if mm then flags else 0) flags)) ∧
    ((a || i || f) = false → exec (.tCps mm a i f) s = .refused .unpredictableEncoding)

/-- MRC, MCR, MCRR and MCRR2 (R100, R101, R250, R1304, R1305, R1306, R1310, R1311). -/
def Obligations.Cp15Results : Prop :=
  ∀ (s t : State) (c : Cond) (o1 o2 : BitVec 3) (crn crm cp op : BitVec 4) (rd rn : RegNo),
    Cond.passes c s.cpsr = true → rd ≠ 15 → rn ≠ 15 →
    let r? := Cp15.of? crn o1 crm o2
    (∀ r v, r? = some r → r.readable s = true → r.value s = some v →
      exec (.mrc c o1 crn rd 15 o2 crm) s = .next (s.wrote rd v)) ∧
    (∀ r, r? = some r → r.readable s = true → r.value s = none → exec (.mrc c o1 crn rd 15 o2 crm) s = .next s.next) ∧
    ((∀ r, r? = some r → r.readable s = false) → exec (.mrc c o1 crn rd 15 o2 crm) s = .next s.undefined) ∧
    (∀ r, r? = some r → r.writable s = true → r.write (s.reg rd) s = .ok ((), t) →
      exec (.mcr c o1 crn rd 15 o2 crm) s = .next t.next) ∧
    ((∀ r, r? = some r → r.writable s = false) → exec (.mcr c o1 crn rd 15 o2 crm) s = .next s.undefined) ∧
    (∀ i, i = Instr.mcrr c rn rd 15 op crm ∨ i = .mcrr2 rn rd 15 op crm →
      (∀ r, RangeOp.of? op crm = some r → r.allowed s = true →
        onRange (match r with | .invalidateCode => invalidateCodeMva | .dataCache o => o.atMva) (s.reg rn) (s.reg rd)
            s =
          .ok ((), t) → exec i s = .next t.next) ∧
      ((∀ r, RangeOp.of? op crm = some r → r.allowed s = false) → exec i s = .next s.undefined)) ∧
    (cp ∉ [10, 11, 14, 15] →
      ∀ i ∈ [Instr.mrc c o1 crn rd cp o2 crm, .mcr c o1 crn rd cp o2 crm, .mcrr c rn rd cp op crm,
      .mcrr2 rn rd cp op crm], exec i s = .next s.undefined)

/-- What an MCR writes to a banked CP15 register, an MRC reads (R102, R104, R200, R202, R203, R206, R215, R217, R219, R221, R262,
R311, R312, R340, R345, R346, R347, R350). What an MCR leaves in the PA Register is the model's choice (DESIGN CHOICE, log 87:
R262 gives its fields after a translation only), and so are the base bits below the size of the peripheral port remap
(DESIGN CHOICE, log 88). -/
def Obligations.Cp15ReadBack : Prop :=
  ∀ (s : State) (rd rn : RegNo), s.secureAdmin = true → s.halted = false → rd ≠ 15 → rn ≠ 15 →
    ∀ x ∈ [((2#4, 0#4, 0#3), 0xFFFFFF9B#32), ((2, 0, 1), 0xFFFFC01B), ((2, 0, 2), 0x37), ((3, 0, 0), 0xFFFFFFFF),
           ((5, 0, 0), 0x1CFF), ((5, 0, 1), 0x100F), ((6, 0, 0), 0xFFFFFFFF), ((6, 0, 2), 0xFFFFFFFF),
           ((7, 4, 0), 0xFFFFFEFF), ((10, 2, 0), 0x000FFFFF), ((10, 2, 1), 0xFFFFFFFF), ((12, 0, 0), 0xFFFFFFE0),
           ((13, 0, 0), 0xFE000000), ((13, 0, 1), 0xFFFFFFFF), ((13, 0, 2), 0xFFFFFFFF), ((13, 0, 3), 0xFFFFFFFF),
           ((13, 0, 4), 0xFFFFFFFF), ((15, 2, 4), 0xFFFFF01F)],
      ∃ t u, exec (.mcr .al 0 x.1.1 rd 15 x.1.2.2 x.1.2.1) s = .next t ∧
        exec (.mrc .al 0 x.1.1 rn 15 x.1.2.2 x.1.2.1) t = .next u ∧ u.reg rn = s.reg rd &&& x.2 ∧
        t.bankOf (!s.copyNs) = s.bankOf (!s.copyNs) ∧ t.mem = s.mem ∧ t.gpr = s.gpr ∧ t.cpsr = s.cpsr ∧
        { u with gpr := t.gpr, pc := t.pc, wrapped := t.wrapped } = t ∧ ∀ n, n ≠ 15 → n ≠ rn → u.reg n = s.reg n

/-- The debug coprocessor (R410, R412, R414, R415, R427, R428, R1308, R1309, R1310). -/
def Obligations.Cp14Results : Prop :=
  ∀ (s t : State) (c : Cond) (o2 : BitVec 3) (crd crm cp : BitVec 4) (rd rn : RegNo) (r : Cp14) (u wb n k : Bool)
    (imm : BitVec 8) (b v : Word), Cond.passes c s.cpsr = true → rd ≠ 15 → rn ≠ 15 →
    (Cp14.of? o2 crm = some r →
      (r.permitted false s = true → exec (.mrc c 0 0 rd 14 o2 crm) s = .next ((r.afterRead s).wrote rd (r.value s))) ∧
      (r = .dscr → r.permitted false s = true → exec (.mrc c 0 0 15 14 o2 crm) s = .next (s.flagged
        { s.cpsr with n := false, z := s.readDscr.getLsbD 30, c := s.readDscr.getLsbD 29, v := false })) ∧
      (r.permitted false s = false → exec (.mrc c 0 0 rd 14 o2 crm) s = .next s.undefined) ∧
      (r.permitted true s = true → r ≠ .didr → r.reservedBreakpoint (s.reg rd) = false →
        exec (.mcr c 0 0 rd 14 o2 crm) s = .next (r.put (s.reg rd) s).next) ∧
      (r.permitted true s = false ∨ r = .didr → exec (.mcr c 0 0 rd 14 o2 crm) s = .next s.undefined)) ∧
    (let off := imm.setWidth 32 <<< 2
     let ld := loadOf .multi s.privileged
     let st := storeOf .multi s.privileged
     (∀ i ∈ [(Instr.ldcOffset c u false wb rn 5 14 imm, indexed true u wb rn off s),
             (.ldcPost c u false rn 5 14 imm, indexed false u false rn off s),
             (.ldcUnindexed c false rn 5 14 imm, { addr := s.reg rn, back := none })],
       Cp14.dtr.permitted true s = true → alignData ld i.2.addr s = .ok ((b, k), s) → readWordAt ld b s = .ok (v, t) →
       exec i.1 s = .next ((t.based rn i.2.back).putWdtr v).next) ∧
     (∀ i ∈ [(Instr.stcOffset c u false wb rn 5 14 imm, indexed true u wb rn off s),
             (.stcPost c u false rn 5 14 imm, indexed false u false rn off s),
             (.stcUnindexed c false rn 5 14 imm, { addr := s.reg rn, back := none })],
       Cp14.dtr.permitted false s = true → alignData st i.2.addr s = .ok ((b, k), s) →
       writeWordAt st b s.dbg.rdtr s = .ok ((), t) → exec i.1 s = .next (t.based rn i.2.back).tookRdtr.next)) ∧
    (cp ∉ [10, 11, 14] → ∀ i ∈ [Instr.ldcOffset c u n wb rn crd cp imm, .ldcPost c u n rn crd cp imm,
      .ldcUnindexed c n rn crd cp imm, .stcOffset c u n wb rn crd cp imm, .stcPost c u n rn crd cp imm,
      .stcUnindexed c n rn crd cp imm], exec i s = .next s.undefined)

/-- Thumb data processing on low registers (R1340, R1345, R1348, R1354, R1358, R1366, R1370, R1372). -/
def Obligations.ThumbDataResults : Prop :=
  ∀ (s : State) (rm rn rd : LowReg) (i3 : BitVec 3) (i5 : BitVec 5) (i8 : BitVec 8),
    let m := s.reg (low rm)
    let n := s.reg (low rn)
    let d := s.reg (low rd)
    let k := s.cpsr.c
    let w3 := i3.setWidth 32
    let w8 := i8.setWidth 32
    (∀ x ∈ [(Instr.tAdd3 rm rn rd, addWithCarry n m false), (.tSub3 rm rn rd, addWithCarry n (~~~m) true),
            (.tAdd1 i3 rn rd, addWithCarry n w3 false), (.tSub1 i3 rn rd, addWithCarry n (~~~w3) true),
            (.tMov2 rn rd, addWithCarry n 0 false),
            (.tAdd2 rd i8, addWithCarry d w8 false), (.tSub2 rd i8, addWithCarry d (~~~w8) true),
            (.tAdc rm rd, addWithCarry d m k), (.tSbc rm rd, addWithCarry d (~~~m) k),
            (.tNeg rm rd, addWithCarry (~~~m) 0 true)],
      exec x.1 s = .next (s.sumDone true (low rd) x.2)) ∧
    (∀ x ∈ [(Instr.tLsl1 i5 rm rd, shiftedConst .lsl i5 m k), (.tLsr1 i5 rm rd, shiftedConst .lsr i5 m k),
            (.tAsr1 i5 rm rd, shiftedConst .asr i5 m k), (.tLsl2 rm rd, shiftedReg .lsl m d k),
            (.tLsr2 rm rd, shiftedReg .lsr m d k), (.tAsr2 rm rd, shiftedReg .asr m d k),
            (.tRor rm rd, shiftedReg .ror m d k), (.tMov1 rd i8, { value := w8, carry := k }),
            (.tAnd rm rd, { value := d &&& m, carry := k }), (.tEor rm rd, { value := d ^^^ m, carry := k }),
            (.tOrr rm rd, { value := d ||| m, carry := k }), (.tBic rm rd, { value := d &&& ~~~m, carry := k }),
            (.tMvn rm rd, { value := ~~~m, carry := k })],
      exec x.1 s = .next (s.logicalDone true (low rd) x.2.value x.2)) ∧
    (∀ x ∈ [(Instr.tCmp1 rn i8, s.cpsr.arithmetic (addWithCarry n (~~~w8) true)),
            (.tCmp2 rm rd, s.cpsr.arithmetic (addWithCarry d (~~~m) true)),
            (.tCmn rm rd, s.cpsr.arithmetic (addWithCarry d m false)), (.tTst rm rd, s.cpsr.setNZ (d &&& m))],
      exec x.1 s = .next (s.flagged x.2)) ∧
    exec (.tMul rm rd) s = .next (s.mulDone true (low rd) (m * d))

/-- Thumb operations on high registers, SP and PC, and the extensions (R1341, R1380, R1381, R1382, R1402, R1403,
R1404, R1405, R1406, R1410). -/
def Obligations.ThumbHighResults : Prop :=
  ∀ (s : State) (h1 h2 : Bool) (rm rd : LowReg) (i7 : BitVec 7) (i8 : BitVec 8),
    let m := s.reg (low rm)
    let hd := high h1 rd
    let hm := s.reg (high h2 rm)
    let w7 := i7.setWidth 32 <<< 2
    let w8 := i8.setWidth 32 <<< 2
    (∀ x ∈ [(Instr.tAdd5 rd i8, low rd, (s.readPc &&& ~~~3#32) + w8), (.tAdd6 rd i8, low rd, s.reg 13 + w8),
            (.tAdd7 i7, 13, s.reg 13 + w7), (.tSub4 i7, 13, s.reg 13 - w7), (.tCpy rm rd, low rd, m),
            (.tSxth rm rd, low rd, (m.extractLsb' 0 16).signExtend 32),
            (.tSxtb rm rd, low rd, (m.extractLsb' 0 8).signExtend 32),
            (.tUxth rm rd, low rd, (m.extractLsb' 0 16).setWidth 32),
            (.tUxtb rm rd, low rd, (m.extractLsb' 0 8).setWidth 32), (.tRev rm rd, low rd, reversed m),
            (.tRev16 rm rd, low rd, reversedHalves m), (.tRevsh rm rd, low rd, reversedSigned m)],
      exec x.1 s = .next (s.wrote x.2.1 x.2.2)) ∧
    (hd ≠ 15 → exec (.tMov3 h1 h2 rm rd) s = .next (s.wrote hd hm)) ∧
    (hd = 15 → exec (.tMov3 h1 h2 rm rd) s = .next (s.branchKeep hm)) ∧
    ((h1 || h2) = true →
      (hd ≠ 15 → exec (.tAdd4 h1 h2 rm rd) s = .next (s.wrote hd (s.reg hd + hm)) ∧
        exec (.tCmp3 h1 h2 rm rd) s = .next (s.flagged (s.cpsr.arithmetic (addWithCarry (s.reg hd) (~~~hm) true)))) ∧
      (hd = 15 → exec (.tAdd4 h1 h2 rm rd) s = .next (s.branchKeep (s.reg hd + hm)) ∧
        exec (.tCmp3 h1 h2 rm rd) s = .refused .unpredictableEncoding)) ∧
    exec (.tAdd4 false false rm rd) s = .refused .unpredictableEncoding ∧
    exec (.tCmp3 false false rm rd) s = .refused .unpredictableEncoding

/-- Thumb loads and stores; with the L4 bit set POP of the PC keeps the instruction set (log 41) (R1385, R1386, R1389,
R1394, R1396, R1398, R1400, R1401, R1416, R1417, R1418, R1419). -/
def Obligations.ThumbMemoryResults : Prop :=
  ∀ (s t : State) (rm rn rd : LowReg) (i5 : BitVec 5) (i8 : BitVec 8) (v : Word) (r : Bool) (ws : List (RegNo × Word)),
    let n := s.reg (low rn)
    let sum := n + s.reg (low rm)
    let w5 := i5.setWidth 32
    let w8 := i8.setWidth 32 <<< 2
    let priv := s.privileged
    (∀ x ∈ [(Instr.tLdr1 i5 rn rd, n + (w5 <<< 2), AccType.wload, 4, v), (.tLdr2 rm rn rd, sum, .wload, 4, v),
            (.tLdr3 rd i8, (s.readPc &&& ~~~3#32) + w8, .wload, 4, v), (.tLdr4 rd i8, s.reg 13 + w8, .wload, 4, v),
            (.tLdrh1 i5 rn rd, n + (w5 <<< 1), .half, 2, v), (.tLdrh2 rm rn rd, sum, .half, 2, v),
            (.tLdrb1 i5 rn rd, n + w5, .byte, 1, v), (.tLdrb2 rm rn rd, sum, .byte, 1, v),
            (.tLdrsb rm rn rd, sum, .byte, 1, sextByte v), (.tLdrsh rm rn rd, sum, .half, 2, sextHalf v)],
      memRead (loadOf x.2.2.1 priv) x.2.1 x.2.2.2.1 s = .ok (v, t) → exec x.1 s = .next (t.wrote (low rd) x.2.2.2.2)) ∧
    (∀ x ∈ [(Instr.tStr1 i5 rn rd, n + (w5 <<< 2), AccType.wstore, 4), (.tStr2 rm rn rd, sum, .wstore, 4),
            (.tStr3 rd i8, s.reg 13 + w8, .wstore, 4), (.tStrh1 i5 rn rd, n + (w5 <<< 1), .half, 2),
            (.tStrh2 rm rn rd, sum, .half, 2), (.tStrb1 i5 rn rd, n + w5, .byte, 1), (.tStrb2 rm rn rd, sum, .byte, 1)],
      memWrite (storeOf x.2.2.1 priv) x.2.1 x.2.2.2 (s.reg (low rd)) s = .ok ((), t) → exec x.1 s = .next t.next) ∧
    (let rs := listed (i8.setWidth 16)
     let down := rs ++ (if r then [14] else [])
     let up := rs ++ (if r then [15] else [])
     let sp := s.reg 13
     (rs ≠ [] → loadBlock false s.cpsr.mode (low rn) rs n s = .ok (ws, t) →
       exec (.tLdmia rn i8) s = .next ((t.setReg (low rn) (n + wordsLong rs.length)).putRegs s.cpsr.mode ws).next) ∧
     (rs ≠ [] → (low rn ∈ rs → rs.head? = some (low rn)) → storeBlock n (rs.map s.reg) s = .ok ((), t) →
       exec (.tStmia rn i8) s = .next (t.setReg (low rn) (n + wordsLong rs.length)).next) ∧
     (down ≠ [] → storeBlock (sp - wordsLong down.length) (down.map s.reg) s = .ok ((), t) →
       exec (.tPush r i8) s = .next (t.setReg 13 (sp - wordsLong down.length)).next) ∧
     (up ≠ [] → loadBlock false s.cpsr.mode 13 up sp s = .ok (ws, t) →
       let w := (t.setReg 13 (sp + wordsLong up.length)).putRegs s.cpsr.mode ws
       (r = false → exec (.tPop r i8) s = .next w.next) ∧
       (r = true → w.cp15.sctlr.getLsbD 15 = false → (pcWord ws).getLsbD 0 = true ∨ (pcWord ws).getLsbD 1 = false →
         exec (.tPop r i8) s = .next (w.interwork (pcWord ws))) ∧
       (r = true → w.cp15.sctlr.getLsbD 15 = false → (pcWord ws).getLsbD 0 = false → (pcWord ws).getLsbD 1 = true →
         exec (.tPop r i8) s = .refused .branchTarget) ∧
       (r = true → w.cp15.sctlr.getLsbD 15 = true → exec (.tPop r i8) s = .next (w.branchKeep (pcWord ws)))))

/-- The Unpredictable register combinations are refused by name (R846, R961, R1147, R1266, R1341, R1380, R1381, R1416,
R1418). -/
def Obligations.ForbiddenRefused : Prop :=
  ∀ (i : Instr) (s : State), forbidden i = true → (∀ c, condOf? i = some c → Cond.passes c s.cpsr = true) →
    exec i s = .refused .unpredictableEncoding ∨
      (s.spsr.get? s.cpsr.mode = none ∧ exec i s = .refused .noSpsr)

/-- VFP arithmetic and moves, scalar and short vectors, with the registers of each iteration as R502 numbers them, and the
bounce with IXE set (R494, R499, R501, R502, R504, R510, R522, R527, R529, R1443, R1444, R1445, R1447, R1448, R1449, R1453,
R1454, R1455, R1456, R1457). That LEN = 0 with STRIDE = 11 is scalar and that the moves look at the stride only where they
are vectors is DEDUCED (log 39), and so it is that IXE bounces before the shape is looked at (log 40), and that an
accumulate to a NaN keeps the flags of the product (log 80); where D49 does not test that product, what a tiny or an
overflowing one sets is the model's choice (DESIGN CHOICE, log 77). -/
def Obligations.VfpArithmeticResults : Prop :=
  (∀ (s : State) (c : Cond) (fn fd fm : BitVec 4) (dB nB mB : Bool), Cond.passes c s.cpsr = true →
    let d := singleNo fd dB
    let n := singleNo fn nB
    let m := singleNo fm mB
    let stride := s.vfp.fpscr.extractLsb' 20 2
    let step := if stride = 0b11#2 then 2 else 1
    let count := (s.vfp.fpscr.extractLsb' 16 3).toNat + 1
    let bank (p : Prec) : Nat := if p = .single then 8 else 4
    let reg (p : Prec) (r : BitVec 5) (i : Nat) : BitVec 5 :=
      BitVec.ofNat 5 (r.toNat / bank p * bank p + (r.toNat % bank p + i * step) % bank p)
    let last (p : Prec) (r : BitVec 5) (i : Nat) : BitVec 5 := if r.toNat < bank p then r else reg p r i
    let scalar (p : Prec) (d : BitVec 5) : Prop := count = 1 ∨ d.toNat < bank p
    let overlaps (p : Prec) (a b : BitVec 5) : Prop := a ≠ b ∧ ∃ i j, i < count ∧ j < count ∧ reg p a i = reg p b j
    let arith (x : Instr) (p : Prec) (op : FpOp) (base : Word) (d n m : BitVec 5) : Prop :=
      s.vfpUsable p.isDouble = true →
      (s.vfp.fpscr.getLsbD 12 = true →
        exec x s = .next { s with vfp := { s.vfp with fpexc := s.vfp.fpexc ||| 0x80000000#32 } }.undefined) ∧
      (s.vfp.fpscr.getLsbD 12 = false →
        (stride = 0b01#2 ∨ stride = 0b10#2 → exec x s = .refused .vfpVectorShape) ∧
        (stride = 0b00#2 ∨ stride = 0b11#2 →
          (scalar p d →
            exec x s = .next (s.iterated p op base (fun _ => d) (fun _ => n) (fun _ => m) 0 1).next) ∧
          (¬scalar p d → bank p < count * step → exec x s = .refused .vfpVectorShape) ∧
          (¬scalar p d → count * step ≤ bank p →
            let clash := (op ≠ .sqrt ∧ overlaps p d n) ∨ (bank p ≤ m.toNat ∧ overlaps p d m)
            (clash → exec x s = .refused .vfpVectorOverlap) ∧
            (¬clash → exec x s = .next (s.iterated p op base (reg p d) (reg p n) (last p m) 0 count).next))))
    let move (x : Instr) (p : Prec) (f : DWord → DWord) (d m : BitVec 5) : Prop :=
      s.vfpUsable p.isDouble = true →
      let badShape := stride = 0b01#2 ∨ stride = 0b10#2 ∨ bank p < count * step
      let clash := bank p ≤ m.toNat ∧ overlaps p d m
      (scalar p d → exec x s = .next (s.setFp p d (f (s.fp p m))).next) ∧
      (¬scalar p d → badShape → exec x s = .refused .vfpVectorShape) ∧
      (¬scalar p d → ¬badShape → clash → exec x s = .refused .vfpVectorOverlap) ∧
      (¬scalar p d → ¬badShape → ¬clash →
        exec x s = .next ((List.range count).foldl (fun t i => t.setFp p (reg p d i) (f (t.fp p (last p m i)))) s).next)
    (∀ x ∈ [(Instr.fmacs c dB fn fd nB mB fm, FpOp.mac, 0xEE000A00#32), (.fnmacs c dB fn fd nB mB fm, .nmac, 0xEE000A40#32),
            (.fmscs c dB fn fd nB mB fm, .msc, 0xEE100A00#32), (.fnmscs c dB fn fd nB mB fm, .nmsc, 0xEE100A40#32),
            (.fmuls c dB fn fd nB mB fm, .mul, 0xEE200A00#32), (.fnmuls c dB fn fd nB mB fm, .nmul, 0xEE200A40#32),
            (.fadds c dB fn fd nB mB fm, .add, 0xEE300A00#32), (.fsubs c dB fn fd nB mB fm, .sub, 0xEE300A40#32),
            (.fdivs c dB fn fd nB mB fm, .div, 0xEE800A00#32)], arith x.1 .single x.2.1 x.2.2 d n m) ∧
    arith (.fsqrts c dB fd mB fm) .single .sqrt 0xEEB10AC0 d 0 m ∧
    (∀ x ∈ [(Instr.fmacd c fn fd fm, FpOp.mac, 0xEE000B00#32), (.fnmacd c fn fd fm, .nmac, 0xEE000B40#32),
            (.fmscd c fn fd fm, .msc, 0xEE100B00#32), (.fnmscd c fn fd fm, .nmsc, 0xEE100B40#32),
            (.fmuld c fn fd fm, .mul, 0xEE200B00#32), (.fnmuld c fn fd fm, .nmul, 0xEE200B40#32),
            (.faddd c fn fd fm, .add, 0xEE300B00#32), (.fsubd c fn fd fm, .sub, 0xEE300B40#32),
            (.fdivd c fn fd fm, .div, 0xEE800B00#32)],
      arith x.1 .double x.2.1 x.2.2 (doubleNo fd) (doubleNo fn) (doubleNo fm)) ∧
    arith (.fsqrtd c fd fm) .double .sqrt 0xEEB10BC0 (doubleNo fd) 0 (doubleNo fm) ∧
    (∀ x ∈ [(Instr.fcpys c dB fd mB fm, (id : DWord → DWord)), (.fabss c dB fd mB fm, fun v => v &&& 0x7FFFFFFF#64),
            (.fnegs c dB fd mB fm, fun v => v ^^^ 0x80000000#64)], move x.1 .single x.2 d m) ∧
    (∀ x ∈ [(Instr.fcpyd c fd fm, (id : DWord → DWord)), (.fabsd c fd fm, fun v => v &&& 0x7FFFFFFFFFFFFFFF#64),
            (.fnegd c fd fm, fun v => v ^^^ 0x8000000000000000#64)], move x.1 .double x.2 (doubleNo fd) (doubleNo fm))) ∧
  (∀ (op : FpOp) (p : Prec) (scr : Word) (d n m : DWord),
    let raw := op.operands d n m
    let nil (v : DWord) : Bool := p.isZero v || p.isSubnormal v
    let product := (p.isInf n && nil m) || (nil n && p.isInf m)
    scr.getLsbD 25 = true → raw.any p.isNan = true →
    (raw.any p.isSubnormal = true → scr.getLsbD 24 = true ∧ scr.getLsbD 15 = false) →
    (scr.getLsbD 8 = true → raw.any p.isSnan = false ∧ (op.accumulates && product) = false) →
    op.verdict p scr d n m = .done
      { bits := if p = .single then 0x7FC00000#64 else 0x7FF8000000000000#64
        flags := (if raw.any p.isSnan then 0x01#32 else 0) ||| (if raw.any p.isSubnormal then 0x80#32 else 0) |||
          (if op.accumulates && !p.isNan n && !p.isNan m then
            (if product then 0x01 else (FpOp.mul.compute p (roundingOf scr) 0 (p.flush scr n) (p.flush scr m)).flags)
            else 0) }) ∧
  (∀ (p : Prec) (scr : Word) (d n m : DWord), scr.getLsbD 24 = true → scr.getLsbD 15 = false → p.isNormal m = true →
    (p.isSubnormal n = true →
      FpOp.mul.verdict p scr d n m = .done { bits := p.pack (p.negative m) 0 0, flags := 0x80 }) ∧
    (p.isNormal n = true → p.exponent n + p.exponent m + 1 ≤ p.bias →
      FpOp.mul.verdict p scr d n m = .done { bits := 0, flags := 0x08 })) ∧
  (∀ (p : Prec) (scr : Word) (d n m : DWord) (r : Computed), p.isNormal n = true → p.isNormal m = true →
    r.flags &&& 0x0C#32 = 0 →
    let mode := roundingOf scr
    let differs := p.negative n != p.negative m
    let e := p.exp n + p.exp m
    let g := p.exp n - p.exp m
    let rounds (neg : Bool) (num den : Nat) (v : DWord) (before after : Word) : Prop :=
      p.nearby mode neg num den v = true ∧ after = before |||
        (if p.sig v * 2 ^ (p.exp v).toNat * den = num * 2 ^ (-(p.exp v)).toNat then 0 else 0x10#32)
    let sum (a b v : DWord) (before after : Word) : Prop :=
      let low := min (p.exp a) (p.exp b)
      let term (v : DWord) : Int :=
        (if p.negative v then -1 else 1) * ((p.sig v * 2 ^ (p.exp v - low).toNat : Nat) : Int)
      let x := term a + term b
      (x = 0 → v = p.pack (decide (mode = .minus)) 0 0 ∧ after = before) ∧
      (x ≠ 0 → rounds (decide (x < 0)) (x.natAbs * 2 ^ low.toNat) (2 ^ (-low).toNat) v before after)
    let product (v : DWord) (after : Word) : Prop :=
      rounds differs (p.sig n * p.sig m * 2 ^ e.toNat) (2 ^ (-e).toNat) v 0 after
    (FpOp.mul.verdict p scr d n m = .done r → product r.bits r.flags) ∧
    (FpOp.nmul.verdict p scr d n m = .done r → product (p.neg r.bits) r.flags) ∧
    (FpOp.div.verdict p scr d n m = .done r →
      rounds differs (p.sig n * 2 ^ g.toNat) (p.sig m * 2 ^ (-g).toNat) r.bits 0 r.flags) ∧
    (FpOp.add.verdict p scr d n m = .done r → sum n m r.bits 0 r.flags) ∧
    (FpOp.sub.verdict p scr d n m = .done r → sum n (p.neg m) r.bits 0 r.flags) ∧
    (p.isNormal d = true → ∀ x ∈ [(FpOp.mac, false, false), (.nmac, true, false), (.msc, false, true),
        (.nmsc, true, true)], x.1.verdict p scr d n m = .done r →
      ∃ q f, product q f ∧ sum (if x.2.2 then p.neg d else d) (if x.2.1 then p.neg q else q) r.bits f r.flags)) ∧
  FpOp.sqrt.verdict .single 0 0 0 0x40000000 = .done { bits := 0x3FB504F3, flags := 0x10 } ∧
  FpOp.sqrt.verdict .double 0 0 0 0x4022000000000000 = .done { bits := 0x4008000000000000, flags := 0 }

/-- VFP compares and conversions (R492, R510, R518, R522, R527, R1443, R1458, R1459, R1460, R1461, R1462, R1463, R1464, R1466,
R1469). -/
def Obligations.VfpConversionResults : Prop :=
  (∀ (s : State) (c : Cond) (fd fm : BitVec 4) (dB mB : Bool), Cond.passes c s.cpsr = true →
    enabledIx s.vfp.fpscr = false →
    let ds := singleNo fd dB
    let ms := singleNo fm mB
    let dd := doubleNo fd
    let md := doubleNo fm
    let f := s.vfp.fpscr
    let r := roundingOf f
    let put (p : Prec) (d : BitVec 5) (v : DWord) (t : State) : State := t.setFp p d v
    (s.vfpUsable false = true →
      (∀ x ∈ [(Instr.fcmps c dB fd mB fm, false, 0xEEB40A40#32 ||| fmField .single ms, s.fp .single ms),
              (.fcmpes c dB fd mB fm, true, 0xEEB40AC0 ||| fmField .single ms, s.fp .single ms),
              (.fcmpzs c dB fd, false, 0xEEB50A40, 0), (.fcmpezs c dB fd, true, 0xEEB50AC0, 0)],
        exec x.1 s = .next (s.compared .single x.2.1 (x.2.2.1 ||| fdField .single ds) (s.fp .single ds) x.2.2.2)) ∧
      exec (.fcvtds c fd mB fm) s = .next (s.settled (0xEEB70AC0 ||| fdField .double dd ||| fmField .single ms)
        (put .double dd) (widenVerdict f (s.fp .single ms))) ∧
      (∀ x ∈ [(Instr.fuitos c dB fd mB fm, ((s.single ms).toNat : Int), 0xEEB80A40#32),
              (.fsitos c dB fd mB fm, (s.single ms).toInt, 0xEEB80AC0)],
        exec x.1 s = .next (s.settled (x.2.2 ||| fdField .single ds ||| fmField .single ms) (put .single ds)
          (.done (Prec.single.ofInt r x.2.1)))) ∧
      (∀ x ∈ [(Instr.ftouis c dB fd mB fm, false, r, 0xEEBC0A40#32), (.ftouizs c dB fd mB fm, false, .zero, 0xEEBC0AC0),
              (.ftosis c dB fd mB fm, true, r, 0xEEBD0A40), (.ftosizs c dB fd mB fm, true, .zero, 0xEEBD0AC0)],
        exec x.1 s = .next (s.settled (x.2.2.2 ||| fdField .single ds ||| fmField .single ms) (put .single ds)
          (toIntVerdict x.2.1 .single x.2.2.1 f (s.fp .single ms))))) ∧
    (s.vfpUsable true = true →
      (∀ x ∈ [(Instr.fcmpd c fd fm, false, 0xEEB40B40#32 ||| fmField .double md, s.fp .double md),
              (.fcmped c fd fm, true, 0xEEB40BC0 ||| fmField .double md, s.fp .double md),
              (.fcmpzd c fd, false, 0xEEB50B40, 0), (.fcmpezd c fd, true, 0xEEB50BC0, 0)],
        exec x.1 s = .next (s.compared .double x.2.1 (x.2.2.1 ||| fdField .double dd) (s.fp .double dd) x.2.2.2)) ∧
      exec (.fcvtsd c dB fd fm) s = .next (s.settled (0xEEB70BC0 ||| fdField .single ds ||| fmField .double md)
        (put .single ds) (narrowVerdict f (s.fp .double md))) ∧
      (∀ x ∈ [(Instr.fuitod c fd mB fm, ((s.single ms).toNat : Int), 0xEEB80B40#32),
              (.fsitod c fd mB fm, (s.single ms).toInt, 0xEEB80BC0)],
        exec x.1 s = .next (s.settled (x.2.2 ||| fdField .double dd ||| fmField .single ms) (put .double dd)
          (.done (Prec.double.ofInt r x.2.1)))) ∧
      (∀ x ∈ [(Instr.ftouid c dB fd fm, false, r, 0xEEBC0B40#32), (.ftouizd c dB fd fm, false, .zero, 0xEEBC0BC0),
              (.ftosid c dB fd fm, true, r, 0xEEBD0B40), (.ftosizd c dB fd fm, true, .zero, 0xEEBD0BC0)],
        exec x.1 s = .next (s.settled (x.2.2.2 ||| fdField .single ds ||| fmField .double md) (put .single ds)
          (toIntVerdict x.2.1 .double x.2.2.1 f (s.fp .double md)))))) ∧
  (∀ (signal : Bool) (p : Prec) (scr : Word) (a b : DWord),
    let low := min (p.exp a) (p.exp b)
    let value (v : DWord) : Int := if p.isSubnormal v then 0
      else (if p.negative v then -1 else 1) * ((p.sig v * 2 ^ (p.exp v - low).toNat : Nat) : Int)
    let small := p.isSubnormal a || p.isSubnormal b
    let invalid := p.isSnan a || p.isSnan b || signal
    let gives (code : DWord) (f : Word) : Prop := compareVerdict signal p scr a b =
      .done { bits := code, flags := f ||| (if small then 0x80#32 else 0) }
    (small = true → scr.getLsbD 24 = true ∧ scr.getLsbD 15 = false) →
    (p.isNan a = false → p.isNan b = false →
      (value a < value b → gives 0b1000 0) ∧ (value a = value b → gives 0b0110 0) ∧
      (value b < value a → gives 0b0010 0)) ∧
    (scr.getLsbD 25 = true → p.isNan a = true ∨ p.isNan b = true → (invalid = true → scr.getLsbD 8 = false) →
      gives 0b0011 (if invalid then 1 else 0))) ∧
  (∀ (p : Prec) (mode : Rounding) (i : Int), i ≠ 0 → i.natAbs ≤ 2 ^ 32 →
    p.nearby mode (decide (i < 0)) i.natAbs 1 (p.ofInt mode i).bits = true ∧ (p.ofInt mode 0).bits = 0) ∧
  (∀ (scr : Word) (v : DWord) (r : Computed), Prec.double.isNormal v = true → r.flags &&& 0x0C#32 = 0 →
    narrowVerdict scr v = .done r → let e := Prec.double.exp v
    Prec.single.nearby (roundingOf scr) (Prec.double.negative v) (Prec.double.sig v * 2 ^ e.toNat) (2 ^ (-e).toNat)
      r.bits = true) ∧
  (∀ (scr : Word) (v : DWord) (r : Computed), Prec.single.isNormal v = true → widenVerdict scr v = .done r →
    Prec.double.sig r.bits = Prec.single.sig v * 2 ^ 29 ∧ Prec.double.exp r.bits = Prec.single.exp v - 29 ∧
    Prec.double.negative r.bits = Prec.single.negative v ∧ r.flags = 0) ∧
  (∀ (signed : Bool) (p : Prec) (scr : Word) (v : DWord) (r : Computed), p.isNormal v = true →
    toIntVerdict signed p .zero scr v = .done r → r.flags.getLsbD 0 = false →
    let x := p.sig v * 2 ^ (p.exp v).toNat
    let den := 2 ^ (-(p.exp v)).toNat
    r.bits = (BitVec.ofInt 32 (if p.negative v then -((x / den : Nat) : Int) else (x / den : Nat))).setWidth 64 ∧
      (r.flags = if x % den = 0 then 0 else 0x10)) ∧
  (∀ (signed : Bool) (mode : Rounding) (scr : Word) (v : DWord), scr.getLsbD 8 = false → scr.getLsbD 15 = false →
    scr.getLsbD 24 = true →
    (scr.getLsbD 25 = true → Prec.double.isNan v = true →
      ∃ f, narrowVerdict scr v = .done { bits := 0x7FC00000, flags := f }) ∧
    (scr.getLsbD 25 = true → Prec.single.isNan v = true →
      ∃ f, widenVerdict scr v = .done { bits := 0x7FF8000000000000, flags := f }) ∧
    (∀ p, scr.getLsbD 25 = true → p.isNan v = true →
      toIntVerdict signed p mode scr v = .done { bits := 0, flags := 1 }) ∧
    (∀ p, p.isSubnormal v = true → toIntVerdict signed p mode scr v = .done { bits := 0, flags := 0x80 }) ∧
    (Prec.double.isSubnormal v = true → narrowVerdict scr v = .done { bits := 0, flags := 0x80 }) ∧
    (Prec.single.isSubnormal v = true → widenVerdict scr v = .done { bits := 0, flags := 0x80 }))

/-- VFP loads and stores (R488, R499, R1475, R1476, R1477, R1478, R1479, R1480, R1481, R1482, R1483, R1484). -/
def Obligations.VfpMemoryResults : Prop :=
  ∀ (s t : State) (c : Cond) (u dB wb k : Bool) (rn : RegNo) (fd : BitVec 4) (imm : BitVec 8) (half : BitVec 7)
    (a : Word) (ws : List (BitVec 5 × Word)), Cond.passes c s.cpsr = true →
    let d := singleNo fd dB
    let e := doubleNo fd
    let base := s.reg rn
    let off := imm.setWidth 32 <<< 2
    let near := if u then base + off else base - off
    let n := imm.toNat
    let h := half.toNat
    let regs (p : Prec) (d : BitVec 5) (n : Nat) := consecutive p s.bigEndian d n
    let up (n : Nat) : Option Word := if wb then some (base + wordsLong n) else none
    let down (n : Nat) : Option Word := some (base - wordsLong n)
    let ld := loadOf .multi s.privileged
    (∀ x ∈ [(Instr.flds c u dB rn fd imm, false, (none : Option Prec), near, regs .single d 1, none, True),
            (.fldd c u rn fd imm, true, none, near, regs .double e 1, none, True),
            (.fldmsIa c dB wb rn fd imm, false, some .single, base, regs .single d n, up n,
              0 < n ∧ d.toNat + n ≤ 32 ∧ (wb = true → rn ≠ 15)),
            (.fldmsDb c dB rn fd imm, false, some .single, base - wordsLong n, regs .single d n, down n,
              0 < n ∧ d.toNat + n ≤ 32 ∧ rn ≠ 15),
            (.fldmdIa c wb rn fd half, true, some .double, base, regs .double e h, up (2 * h),
              0 < h ∧ e.toNat + h ≤ 16 ∧ (wb = true → rn ≠ 15)),
            (.fldmdDb c rn fd half, true, some .double, base - wordsLong (2 * h), regs .double e h, down (2 * h),
              0 < h ∧ e.toNat + h ≤ 16 ∧ rn ≠ 15),
            (.fldmxIa c wb rn fd half, true, some .double, base, regs .double e h, up (2 * h + 1),
              0 < h ∧ e.toNat + h ≤ 16 ∧ (wb = true → rn ≠ 15)),
            (.fldmxDb c rn fd half, true, some .double, base - wordsLong (2 * h + 1), regs .double e h,
              down (2 * h + 1),
              0 < h ∧ e.toNat + h ≤ 16 ∧ rn ≠ 15)],
      s.vfpUsable x.2.1 = true → x.2.2.2.2.2.2 → alignData ld x.2.2.2.1 s = .ok ((a, k), s) →
      readSingles (ld.block a x.2.2.2.2.1.length) x.2.2.1 a [] x.2.2.2.2.1 s = .ok (ws, t) →
      exec x.1 s = .next ((t.putSingles ws).based rn x.2.2.2.2.2.1).next) ∧
    (∀ x ∈ [(Instr.fsts c u dB rn fd imm, false, near, regs .single d 1, none, True),
            (.fstd c u rn fd imm, true, near, regs .double e 1, none, True),
            (.fstmsIa c dB wb rn fd imm, false, base, regs .single d n, up n,
              0 < n ∧ d.toNat + n ≤ 32 ∧ (wb = true → rn ≠ 15)),
            (.fstmsDb c dB rn fd imm, false, base - wordsLong n, regs .single d n, down n,
              0 < n ∧ d.toNat + n ≤ 32 ∧ rn ≠ 15),
            (.fstmdIa c wb rn fd half, true, base, regs .double e h, up (2 * h),
              0 < h ∧ e.toNat + h ≤ 16 ∧ (wb = true → rn ≠ 15)),
            (.fstmdDb c rn fd half, true, base - wordsLong (2 * h), regs .double e h, down (2 * h),
              0 < h ∧ e.toNat + h ≤ 16 ∧ rn ≠ 15),
            (.fstmxIa c wb rn fd half, true, base, regs .double e h, up (2 * h + 1),
              0 < h ∧ e.toNat + h ≤ 16 ∧ (wb = true → rn ≠ 15)),
            (.fstmxDb c rn fd half, true, base - wordsLong (2 * h + 1), regs .double e h, down (2 * h + 1),
              0 < h ∧ e.toNat + h ≤ 16 ∧ rn ≠ 15)],
      s.vfpUsable x.2.1 = true → x.2.2.2.2.2 → storeBlock x.2.2.1 (x.2.2.2.1.map s.single) s = .ok ((), t) →
      exec x.1 s = .next (t.based rn x.2.2.2.2.1).next)

/-- VFP register transfers and system registers (R488, R490, R491, R499, R1490, R1492, R1496, R1497, R1498, R1499,
R1500, R1501). -/
def Obligations.VfpTransferResults : Prop :=
  ∀ (s : State) (c : Cond) (rd rn : RegNo) (fn fm n4 : BitVec 4) (nB : Bool), Cond.passes c s.cpsr = true →
    rd ≠ 15 → rn ≠ 15 →
    let n := singleNo fn nB
    let m := singleNo fm nB
    let lo := lowHalf (doubleNo fn)
    let hi := highHalf (doubleNo fn)
    (s.vfpUsable false = true →
      exec (.fmsr c fn rd nB) s = .next (s.setSingle n (s.reg rd)).next ∧
      exec (.fmrs c fn rd nB) s = .next (s.wrote rd (s.single n)) ∧
      (m ≠ 31 →
        exec (.fmsrr c rn rd nB fm) s = .next ((s.setSingle m (s.reg rd)).setSingle (m + 1) (s.reg rn)).next ∧
        (rd ≠ rn → exec (.fmrrs c rn rd nB fm) s = .next ((s.setReg rd (s.single m)).wrote rn (s.single (m + 1))))) ∧
      exec (.fmstat c) s = .next (s.flagged (s.cpsr.setNZCV (s.vfp.fpscr.extractLsb' 28 4)))) ∧
    (∀ r, FpReg.of? n4 = some r →
      let enabled := s.vfp.fpexc.getLsbD 30 = true
      let world := s.isSecure = true ∨ (s.cp15.nsacr.getLsbD 10 = true ∧ s.cp15.nsacr.getLsbD 11 = true)
      let field := s.cpAccess false = 0b11#2 ∨ (s.cpAccess false = 0b01#2 ∧ s.privileged = true)
      let may := (r = .fpscr → enabled ∧ s.vfp.fpexc.getLsbD 31 = false) ∧
        (s.privileged = true ∨ (enabled ∧ r ≠ .fpexc ∧ r ≠ .fpinst ∧ r ≠ .fpinst2))
      (world → field → may →
        exec (.fmxr c n4 rd) s = .next (s.writeFpReg r (s.reg rd)).next ∧
        ∀ v t, readFpReg r s = .ok (v, t) → exec (.fmrx c n4 rd) s = .next (t.wrote rd v)) ∧
      (∀ i, i = .fmxr c n4 rd ∨ i = .fmrx c n4 rd →
        (¬world ∨ (¬field ∧ s.cpAccess false ≠ 0b10#2) ∨ (field ∧ ¬may) → exec i s = .next s.undefined) ∧
        (world → s.cpAccess false = 0b10#2 → exec i s = .refused .reservedAccess))) ∧
    (s.vfpUsable true = true →
      exec (.fmdlr c fn rd) s = .next (s.setSingle lo (s.reg rd)).next ∧
      exec (.fmdhr c fn rd) s = .next (s.setSingle hi (s.reg rd)).next ∧
      exec (.fmrdl c fn rd) s = .next (s.wrote rd (s.single lo)) ∧
      exec (.fmrdh c fn rd) s = .next (s.wrote rd (s.single hi)) ∧
      exec (.fmdrr c rn rd fn) s = .next ((s.setSingle lo (s.reg rd)).setSingle hi (s.reg rn)).next ∧
      (rd ≠ rn → exec (.fmrrd c rn rd fn) s = .next ((s.setReg rd (s.single lo)).wrote rn (s.single hi))))

/-- A VFP instruction where the VFP11 may not be used is Undefined (R499, R528, R1310). -/
def Obligations.VfpUnusable : Prop :=
  ∀ (i : Instr) (c : Cond) (s : State) (side : Bool), vfpSide i = some side → condOf? i = some c →
    Cond.passes c s.cpsr = true → s.halted = false → s.vfpUsable side = false →
    ((s.isSecure = false ∧ (s.cp15.nsacr.getLsbD 10 = false ∨ s.cp15.nsacr.getLsbD 11 = false)) ∨
      s.cpAccess side ≠ 0b10#2 → exec i s = .next (enterException .undefined s)) ∧
    (s.isSecure = true ∨ (s.cp15.nsacr.getLsbD 10 = true ∧ s.cp15.nsacr.getLsbD 11 = true) →
      s.cpAccess side = 0b10#2 → exec i s = .refused .reservedAccess)

/-- What a data access changes (R545, R546, R634, R745, R1146). -/
def Obligations.AccessFrames : Prop :=
  let kept (s u : State) : Prop :=
    u.gpr = s.gpr ∧ u.pc = s.pc ∧ u.cpsr = s.cpsr ∧ u.spsr = s.spsr ∧ u.vfp = s.vfp ∧ u.pins = s.pins ∧
    u.exclLocal = s.exclLocal ∧ u.exclGlobal = s.exclGlobal ∧ u.jumped = s.jumped ∧ u.irqAcks = s.irqAcks ∧
    { u.dbg with watchHit := s.dbg.watchHit, dscr := s.dbg.dscr } = s.dbg ∧
    (s.halted = false → u.dbg.dscr = s.dbg.dscr) ∧
    { u.cp15 with
      tlbLock := s.cp15.tlbLock, tlbLockdown := s.cp15.tlbLockdown, dMasterValid := s.cp15.dMasterValid } = s.cp15 ∧
    { u.secure with cacheDirty := s.secure.cacheDirty } = s.secure ∧
    { u.nonSecure with cacheDirty := s.nonSecure.cacheDirty } = s.nonSecure
  let loaded (s u : State) : Prop :=
    kept s u ∧ u.secure = s.secure ∧ u.nonSecure = s.nonSecure ∧
      ∀ k, s.holds k = false → Memory.read u.mem k = Memory.read s.mem k
  let stored (keys : List Nat) (s u : State) : Prop :=
    kept s u ∧ ∀ k, k ∉ keys → s.holds k = false → Memory.read u.mem k = Memory.read s.mem k
  ∀ (p : Acc) (a v : Word) (n : Nat) (ws : List Word) (s u : State), s.Inv → s.running = none →
    (n = p.ty.size (s.sctlr 22) → n ≤ 4 →
      (memRead p a n s = .ok (v, u) → loaded s u) ∧
      (memWrite p a n v s = .ok ((), u) → stored (storedKeys p a n v s) s u)) ∧
    (a.extractLsb' 0 2 = 0 →
      (readWordAt p a s = .ok (v, u) → loaded s u) ∧
      (writeWords p a ws s = .ok ((), u) → stored (wordKeys p a s ws) s u))

/-- In plain memory a load reads what was stored, and where (R545, R550, R551, R541, R553, R636). That with the MMU off and a
nonzero FCSE PID the bytes are at the modified virtual address is the model's choice (DESIGN CHOICE, log 82). -/
def Obligations.StoreThenLoad : Prop :=
  ∀ (s : State) (ld st : Acc) (a v : Word) (n : Nat), s.Inv → s.plainMemory = true → s.debugPermitted = false →
    ld.write = false → st.write = true → (∀ p, p = ld ∨ p = st → p.excl = false ∧ p.crosses = false ∧ p.first = 0) →
    (n = 1 ∧ ld.ty = .byte ∧ st.ty = .byte ∨ n = 2 ∧ ld.ty = .half ∧ st.ty = .half ∧ a.getLsbD 0 = false ∨
      n = 4 ∧ ld.ty = .wload ∧ st.ty = .wstore ∧ a.extractLsb' 0 2 = 0) →
    let low := if n = 1 then v &&& 0xFF#32 else if n = 2 then v &&& 0xFFFF#32 else v
    let value (s : State) : Word := if n = 1 then (s.plainByte a).setWidth 32
      else if n = 2 then (s.plainByte (a + 1) ++ s.plainByte a).setWidth 32 else s.plainWord a
    (∃ ts, memRead ld a n s = .ok (value s, { s with transfers := ts })) ∧
    ∃ t, memWrite st a n v s = .ok ((), t) ∧ (∃ ts, memRead ld a n t = .ok (low, { t with transfers := ts })) ∧
      ∀ j, (∀ i, i < n → j ≠ s.plainKey (a + BitVec.ofNat 32 i)) → Memory.read t.mem j = Memory.read s.mem j

/-- The canonical form of memory (R541, R542, R547). -/
def Obligations.MemoryExtensional : Prop :=
  (∀ m m' : List Host.Cell, Memory.wf m = true → Memory.wf m' = true → (∀ k, Memory.read m k = Memory.read m' k) →
    m = m') ∧
  (∀ (m : List Host.Cell) (k j : Nat) (v : Byte), Memory.wf m = true →
    Memory.wf (Memory.write m k v) = true ∧ Memory.read (Memory.write m k v) k = v ∧
    (j ≠ k → Memory.read (Memory.write m k v) j = Memory.read m j))

/-- The alignment check (R564, R566, R568, R569, R690), and what an alignment fault writes. For a byte of a split access after
the first, that the FAR is that byte's own address is DESIGN CHOICE (log 71). That the domain field of the DFSR, which R568
and R690 call invalid, is written 0 is DEDUCED (log 26), and so it is that the abort drops the watchpoint note (log 24). -/
def Obligations.AlignmentRules : Prop :=
  let faulted (va : Word) (write : Bool) (s : State) : State :=
    let t := s.setBankOf (!s.isSecure) fun b => { b with
      far := s.fcse (!s.isSecure) va, dfsr := if write then 0x801#32 else 0x001#32 }
    let u := { t with dbg := { t.dbg with watchHit := none } }
    if s.halted then { u with dbg := { u.dbg with dscr := u.dbg.dscr ||| 0x40#32 } }
    else enterException (.dataAbort false) u
  (∀ (a u pc : Bool) (addr : Word) (t : AccType),
    let size := match t with
      | .byte | .bsync => 1
      | .half | .hwsync => 2
      | .wload | .wstore | .wsync | .multi => 4
      | .twoWord => if u then 4 else 8
      | .dwsync => 8
    let r := alignmentCheck a u addr t pc
    (addr.toNat % size = 0 → r = .at addr false) ∧
    (addr.toNat % size ≠ 0 →
      (a = true → r = .fault) ∧
      (a = false → u = true →
        (t = .half ∨ t = .wload ∨ t = .wstore → r = if pc then .fault else .at addr true) ∧
        (t = .hwsync ∨ t = .wsync ∨ t = .multi ∨ t = .twoWord ∨ t = .dwsync → r = .fault)) ∧
      (a = false → u = false →
        (t = .half ∨ t = .hwsync → r = .at (addr - BitVec.ofNat 32 (addr.toNat % 2)) false) ∧
        (t = .wload → r = if pc then .refused .legacyPcLoad else .at (addr - BitVec.ofNat 32 (addr.toNat % 4)) false) ∧
        (t = .wstore ∨ t = .wsync ∨ t = .multi → r = .at (addr - BitVec.ofNat 32 (addr.toNat % 4)) false) ∧
        (t = .twoWord → r = .refused .legacyDoubleword) ∧
        (t = .dwsync → r = .at (addr - BitVec.ofNat 32 (addr.toNat % 8)) false)))) ∧
  (∀ (p : Acc) (addr : Word) (s : State),
    (∀ a split, alignmentCheck (s.sctlr 1) (s.sctlr 22) addr p.ty p.loadsPc = .at a split →
      alignData p addr s = .ok ((a, split), s)) ∧
    (alignmentCheck (s.sctlr 1) (s.sctlr 22) addr p.ty p.loadsPc = .fault →
      alignData p addr s = .error (.took (faulted addr p.write s))) ∧
    (∀ r, alignmentCheck (s.sctlr 1) (s.sctlr 22) addr p.ty p.loadsPc = .refused r →
      alignData p addr s = .error (.refused r))) ∧
  (∀ (p : Acc) (va : Word) (s t : State) (x : Translation), let ns := !s.isSecure
    s.translate ns (s.asidOf ns) (s.fcse ns va) (if p.write then .write else .read) p.priv .data = .ok x t →
    x.attrs.ty ≠ .normal →
    translateData p va true s =
      (if s.sctlr 0 && s.sctlr 23 then .error (.took (faulted va p.write t)) else .error (.refused .unalignedDevice))) ∧
  (∀ (p : Acc) (addr : Word) (s t : State) (bs : List Byte) (x : Translation), p.ty = .wload → p.loadsPc = false →
    s.sctlr 1 = false → s.sctlr 22 = false →
    let a := addr - BitVec.ofNat 32 (addr.toNat % 4)
    readPiece (p.keepLow addr a) a 4 false s = .ok ((bs, x), t) →
    memRead p addr 4 s = .ok ((bytesValue t.bigEndian bs).rotateRight (8 * (addr.toNat % 4)), t))

/-- Translation off, through a section, and its faults (R203, R204, R541, R578, R650, R653, R656, R661, R665, R666, R690). That
with the MMU off and a nonzero FCSE PID, which R578 excludes, the physical address is the modified virtual address is the
model's choice (DESIGN CHOICE, log 82). -/
def Obligations.SectionTranslates : Prop :=
  ∀ (s : State) (ns priv : Bool) (asid : BitVec 8) (mva : Word) (acc : Access),
    let b := s.bankOf ns
    ((b.sctlr.getLsbD 0 = false → ∃ x, s.translate ns asid mva acc priv .data = .ok x s ∧ x.pa = mva ∧ x.ns = ns ∧
      (b.sctlr.getLsbD 28 = false → inPeripheralPort b.ppmr mva = false → s.tcmByte false ns mva = none →
        x.attrs = { ty := .stronglyOrdered, shared := true, inner := 0, outer := 0, flat := true })) ∧
    (b.sctlr.getLsbD 0 = true → b.sctlr.getLsbD 23 = true → b.sctlr.getLsbD 29 = false → b.ttbcr = 0 →
      s.lockMatches ns asid mva = [] → s.walks = [] →
      let a1 := (b.ttbr0 &&& 0xFFFFC000#32) ||| (mva >>> 20 <<< 2)
      s.walkError ns mva a1 = none → s.walksDevice ns mva a1 = false →
      (∀ i, i < 16 → let e := s.descriptor ns (s.extKey ns a1 / 64 * 64 + 4 * i)
        ¬(e.extractLsb' 0 2 = 0b10#2 ∧ e.getLsbD 18 = true)) →
      let d := s.descriptor ns (s.extKey ns a1)
      let m := sectionMapping true d mva
      let domain := b.dacr.extractLsb' (2 * m.domain.toNat) 2
      (d.extractLsb' 0 2 = 0b10#2 → d.getLsbD 18 = false →
        (domain = 0b01#2 → m.permits b acc priv = true → ∀ at', m.attrs? b = some at' →
          ∃ x t, s.translate ns asid mva acc priv .data = .ok x t ∧ x.pa = d.extractLsb' 20 12 ++ mva.extractLsb' 0 20 ∧
            x.domain = d.extractLsb' 5 4 ∧ x.ns = (ns || d.getLsbD 19) ∧ t.mem = s.mem ∧
            (inPeripheralPort b.ppmr x.pa = false → s.tcmByte false x.ns x.pa = none → x.attrs = at')) ∧
        (domain = 0b01#2 → m.permits b acc priv = false → ∃ t, s.translate ns asid mva acc priv .data =
          .abort { status := 0b01101, domain := some (d.extractLsb' 5 4), error := none } t) ∧
        (domain = 0b00#2 → ∃ t, s.translate ns asid mva acc priv .data =
          .abort { status := 0b01001, domain := some (d.extractLsb' 5 4), error := none } t)) ∧
      (d.extractLsb' 0 2 = 0b00#2 → ∃ t, s.translate ns asid mva acc priv .data =
        .abort { status := 0b00101, domain := none, error := none } t)))

/-- The DMA commands and the end of a transfer; without TCMs Start does nothing (R323, R328, R780, R781, R784). Two points are the
model's choice (DESIGN CHOICE, log 20): that a Start without a Clear drops the error bits of an earlier transfer; and, in the
last clause, that a Start leaves the other channel as it is also where it fails for bad parameters on a channel that was in
error: the other one stays Queued then, although R781 has a Queued channel run when the other leaves operation. -/
def Obligations.DmaCommands : Prop :=
  ∀ (s : State) (c : Bool),
    let d := s.channel c
    let other := (s.channel (!c)).inOperation
    let dma := s.pins.params.hasTcm
    (dma = false → s.dmaStart c = s) ∧
    (dma = true → d.busy = false → d.badParameters = false → other = false →
      ((s.dmaStart c).channel c).state = 2 ∧ ((s.dmaStart c).channel c).curInt = d.intStart ∧
      ((s.dmaStart c).channel c).curExt = d.extStart ∧ ((s.dmaStart c).channel c).startedFromUser = !s.privileged) ∧
    (dma = true → d.busy = false → d.badParameters = false → other = true → ((s.dmaStart c).channel c).state = 1) ∧
    (dma = true → d.busy = false → d.badParameters = true → ((s.dmaStart c).channel c).status = 0x1003#32) ∧
    (d.busy = true → s.dmaStart c = s ∧ s.dmaClear c = s) ∧
    (d.state = 1 → ((s.dmaStop c).channel c).state = 0 ∧
      ((s.channel (!c)).state = 1 → ((s.dmaStop c).channel (!c)).state = 2)) ∧
    (d.state = 2 → ((s.dmaStop c).channel c).status = 3 ∧ ((s.dmaStop c).channel c).intStart = d.curInt ∧
      ((s.dmaStop c).channel c).extStart = d.curExt) ∧
    (s.running = some c → d.curInt = d.intEnd → dmaStep s = .ok ((), s.dmaComplete c)) ∧
    (∀ o, (s.dmaStart c).channel (!o) = s.channel (!o) ∨ o = !c) ∧ (s.dmaStart c).mem = s.mem

end
end

