-- ==== Sys2Proof/Laws/State.lean ====
section
/-! SUPPORT. Laws/State: what each update of the state leaves alone, field by field, and what it puts where it changes
one. -/

namespace Sys2Proof.Machine

/-- A property of both branches is a property of the choice. -/
theorem ite_field {α β : Type} {c : Prop} [Decidable c] (f : α → β) (x y : α) (b : β) (hx : f x = b) (hy : f y = b) :
    f (if c then x else y) = b := by
  split
  · exact hx
  · exact hy

/-! `State.setSlot` -/

@[simp] theorem State.setSlot_pc (s : State) (k : Fin 32) (v : Word) : (s.setSlot k v).pc = s.pc := rfl
@[simp] theorem State.setSlot_cpsr (s : State) (k : Fin 32) (v : Word) : (s.setSlot k v).cpsr = s.cpsr := rfl
@[simp] theorem State.setSlot_spsr (s : State) (k : Fin 32) (v : Word) : (s.setSlot k v).spsr = s.spsr := rfl
@[simp] theorem State.setSlot_secure (s : State) (k : Fin 32) (v : Word) : (s.setSlot k v).secure = s.secure := rfl
@[simp] theorem State.setSlot_nonSecure (s : State) (k : Fin 32) (v : Word) : (s.setSlot k v).nonSecure = s.nonSecure := rfl
@[simp] theorem State.setSlot_cp15 (s : State) (k : Fin 32) (v : Word) : (s.setSlot k v).cp15 = s.cp15 := rfl
@[simp] theorem State.setSlot_dbg (s : State) (k : Fin 32) (v : Word) : (s.setSlot k v).dbg = s.dbg := rfl
@[simp] theorem State.setSlot_vfp (s : State) (k : Fin 32) (v : Word) : (s.setSlot k v).vfp = s.vfp := rfl
@[simp] theorem State.setSlot_pins (s : State) (k : Fin 32) (v : Word) : (s.setSlot k v).pins = s.pins := rfl
@[simp] theorem State.setSlot_mem (s : State) (k : Fin 32) (v : Word) : (s.setSlot k v).mem = s.mem := rfl
@[simp] theorem State.setSlot_exclLocal (s : State) (k : Fin 32) (v : Word) : (s.setSlot k v).exclLocal = s.exclLocal := rfl
@[simp] theorem State.setSlot_exclGlobal (s : State) (k : Fin 32) (v : Word) : (s.setSlot k v).exclGlobal = s.exclGlobal := rfl
@[simp] theorem State.setSlot_pendingAbort (s : State) (k : Fin 32) (v : Word) : (s.setSlot k v).pendingAbort = s.pendingAbort := rfl
@[simp] theorem State.setSlot_codeStale (s : State) (k : Fin 32) (v : Word) : (s.setSlot k v).codeStale = s.codeStale := rfl
@[simp] theorem State.setSlot_dcache (s : State) (k : Fin 32) (v : Word) : (s.setSlot k v).dcache = s.dcache := rfl
@[simp] theorem State.setSlot_walks (s : State) (k : Fin 32) (v : Word) : (s.setSlot k v).walks = s.walks := rfl
@[simp] theorem State.setSlot_transfers (s : State) (k : Fin 32) (v : Word) : (s.setSlot k v).transfers = s.transfers := rfl
@[simp] theorem State.setSlot_irqAcks (s : State) (k : Fin 32) (v : Word) : (s.setSlot k v).irqAcks = s.irqAcks := rfl
@[simp] theorem State.setSlot_wrapped (s : State) (k : Fin 32) (v : Word) : (s.setSlot k v).wrapped = s.wrapped := rfl
@[simp] theorem State.setSlot_jumped (s : State) (k : Fin 32) (v : Word) : (s.setSlot k v).jumped = s.jumped := rfl
@[simp] theorem State.setSlot_draws (s : State) (k : Fin 32) (v : Word) : (s.setSlot k v).draws = s.draws := rfl

/-! `State.setRegOf` -/

@[simp] theorem State.setRegOf_pc (s : State) (m : Mode) (n : RegNo) (v : Word) : (s.setRegOf m n v).pc = s.pc := rfl
@[simp] theorem State.setRegOf_cpsr (s : State) (m : Mode) (n : RegNo) (v : Word) : (s.setRegOf m n v).cpsr = s.cpsr := rfl
@[simp] theorem State.setRegOf_spsr (s : State) (m : Mode) (n : RegNo) (v : Word) : (s.setRegOf m n v).spsr = s.spsr := rfl
@[simp] theorem State.setRegOf_secure (s : State) (m : Mode) (n : RegNo) (v : Word) : (s.setRegOf m n v).secure = s.secure := rfl
@[simp] theorem State.setRegOf_nonSecure (s : State) (m : Mode) (n : RegNo) (v : Word) : (s.setRegOf m n v).nonSecure = s.nonSecure := rfl
@[simp] theorem State.setRegOf_cp15 (s : State) (m : Mode) (n : RegNo) (v : Word) : (s.setRegOf m n v).cp15 = s.cp15 := rfl
@[simp] theorem State.setRegOf_dbg (s : State) (m : Mode) (n : RegNo) (v : Word) : (s.setRegOf m n v).dbg = s.dbg := rfl
@[simp] theorem State.setRegOf_vfp (s : State) (m : Mode) (n : RegNo) (v : Word) : (s.setRegOf m n v).vfp = s.vfp := rfl
@[simp] theorem State.setRegOf_pins (s : State) (m : Mode) (n : RegNo) (v : Word) : (s.setRegOf m n v).pins = s.pins := rfl
@[simp] theorem State.setRegOf_mem (s : State) (m : Mode) (n : RegNo) (v : Word) : (s.setRegOf m n v).mem = s.mem := rfl
@[simp] theorem State.setRegOf_exclLocal (s : State) (m : Mode) (n : RegNo) (v : Word) : (s.setRegOf m n v).exclLocal = s.exclLocal := rfl
@[simp] theorem State.setRegOf_exclGlobal (s : State) (m : Mode) (n : RegNo) (v : Word) : (s.setRegOf m n v).exclGlobal = s.exclGlobal := rfl
@[simp] theorem State.setRegOf_pendingAbort (s : State) (m : Mode) (n : RegNo) (v : Word) : (s.setRegOf m n v).pendingAbort = s.pendingAbort := rfl
@[simp] theorem State.setRegOf_codeStale (s : State) (m : Mode) (n : RegNo) (v : Word) : (s.setRegOf m n v).codeStale = s.codeStale := rfl
@[simp] theorem State.setRegOf_dcache (s : State) (m : Mode) (n : RegNo) (v : Word) : (s.setRegOf m n v).dcache = s.dcache := rfl
@[simp] theorem State.setRegOf_walks (s : State) (m : Mode) (n : RegNo) (v : Word) : (s.setRegOf m n v).walks = s.walks := rfl
@[simp] theorem State.setRegOf_transfers (s : State) (m : Mode) (n : RegNo) (v : Word) : (s.setRegOf m n v).transfers = s.transfers := rfl
@[simp] theorem State.setRegOf_irqAcks (s : State) (m : Mode) (n : RegNo) (v : Word) : (s.setRegOf m n v).irqAcks = s.irqAcks := rfl
@[simp] theorem State.setRegOf_wrapped (s : State) (m : Mode) (n : RegNo) (v : Word) : (s.setRegOf m n v).wrapped = s.wrapped := rfl
@[simp] theorem State.setRegOf_jumped (s : State) (m : Mode) (n : RegNo) (v : Word) : (s.setRegOf m n v).jumped = s.jumped := rfl
@[simp] theorem State.setRegOf_draws (s : State) (m : Mode) (n : RegNo) (v : Word) : (s.setRegOf m n v).draws = s.draws := rfl

/-! `State.setReg` -/

@[simp] theorem State.setReg_pc (s : State) (n : RegNo) (v : Word) : (s.setReg n v).pc = s.pc := rfl
@[simp] theorem State.setReg_cpsr (s : State) (n : RegNo) (v : Word) : (s.setReg n v).cpsr = s.cpsr := rfl
@[simp] theorem State.setReg_spsr (s : State) (n : RegNo) (v : Word) : (s.setReg n v).spsr = s.spsr := rfl
@[simp] theorem State.setReg_secure (s : State) (n : RegNo) (v : Word) : (s.setReg n v).secure = s.secure := rfl
@[simp] theorem State.setReg_nonSecure (s : State) (n : RegNo) (v : Word) : (s.setReg n v).nonSecure = s.nonSecure := rfl
@[simp] theorem State.setReg_cp15 (s : State) (n : RegNo) (v : Word) : (s.setReg n v).cp15 = s.cp15 := rfl
@[simp] theorem State.setReg_dbg (s : State) (n : RegNo) (v : Word) : (s.setReg n v).dbg = s.dbg := rfl
@[simp] theorem State.setReg_vfp (s : State) (n : RegNo) (v : Word) : (s.setReg n v).vfp = s.vfp := rfl
@[simp] theorem State.setReg_pins (s : State) (n : RegNo) (v : Word) : (s.setReg n v).pins = s.pins := rfl
@[simp] theorem State.setReg_mem (s : State) (n : RegNo) (v : Word) : (s.setReg n v).mem = s.mem := rfl
@[simp] theorem State.setReg_exclLocal (s : State) (n : RegNo) (v : Word) : (s.setReg n v).exclLocal = s.exclLocal := rfl
@[simp] theorem State.setReg_exclGlobal (s : State) (n : RegNo) (v : Word) : (s.setReg n v).exclGlobal = s.exclGlobal := rfl
@[simp] theorem State.setReg_pendingAbort (s : State) (n : RegNo) (v : Word) : (s.setReg n v).pendingAbort = s.pendingAbort := rfl
@[simp] theorem State.setReg_codeStale (s : State) (n : RegNo) (v : Word) : (s.setReg n v).codeStale = s.codeStale := rfl
@[simp] theorem State.setReg_dcache (s : State) (n : RegNo) (v : Word) : (s.setReg n v).dcache = s.dcache := rfl
@[simp] theorem State.setReg_walks (s : State) (n : RegNo) (v : Word) : (s.setReg n v).walks = s.walks := rfl
@[simp] theorem State.setReg_transfers (s : State) (n : RegNo) (v : Word) : (s.setReg n v).transfers = s.transfers := rfl
@[simp] theorem State.setReg_irqAcks (s : State) (n : RegNo) (v : Word) : (s.setReg n v).irqAcks = s.irqAcks := rfl
@[simp] theorem State.setReg_wrapped (s : State) (n : RegNo) (v : Word) : (s.setReg n v).wrapped = s.wrapped := rfl
@[simp] theorem State.setReg_jumped (s : State) (n : RegNo) (v : Word) : (s.setReg n v).jumped = s.jumped := rfl
@[simp] theorem State.setReg_draws (s : State) (n : RegNo) (v : Word) : (s.setReg n v).draws = s.draws := rfl

/-! `State.branchTo` -/

@[simp] theorem State.branchTo_gpr (s : State) (a : Word) : (s.branchTo a).gpr = s.gpr := rfl
@[simp] theorem State.branchTo_cpsr (s : State) (a : Word) : (s.branchTo a).cpsr = s.cpsr := rfl
@[simp] theorem State.branchTo_spsr (s : State) (a : Word) : (s.branchTo a).spsr = s.spsr := rfl
@[simp] theorem State.branchTo_secure (s : State) (a : Word) : (s.branchTo a).secure = s.secure := rfl
@[simp] theorem State.branchTo_nonSecure (s : State) (a : Word) : (s.branchTo a).nonSecure = s.nonSecure := rfl
@[simp] theorem State.branchTo_cp15 (s : State) (a : Word) : (s.branchTo a).cp15 = s.cp15 := rfl
@[simp] theorem State.branchTo_vfp (s : State) (a : Word) : (s.branchTo a).vfp = s.vfp := rfl
@[simp] theorem State.branchTo_pins (s : State) (a : Word) : (s.branchTo a).pins = s.pins := rfl
@[simp] theorem State.branchTo_mem (s : State) (a : Word) : (s.branchTo a).mem = s.mem := rfl
@[simp] theorem State.branchTo_exclLocal (s : State) (a : Word) : (s.branchTo a).exclLocal = s.exclLocal := rfl
@[simp] theorem State.branchTo_exclGlobal (s : State) (a : Word) : (s.branchTo a).exclGlobal = s.exclGlobal := rfl
@[simp] theorem State.branchTo_pendingAbort (s : State) (a : Word) : (s.branchTo a).pendingAbort = s.pendingAbort := rfl
@[simp] theorem State.branchTo_codeStale (s : State) (a : Word) : (s.branchTo a).codeStale = s.codeStale := rfl
@[simp] theorem State.branchTo_dcache (s : State) (a : Word) : (s.branchTo a).dcache = s.dcache := rfl
@[simp] theorem State.branchTo_walks (s : State) (a : Word) : (s.branchTo a).walks = s.walks := rfl
@[simp] theorem State.branchTo_transfers (s : State) (a : Word) : (s.branchTo a).transfers = s.transfers := rfl
@[simp] theorem State.branchTo_irqAcks (s : State) (a : Word) : (s.branchTo a).irqAcks = s.irqAcks := rfl
@[simp] theorem State.branchTo_wrapped (s : State) (a : Word) : (s.branchTo a).wrapped = s.wrapped := rfl
@[simp] theorem State.branchTo_draws (s : State) (a : Word) : (s.branchTo a).draws = s.draws := rfl

/-! `State.branchKeep` -/

@[simp] theorem State.branchKeep_gpr (s : State) (a : Word) : (s.branchKeep a).gpr = s.gpr := rfl
@[simp] theorem State.branchKeep_cpsr (s : State) (a : Word) : (s.branchKeep a).cpsr = s.cpsr := rfl
@[simp] theorem State.branchKeep_spsr (s : State) (a : Word) : (s.branchKeep a).spsr = s.spsr := rfl
@[simp] theorem State.branchKeep_secure (s : State) (a : Word) : (s.branchKeep a).secure = s.secure := rfl
@[simp] theorem State.branchKeep_nonSecure (s : State) (a : Word) : (s.branchKeep a).nonSecure = s.nonSecure := rfl
@[simp] theorem State.branchKeep_cp15 (s : State) (a : Word) : (s.branchKeep a).cp15 = s.cp15 := rfl
@[simp] theorem State.branchKeep_vfp (s : State) (a : Word) : (s.branchKeep a).vfp = s.vfp := rfl
@[simp] theorem State.branchKeep_pins (s : State) (a : Word) : (s.branchKeep a).pins = s.pins := rfl
@[simp] theorem State.branchKeep_mem (s : State) (a : Word) : (s.branchKeep a).mem = s.mem := rfl
@[simp] theorem State.branchKeep_exclLocal (s : State) (a : Word) : (s.branchKeep a).exclLocal = s.exclLocal := rfl
@[simp] theorem State.branchKeep_exclGlobal (s : State) (a : Word) : (s.branchKeep a).exclGlobal = s.exclGlobal := rfl
@[simp] theorem State.branchKeep_pendingAbort (s : State) (a : Word) : (s.branchKeep a).pendingAbort = s.pendingAbort := rfl
@[simp] theorem State.branchKeep_codeStale (s : State) (a : Word) : (s.branchKeep a).codeStale = s.codeStale := rfl
@[simp] theorem State.branchKeep_dcache (s : State) (a : Word) : (s.branchKeep a).dcache = s.dcache := rfl
@[simp] theorem State.branchKeep_walks (s : State) (a : Word) : (s.branchKeep a).walks = s.walks := rfl
@[simp] theorem State.branchKeep_transfers (s : State) (a : Word) : (s.branchKeep a).transfers = s.transfers := rfl
@[simp] theorem State.branchKeep_irqAcks (s : State) (a : Word) : (s.branchKeep a).irqAcks = s.irqAcks := rfl
@[simp] theorem State.branchKeep_wrapped (s : State) (a : Word) : (s.branchKeep a).wrapped = s.wrapped := rfl
@[simp] theorem State.branchKeep_draws (s : State) (a : Word) : (s.branchKeep a).draws = s.draws := rfl

/-! `State.branchBy` -/

@[simp] theorem State.branchBy_gpr (s : State) (a : Word) : (s.branchBy a).gpr = s.gpr := rfl
@[simp] theorem State.branchBy_cpsr (s : State) (a : Word) : (s.branchBy a).cpsr = s.cpsr := rfl
@[simp] theorem State.branchBy_spsr (s : State) (a : Word) : (s.branchBy a).spsr = s.spsr := rfl
@[simp] theorem State.branchBy_secure (s : State) (a : Word) : (s.branchBy a).secure = s.secure := rfl
@[simp] theorem State.branchBy_nonSecure (s : State) (a : Word) : (s.branchBy a).nonSecure = s.nonSecure := rfl
@[simp] theorem State.branchBy_cp15 (s : State) (a : Word) : (s.branchBy a).cp15 = s.cp15 := rfl
@[simp] theorem State.branchBy_vfp (s : State) (a : Word) : (s.branchBy a).vfp = s.vfp := rfl
@[simp] theorem State.branchBy_pins (s : State) (a : Word) : (s.branchBy a).pins = s.pins := rfl
@[simp] theorem State.branchBy_mem (s : State) (a : Word) : (s.branchBy a).mem = s.mem := rfl
@[simp] theorem State.branchBy_exclLocal (s : State) (a : Word) : (s.branchBy a).exclLocal = s.exclLocal := rfl
@[simp] theorem State.branchBy_exclGlobal (s : State) (a : Word) : (s.branchBy a).exclGlobal = s.exclGlobal := rfl
@[simp] theorem State.branchBy_pendingAbort (s : State) (a : Word) : (s.branchBy a).pendingAbort = s.pendingAbort := rfl
@[simp] theorem State.branchBy_codeStale (s : State) (a : Word) : (s.branchBy a).codeStale = s.codeStale := rfl
@[simp] theorem State.branchBy_dcache (s : State) (a : Word) : (s.branchBy a).dcache = s.dcache := rfl
@[simp] theorem State.branchBy_walks (s : State) (a : Word) : (s.branchBy a).walks = s.walks := rfl
@[simp] theorem State.branchBy_transfers (s : State) (a : Word) : (s.branchBy a).transfers = s.transfers := rfl
@[simp] theorem State.branchBy_irqAcks (s : State) (a : Word) : (s.branchBy a).irqAcks = s.irqAcks := rfl
@[simp] theorem State.branchBy_wrapped (s : State) (a : Word) : (s.branchBy a).wrapped = s.wrapped := rfl
@[simp] theorem State.branchBy_draws (s : State) (a : Word) : (s.branchBy a).draws = s.draws := rfl

/-! `State.setFlags` -/

@[simp] theorem State.setFlags_gpr (s : State) (p : Psr) : (s.setFlags p).gpr = s.gpr := rfl
@[simp] theorem State.setFlags_pc (s : State) (p : Psr) : (s.setFlags p).pc = s.pc := rfl
@[simp] theorem State.setFlags_spsr (s : State) (p : Psr) : (s.setFlags p).spsr = s.spsr := rfl
@[simp] theorem State.setFlags_secure (s : State) (p : Psr) : (s.setFlags p).secure = s.secure := rfl
@[simp] theorem State.setFlags_nonSecure (s : State) (p : Psr) : (s.setFlags p).nonSecure = s.nonSecure := rfl
@[simp] theorem State.setFlags_cp15 (s : State) (p : Psr) : (s.setFlags p).cp15 = s.cp15 := rfl
@[simp] theorem State.setFlags_vfp (s : State) (p : Psr) : (s.setFlags p).vfp = s.vfp := rfl
@[simp] theorem State.setFlags_pins (s : State) (p : Psr) : (s.setFlags p).pins = s.pins := rfl
@[simp] theorem State.setFlags_mem (s : State) (p : Psr) : (s.setFlags p).mem = s.mem := rfl
@[simp] theorem State.setFlags_exclLocal (s : State) (p : Psr) : (s.setFlags p).exclLocal = s.exclLocal := rfl
@[simp] theorem State.setFlags_exclGlobal (s : State) (p : Psr) : (s.setFlags p).exclGlobal = s.exclGlobal := rfl
@[simp] theorem State.setFlags_pendingAbort (s : State) (p : Psr) : (s.setFlags p).pendingAbort = s.pendingAbort := rfl
@[simp] theorem State.setFlags_codeStale (s : State) (p : Psr) : (s.setFlags p).codeStale = s.codeStale := rfl
@[simp] theorem State.setFlags_dcache (s : State) (p : Psr) : (s.setFlags p).dcache = s.dcache := rfl
@[simp] theorem State.setFlags_walks (s : State) (p : Psr) : (s.setFlags p).walks = s.walks := rfl
@[simp] theorem State.setFlags_transfers (s : State) (p : Psr) : (s.setFlags p).transfers = s.transfers := rfl
@[simp] theorem State.setFlags_irqAcks (s : State) (p : Psr) : (s.setFlags p).irqAcks = s.irqAcks := rfl
@[simp] theorem State.setFlags_wrapped (s : State) (p : Psr) : (s.setFlags p).wrapped = s.wrapped := rfl
@[simp] theorem State.setFlags_jumped (s : State) (p : Psr) : (s.setFlags p).jumped = s.jumped := rfl
@[simp] theorem State.setFlags_draws (s : State) (p : Psr) : (s.setFlags p).draws = s.draws := rfl

/-! `State.noteWrap` -/

@[simp] theorem State.noteWrap_gpr (s : State) (a : Word) (n : Nat) : (s.noteWrap a n).gpr = s.gpr := rfl
@[simp] theorem State.noteWrap_pc (s : State) (a : Word) (n : Nat) : (s.noteWrap a n).pc = s.pc := rfl
@[simp] theorem State.noteWrap_cpsr (s : State) (a : Word) (n : Nat) : (s.noteWrap a n).cpsr = s.cpsr := rfl
@[simp] theorem State.noteWrap_spsr (s : State) (a : Word) (n : Nat) : (s.noteWrap a n).spsr = s.spsr := rfl
@[simp] theorem State.noteWrap_secure (s : State) (a : Word) (n : Nat) : (s.noteWrap a n).secure = s.secure := rfl
@[simp] theorem State.noteWrap_nonSecure (s : State) (a : Word) (n : Nat) : (s.noteWrap a n).nonSecure = s.nonSecure := rfl
@[simp] theorem State.noteWrap_cp15 (s : State) (a : Word) (n : Nat) : (s.noteWrap a n).cp15 = s.cp15 := rfl
@[simp] theorem State.noteWrap_dbg (s : State) (a : Word) (n : Nat) : (s.noteWrap a n).dbg = s.dbg := rfl
@[simp] theorem State.noteWrap_vfp (s : State) (a : Word) (n : Nat) : (s.noteWrap a n).vfp = s.vfp := rfl
@[simp] theorem State.noteWrap_pins (s : State) (a : Word) (n : Nat) : (s.noteWrap a n).pins = s.pins := rfl
@[simp] theorem State.noteWrap_mem (s : State) (a : Word) (n : Nat) : (s.noteWrap a n).mem = s.mem := rfl
@[simp] theorem State.noteWrap_exclLocal (s : State) (a : Word) (n : Nat) : (s.noteWrap a n).exclLocal = s.exclLocal := rfl
@[simp] theorem State.noteWrap_exclGlobal (s : State) (a : Word) (n : Nat) : (s.noteWrap a n).exclGlobal = s.exclGlobal := rfl
@[simp] theorem State.noteWrap_pendingAbort (s : State) (a : Word) (n : Nat) : (s.noteWrap a n).pendingAbort = s.pendingAbort := rfl
@[simp] theorem State.noteWrap_codeStale (s : State) (a : Word) (n : Nat) : (s.noteWrap a n).codeStale = s.codeStale := rfl
@[simp] theorem State.noteWrap_dcache (s : State) (a : Word) (n : Nat) : (s.noteWrap a n).dcache = s.dcache := rfl
@[simp] theorem State.noteWrap_walks (s : State) (a : Word) (n : Nat) : (s.noteWrap a n).walks = s.walks := rfl
@[simp] theorem State.noteWrap_transfers (s : State) (a : Word) (n : Nat) : (s.noteWrap a n).transfers = s.transfers := rfl
@[simp] theorem State.noteWrap_irqAcks (s : State) (a : Word) (n : Nat) : (s.noteWrap a n).irqAcks = s.irqAcks := rfl
@[simp] theorem State.noteWrap_jumped (s : State) (a : Word) (n : Nat) : (s.noteWrap a n).jumped = s.jumped := rfl
@[simp] theorem State.noteWrap_draws (s : State) (a : Word) (n : Nat) : (s.noteWrap a n).draws = s.draws := rfl

/-! `State.next` -/

@[simp] theorem State.next_gpr (s : State) : (s.next).gpr = s.gpr := by unfold State.next; split <;> rfl
@[simp] theorem State.next_cpsr (s : State) : (s.next).cpsr = s.cpsr := by unfold State.next; split <;> rfl
@[simp] theorem State.next_spsr (s : State) : (s.next).spsr = s.spsr := by unfold State.next; split <;> rfl
@[simp] theorem State.next_secure (s : State) : (s.next).secure = s.secure := by unfold State.next; split <;> rfl
@[simp] theorem State.next_nonSecure (s : State) : (s.next).nonSecure = s.nonSecure := by unfold State.next; split <;> rfl
@[simp] theorem State.next_cp15 (s : State) : (s.next).cp15 = s.cp15 := by unfold State.next; split <;> rfl
@[simp] theorem State.next_dbg (s : State) : (s.next).dbg = s.dbg := by unfold State.next; split <;> rfl
@[simp] theorem State.next_vfp (s : State) : (s.next).vfp = s.vfp := by unfold State.next; split <;> rfl
@[simp] theorem State.next_pins (s : State) : (s.next).pins = s.pins := by unfold State.next; split <;> rfl
@[simp] theorem State.next_mem (s : State) : (s.next).mem = s.mem := by unfold State.next; split <;> rfl
@[simp] theorem State.next_exclLocal (s : State) : (s.next).exclLocal = s.exclLocal := by unfold State.next; split <;> rfl
@[simp] theorem State.next_exclGlobal (s : State) : (s.next).exclGlobal = s.exclGlobal := by unfold State.next; split <;> rfl
@[simp] theorem State.next_pendingAbort (s : State) : (s.next).pendingAbort = s.pendingAbort := by unfold State.next; split <;> rfl
@[simp] theorem State.next_codeStale (s : State) : (s.next).codeStale = s.codeStale := by unfold State.next; split <;> rfl
@[simp] theorem State.next_dcache (s : State) : (s.next).dcache = s.dcache := by unfold State.next; split <;> rfl
@[simp] theorem State.next_walks (s : State) : (s.next).walks = s.walks := by unfold State.next; split <;> rfl
@[simp] theorem State.next_transfers (s : State) : (s.next).transfers = s.transfers := by unfold State.next; split <;> rfl
@[simp] theorem State.next_irqAcks (s : State) : (s.next).irqAcks = s.irqAcks := by unfold State.next; split <;> rfl
@[simp] theorem State.next_jumped (s : State) : (s.next).jumped = s.jumped := by unfold State.next; split <;> rfl
@[simp] theorem State.next_draws (s : State) : (s.next).draws = s.draws := by unfold State.next; split <;> rfl

/-! `State.passCode` -/

@[simp] theorem State.passCode_gpr (s : State) (a b : StaleStage) (p : StaleCode → Bool) : (s.passCode a b p).gpr = s.gpr := rfl
@[simp] theorem State.passCode_pc (s : State) (a b : StaleStage) (p : StaleCode → Bool) : (s.passCode a b p).pc = s.pc := rfl
@[simp] theorem State.passCode_cpsr (s : State) (a b : StaleStage) (p : StaleCode → Bool) : (s.passCode a b p).cpsr = s.cpsr := rfl
@[simp] theorem State.passCode_spsr (s : State) (a b : StaleStage) (p : StaleCode → Bool) : (s.passCode a b p).spsr = s.spsr := rfl
@[simp] theorem State.passCode_secure (s : State) (a b : StaleStage) (p : StaleCode → Bool) : (s.passCode a b p).secure = s.secure := rfl
@[simp] theorem State.passCode_nonSecure (s : State) (a b : StaleStage) (p : StaleCode → Bool) : (s.passCode a b p).nonSecure = s.nonSecure := rfl
@[simp] theorem State.passCode_cp15 (s : State) (a b : StaleStage) (p : StaleCode → Bool) : (s.passCode a b p).cp15 = s.cp15 := rfl
@[simp] theorem State.passCode_dbg (s : State) (a b : StaleStage) (p : StaleCode → Bool) : (s.passCode a b p).dbg = s.dbg := rfl
@[simp] theorem State.passCode_vfp (s : State) (a b : StaleStage) (p : StaleCode → Bool) : (s.passCode a b p).vfp = s.vfp := rfl
@[simp] theorem State.passCode_pins (s : State) (a b : StaleStage) (p : StaleCode → Bool) : (s.passCode a b p).pins = s.pins := rfl
@[simp] theorem State.passCode_mem (s : State) (a b : StaleStage) (p : StaleCode → Bool) : (s.passCode a b p).mem = s.mem := rfl
@[simp] theorem State.passCode_exclLocal (s : State) (a b : StaleStage) (p : StaleCode → Bool) : (s.passCode a b p).exclLocal = s.exclLocal := rfl
@[simp] theorem State.passCode_exclGlobal (s : State) (a b : StaleStage) (p : StaleCode → Bool) : (s.passCode a b p).exclGlobal = s.exclGlobal := rfl
@[simp] theorem State.passCode_pendingAbort (s : State) (a b : StaleStage) (p : StaleCode → Bool) : (s.passCode a b p).pendingAbort = s.pendingAbort := rfl
@[simp] theorem State.passCode_dcache (s : State) (a b : StaleStage) (p : StaleCode → Bool) : (s.passCode a b p).dcache = s.dcache := rfl
@[simp] theorem State.passCode_walks (s : State) (a b : StaleStage) (p : StaleCode → Bool) : (s.passCode a b p).walks = s.walks := rfl
@[simp] theorem State.passCode_transfers (s : State) (a b : StaleStage) (p : StaleCode → Bool) : (s.passCode a b p).transfers = s.transfers := rfl
@[simp] theorem State.passCode_irqAcks (s : State) (a b : StaleStage) (p : StaleCode → Bool) : (s.passCode a b p).irqAcks = s.irqAcks := rfl
@[simp] theorem State.passCode_wrapped (s : State) (a b : StaleStage) (p : StaleCode → Bool) : (s.passCode a b p).wrapped = s.wrapped := rfl
@[simp] theorem State.passCode_jumped (s : State) (a b : StaleStage) (p : StaleCode → Bool) : (s.passCode a b p).jumped = s.jumped := rfl
@[simp] theorem State.passCode_draws (s : State) (a b : StaleStage) (p : StaleCode → Bool) : (s.passCode a b p).draws = s.draws := rfl

/-! `State.switchedFrom` -/

@[simp] theorem State.switchedFrom_gpr (s : State) (t : State) : (s.switchedFrom t).gpr = s.gpr := by unfold State.switchedFrom; split <;> rfl
@[simp] theorem State.switchedFrom_pc (s : State) (t : State) : (s.switchedFrom t).pc = s.pc := by unfold State.switchedFrom; split <;> rfl
@[simp] theorem State.switchedFrom_cpsr (s : State) (t : State) : (s.switchedFrom t).cpsr = s.cpsr := by unfold State.switchedFrom; split <;> rfl
@[simp] theorem State.switchedFrom_spsr (s : State) (t : State) : (s.switchedFrom t).spsr = s.spsr := by unfold State.switchedFrom; split <;> rfl
@[simp] theorem State.switchedFrom_secure (s : State) (t : State) : (s.switchedFrom t).secure = s.secure := by unfold State.switchedFrom; split <;> rfl
@[simp] theorem State.switchedFrom_nonSecure (s : State) (t : State) : (s.switchedFrom t).nonSecure = s.nonSecure := by unfold State.switchedFrom; split <;> rfl
@[simp] theorem State.switchedFrom_cp15 (s : State) (t : State) : (s.switchedFrom t).cp15 = s.cp15 := by unfold State.switchedFrom; split <;> rfl
@[simp] theorem State.switchedFrom_dbg (s : State) (t : State) : (s.switchedFrom t).dbg = s.dbg := by unfold State.switchedFrom; split <;> rfl
@[simp] theorem State.switchedFrom_vfp (s : State) (t : State) : (s.switchedFrom t).vfp = s.vfp := by unfold State.switchedFrom; split <;> rfl
@[simp] theorem State.switchedFrom_pins (s : State) (t : State) : (s.switchedFrom t).pins = s.pins := by unfold State.switchedFrom; split <;> rfl
@[simp] theorem State.switchedFrom_mem (s : State) (t : State) : (s.switchedFrom t).mem = s.mem := by unfold State.switchedFrom; split <;> rfl
@[simp] theorem State.switchedFrom_exclLocal (s : State) (t : State) : (s.switchedFrom t).exclLocal = s.exclLocal := by unfold State.switchedFrom; split <;> rfl
@[simp] theorem State.switchedFrom_exclGlobal (s : State) (t : State) : (s.switchedFrom t).exclGlobal = s.exclGlobal := by unfold State.switchedFrom; split <;> rfl
@[simp] theorem State.switchedFrom_pendingAbort (s : State) (t : State) : (s.switchedFrom t).pendingAbort = s.pendingAbort := by unfold State.switchedFrom; split <;> rfl
@[simp] theorem State.switchedFrom_dcache (s : State) (t : State) : (s.switchedFrom t).dcache = s.dcache := by unfold State.switchedFrom; split <;> rfl
@[simp] theorem State.switchedFrom_walks (s : State) (t : State) : (s.switchedFrom t).walks = s.walks := by unfold State.switchedFrom; split <;> rfl
@[simp] theorem State.switchedFrom_transfers (s : State) (t : State) : (s.switchedFrom t).transfers = s.transfers := by unfold State.switchedFrom; split <;> rfl
@[simp] theorem State.switchedFrom_irqAcks (s : State) (t : State) : (s.switchedFrom t).irqAcks = s.irqAcks := by unfold State.switchedFrom; split <;> rfl
@[simp] theorem State.switchedFrom_wrapped (s : State) (t : State) : (s.switchedFrom t).wrapped = s.wrapped := by unfold State.switchedFrom; split <;> rfl
@[simp] theorem State.switchedFrom_jumped (s : State) (t : State) : (s.switchedFrom t).jumped = s.jumped := by unfold State.switchedFrom; split <;> rfl
@[simp] theorem State.switchedFrom_draws (s : State) (t : State) : (s.switchedFrom t).draws = s.draws := by unfold State.switchedFrom; split <;> rfl

/-! `State.setCpsr` -/

@[simp] theorem State.setCpsr_gpr (s : State) (p : Psr) : (s.setCpsr p).gpr = s.gpr := by unfold State.setCpsr State.switchedFrom; exact ite_field _ _ _ _ rfl rfl
@[simp] theorem State.setCpsr_pc (s : State) (p : Psr) : (s.setCpsr p).pc = s.pc := by unfold State.setCpsr State.switchedFrom; exact ite_field _ _ _ _ rfl rfl
@[simp] theorem State.setCpsr_spsr (s : State) (p : Psr) : (s.setCpsr p).spsr = s.spsr := by unfold State.setCpsr State.switchedFrom; exact ite_field _ _ _ _ rfl rfl
@[simp] theorem State.setCpsr_secure (s : State) (p : Psr) : (s.setCpsr p).secure = s.secure := by unfold State.setCpsr State.switchedFrom; exact ite_field _ _ _ _ rfl rfl
@[simp] theorem State.setCpsr_nonSecure (s : State) (p : Psr) : (s.setCpsr p).nonSecure = s.nonSecure := by unfold State.setCpsr State.switchedFrom; exact ite_field _ _ _ _ rfl rfl
@[simp] theorem State.setCpsr_cp15 (s : State) (p : Psr) : (s.setCpsr p).cp15 = s.cp15 := by unfold State.setCpsr State.switchedFrom; exact ite_field _ _ _ _ rfl rfl
@[simp] theorem State.setCpsr_vfp (s : State) (p : Psr) : (s.setCpsr p).vfp = s.vfp := by unfold State.setCpsr State.switchedFrom; exact ite_field _ _ _ _ rfl rfl
@[simp] theorem State.setCpsr_pins (s : State) (p : Psr) : (s.setCpsr p).pins = s.pins := by unfold State.setCpsr State.switchedFrom; exact ite_field _ _ _ _ rfl rfl
@[simp] theorem State.setCpsr_mem (s : State) (p : Psr) : (s.setCpsr p).mem = s.mem := by unfold State.setCpsr State.switchedFrom; exact ite_field _ _ _ _ rfl rfl
@[simp] theorem State.setCpsr_exclLocal (s : State) (p : Psr) : (s.setCpsr p).exclLocal = s.exclLocal := by unfold State.setCpsr State.switchedFrom; exact ite_field _ _ _ _ rfl rfl
@[simp] theorem State.setCpsr_exclGlobal (s : State) (p : Psr) : (s.setCpsr p).exclGlobal = s.exclGlobal := by unfold State.setCpsr State.switchedFrom; exact ite_field _ _ _ _ rfl rfl
@[simp] theorem State.setCpsr_pendingAbort (s : State) (p : Psr) : (s.setCpsr p).pendingAbort = s.pendingAbort := by unfold State.setCpsr State.switchedFrom; exact ite_field _ _ _ _ rfl rfl
@[simp] theorem State.setCpsr_dcache (s : State) (p : Psr) : (s.setCpsr p).dcache = s.dcache := by unfold State.setCpsr State.switchedFrom; exact ite_field _ _ _ _ rfl rfl
@[simp] theorem State.setCpsr_walks (s : State) (p : Psr) : (s.setCpsr p).walks = s.walks := by unfold State.setCpsr State.switchedFrom; exact ite_field _ _ _ _ rfl rfl
@[simp] theorem State.setCpsr_transfers (s : State) (p : Psr) : (s.setCpsr p).transfers = s.transfers := by unfold State.setCpsr State.switchedFrom; exact ite_field _ _ _ _ rfl rfl
@[simp] theorem State.setCpsr_irqAcks (s : State) (p : Psr) : (s.setCpsr p).irqAcks = s.irqAcks := by unfold State.setCpsr State.switchedFrom; exact ite_field _ _ _ _ rfl rfl
@[simp] theorem State.setCpsr_wrapped (s : State) (p : Psr) : (s.setCpsr p).wrapped = s.wrapped := by unfold State.setCpsr State.switchedFrom; exact ite_field _ _ _ _ rfl rfl
@[simp] theorem State.setCpsr_jumped (s : State) (p : Psr) : (s.setCpsr p).jumped = s.jumped := by unfold State.setCpsr State.switchedFrom; exact ite_field _ _ _ _ rfl rfl
@[simp] theorem State.setCpsr_draws (s : State) (p : Psr) : (s.setCpsr p).draws = s.draws := by unfold State.setCpsr State.switchedFrom; exact ite_field _ _ _ _ rfl rfl

/-! `State.setBankOf` -/

@[simp] theorem State.setBankOf_gpr (s : State) (ns : Bool) (f : Cp15Banked → Cp15Banked) : (s.setBankOf ns f).gpr = s.gpr := by unfold State.setBankOf; split <;> rfl
@[simp] theorem State.setBankOf_pc (s : State) (ns : Bool) (f : Cp15Banked → Cp15Banked) : (s.setBankOf ns f).pc = s.pc := by unfold State.setBankOf; split <;> rfl
@[simp] theorem State.setBankOf_cpsr (s : State) (ns : Bool) (f : Cp15Banked → Cp15Banked) : (s.setBankOf ns f).cpsr = s.cpsr := by unfold State.setBankOf; split <;> rfl
@[simp] theorem State.setBankOf_spsr (s : State) (ns : Bool) (f : Cp15Banked → Cp15Banked) : (s.setBankOf ns f).spsr = s.spsr := by unfold State.setBankOf; split <;> rfl
@[simp] theorem State.setBankOf_cp15 (s : State) (ns : Bool) (f : Cp15Banked → Cp15Banked) : (s.setBankOf ns f).cp15 = s.cp15 := by unfold State.setBankOf; split <;> rfl
@[simp] theorem State.setBankOf_dbg (s : State) (ns : Bool) (f : Cp15Banked → Cp15Banked) : (s.setBankOf ns f).dbg = s.dbg := by unfold State.setBankOf; split <;> rfl
@[simp] theorem State.setBankOf_vfp (s : State) (ns : Bool) (f : Cp15Banked → Cp15Banked) : (s.setBankOf ns f).vfp = s.vfp := by unfold State.setBankOf; split <;> rfl
@[simp] theorem State.setBankOf_pins (s : State) (ns : Bool) (f : Cp15Banked → Cp15Banked) : (s.setBankOf ns f).pins = s.pins := by unfold State.setBankOf; split <;> rfl
@[simp] theorem State.setBankOf_mem (s : State) (ns : Bool) (f : Cp15Banked → Cp15Banked) : (s.setBankOf ns f).mem = s.mem := by unfold State.setBankOf; split <;> rfl
@[simp] theorem State.setBankOf_exclLocal (s : State) (ns : Bool) (f : Cp15Banked → Cp15Banked) : (s.setBankOf ns f).exclLocal = s.exclLocal := by unfold State.setBankOf; split <;> rfl
@[simp] theorem State.setBankOf_exclGlobal (s : State) (ns : Bool) (f : Cp15Banked → Cp15Banked) : (s.setBankOf ns f).exclGlobal = s.exclGlobal := by unfold State.setBankOf; split <;> rfl
@[simp] theorem State.setBankOf_pendingAbort (s : State) (ns : Bool) (f : Cp15Banked → Cp15Banked) : (s.setBankOf ns f).pendingAbort = s.pendingAbort := by unfold State.setBankOf; split <;> rfl
@[simp] theorem State.setBankOf_codeStale (s : State) (ns : Bool) (f : Cp15Banked → Cp15Banked) : (s.setBankOf ns f).codeStale = s.codeStale := by unfold State.setBankOf; split <;> rfl
@[simp] theorem State.setBankOf_dcache (s : State) (ns : Bool) (f : Cp15Banked → Cp15Banked) : (s.setBankOf ns f).dcache = s.dcache := by unfold State.setBankOf; split <;> rfl
@[simp] theorem State.setBankOf_walks (s : State) (ns : Bool) (f : Cp15Banked → Cp15Banked) : (s.setBankOf ns f).walks = s.walks := by unfold State.setBankOf; split <;> rfl
@[simp] theorem State.setBankOf_transfers (s : State) (ns : Bool) (f : Cp15Banked → Cp15Banked) : (s.setBankOf ns f).transfers = s.transfers := by unfold State.setBankOf; split <;> rfl
@[simp] theorem State.setBankOf_irqAcks (s : State) (ns : Bool) (f : Cp15Banked → Cp15Banked) : (s.setBankOf ns f).irqAcks = s.irqAcks := by unfold State.setBankOf; split <;> rfl
@[simp] theorem State.setBankOf_wrapped (s : State) (ns : Bool) (f : Cp15Banked → Cp15Banked) : (s.setBankOf ns f).wrapped = s.wrapped := by unfold State.setBankOf; split <;> rfl
@[simp] theorem State.setBankOf_jumped (s : State) (ns : Bool) (f : Cp15Banked → Cp15Banked) : (s.setBankOf ns f).jumped = s.jumped := by unfold State.setBankOf; split <;> rfl
@[simp] theorem State.setBankOf_draws (s : State) (ns : Bool) (f : Cp15Banked → Cp15Banked) : (s.setBankOf ns f).draws = s.draws := by unfold State.setBankOf; split <;> rfl

/-! `State.setChannel` -/

@[simp] theorem State.setChannel_gpr (s : State) (c : Bool) (f : DmaChannel → DmaChannel) : (s.setChannel c f).gpr = s.gpr := rfl
@[simp] theorem State.setChannel_pc (s : State) (c : Bool) (f : DmaChannel → DmaChannel) : (s.setChannel c f).pc = s.pc := rfl
@[simp] theorem State.setChannel_cpsr (s : State) (c : Bool) (f : DmaChannel → DmaChannel) : (s.setChannel c f).cpsr = s.cpsr := rfl
@[simp] theorem State.setChannel_spsr (s : State) (c : Bool) (f : DmaChannel → DmaChannel) : (s.setChannel c f).spsr = s.spsr := rfl
@[simp] theorem State.setChannel_secure (s : State) (c : Bool) (f : DmaChannel → DmaChannel) : (s.setChannel c f).secure = s.secure := rfl
@[simp] theorem State.setChannel_nonSecure (s : State) (c : Bool) (f : DmaChannel → DmaChannel) : (s.setChannel c f).nonSecure = s.nonSecure := rfl
@[simp] theorem State.setChannel_dbg (s : State) (c : Bool) (f : DmaChannel → DmaChannel) : (s.setChannel c f).dbg = s.dbg := rfl
@[simp] theorem State.setChannel_vfp (s : State) (c : Bool) (f : DmaChannel → DmaChannel) : (s.setChannel c f).vfp = s.vfp := rfl
@[simp] theorem State.setChannel_pins (s : State) (c : Bool) (f : DmaChannel → DmaChannel) : (s.setChannel c f).pins = s.pins := rfl
@[simp] theorem State.setChannel_mem (s : State) (c : Bool) (f : DmaChannel → DmaChannel) : (s.setChannel c f).mem = s.mem := rfl
@[simp] theorem State.setChannel_exclLocal (s : State) (c : Bool) (f : DmaChannel → DmaChannel) : (s.setChannel c f).exclLocal = s.exclLocal := rfl
@[simp] theorem State.setChannel_exclGlobal (s : State) (c : Bool) (f : DmaChannel → DmaChannel) : (s.setChannel c f).exclGlobal = s.exclGlobal := rfl
@[simp] theorem State.setChannel_pendingAbort (s : State) (c : Bool) (f : DmaChannel → DmaChannel) : (s.setChannel c f).pendingAbort = s.pendingAbort := rfl
@[simp] theorem State.setChannel_codeStale (s : State) (c : Bool) (f : DmaChannel → DmaChannel) : (s.setChannel c f).codeStale = s.codeStale := rfl
@[simp] theorem State.setChannel_dcache (s : State) (c : Bool) (f : DmaChannel → DmaChannel) : (s.setChannel c f).dcache = s.dcache := rfl
@[simp] theorem State.setChannel_walks (s : State) (c : Bool) (f : DmaChannel → DmaChannel) : (s.setChannel c f).walks = s.walks := rfl
@[simp] theorem State.setChannel_transfers (s : State) (c : Bool) (f : DmaChannel → DmaChannel) : (s.setChannel c f).transfers = s.transfers := rfl
@[simp] theorem State.setChannel_irqAcks (s : State) (c : Bool) (f : DmaChannel → DmaChannel) : (s.setChannel c f).irqAcks = s.irqAcks := rfl
@[simp] theorem State.setChannel_wrapped (s : State) (c : Bool) (f : DmaChannel → DmaChannel) : (s.setChannel c f).wrapped = s.wrapped := rfl
@[simp] theorem State.setChannel_jumped (s : State) (c : Bool) (f : DmaChannel → DmaChannel) : (s.setChannel c f).jumped = s.jumped := rfl
@[simp] theorem State.setChannel_draws (s : State) (c : Bool) (f : DmaChannel → DmaChannel) : (s.setChannel c f).draws = s.draws := rfl

/-! `State.setDebug` -/

@[simp] theorem State.setDebug_gpr (s : State) (f : Debug → Debug) : (s.setDebug f).gpr = s.gpr := rfl
@[simp] theorem State.setDebug_pc (s : State) (f : Debug → Debug) : (s.setDebug f).pc = s.pc := rfl
@[simp] theorem State.setDebug_cpsr (s : State) (f : Debug → Debug) : (s.setDebug f).cpsr = s.cpsr := rfl
@[simp] theorem State.setDebug_spsr (s : State) (f : Debug → Debug) : (s.setDebug f).spsr = s.spsr := rfl
@[simp] theorem State.setDebug_secure (s : State) (f : Debug → Debug) : (s.setDebug f).secure = s.secure := rfl
@[simp] theorem State.setDebug_nonSecure (s : State) (f : Debug → Debug) : (s.setDebug f).nonSecure = s.nonSecure := rfl
@[simp] theorem State.setDebug_cp15 (s : State) (f : Debug → Debug) : (s.setDebug f).cp15 = s.cp15 := rfl
@[simp] theorem State.setDebug_vfp (s : State) (f : Debug → Debug) : (s.setDebug f).vfp = s.vfp := rfl
@[simp] theorem State.setDebug_pins (s : State) (f : Debug → Debug) : (s.setDebug f).pins = s.pins := rfl
@[simp] theorem State.setDebug_mem (s : State) (f : Debug → Debug) : (s.setDebug f).mem = s.mem := rfl
@[simp] theorem State.setDebug_exclLocal (s : State) (f : Debug → Debug) : (s.setDebug f).exclLocal = s.exclLocal := rfl
@[simp] theorem State.setDebug_exclGlobal (s : State) (f : Debug → Debug) : (s.setDebug f).exclGlobal = s.exclGlobal := rfl
@[simp] theorem State.setDebug_pendingAbort (s : State) (f : Debug → Debug) : (s.setDebug f).pendingAbort = s.pendingAbort := rfl
@[simp] theorem State.setDebug_codeStale (s : State) (f : Debug → Debug) : (s.setDebug f).codeStale = s.codeStale := rfl
@[simp] theorem State.setDebug_dcache (s : State) (f : Debug → Debug) : (s.setDebug f).dcache = s.dcache := rfl
@[simp] theorem State.setDebug_walks (s : State) (f : Debug → Debug) : (s.setDebug f).walks = s.walks := rfl
@[simp] theorem State.setDebug_transfers (s : State) (f : Debug → Debug) : (s.setDebug f).transfers = s.transfers := rfl
@[simp] theorem State.setDebug_irqAcks (s : State) (f : Debug → Debug) : (s.setDebug f).irqAcks = s.irqAcks := rfl
@[simp] theorem State.setDebug_wrapped (s : State) (f : Debug → Debug) : (s.setDebug f).wrapped = s.wrapped := rfl
@[simp] theorem State.setDebug_jumped (s : State) (f : Debug → Debug) : (s.setDebug f).jumped = s.jumped := rfl
@[simp] theorem State.setDebug_draws (s : State) (f : Debug → Debug) : (s.setDebug f).draws = s.draws := rfl

/-! `State.setCommon` -/

@[simp] theorem State.setCommon_gpr (s : State) (f : Cp15Common → Cp15Common) : (s.setCommon f).gpr = s.gpr := rfl
@[simp] theorem State.setCommon_pc (s : State) (f : Cp15Common → Cp15Common) : (s.setCommon f).pc = s.pc := rfl
@[simp] theorem State.setCommon_cpsr (s : State) (f : Cp15Common → Cp15Common) : (s.setCommon f).cpsr = s.cpsr := rfl
@[simp] theorem State.setCommon_spsr (s : State) (f : Cp15Common → Cp15Common) : (s.setCommon f).spsr = s.spsr := rfl
@[simp] theorem State.setCommon_secure (s : State) (f : Cp15Common → Cp15Common) : (s.setCommon f).secure = s.secure := rfl
@[simp] theorem State.setCommon_nonSecure (s : State) (f : Cp15Common → Cp15Common) : (s.setCommon f).nonSecure = s.nonSecure := rfl
@[simp] theorem State.setCommon_dbg (s : State) (f : Cp15Common → Cp15Common) : (s.setCommon f).dbg = s.dbg := rfl
@[simp] theorem State.setCommon_vfp (s : State) (f : Cp15Common → Cp15Common) : (s.setCommon f).vfp = s.vfp := rfl
@[simp] theorem State.setCommon_pins (s : State) (f : Cp15Common → Cp15Common) : (s.setCommon f).pins = s.pins := rfl
@[simp] theorem State.setCommon_mem (s : State) (f : Cp15Common → Cp15Common) : (s.setCommon f).mem = s.mem := rfl
@[simp] theorem State.setCommon_exclLocal (s : State) (f : Cp15Common → Cp15Common) : (s.setCommon f).exclLocal = s.exclLocal := rfl
@[simp] theorem State.setCommon_exclGlobal (s : State) (f : Cp15Common → Cp15Common) : (s.setCommon f).exclGlobal = s.exclGlobal := rfl
@[simp] theorem State.setCommon_pendingAbort (s : State) (f : Cp15Common → Cp15Common) : (s.setCommon f).pendingAbort = s.pendingAbort := rfl
@[simp] theorem State.setCommon_codeStale (s : State) (f : Cp15Common → Cp15Common) : (s.setCommon f).codeStale = s.codeStale := rfl
@[simp] theorem State.setCommon_dcache (s : State) (f : Cp15Common → Cp15Common) : (s.setCommon f).dcache = s.dcache := rfl
@[simp] theorem State.setCommon_walks (s : State) (f : Cp15Common → Cp15Common) : (s.setCommon f).walks = s.walks := rfl
@[simp] theorem State.setCommon_transfers (s : State) (f : Cp15Common → Cp15Common) : (s.setCommon f).transfers = s.transfers := rfl
@[simp] theorem State.setCommon_irqAcks (s : State) (f : Cp15Common → Cp15Common) : (s.setCommon f).irqAcks = s.irqAcks := rfl
@[simp] theorem State.setCommon_wrapped (s : State) (f : Cp15Common → Cp15Common) : (s.setCommon f).wrapped = s.wrapped := rfl
@[simp] theorem State.setCommon_jumped (s : State) (f : Cp15Common → Cp15Common) : (s.setCommon f).jumped = s.jumped := rfl
@[simp] theorem State.setCommon_draws (s : State) (f : Cp15Common → Cp15Common) : (s.setCommon f).draws = s.draws := rfl

/-! `State.setSingle` -/

@[simp] theorem State.setSingle_gpr (s : State) (n : BitVec 5) (v : Word) : (s.setSingle n v).gpr = s.gpr := rfl
@[simp] theorem State.setSingle_pc (s : State) (n : BitVec 5) (v : Word) : (s.setSingle n v).pc = s.pc := rfl
@[simp] theorem State.setSingle_cpsr (s : State) (n : BitVec 5) (v : Word) : (s.setSingle n v).cpsr = s.cpsr := rfl
@[simp] theorem State.setSingle_spsr (s : State) (n : BitVec 5) (v : Word) : (s.setSingle n v).spsr = s.spsr := rfl
@[simp] theorem State.setSingle_secure (s : State) (n : BitVec 5) (v : Word) : (s.setSingle n v).secure = s.secure := rfl
@[simp] theorem State.setSingle_nonSecure (s : State) (n : BitVec 5) (v : Word) : (s.setSingle n v).nonSecure = s.nonSecure := rfl
@[simp] theorem State.setSingle_cp15 (s : State) (n : BitVec 5) (v : Word) : (s.setSingle n v).cp15 = s.cp15 := rfl
@[simp] theorem State.setSingle_dbg (s : State) (n : BitVec 5) (v : Word) : (s.setSingle n v).dbg = s.dbg := rfl
@[simp] theorem State.setSingle_pins (s : State) (n : BitVec 5) (v : Word) : (s.setSingle n v).pins = s.pins := rfl
@[simp] theorem State.setSingle_mem (s : State) (n : BitVec 5) (v : Word) : (s.setSingle n v).mem = s.mem := rfl
@[simp] theorem State.setSingle_exclLocal (s : State) (n : BitVec 5) (v : Word) : (s.setSingle n v).exclLocal = s.exclLocal := rfl
@[simp] theorem State.setSingle_exclGlobal (s : State) (n : BitVec 5) (v : Word) : (s.setSingle n v).exclGlobal = s.exclGlobal := rfl
@[simp] theorem State.setSingle_pendingAbort (s : State) (n : BitVec 5) (v : Word) : (s.setSingle n v).pendingAbort = s.pendingAbort := rfl
@[simp] theorem State.setSingle_codeStale (s : State) (n : BitVec 5) (v : Word) : (s.setSingle n v).codeStale = s.codeStale := rfl
@[simp] theorem State.setSingle_dcache (s : State) (n : BitVec 5) (v : Word) : (s.setSingle n v).dcache = s.dcache := rfl
@[simp] theorem State.setSingle_walks (s : State) (n : BitVec 5) (v : Word) : (s.setSingle n v).walks = s.walks := rfl
@[simp] theorem State.setSingle_transfers (s : State) (n : BitVec 5) (v : Word) : (s.setSingle n v).transfers = s.transfers := rfl
@[simp] theorem State.setSingle_irqAcks (s : State) (n : BitVec 5) (v : Word) : (s.setSingle n v).irqAcks = s.irqAcks := rfl
@[simp] theorem State.setSingle_wrapped (s : State) (n : BitVec 5) (v : Word) : (s.setSingle n v).wrapped = s.wrapped := rfl
@[simp] theorem State.setSingle_jumped (s : State) (n : BitVec 5) (v : Word) : (s.setSingle n v).jumped = s.jumped := rfl
@[simp] theorem State.setSingle_draws (s : State) (n : BitVec 5) (v : Word) : (s.setSingle n v).draws = s.draws := rfl

/-! `State.setFp` -/

@[simp] theorem State.setFp_gpr (s : State) (p : Prec) (n : BitVec 5) (v : DWord) : (s.setFp p n v).gpr = s.gpr := by cases p <;> rfl
@[simp] theorem State.setFp_pc (s : State) (p : Prec) (n : BitVec 5) (v : DWord) : (s.setFp p n v).pc = s.pc := by cases p <;> rfl
@[simp] theorem State.setFp_cpsr (s : State) (p : Prec) (n : BitVec 5) (v : DWord) : (s.setFp p n v).cpsr = s.cpsr := by cases p <;> rfl
@[simp] theorem State.setFp_spsr (s : State) (p : Prec) (n : BitVec 5) (v : DWord) : (s.setFp p n v).spsr = s.spsr := by cases p <;> rfl
@[simp] theorem State.setFp_secure (s : State) (p : Prec) (n : BitVec 5) (v : DWord) : (s.setFp p n v).secure = s.secure := by cases p <;> rfl
@[simp] theorem State.setFp_nonSecure (s : State) (p : Prec) (n : BitVec 5) (v : DWord) : (s.setFp p n v).nonSecure = s.nonSecure := by cases p <;> rfl
@[simp] theorem State.setFp_cp15 (s : State) (p : Prec) (n : BitVec 5) (v : DWord) : (s.setFp p n v).cp15 = s.cp15 := by cases p <;> rfl
@[simp] theorem State.setFp_dbg (s : State) (p : Prec) (n : BitVec 5) (v : DWord) : (s.setFp p n v).dbg = s.dbg := by cases p <;> rfl
@[simp] theorem State.setFp_pins (s : State) (p : Prec) (n : BitVec 5) (v : DWord) : (s.setFp p n v).pins = s.pins := by cases p <;> rfl
@[simp] theorem State.setFp_mem (s : State) (p : Prec) (n : BitVec 5) (v : DWord) : (s.setFp p n v).mem = s.mem := by cases p <;> rfl
@[simp] theorem State.setFp_exclLocal (s : State) (p : Prec) (n : BitVec 5) (v : DWord) : (s.setFp p n v).exclLocal = s.exclLocal := by cases p <;> rfl
@[simp] theorem State.setFp_exclGlobal (s : State) (p : Prec) (n : BitVec 5) (v : DWord) : (s.setFp p n v).exclGlobal = s.exclGlobal := by cases p <;> rfl
@[simp] theorem State.setFp_pendingAbort (s : State) (p : Prec) (n : BitVec 5) (v : DWord) : (s.setFp p n v).pendingAbort = s.pendingAbort := by cases p <;> rfl
@[simp] theorem State.setFp_codeStale (s : State) (p : Prec) (n : BitVec 5) (v : DWord) : (s.setFp p n v).codeStale = s.codeStale := by cases p <;> rfl
@[simp] theorem State.setFp_dcache (s : State) (p : Prec) (n : BitVec 5) (v : DWord) : (s.setFp p n v).dcache = s.dcache := by cases p <;> rfl
@[simp] theorem State.setFp_walks (s : State) (p : Prec) (n : BitVec 5) (v : DWord) : (s.setFp p n v).walks = s.walks := by cases p <;> rfl
@[simp] theorem State.setFp_transfers (s : State) (p : Prec) (n : BitVec 5) (v : DWord) : (s.setFp p n v).transfers = s.transfers := by cases p <;> rfl
@[simp] theorem State.setFp_irqAcks (s : State) (p : Prec) (n : BitVec 5) (v : DWord) : (s.setFp p n v).irqAcks = s.irqAcks := by cases p <;> rfl
@[simp] theorem State.setFp_wrapped (s : State) (p : Prec) (n : BitVec 5) (v : DWord) : (s.setFp p n v).wrapped = s.wrapped := by cases p <;> rfl
@[simp] theorem State.setFp_jumped (s : State) (p : Prec) (n : BitVec 5) (v : DWord) : (s.setFp p n v).jumped = s.jumped := by cases p <;> rfl
@[simp] theorem State.setFp_draws (s : State) (p : Prec) (n : BitVec 5) (v : DWord) : (s.setFp p n v).draws = s.draws := by cases p <;> rfl

/-! `State.setFpscr` -/

@[simp] theorem State.setFpscr_gpr (s : State) (v : Word) : (s.setFpscr v).gpr = s.gpr := rfl
@[simp] theorem State.setFpscr_pc (s : State) (v : Word) : (s.setFpscr v).pc = s.pc := rfl
@[simp] theorem State.setFpscr_cpsr (s : State) (v : Word) : (s.setFpscr v).cpsr = s.cpsr := rfl
@[simp] theorem State.setFpscr_spsr (s : State) (v : Word) : (s.setFpscr v).spsr = s.spsr := rfl
@[simp] theorem State.setFpscr_secure (s : State) (v : Word) : (s.setFpscr v).secure = s.secure := rfl
@[simp] theorem State.setFpscr_nonSecure (s : State) (v : Word) : (s.setFpscr v).nonSecure = s.nonSecure := rfl
@[simp] theorem State.setFpscr_cp15 (s : State) (v : Word) : (s.setFpscr v).cp15 = s.cp15 := rfl
@[simp] theorem State.setFpscr_dbg (s : State) (v : Word) : (s.setFpscr v).dbg = s.dbg := rfl
@[simp] theorem State.setFpscr_pins (s : State) (v : Word) : (s.setFpscr v).pins = s.pins := rfl
@[simp] theorem State.setFpscr_mem (s : State) (v : Word) : (s.setFpscr v).mem = s.mem := rfl
@[simp] theorem State.setFpscr_exclLocal (s : State) (v : Word) : (s.setFpscr v).exclLocal = s.exclLocal := rfl
@[simp] theorem State.setFpscr_exclGlobal (s : State) (v : Word) : (s.setFpscr v).exclGlobal = s.exclGlobal := rfl
@[simp] theorem State.setFpscr_pendingAbort (s : State) (v : Word) : (s.setFpscr v).pendingAbort = s.pendingAbort := rfl
@[simp] theorem State.setFpscr_codeStale (s : State) (v : Word) : (s.setFpscr v).codeStale = s.codeStale := rfl
@[simp] theorem State.setFpscr_dcache (s : State) (v : Word) : (s.setFpscr v).dcache = s.dcache := rfl
@[simp] theorem State.setFpscr_walks (s : State) (v : Word) : (s.setFpscr v).walks = s.walks := rfl
@[simp] theorem State.setFpscr_transfers (s : State) (v : Word) : (s.setFpscr v).transfers = s.transfers := rfl
@[simp] theorem State.setFpscr_irqAcks (s : State) (v : Word) : (s.setFpscr v).irqAcks = s.irqAcks := rfl
@[simp] theorem State.setFpscr_wrapped (s : State) (v : Word) : (s.setFpscr v).wrapped = s.wrapped := rfl
@[simp] theorem State.setFpscr_jumped (s : State) (v : Word) : (s.setFpscr v).jumped = s.jumped := rfl
@[simp] theorem State.setFpscr_draws (s : State) (v : Word) : (s.setFpscr v).draws = s.draws := rfl

/-! `State.enterExceptional` -/

@[simp] theorem State.enterExceptional_gpr (s : State) (w f : Word) (n : Nat) : (s.enterExceptional w f n).gpr = s.gpr := rfl
@[simp] theorem State.enterExceptional_pc (s : State) (w f : Word) (n : Nat) : (s.enterExceptional w f n).pc = s.pc := rfl
@[simp] theorem State.enterExceptional_cpsr (s : State) (w f : Word) (n : Nat) : (s.enterExceptional w f n).cpsr = s.cpsr := rfl
@[simp] theorem State.enterExceptional_spsr (s : State) (w f : Word) (n : Nat) : (s.enterExceptional w f n).spsr = s.spsr := rfl
@[simp] theorem State.enterExceptional_secure (s : State) (w f : Word) (n : Nat) : (s.enterExceptional w f n).secure = s.secure := rfl
@[simp] theorem State.enterExceptional_nonSecure (s : State) (w f : Word) (n : Nat) : (s.enterExceptional w f n).nonSecure = s.nonSecure := rfl
@[simp] theorem State.enterExceptional_cp15 (s : State) (w f : Word) (n : Nat) : (s.enterExceptional w f n).cp15 = s.cp15 := rfl
@[simp] theorem State.enterExceptional_dbg (s : State) (w f : Word) (n : Nat) : (s.enterExceptional w f n).dbg = s.dbg := rfl
@[simp] theorem State.enterExceptional_pins (s : State) (w f : Word) (n : Nat) : (s.enterExceptional w f n).pins = s.pins := rfl
@[simp] theorem State.enterExceptional_mem (s : State) (w f : Word) (n : Nat) : (s.enterExceptional w f n).mem = s.mem := rfl
@[simp] theorem State.enterExceptional_exclLocal (s : State) (w f : Word) (n : Nat) : (s.enterExceptional w f n).exclLocal = s.exclLocal := rfl
@[simp] theorem State.enterExceptional_exclGlobal (s : State) (w f : Word) (n : Nat) : (s.enterExceptional w f n).exclGlobal = s.exclGlobal := rfl
@[simp] theorem State.enterExceptional_pendingAbort (s : State) (w f : Word) (n : Nat) : (s.enterExceptional w f n).pendingAbort = s.pendingAbort := rfl
@[simp] theorem State.enterExceptional_codeStale (s : State) (w f : Word) (n : Nat) : (s.enterExceptional w f n).codeStale = s.codeStale := rfl
@[simp] theorem State.enterExceptional_dcache (s : State) (w f : Word) (n : Nat) : (s.enterExceptional w f n).dcache = s.dcache := rfl
@[simp] theorem State.enterExceptional_walks (s : State) (w f : Word) (n : Nat) : (s.enterExceptional w f n).walks = s.walks := rfl
@[simp] theorem State.enterExceptional_transfers (s : State) (w f : Word) (n : Nat) : (s.enterExceptional w f n).transfers = s.transfers := rfl
@[simp] theorem State.enterExceptional_irqAcks (s : State) (w f : Word) (n : Nat) : (s.enterExceptional w f n).irqAcks = s.irqAcks := rfl
@[simp] theorem State.enterExceptional_wrapped (s : State) (w f : Word) (n : Nat) : (s.enterExceptional w f n).wrapped = s.wrapped := rfl
@[simp] theorem State.enterExceptional_jumped (s : State) (w f : Word) (n : Nat) : (s.enterExceptional w f n).jumped = s.jumped := rfl
@[simp] theorem State.enterExceptional_draws (s : State) (w f : Word) (n : Nat) : (s.enterExceptional w f n).draws = s.draws := rfl

/-! `State.touch` -/

@[simp] theorem State.touch_gpr (s : State) (k : Nat) : (s.touch k).gpr = s.gpr := rfl
@[simp] theorem State.touch_pc (s : State) (k : Nat) : (s.touch k).pc = s.pc := rfl
@[simp] theorem State.touch_cpsr (s : State) (k : Nat) : (s.touch k).cpsr = s.cpsr := rfl
@[simp] theorem State.touch_spsr (s : State) (k : Nat) : (s.touch k).spsr = s.spsr := rfl
@[simp] theorem State.touch_secure (s : State) (k : Nat) : (s.touch k).secure = s.secure := rfl
@[simp] theorem State.touch_nonSecure (s : State) (k : Nat) : (s.touch k).nonSecure = s.nonSecure := rfl
@[simp] theorem State.touch_cp15 (s : State) (k : Nat) : (s.touch k).cp15 = s.cp15 := rfl
@[simp] theorem State.touch_dbg (s : State) (k : Nat) : (s.touch k).dbg = s.dbg := rfl
@[simp] theorem State.touch_vfp (s : State) (k : Nat) : (s.touch k).vfp = s.vfp := rfl
@[simp] theorem State.touch_pins (s : State) (k : Nat) : (s.touch k).pins = s.pins := rfl
@[simp] theorem State.touch_mem (s : State) (k : Nat) : (s.touch k).mem = s.mem := rfl
@[simp] theorem State.touch_exclLocal (s : State) (k : Nat) : (s.touch k).exclLocal = s.exclLocal := rfl
@[simp] theorem State.touch_exclGlobal (s : State) (k : Nat) : (s.touch k).exclGlobal = s.exclGlobal := rfl
@[simp] theorem State.touch_pendingAbort (s : State) (k : Nat) : (s.touch k).pendingAbort = s.pendingAbort := rfl
@[simp] theorem State.touch_dcache (s : State) (k : Nat) : (s.touch k).dcache = s.dcache := rfl
@[simp] theorem State.touch_transfers (s : State) (k : Nat) : (s.touch k).transfers = s.transfers := rfl
@[simp] theorem State.touch_irqAcks (s : State) (k : Nat) : (s.touch k).irqAcks = s.irqAcks := rfl
@[simp] theorem State.touch_wrapped (s : State) (k : Nat) : (s.touch k).wrapped = s.wrapped := rfl
@[simp] theorem State.touch_jumped (s : State) (k : Nat) : (s.touch k).jumped = s.jumped := rfl
@[simp] theorem State.touch_draws (s : State) (k : Nat) : (s.touch k).draws = s.draws := rfl

/-! `State.storeByte` -/

@[simp] theorem State.storeByte_gpr (s : State) (k : Nat) (v : Byte) : (s.storeByte k v).gpr = s.gpr := rfl
@[simp] theorem State.storeByte_pc (s : State) (k : Nat) (v : Byte) : (s.storeByte k v).pc = s.pc := rfl
@[simp] theorem State.storeByte_cpsr (s : State) (k : Nat) (v : Byte) : (s.storeByte k v).cpsr = s.cpsr := rfl
@[simp] theorem State.storeByte_spsr (s : State) (k : Nat) (v : Byte) : (s.storeByte k v).spsr = s.spsr := rfl
@[simp] theorem State.storeByte_secure (s : State) (k : Nat) (v : Byte) : (s.storeByte k v).secure = s.secure := rfl
@[simp] theorem State.storeByte_nonSecure (s : State) (k : Nat) (v : Byte) : (s.storeByte k v).nonSecure = s.nonSecure := rfl
@[simp] theorem State.storeByte_cp15 (s : State) (k : Nat) (v : Byte) : (s.storeByte k v).cp15 = s.cp15 := rfl
@[simp] theorem State.storeByte_dbg (s : State) (k : Nat) (v : Byte) : (s.storeByte k v).dbg = s.dbg := rfl
@[simp] theorem State.storeByte_vfp (s : State) (k : Nat) (v : Byte) : (s.storeByte k v).vfp = s.vfp := rfl
@[simp] theorem State.storeByte_pins (s : State) (k : Nat) (v : Byte) : (s.storeByte k v).pins = s.pins := rfl
@[simp] theorem State.storeByte_exclLocal (s : State) (k : Nat) (v : Byte) : (s.storeByte k v).exclLocal = s.exclLocal := rfl
@[simp] theorem State.storeByte_exclGlobal (s : State) (k : Nat) (v : Byte) : (s.storeByte k v).exclGlobal = s.exclGlobal := rfl
@[simp] theorem State.storeByte_pendingAbort (s : State) (k : Nat) (v : Byte) : (s.storeByte k v).pendingAbort = s.pendingAbort := rfl
@[simp] theorem State.storeByte_dcache (s : State) (k : Nat) (v : Byte) : (s.storeByte k v).dcache = s.dcache := rfl
@[simp] theorem State.storeByte_transfers (s : State) (k : Nat) (v : Byte) : (s.storeByte k v).transfers = s.transfers := rfl
@[simp] theorem State.storeByte_irqAcks (s : State) (k : Nat) (v : Byte) : (s.storeByte k v).irqAcks = s.irqAcks := rfl
@[simp] theorem State.storeByte_wrapped (s : State) (k : Nat) (v : Byte) : (s.storeByte k v).wrapped = s.wrapped := rfl
@[simp] theorem State.storeByte_jumped (s : State) (k : Nat) (v : Byte) : (s.storeByte k v).jumped = s.jumped := rfl
@[simp] theorem State.storeByte_draws (s : State) (k : Nat) (v : Byte) : (s.storeByte k v).draws = s.draws := rfl

/-! `State.writeExternal` -/

@[simp] theorem State.writeExternal_gpr (s : State) (q : Request) (pa : Word) (v : Byte) : (s.writeExternal q pa v).gpr = s.gpr := by unfold State.writeExternal; split <;> rfl
@[simp] theorem State.writeExternal_pc (s : State) (q : Request) (pa : Word) (v : Byte) : (s.writeExternal q pa v).pc = s.pc := by unfold State.writeExternal; split <;> rfl
@[simp] theorem State.writeExternal_cpsr (s : State) (q : Request) (pa : Word) (v : Byte) : (s.writeExternal q pa v).cpsr = s.cpsr := by unfold State.writeExternal; split <;> rfl
@[simp] theorem State.writeExternal_spsr (s : State) (q : Request) (pa : Word) (v : Byte) : (s.writeExternal q pa v).spsr = s.spsr := by unfold State.writeExternal; split <;> rfl
@[simp] theorem State.writeExternal_secure (s : State) (q : Request) (pa : Word) (v : Byte) : (s.writeExternal q pa v).secure = s.secure := by unfold State.writeExternal; split <;> rfl
@[simp] theorem State.writeExternal_nonSecure (s : State) (q : Request) (pa : Word) (v : Byte) : (s.writeExternal q pa v).nonSecure = s.nonSecure := by unfold State.writeExternal; split <;> rfl
@[simp] theorem State.writeExternal_cp15 (s : State) (q : Request) (pa : Word) (v : Byte) : (s.writeExternal q pa v).cp15 = s.cp15 := by unfold State.writeExternal; split <;> rfl
@[simp] theorem State.writeExternal_dbg (s : State) (q : Request) (pa : Word) (v : Byte) : (s.writeExternal q pa v).dbg = s.dbg := by unfold State.writeExternal; split <;> rfl
@[simp] theorem State.writeExternal_vfp (s : State) (q : Request) (pa : Word) (v : Byte) : (s.writeExternal q pa v).vfp = s.vfp := by unfold State.writeExternal; split <;> rfl
@[simp] theorem State.writeExternal_pins (s : State) (q : Request) (pa : Word) (v : Byte) : (s.writeExternal q pa v).pins = s.pins := by unfold State.writeExternal; split <;> rfl
@[simp] theorem State.writeExternal_exclLocal (s : State) (q : Request) (pa : Word) (v : Byte) : (s.writeExternal q pa v).exclLocal = s.exclLocal := by unfold State.writeExternal; split <;> rfl
@[simp] theorem State.writeExternal_exclGlobal (s : State) (q : Request) (pa : Word) (v : Byte) : (s.writeExternal q pa v).exclGlobal = s.exclGlobal := by unfold State.writeExternal; split <;> rfl
@[simp] theorem State.writeExternal_pendingAbort (s : State) (q : Request) (pa : Word) (v : Byte) : (s.writeExternal q pa v).pendingAbort = s.pendingAbort := by unfold State.writeExternal; split <;> rfl
@[simp] theorem State.writeExternal_dcache (s : State) (q : Request) (pa : Word) (v : Byte) : (s.writeExternal q pa v).dcache = s.dcache := by unfold State.writeExternal; split <;> rfl
@[simp] theorem State.writeExternal_transfers (s : State) (q : Request) (pa : Word) (v : Byte) : (s.writeExternal q pa v).transfers = s.transfers := by unfold State.writeExternal; split <;> rfl
@[simp] theorem State.writeExternal_irqAcks (s : State) (q : Request) (pa : Word) (v : Byte) : (s.writeExternal q pa v).irqAcks = s.irqAcks := by unfold State.writeExternal; split <;> rfl
@[simp] theorem State.writeExternal_wrapped (s : State) (q : Request) (pa : Word) (v : Byte) : (s.writeExternal q pa v).wrapped = s.wrapped := by unfold State.writeExternal; split <;> rfl
@[simp] theorem State.writeExternal_jumped (s : State) (q : Request) (pa : Word) (v : Byte) : (s.writeExternal q pa v).jumped = s.jumped := by unfold State.writeExternal; split <;> rfl
@[simp] theorem State.writeExternal_draws (s : State) (q : Request) (pa : Word) (v : Byte) : (s.writeExternal q pa v).draws = s.draws := by unfold State.writeExternal; split <;> rfl

/-! `State.noteTransfer` -/

@[simp] theorem State.noteTransfer_gpr (s : State) (q : Request) (d : List Host.Cell) (e : Option BusError) : (s.noteTransfer q d e).gpr = s.gpr := rfl
@[simp] theorem State.noteTransfer_pc (s : State) (q : Request) (d : List Host.Cell) (e : Option BusError) : (s.noteTransfer q d e).pc = s.pc := rfl
@[simp] theorem State.noteTransfer_cpsr (s : State) (q : Request) (d : List Host.Cell) (e : Option BusError) : (s.noteTransfer q d e).cpsr = s.cpsr := rfl
@[simp] theorem State.noteTransfer_spsr (s : State) (q : Request) (d : List Host.Cell) (e : Option BusError) : (s.noteTransfer q d e).spsr = s.spsr := rfl
@[simp] theorem State.noteTransfer_secure (s : State) (q : Request) (d : List Host.Cell) (e : Option BusError) : (s.noteTransfer q d e).secure = s.secure := rfl
@[simp] theorem State.noteTransfer_nonSecure (s : State) (q : Request) (d : List Host.Cell) (e : Option BusError) : (s.noteTransfer q d e).nonSecure = s.nonSecure := rfl
@[simp] theorem State.noteTransfer_cp15 (s : State) (q : Request) (d : List Host.Cell) (e : Option BusError) : (s.noteTransfer q d e).cp15 = s.cp15 := rfl
@[simp] theorem State.noteTransfer_dbg (s : State) (q : Request) (d : List Host.Cell) (e : Option BusError) : (s.noteTransfer q d e).dbg = s.dbg := rfl
@[simp] theorem State.noteTransfer_vfp (s : State) (q : Request) (d : List Host.Cell) (e : Option BusError) : (s.noteTransfer q d e).vfp = s.vfp := rfl
@[simp] theorem State.noteTransfer_pins (s : State) (q : Request) (d : List Host.Cell) (e : Option BusError) : (s.noteTransfer q d e).pins = s.pins := rfl
@[simp] theorem State.noteTransfer_mem (s : State) (q : Request) (d : List Host.Cell) (e : Option BusError) : (s.noteTransfer q d e).mem = s.mem := rfl
@[simp] theorem State.noteTransfer_exclLocal (s : State) (q : Request) (d : List Host.Cell) (e : Option BusError) : (s.noteTransfer q d e).exclLocal = s.exclLocal := rfl
@[simp] theorem State.noteTransfer_exclGlobal (s : State) (q : Request) (d : List Host.Cell) (e : Option BusError) : (s.noteTransfer q d e).exclGlobal = s.exclGlobal := rfl
@[simp] theorem State.noteTransfer_pendingAbort (s : State) (q : Request) (d : List Host.Cell) (e : Option BusError) : (s.noteTransfer q d e).pendingAbort = s.pendingAbort := rfl
@[simp] theorem State.noteTransfer_codeStale (s : State) (q : Request) (d : List Host.Cell) (e : Option BusError) : (s.noteTransfer q d e).codeStale = s.codeStale := rfl
@[simp] theorem State.noteTransfer_dcache (s : State) (q : Request) (d : List Host.Cell) (e : Option BusError) : (s.noteTransfer q d e).dcache = s.dcache := rfl
@[simp] theorem State.noteTransfer_walks (s : State) (q : Request) (d : List Host.Cell) (e : Option BusError) : (s.noteTransfer q d e).walks = s.walks := rfl
@[simp] theorem State.noteTransfer_irqAcks (s : State) (q : Request) (d : List Host.Cell) (e : Option BusError) : (s.noteTransfer q d e).irqAcks = s.irqAcks := rfl
@[simp] theorem State.noteTransfer_wrapped (s : State) (q : Request) (d : List Host.Cell) (e : Option BusError) : (s.noteTransfer q d e).wrapped = s.wrapped := rfl
@[simp] theorem State.noteTransfer_jumped (s : State) (q : Request) (d : List Host.Cell) (e : Option BusError) : (s.noteTransfer q d e).jumped = s.jumped := rfl
@[simp] theorem State.noteTransfer_draws (s : State) (q : Request) (d : List Host.Cell) (e : Option BusError) : (s.noteTransfer q d e).draws = s.draws := rfl

/-! `State.noteWord` -/

@[simp] theorem State.noteWord_gpr (s : State) (o : Bool) (q : Request) (a : Nat) (d : List Host.Cell) (e : Option BusError) : (s.noteWord o q a d e).gpr = s.gpr := rfl
@[simp] theorem State.noteWord_pc (s : State) (o : Bool) (q : Request) (a : Nat) (d : List Host.Cell) (e : Option BusError) : (s.noteWord o q a d e).pc = s.pc := rfl
@[simp] theorem State.noteWord_cpsr (s : State) (o : Bool) (q : Request) (a : Nat) (d : List Host.Cell) (e : Option BusError) : (s.noteWord o q a d e).cpsr = s.cpsr := rfl
@[simp] theorem State.noteWord_spsr (s : State) (o : Bool) (q : Request) (a : Nat) (d : List Host.Cell) (e : Option BusError) : (s.noteWord o q a d e).spsr = s.spsr := rfl
@[simp] theorem State.noteWord_secure (s : State) (o : Bool) (q : Request) (a : Nat) (d : List Host.Cell) (e : Option BusError) : (s.noteWord o q a d e).secure = s.secure := rfl
@[simp] theorem State.noteWord_nonSecure (s : State) (o : Bool) (q : Request) (a : Nat) (d : List Host.Cell) (e : Option BusError) : (s.noteWord o q a d e).nonSecure = s.nonSecure := rfl
@[simp] theorem State.noteWord_cp15 (s : State) (o : Bool) (q : Request) (a : Nat) (d : List Host.Cell) (e : Option BusError) : (s.noteWord o q a d e).cp15 = s.cp15 := rfl
@[simp] theorem State.noteWord_dbg (s : State) (o : Bool) (q : Request) (a : Nat) (d : List Host.Cell) (e : Option BusError) : (s.noteWord o q a d e).dbg = s.dbg := rfl
@[simp] theorem State.noteWord_vfp (s : State) (o : Bool) (q : Request) (a : Nat) (d : List Host.Cell) (e : Option BusError) : (s.noteWord o q a d e).vfp = s.vfp := rfl
@[simp] theorem State.noteWord_pins (s : State) (o : Bool) (q : Request) (a : Nat) (d : List Host.Cell) (e : Option BusError) : (s.noteWord o q a d e).pins = s.pins := rfl
@[simp] theorem State.noteWord_mem (s : State) (o : Bool) (q : Request) (a : Nat) (d : List Host.Cell) (e : Option BusError) : (s.noteWord o q a d e).mem = s.mem := rfl
@[simp] theorem State.noteWord_exclLocal (s : State) (o : Bool) (q : Request) (a : Nat) (d : List Host.Cell) (e : Option BusError) : (s.noteWord o q a d e).exclLocal = s.exclLocal := rfl
@[simp] theorem State.noteWord_exclGlobal (s : State) (o : Bool) (q : Request) (a : Nat) (d : List Host.Cell) (e : Option BusError) : (s.noteWord o q a d e).exclGlobal = s.exclGlobal := rfl
@[simp] theorem State.noteWord_pendingAbort (s : State) (o : Bool) (q : Request) (a : Nat) (d : List Host.Cell) (e : Option BusError) : (s.noteWord o q a d e).pendingAbort = s.pendingAbort := rfl
@[simp] theorem State.noteWord_codeStale (s : State) (o : Bool) (q : Request) (a : Nat) (d : List Host.Cell) (e : Option BusError) : (s.noteWord o q a d e).codeStale = s.codeStale := rfl
@[simp] theorem State.noteWord_dcache (s : State) (o : Bool) (q : Request) (a : Nat) (d : List Host.Cell) (e : Option BusError) : (s.noteWord o q a d e).dcache = s.dcache := rfl
@[simp] theorem State.noteWord_walks (s : State) (o : Bool) (q : Request) (a : Nat) (d : List Host.Cell) (e : Option BusError) : (s.noteWord o q a d e).walks = s.walks := rfl
@[simp] theorem State.noteWord_irqAcks (s : State) (o : Bool) (q : Request) (a : Nat) (d : List Host.Cell) (e : Option BusError) : (s.noteWord o q a d e).irqAcks = s.irqAcks := rfl
@[simp] theorem State.noteWord_wrapped (s : State) (o : Bool) (q : Request) (a : Nat) (d : List Host.Cell) (e : Option BusError) : (s.noteWord o q a d e).wrapped = s.wrapped := rfl
@[simp] theorem State.noteWord_jumped (s : State) (o : Bool) (q : Request) (a : Nat) (d : List Host.Cell) (e : Option BusError) : (s.noteWord o q a d e).jumped = s.jumped := rfl
@[simp] theorem State.noteWord_draws (s : State) (o : Bool) (q : Request) (a : Nat) (d : List Host.Cell) (e : Option BusError) : (s.noteWord o q a d e).draws = s.draws := rfl

/-! `State.notePiece` -/

@[simp] theorem State.notePiece_gpr (s : State) (p : Acc) (v : Word) (x : Translation) (q : Request) (b : List Byte) (e : Option BusError) : (s.notePiece p v x q b e).gpr = s.gpr := rfl
@[simp] theorem State.notePiece_pc (s : State) (p : Acc) (v : Word) (x : Translation) (q : Request) (b : List Byte) (e : Option BusError) : (s.notePiece p v x q b e).pc = s.pc := rfl
@[simp] theorem State.notePiece_cpsr (s : State) (p : Acc) (v : Word) (x : Translation) (q : Request) (b : List Byte) (e : Option BusError) : (s.notePiece p v x q b e).cpsr = s.cpsr := rfl
@[simp] theorem State.notePiece_spsr (s : State) (p : Acc) (v : Word) (x : Translation) (q : Request) (b : List Byte) (e : Option BusError) : (s.notePiece p v x q b e).spsr = s.spsr := rfl
@[simp] theorem State.notePiece_secure (s : State) (p : Acc) (v : Word) (x : Translation) (q : Request) (b : List Byte) (e : Option BusError) : (s.notePiece p v x q b e).secure = s.secure := rfl
@[simp] theorem State.notePiece_nonSecure (s : State) (p : Acc) (v : Word) (x : Translation) (q : Request) (b : List Byte) (e : Option BusError) : (s.notePiece p v x q b e).nonSecure = s.nonSecure := rfl
@[simp] theorem State.notePiece_cp15 (s : State) (p : Acc) (v : Word) (x : Translation) (q : Request) (b : List Byte) (e : Option BusError) : (s.notePiece p v x q b e).cp15 = s.cp15 := rfl
@[simp] theorem State.notePiece_dbg (s : State) (p : Acc) (v : Word) (x : Translation) (q : Request) (b : List Byte) (e : Option BusError) : (s.notePiece p v x q b e).dbg = s.dbg := rfl
@[simp] theorem State.notePiece_vfp (s : State) (p : Acc) (v : Word) (x : Translation) (q : Request) (b : List Byte) (e : Option BusError) : (s.notePiece p v x q b e).vfp = s.vfp := rfl
@[simp] theorem State.notePiece_pins (s : State) (p : Acc) (v : Word) (x : Translation) (q : Request) (b : List Byte) (e : Option BusError) : (s.notePiece p v x q b e).pins = s.pins := rfl
@[simp] theorem State.notePiece_mem (s : State) (p : Acc) (v : Word) (x : Translation) (q : Request) (b : List Byte) (e : Option BusError) : (s.notePiece p v x q b e).mem = s.mem := rfl
@[simp] theorem State.notePiece_exclLocal (s : State) (p : Acc) (v : Word) (x : Translation) (q : Request) (b : List Byte) (e : Option BusError) : (s.notePiece p v x q b e).exclLocal = s.exclLocal := rfl
@[simp] theorem State.notePiece_exclGlobal (s : State) (p : Acc) (v : Word) (x : Translation) (q : Request) (b : List Byte) (e : Option BusError) : (s.notePiece p v x q b e).exclGlobal = s.exclGlobal := rfl
@[simp] theorem State.notePiece_pendingAbort (s : State) (p : Acc) (v : Word) (x : Translation) (q : Request) (b : List Byte) (e : Option BusError) : (s.notePiece p v x q b e).pendingAbort = s.pendingAbort := rfl
@[simp] theorem State.notePiece_codeStale (s : State) (p : Acc) (v : Word) (x : Translation) (q : Request) (b : List Byte) (e : Option BusError) : (s.notePiece p v x q b e).codeStale = s.codeStale := rfl
@[simp] theorem State.notePiece_dcache (s : State) (p : Acc) (v : Word) (x : Translation) (q : Request) (b : List Byte) (e : Option BusError) : (s.notePiece p v x q b e).dcache = s.dcache := rfl
@[simp] theorem State.notePiece_walks (s : State) (p : Acc) (v : Word) (x : Translation) (q : Request) (b : List Byte) (e : Option BusError) : (s.notePiece p v x q b e).walks = s.walks := rfl
@[simp] theorem State.notePiece_irqAcks (s : State) (p : Acc) (v : Word) (x : Translation) (q : Request) (b : List Byte) (e : Option BusError) : (s.notePiece p v x q b e).irqAcks = s.irqAcks := rfl
@[simp] theorem State.notePiece_wrapped (s : State) (p : Acc) (v : Word) (x : Translation) (q : Request) (b : List Byte) (e : Option BusError) : (s.notePiece p v x q b e).wrapped = s.wrapped := rfl
@[simp] theorem State.notePiece_jumped (s : State) (p : Acc) (v : Word) (x : Translation) (q : Request) (b : List Byte) (e : Option BusError) : (s.notePiece p v x q b e).jumped = s.jumped := rfl
@[simp] theorem State.notePiece_draws (s : State) (p : Acc) (v : Word) (x : Translation) (q : Request) (b : List Byte) (e : Option BusError) : (s.notePiece p v x q b e).draws = s.draws := rfl

/-! `State.dropLine` -/

@[simp] theorem State.dropLine_gpr (s : State) (w : BitVec 2) (k : Nat) : (s.dropLine w k).gpr = s.gpr := rfl
@[simp] theorem State.dropLine_pc (s : State) (w : BitVec 2) (k : Nat) : (s.dropLine w k).pc = s.pc := rfl
@[simp] theorem State.dropLine_cpsr (s : State) (w : BitVec 2) (k : Nat) : (s.dropLine w k).cpsr = s.cpsr := rfl
@[simp] theorem State.dropLine_spsr (s : State) (w : BitVec 2) (k : Nat) : (s.dropLine w k).spsr = s.spsr := rfl
@[simp] theorem State.dropLine_secure (s : State) (w : BitVec 2) (k : Nat) : (s.dropLine w k).secure = s.secure := rfl
@[simp] theorem State.dropLine_nonSecure (s : State) (w : BitVec 2) (k : Nat) : (s.dropLine w k).nonSecure = s.nonSecure := rfl
@[simp] theorem State.dropLine_cp15 (s : State) (w : BitVec 2) (k : Nat) : (s.dropLine w k).cp15 = s.cp15 := rfl
@[simp] theorem State.dropLine_dbg (s : State) (w : BitVec 2) (k : Nat) : (s.dropLine w k).dbg = s.dbg := rfl
@[simp] theorem State.dropLine_vfp (s : State) (w : BitVec 2) (k : Nat) : (s.dropLine w k).vfp = s.vfp := rfl
@[simp] theorem State.dropLine_pins (s : State) (w : BitVec 2) (k : Nat) : (s.dropLine w k).pins = s.pins := rfl
@[simp] theorem State.dropLine_mem (s : State) (w : BitVec 2) (k : Nat) : (s.dropLine w k).mem = s.mem := rfl
@[simp] theorem State.dropLine_exclLocal (s : State) (w : BitVec 2) (k : Nat) : (s.dropLine w k).exclLocal = s.exclLocal := rfl
@[simp] theorem State.dropLine_exclGlobal (s : State) (w : BitVec 2) (k : Nat) : (s.dropLine w k).exclGlobal = s.exclGlobal := rfl
@[simp] theorem State.dropLine_pendingAbort (s : State) (w : BitVec 2) (k : Nat) : (s.dropLine w k).pendingAbort = s.pendingAbort := rfl
@[simp] theorem State.dropLine_codeStale (s : State) (w : BitVec 2) (k : Nat) : (s.dropLine w k).codeStale = s.codeStale := rfl
@[simp] theorem State.dropLine_walks (s : State) (w : BitVec 2) (k : Nat) : (s.dropLine w k).walks = s.walks := rfl
@[simp] theorem State.dropLine_transfers (s : State) (w : BitVec 2) (k : Nat) : (s.dropLine w k).transfers = s.transfers := rfl
@[simp] theorem State.dropLine_irqAcks (s : State) (w : BitVec 2) (k : Nat) : (s.dropLine w k).irqAcks = s.irqAcks := rfl
@[simp] theorem State.dropLine_wrapped (s : State) (w : BitVec 2) (k : Nat) : (s.dropLine w k).wrapped = s.wrapped := rfl
@[simp] theorem State.dropLine_jumped (s : State) (w : BitVec 2) (k : Nat) : (s.dropLine w k).jumped = s.jumped := rfl
@[simp] theorem State.dropLine_draws (s : State) (w : BitVec 2) (k : Nat) : (s.dropLine w k).draws = s.draws := rfl

/-! `State.putLine` -/

@[simp] theorem State.putLine_gpr (s : State) (l : CacheLine) : (s.putLine l).gpr = s.gpr := rfl
@[simp] theorem State.putLine_pc (s : State) (l : CacheLine) : (s.putLine l).pc = s.pc := rfl
@[simp] theorem State.putLine_cpsr (s : State) (l : CacheLine) : (s.putLine l).cpsr = s.cpsr := rfl
@[simp] theorem State.putLine_spsr (s : State) (l : CacheLine) : (s.putLine l).spsr = s.spsr := rfl
@[simp] theorem State.putLine_secure (s : State) (l : CacheLine) : (s.putLine l).secure = s.secure := rfl
@[simp] theorem State.putLine_nonSecure (s : State) (l : CacheLine) : (s.putLine l).nonSecure = s.nonSecure := rfl
@[simp] theorem State.putLine_cp15 (s : State) (l : CacheLine) : (s.putLine l).cp15 = s.cp15 := rfl
@[simp] theorem State.putLine_dbg (s : State) (l : CacheLine) : (s.putLine l).dbg = s.dbg := rfl
@[simp] theorem State.putLine_vfp (s : State) (l : CacheLine) : (s.putLine l).vfp = s.vfp := rfl
@[simp] theorem State.putLine_pins (s : State) (l : CacheLine) : (s.putLine l).pins = s.pins := rfl
@[simp] theorem State.putLine_mem (s : State) (l : CacheLine) : (s.putLine l).mem = s.mem := rfl
@[simp] theorem State.putLine_exclLocal (s : State) (l : CacheLine) : (s.putLine l).exclLocal = s.exclLocal := rfl
@[simp] theorem State.putLine_exclGlobal (s : State) (l : CacheLine) : (s.putLine l).exclGlobal = s.exclGlobal := rfl
@[simp] theorem State.putLine_pendingAbort (s : State) (l : CacheLine) : (s.putLine l).pendingAbort = s.pendingAbort := rfl
@[simp] theorem State.putLine_codeStale (s : State) (l : CacheLine) : (s.putLine l).codeStale = s.codeStale := rfl
@[simp] theorem State.putLine_walks (s : State) (l : CacheLine) : (s.putLine l).walks = s.walks := rfl
@[simp] theorem State.putLine_transfers (s : State) (l : CacheLine) : (s.putLine l).transfers = s.transfers := rfl
@[simp] theorem State.putLine_irqAcks (s : State) (l : CacheLine) : (s.putLine l).irqAcks = s.irqAcks := rfl
@[simp] theorem State.putLine_wrapped (s : State) (l : CacheLine) : (s.putLine l).wrapped = s.wrapped := rfl
@[simp] theorem State.putLine_jumped (s : State) (l : CacheLine) : (s.putLine l).jumped = s.jumped := rfl
@[simp] theorem State.putLine_draws (s : State) (l : CacheLine) : (s.putLine l).draws = s.draws := rfl

/-! `State.validate` -/

@[simp] theorem State.validate_gpr (s : State) (w : BitVec 2) (k : Nat) : (s.validate w k).gpr = s.gpr := by unfold State.validate; exact ite_field _ _ _ _ rfl rfl
@[simp] theorem State.validate_pc (s : State) (w : BitVec 2) (k : Nat) : (s.validate w k).pc = s.pc := by unfold State.validate; exact ite_field _ _ _ _ rfl rfl
@[simp] theorem State.validate_cpsr (s : State) (w : BitVec 2) (k : Nat) : (s.validate w k).cpsr = s.cpsr := by unfold State.validate; exact ite_field _ _ _ _ rfl rfl
@[simp] theorem State.validate_spsr (s : State) (w : BitVec 2) (k : Nat) : (s.validate w k).spsr = s.spsr := by unfold State.validate; exact ite_field _ _ _ _ rfl rfl
@[simp] theorem State.validate_secure (s : State) (w : BitVec 2) (k : Nat) : (s.validate w k).secure = s.secure := by unfold State.validate; exact ite_field _ _ _ _ rfl rfl
@[simp] theorem State.validate_nonSecure (s : State) (w : BitVec 2) (k : Nat) : (s.validate w k).nonSecure = s.nonSecure := by unfold State.validate; exact ite_field _ _ _ _ rfl rfl
@[simp] theorem State.validate_dbg (s : State) (w : BitVec 2) (k : Nat) : (s.validate w k).dbg = s.dbg := by unfold State.validate; exact ite_field _ _ _ _ rfl rfl
@[simp] theorem State.validate_vfp (s : State) (w : BitVec 2) (k : Nat) : (s.validate w k).vfp = s.vfp := by unfold State.validate; exact ite_field _ _ _ _ rfl rfl
@[simp] theorem State.validate_pins (s : State) (w : BitVec 2) (k : Nat) : (s.validate w k).pins = s.pins := by unfold State.validate; exact ite_field _ _ _ _ rfl rfl
@[simp] theorem State.validate_mem (s : State) (w : BitVec 2) (k : Nat) : (s.validate w k).mem = s.mem := by unfold State.validate; exact ite_field _ _ _ _ rfl rfl
@[simp] theorem State.validate_exclLocal (s : State) (w : BitVec 2) (k : Nat) : (s.validate w k).exclLocal = s.exclLocal := by unfold State.validate; exact ite_field _ _ _ _ rfl rfl
@[simp] theorem State.validate_exclGlobal (s : State) (w : BitVec 2) (k : Nat) : (s.validate w k).exclGlobal = s.exclGlobal := by unfold State.validate; exact ite_field _ _ _ _ rfl rfl
@[simp] theorem State.validate_pendingAbort (s : State) (w : BitVec 2) (k : Nat) : (s.validate w k).pendingAbort = s.pendingAbort := by unfold State.validate; exact ite_field _ _ _ _ rfl rfl
@[simp] theorem State.validate_codeStale (s : State) (w : BitVec 2) (k : Nat) : (s.validate w k).codeStale = s.codeStale := by unfold State.validate; exact ite_field _ _ _ _ rfl rfl
@[simp] theorem State.validate_walks (s : State) (w : BitVec 2) (k : Nat) : (s.validate w k).walks = s.walks := by unfold State.validate; exact ite_field _ _ _ _ rfl rfl
@[simp] theorem State.validate_transfers (s : State) (w : BitVec 2) (k : Nat) : (s.validate w k).transfers = s.transfers := by unfold State.validate; exact ite_field _ _ _ _ rfl rfl
@[simp] theorem State.validate_irqAcks (s : State) (w : BitVec 2) (k : Nat) : (s.validate w k).irqAcks = s.irqAcks := by unfold State.validate; exact ite_field _ _ _ _ rfl rfl
@[simp] theorem State.validate_wrapped (s : State) (w : BitVec 2) (k : Nat) : (s.validate w k).wrapped = s.wrapped := by unfold State.validate; exact ite_field _ _ _ _ rfl rfl
@[simp] theorem State.validate_jumped (s : State) (w : BitVec 2) (k : Nat) : (s.validate w k).jumped = s.jumped := by unfold State.validate; exact ite_field _ _ _ _ rfl rfl
@[simp] theorem State.validate_draws (s : State) (w : BitVec 2) (k : Nat) : (s.validate w k).draws = s.draws := by unfold State.validate; exact ite_field _ _ _ _ rfl rfl

/-! `State.markDirty` -/

@[simp] theorem State.markDirty_gpr (s : State) (ns : Bool) : (s.markDirty ns).gpr = s.gpr := rfl
@[simp] theorem State.markDirty_pc (s : State) (ns : Bool) : (s.markDirty ns).pc = s.pc := rfl
@[simp] theorem State.markDirty_cpsr (s : State) (ns : Bool) : (s.markDirty ns).cpsr = s.cpsr := rfl
@[simp] theorem State.markDirty_spsr (s : State) (ns : Bool) : (s.markDirty ns).spsr = s.spsr := rfl
@[simp] theorem State.markDirty_cp15 (s : State) (ns : Bool) : (s.markDirty ns).cp15 = s.cp15 := rfl
@[simp] theorem State.markDirty_dbg (s : State) (ns : Bool) : (s.markDirty ns).dbg = s.dbg := rfl
@[simp] theorem State.markDirty_vfp (s : State) (ns : Bool) : (s.markDirty ns).vfp = s.vfp := rfl
@[simp] theorem State.markDirty_pins (s : State) (ns : Bool) : (s.markDirty ns).pins = s.pins := rfl
@[simp] theorem State.markDirty_mem (s : State) (ns : Bool) : (s.markDirty ns).mem = s.mem := rfl
@[simp] theorem State.markDirty_exclLocal (s : State) (ns : Bool) : (s.markDirty ns).exclLocal = s.exclLocal := rfl
@[simp] theorem State.markDirty_exclGlobal (s : State) (ns : Bool) : (s.markDirty ns).exclGlobal = s.exclGlobal := rfl
@[simp] theorem State.markDirty_pendingAbort (s : State) (ns : Bool) : (s.markDirty ns).pendingAbort = s.pendingAbort := rfl
@[simp] theorem State.markDirty_codeStale (s : State) (ns : Bool) : (s.markDirty ns).codeStale = s.codeStale := rfl
@[simp] theorem State.markDirty_dcache (s : State) (ns : Bool) : (s.markDirty ns).dcache = s.dcache := rfl
@[simp] theorem State.markDirty_walks (s : State) (ns : Bool) : (s.markDirty ns).walks = s.walks := rfl
@[simp] theorem State.markDirty_transfers (s : State) (ns : Bool) : (s.markDirty ns).transfers = s.transfers := rfl
@[simp] theorem State.markDirty_irqAcks (s : State) (ns : Bool) : (s.markDirty ns).irqAcks = s.irqAcks := rfl
@[simp] theorem State.markDirty_wrapped (s : State) (ns : Bool) : (s.markDirty ns).wrapped = s.wrapped := rfl
@[simp] theorem State.markDirty_jumped (s : State) (ns : Bool) : (s.markDirty ns).jumped = s.jumped := rfl
@[simp] theorem State.markDirty_draws (s : State) (ns : Bool) : (s.markDirty ns).draws = s.draws := rfl

/-! `State.notePast` -/

@[simp] theorem State.notePast_gpr (s : State) (p : Acc) (a : Word) : (s.notePast p a).gpr = s.gpr := rfl
@[simp] theorem State.notePast_pc (s : State) (p : Acc) (a : Word) : (s.notePast p a).pc = s.pc := rfl
@[simp] theorem State.notePast_cpsr (s : State) (p : Acc) (a : Word) : (s.notePast p a).cpsr = s.cpsr := rfl
@[simp] theorem State.notePast_spsr (s : State) (p : Acc) (a : Word) : (s.notePast p a).spsr = s.spsr := rfl
@[simp] theorem State.notePast_secure (s : State) (p : Acc) (a : Word) : (s.notePast p a).secure = s.secure := rfl
@[simp] theorem State.notePast_nonSecure (s : State) (p : Acc) (a : Word) : (s.notePast p a).nonSecure = s.nonSecure := rfl
@[simp] theorem State.notePast_cp15 (s : State) (p : Acc) (a : Word) : (s.notePast p a).cp15 = s.cp15 := rfl
@[simp] theorem State.notePast_dbg (s : State) (p : Acc) (a : Word) : (s.notePast p a).dbg = s.dbg := rfl
@[simp] theorem State.notePast_vfp (s : State) (p : Acc) (a : Word) : (s.notePast p a).vfp = s.vfp := rfl
@[simp] theorem State.notePast_pins (s : State) (p : Acc) (a : Word) : (s.notePast p a).pins = s.pins := rfl
@[simp] theorem State.notePast_mem (s : State) (p : Acc) (a : Word) : (s.notePast p a).mem = s.mem := rfl
@[simp] theorem State.notePast_exclLocal (s : State) (p : Acc) (a : Word) : (s.notePast p a).exclLocal = s.exclLocal := rfl
@[simp] theorem State.notePast_exclGlobal (s : State) (p : Acc) (a : Word) : (s.notePast p a).exclGlobal = s.exclGlobal := rfl
@[simp] theorem State.notePast_pendingAbort (s : State) (p : Acc) (a : Word) : (s.notePast p a).pendingAbort = s.pendingAbort := rfl
@[simp] theorem State.notePast_codeStale (s : State) (p : Acc) (a : Word) : (s.notePast p a).codeStale = s.codeStale := rfl
@[simp] theorem State.notePast_dcache (s : State) (p : Acc) (a : Word) : (s.notePast p a).dcache = s.dcache := rfl
@[simp] theorem State.notePast_walks (s : State) (p : Acc) (a : Word) : (s.notePast p a).walks = s.walks := rfl
@[simp] theorem State.notePast_transfers (s : State) (p : Acc) (a : Word) : (s.notePast p a).transfers = s.transfers := rfl
@[simp] theorem State.notePast_irqAcks (s : State) (p : Acc) (a : Word) : (s.notePast p a).irqAcks = s.irqAcks := rfl
@[simp] theorem State.notePast_jumped (s : State) (p : Acc) (a : Word) : (s.notePast p a).jumped = s.jumped := rfl
@[simp] theorem State.notePast_draws (s : State) (p : Acc) (a : Word) : (s.notePast p a).draws = s.draws := rfl

/-! `State.hitWatch` -/

@[simp] theorem State.hitWatch_gpr (s : State) (a : Word) (w : Bool) : (s.hitWatch a w).gpr = s.gpr := by unfold State.hitWatch; exact ite_field _ _ _ _ rfl rfl
@[simp] theorem State.hitWatch_pc (s : State) (a : Word) (w : Bool) : (s.hitWatch a w).pc = s.pc := by unfold State.hitWatch; exact ite_field _ _ _ _ rfl rfl
@[simp] theorem State.hitWatch_cpsr (s : State) (a : Word) (w : Bool) : (s.hitWatch a w).cpsr = s.cpsr := by unfold State.hitWatch; exact ite_field _ _ _ _ rfl rfl
@[simp] theorem State.hitWatch_spsr (s : State) (a : Word) (w : Bool) : (s.hitWatch a w).spsr = s.spsr := by unfold State.hitWatch; exact ite_field _ _ _ _ rfl rfl
@[simp] theorem State.hitWatch_secure (s : State) (a : Word) (w : Bool) : (s.hitWatch a w).secure = s.secure := by unfold State.hitWatch; exact ite_field _ _ _ _ rfl rfl
@[simp] theorem State.hitWatch_nonSecure (s : State) (a : Word) (w : Bool) : (s.hitWatch a w).nonSecure = s.nonSecure := by unfold State.hitWatch; exact ite_field _ _ _ _ rfl rfl
@[simp] theorem State.hitWatch_cp15 (s : State) (a : Word) (w : Bool) : (s.hitWatch a w).cp15 = s.cp15 := by unfold State.hitWatch; exact ite_field _ _ _ _ rfl rfl
@[simp] theorem State.hitWatch_vfp (s : State) (a : Word) (w : Bool) : (s.hitWatch a w).vfp = s.vfp := by unfold State.hitWatch; exact ite_field _ _ _ _ rfl rfl
@[simp] theorem State.hitWatch_pins (s : State) (a : Word) (w : Bool) : (s.hitWatch a w).pins = s.pins := by unfold State.hitWatch; exact ite_field _ _ _ _ rfl rfl
@[simp] theorem State.hitWatch_mem (s : State) (a : Word) (w : Bool) : (s.hitWatch a w).mem = s.mem := by unfold State.hitWatch; exact ite_field _ _ _ _ rfl rfl
@[simp] theorem State.hitWatch_exclLocal (s : State) (a : Word) (w : Bool) : (s.hitWatch a w).exclLocal = s.exclLocal := by unfold State.hitWatch; exact ite_field _ _ _ _ rfl rfl
@[simp] theorem State.hitWatch_exclGlobal (s : State) (a : Word) (w : Bool) : (s.hitWatch a w).exclGlobal = s.exclGlobal := by unfold State.hitWatch; exact ite_field _ _ _ _ rfl rfl
@[simp] theorem State.hitWatch_pendingAbort (s : State) (a : Word) (w : Bool) : (s.hitWatch a w).pendingAbort = s.pendingAbort := by unfold State.hitWatch; exact ite_field _ _ _ _ rfl rfl
@[simp] theorem State.hitWatch_codeStale (s : State) (a : Word) (w : Bool) : (s.hitWatch a w).codeStale = s.codeStale := by unfold State.hitWatch; exact ite_field _ _ _ _ rfl rfl
@[simp] theorem State.hitWatch_dcache (s : State) (a : Word) (w : Bool) : (s.hitWatch a w).dcache = s.dcache := by unfold State.hitWatch; exact ite_field _ _ _ _ rfl rfl
@[simp] theorem State.hitWatch_walks (s : State) (a : Word) (w : Bool) : (s.hitWatch a w).walks = s.walks := by unfold State.hitWatch; exact ite_field _ _ _ _ rfl rfl
@[simp] theorem State.hitWatch_transfers (s : State) (a : Word) (w : Bool) : (s.hitWatch a w).transfers = s.transfers := by unfold State.hitWatch; exact ite_field _ _ _ _ rfl rfl
@[simp] theorem State.hitWatch_irqAcks (s : State) (a : Word) (w : Bool) : (s.hitWatch a w).irqAcks = s.irqAcks := by unfold State.hitWatch; exact ite_field _ _ _ _ rfl rfl
@[simp] theorem State.hitWatch_wrapped (s : State) (a : Word) (w : Bool) : (s.hitWatch a w).wrapped = s.wrapped := by unfold State.hitWatch; exact ite_field _ _ _ _ rfl rfl
@[simp] theorem State.hitWatch_jumped (s : State) (a : Word) (w : Bool) : (s.hitWatch a w).jumped = s.jumped := by unfold State.hitWatch; exact ite_field _ _ _ _ rfl rfl
@[simp] theorem State.hitWatch_draws (s : State) (a : Word) (w : Bool) : (s.hitWatch a w).draws = s.draws := by unfold State.hitWatch; exact ite_field _ _ _ _ rfl rfl

/-! `State.drawWalk` -/

@[simp] theorem State.drawWalk_gpr (s : State) : s.drawWalk.gpr = s.gpr := rfl
@[simp] theorem State.drawWalk_pc (s : State) : s.drawWalk.pc = s.pc := rfl
@[simp] theorem State.drawWalk_cpsr (s : State) : s.drawWalk.cpsr = s.cpsr := rfl
@[simp] theorem State.drawWalk_spsr (s : State) : s.drawWalk.spsr = s.spsr := rfl
@[simp] theorem State.drawWalk_secure (s : State) : s.drawWalk.secure = s.secure := rfl
@[simp] theorem State.drawWalk_nonSecure (s : State) : s.drawWalk.nonSecure = s.nonSecure := rfl
@[simp] theorem State.drawWalk_cp15 (s : State) : s.drawWalk.cp15 = s.cp15 := rfl
@[simp] theorem State.drawWalk_dbg (s : State) : s.drawWalk.dbg = s.dbg := rfl
@[simp] theorem State.drawWalk_vfp (s : State) : s.drawWalk.vfp = s.vfp := rfl
@[simp] theorem State.drawWalk_pins (s : State) : s.drawWalk.pins = s.pins := rfl
@[simp] theorem State.drawWalk_mem (s : State) : s.drawWalk.mem = s.mem := rfl
@[simp] theorem State.drawWalk_exclLocal (s : State) : s.drawWalk.exclLocal = s.exclLocal := rfl
@[simp] theorem State.drawWalk_exclGlobal (s : State) : s.drawWalk.exclGlobal = s.exclGlobal := rfl
@[simp] theorem State.drawWalk_pendingAbort (s : State) : s.drawWalk.pendingAbort = s.pendingAbort := rfl
@[simp] theorem State.drawWalk_codeStale (s : State) : s.drawWalk.codeStale = s.codeStale := rfl
@[simp] theorem State.drawWalk_dcache (s : State) : s.drawWalk.dcache = s.dcache := rfl
@[simp] theorem State.drawWalk_walks (s : State) : s.drawWalk.walks = s.walks := rfl
@[simp] theorem State.drawWalk_transfers (s : State) : s.drawWalk.transfers = s.transfers := rfl
@[simp] theorem State.drawWalk_irqAcks (s : State) : s.drawWalk.irqAcks = s.irqAcks := rfl
@[simp] theorem State.drawWalk_wrapped (s : State) : s.drawWalk.wrapped = s.wrapped := rfl
@[simp] theorem State.drawWalk_jumped (s : State) : s.drawWalk.jumped = s.jumped := rfl

/-! `State.addRecord` -/

@[simp] theorem State.addRecord_gpr (s : State) (r : WalkRecord) : (s.addRecord r).gpr = s.gpr := by unfold State.addRecord; exact ite_field _ _ _ _ rfl rfl
@[simp] theorem State.addRecord_pc (s : State) (r : WalkRecord) : (s.addRecord r).pc = s.pc := by unfold State.addRecord; exact ite_field _ _ _ _ rfl rfl
@[simp] theorem State.addRecord_cpsr (s : State) (r : WalkRecord) : (s.addRecord r).cpsr = s.cpsr := by unfold State.addRecord; exact ite_field _ _ _ _ rfl rfl
@[simp] theorem State.addRecord_spsr (s : State) (r : WalkRecord) : (s.addRecord r).spsr = s.spsr := by unfold State.addRecord; exact ite_field _ _ _ _ rfl rfl
@[simp] theorem State.addRecord_secure (s : State) (r : WalkRecord) : (s.addRecord r).secure = s.secure := by unfold State.addRecord; exact ite_field _ _ _ _ rfl rfl
@[simp] theorem State.addRecord_nonSecure (s : State) (r : WalkRecord) : (s.addRecord r).nonSecure = s.nonSecure := by unfold State.addRecord; exact ite_field _ _ _ _ rfl rfl
@[simp] theorem State.addRecord_cp15 (s : State) (r : WalkRecord) : (s.addRecord r).cp15 = s.cp15 := by unfold State.addRecord; exact ite_field _ _ _ _ rfl rfl
@[simp] theorem State.addRecord_dbg (s : State) (r : WalkRecord) : (s.addRecord r).dbg = s.dbg := by unfold State.addRecord; exact ite_field _ _ _ _ rfl rfl
@[simp] theorem State.addRecord_vfp (s : State) (r : WalkRecord) : (s.addRecord r).vfp = s.vfp := by unfold State.addRecord; exact ite_field _ _ _ _ rfl rfl
@[simp] theorem State.addRecord_pins (s : State) (r : WalkRecord) : (s.addRecord r).pins = s.pins := by unfold State.addRecord; exact ite_field _ _ _ _ rfl rfl
@[simp] theorem State.addRecord_mem (s : State) (r : WalkRecord) : (s.addRecord r).mem = s.mem := by unfold State.addRecord; exact ite_field _ _ _ _ rfl rfl
@[simp] theorem State.addRecord_exclLocal (s : State) (r : WalkRecord) : (s.addRecord r).exclLocal = s.exclLocal := by unfold State.addRecord; exact ite_field _ _ _ _ rfl rfl
@[simp] theorem State.addRecord_exclGlobal (s : State) (r : WalkRecord) : (s.addRecord r).exclGlobal = s.exclGlobal := by unfold State.addRecord; exact ite_field _ _ _ _ rfl rfl
@[simp] theorem State.addRecord_pendingAbort (s : State) (r : WalkRecord) : (s.addRecord r).pendingAbort = s.pendingAbort := by unfold State.addRecord; exact ite_field _ _ _ _ rfl rfl
@[simp] theorem State.addRecord_codeStale (s : State) (r : WalkRecord) : (s.addRecord r).codeStale = s.codeStale := by unfold State.addRecord; exact ite_field _ _ _ _ rfl rfl
@[simp] theorem State.addRecord_dcache (s : State) (r : WalkRecord) : (s.addRecord r).dcache = s.dcache := by unfold State.addRecord; exact ite_field _ _ _ _ rfl rfl
@[simp] theorem State.addRecord_transfers (s : State) (r : WalkRecord) : (s.addRecord r).transfers = s.transfers := by unfold State.addRecord; exact ite_field _ _ _ _ rfl rfl
@[simp] theorem State.addRecord_irqAcks (s : State) (r : WalkRecord) : (s.addRecord r).irqAcks = s.irqAcks := by unfold State.addRecord; exact ite_field _ _ _ _ rfl rfl
@[simp] theorem State.addRecord_wrapped (s : State) (r : WalkRecord) : (s.addRecord r).wrapped = s.wrapped := by unfold State.addRecord; exact ite_field _ _ _ _ rfl rfl
@[simp] theorem State.addRecord_jumped (s : State) (r : WalkRecord) : (s.addRecord r).jumped = s.jumped := by unfold State.addRecord; exact ite_field _ _ _ _ rfl rfl
@[simp] theorem State.addRecord_draws (s : State) (r : WalkRecord) : (s.addRecord r).draws = s.draws := by unfold State.addRecord; exact ite_field _ _ _ _ rfl rfl

/-! `State.recordWalk` -/

@[simp] theorem State.recordWalk_gpr (s : State) (ns : Bool) (a : BitVec 8) (v : Word) (m : Mapping) (w : Walk) : (s.recordWalk ns a v m w).gpr = s.gpr := by unfold State.recordWalk; simp
@[simp] theorem State.recordWalk_pc (s : State) (ns : Bool) (a : BitVec 8) (v : Word) (m : Mapping) (w : Walk) : (s.recordWalk ns a v m w).pc = s.pc := by unfold State.recordWalk; simp
@[simp] theorem State.recordWalk_cpsr (s : State) (ns : Bool) (a : BitVec 8) (v : Word) (m : Mapping) (w : Walk) : (s.recordWalk ns a v m w).cpsr = s.cpsr := by unfold State.recordWalk; simp
@[simp] theorem State.recordWalk_spsr (s : State) (ns : Bool) (a : BitVec 8) (v : Word) (m : Mapping) (w : Walk) : (s.recordWalk ns a v m w).spsr = s.spsr := by unfold State.recordWalk; simp
@[simp] theorem State.recordWalk_secure (s : State) (ns : Bool) (a : BitVec 8) (v : Word) (m : Mapping) (w : Walk) : (s.recordWalk ns a v m w).secure = s.secure := by unfold State.recordWalk; simp
@[simp] theorem State.recordWalk_nonSecure (s : State) (ns : Bool) (a : BitVec 8) (v : Word) (m : Mapping) (w : Walk) : (s.recordWalk ns a v m w).nonSecure = s.nonSecure := by unfold State.recordWalk; simp
@[simp] theorem State.recordWalk_cp15 (s : State) (ns : Bool) (a : BitVec 8) (v : Word) (m : Mapping) (w : Walk) : (s.recordWalk ns a v m w).cp15 = s.cp15 := by unfold State.recordWalk; simp
@[simp] theorem State.recordWalk_dbg (s : State) (ns : Bool) (a : BitVec 8) (v : Word) (m : Mapping) (w : Walk) : (s.recordWalk ns a v m w).dbg = s.dbg := by unfold State.recordWalk; simp
@[simp] theorem State.recordWalk_vfp (s : State) (ns : Bool) (a : BitVec 8) (v : Word) (m : Mapping) (w : Walk) : (s.recordWalk ns a v m w).vfp = s.vfp := by unfold State.recordWalk; simp
@[simp] theorem State.recordWalk_pins (s : State) (ns : Bool) (a : BitVec 8) (v : Word) (m : Mapping) (w : Walk) : (s.recordWalk ns a v m w).pins = s.pins := by unfold State.recordWalk; simp
@[simp] theorem State.recordWalk_mem (s : State) (ns : Bool) (a : BitVec 8) (v : Word) (m : Mapping) (w : Walk) : (s.recordWalk ns a v m w).mem = s.mem := by unfold State.recordWalk; simp
@[simp] theorem State.recordWalk_exclLocal (s : State) (ns : Bool) (a : BitVec 8) (v : Word) (m : Mapping) (w : Walk) : (s.recordWalk ns a v m w).exclLocal = s.exclLocal := by unfold State.recordWalk; simp
@[simp] theorem State.recordWalk_exclGlobal (s : State) (ns : Bool) (a : BitVec 8) (v : Word) (m : Mapping) (w : Walk) : (s.recordWalk ns a v m w).exclGlobal = s.exclGlobal := by unfold State.recordWalk; simp
@[simp] theorem State.recordWalk_pendingAbort (s : State) (ns : Bool) (a : BitVec 8) (v : Word) (m : Mapping) (w : Walk) : (s.recordWalk ns a v m w).pendingAbort = s.pendingAbort := by unfold State.recordWalk; simp
@[simp] theorem State.recordWalk_codeStale (s : State) (ns : Bool) (a : BitVec 8) (v : Word) (m : Mapping) (w : Walk) : (s.recordWalk ns a v m w).codeStale = s.codeStale := by unfold State.recordWalk; simp
@[simp] theorem State.recordWalk_dcache (s : State) (ns : Bool) (a : BitVec 8) (v : Word) (m : Mapping) (w : Walk) : (s.recordWalk ns a v m w).dcache = s.dcache := by unfold State.recordWalk; simp
@[simp] theorem State.recordWalk_transfers (s : State) (ns : Bool) (a : BitVec 8) (v : Word) (m : Mapping) (w : Walk) : (s.recordWalk ns a v m w).transfers = s.transfers := by unfold State.recordWalk; simp
@[simp] theorem State.recordWalk_irqAcks (s : State) (ns : Bool) (a : BitVec 8) (v : Word) (m : Mapping) (w : Walk) : (s.recordWalk ns a v m w).irqAcks = s.irqAcks := by unfold State.recordWalk; simp
@[simp] theorem State.recordWalk_wrapped (s : State) (ns : Bool) (a : BitVec 8) (v : Word) (m : Mapping) (w : Walk) : (s.recordWalk ns a v m w).wrapped = s.wrapped := by unfold State.recordWalk; simp
@[simp] theorem State.recordWalk_jumped (s : State) (ns : Bool) (a : BitVec 8) (v : Word) (m : Mapping) (w : Walk) : (s.recordWalk ns a v m w).jumped = s.jumped := by unfold State.recordWalk; simp
@[simp] theorem State.recordWalk_draws (s : State) (ns : Bool) (a : BitVec 8) (v : Word) (m : Mapping) (w : Walk) : (s.recordWalk ns a v m w).draws = s.draws := by unfold State.recordWalk; simp

/-! `State.recordFault` -/

@[simp] theorem State.recordFault_gpr (s : State) (ns : Bool) (v : Word) (w : Walk) : (s.recordFault ns v w).gpr = s.gpr := by unfold State.recordFault; simp
@[simp] theorem State.recordFault_pc (s : State) (ns : Bool) (v : Word) (w : Walk) : (s.recordFault ns v w).pc = s.pc := by unfold State.recordFault; simp
@[simp] theorem State.recordFault_cpsr (s : State) (ns : Bool) (v : Word) (w : Walk) : (s.recordFault ns v w).cpsr = s.cpsr := by unfold State.recordFault; simp
@[simp] theorem State.recordFault_spsr (s : State) (ns : Bool) (v : Word) (w : Walk) : (s.recordFault ns v w).spsr = s.spsr := by unfold State.recordFault; simp
@[simp] theorem State.recordFault_secure (s : State) (ns : Bool) (v : Word) (w : Walk) : (s.recordFault ns v w).secure = s.secure := by unfold State.recordFault; simp
@[simp] theorem State.recordFault_nonSecure (s : State) (ns : Bool) (v : Word) (w : Walk) : (s.recordFault ns v w).nonSecure = s.nonSecure := by unfold State.recordFault; simp
@[simp] theorem State.recordFault_cp15 (s : State) (ns : Bool) (v : Word) (w : Walk) : (s.recordFault ns v w).cp15 = s.cp15 := by unfold State.recordFault; simp
@[simp] theorem State.recordFault_dbg (s : State) (ns : Bool) (v : Word) (w : Walk) : (s.recordFault ns v w).dbg = s.dbg := by unfold State.recordFault; simp
@[simp] theorem State.recordFault_vfp (s : State) (ns : Bool) (v : Word) (w : Walk) : (s.recordFault ns v w).vfp = s.vfp := by unfold State.recordFault; simp
@[simp] theorem State.recordFault_pins (s : State) (ns : Bool) (v : Word) (w : Walk) : (s.recordFault ns v w).pins = s.pins := by unfold State.recordFault; simp
@[simp] theorem State.recordFault_mem (s : State) (ns : Bool) (v : Word) (w : Walk) : (s.recordFault ns v w).mem = s.mem := by unfold State.recordFault; simp
@[simp] theorem State.recordFault_exclLocal (s : State) (ns : Bool) (v : Word) (w : Walk) : (s.recordFault ns v w).exclLocal = s.exclLocal := by unfold State.recordFault; simp
@[simp] theorem State.recordFault_exclGlobal (s : State) (ns : Bool) (v : Word) (w : Walk) : (s.recordFault ns v w).exclGlobal = s.exclGlobal := by unfold State.recordFault; simp
@[simp] theorem State.recordFault_pendingAbort (s : State) (ns : Bool) (v : Word) (w : Walk) : (s.recordFault ns v w).pendingAbort = s.pendingAbort := by unfold State.recordFault; simp
@[simp] theorem State.recordFault_codeStale (s : State) (ns : Bool) (v : Word) (w : Walk) : (s.recordFault ns v w).codeStale = s.codeStale := by unfold State.recordFault; simp
@[simp] theorem State.recordFault_dcache (s : State) (ns : Bool) (v : Word) (w : Walk) : (s.recordFault ns v w).dcache = s.dcache := by unfold State.recordFault; simp
@[simp] theorem State.recordFault_transfers (s : State) (ns : Bool) (v : Word) (w : Walk) : (s.recordFault ns v w).transfers = s.transfers := by unfold State.recordFault; simp
@[simp] theorem State.recordFault_irqAcks (s : State) (ns : Bool) (v : Word) (w : Walk) : (s.recordFault ns v w).irqAcks = s.irqAcks := by unfold State.recordFault; simp
@[simp] theorem State.recordFault_wrapped (s : State) (ns : Bool) (v : Word) (w : Walk) : (s.recordFault ns v w).wrapped = s.wrapped := by unfold State.recordFault; simp
@[simp] theorem State.recordFault_jumped (s : State) (ns : Bool) (v : Word) (w : Walk) : (s.recordFault ns v w).jumped = s.jumped := by unfold State.recordFault; simp
@[simp] theorem State.recordFault_draws (s : State) (ns : Bool) (v : Word) (w : Walk) : (s.recordFault ns v w).draws = s.draws := by unfold State.recordFault; simp

/-! `State.lockWalk` -/

@[simp] theorem State.lockWalk_gpr (s : State) (ns : Bool) (a : BitVec 8) (v : Word) (m : Mapping) (l2 : Word) : (s.lockWalk ns a v m l2).gpr = s.gpr := by unfold State.lockWalk; split <;> rfl
@[simp] theorem State.lockWalk_pc (s : State) (ns : Bool) (a : BitVec 8) (v : Word) (m : Mapping) (l2 : Word) : (s.lockWalk ns a v m l2).pc = s.pc := by unfold State.lockWalk; split <;> rfl
@[simp] theorem State.lockWalk_cpsr (s : State) (ns : Bool) (a : BitVec 8) (v : Word) (m : Mapping) (l2 : Word) : (s.lockWalk ns a v m l2).cpsr = s.cpsr := by unfold State.lockWalk; split <;> rfl
@[simp] theorem State.lockWalk_spsr (s : State) (ns : Bool) (a : BitVec 8) (v : Word) (m : Mapping) (l2 : Word) : (s.lockWalk ns a v m l2).spsr = s.spsr := by unfold State.lockWalk; split <;> rfl
@[simp] theorem State.lockWalk_secure (s : State) (ns : Bool) (a : BitVec 8) (v : Word) (m : Mapping) (l2 : Word) : (s.lockWalk ns a v m l2).secure = s.secure := by unfold State.lockWalk; split <;> rfl
@[simp] theorem State.lockWalk_nonSecure (s : State) (ns : Bool) (a : BitVec 8) (v : Word) (m : Mapping) (l2 : Word) : (s.lockWalk ns a v m l2).nonSecure = s.nonSecure := by unfold State.lockWalk; split <;> rfl
@[simp] theorem State.lockWalk_dbg (s : State) (ns : Bool) (a : BitVec 8) (v : Word) (m : Mapping) (l2 : Word) : (s.lockWalk ns a v m l2).dbg = s.dbg := by unfold State.lockWalk; split <;> rfl
@[simp] theorem State.lockWalk_vfp (s : State) (ns : Bool) (a : BitVec 8) (v : Word) (m : Mapping) (l2 : Word) : (s.lockWalk ns a v m l2).vfp = s.vfp := by unfold State.lockWalk; split <;> rfl
@[simp] theorem State.lockWalk_pins (s : State) (ns : Bool) (a : BitVec 8) (v : Word) (m : Mapping) (l2 : Word) : (s.lockWalk ns a v m l2).pins = s.pins := by unfold State.lockWalk; split <;> rfl
@[simp] theorem State.lockWalk_mem (s : State) (ns : Bool) (a : BitVec 8) (v : Word) (m : Mapping) (l2 : Word) : (s.lockWalk ns a v m l2).mem = s.mem := by unfold State.lockWalk; split <;> rfl
@[simp] theorem State.lockWalk_exclLocal (s : State) (ns : Bool) (a : BitVec 8) (v : Word) (m : Mapping) (l2 : Word) : (s.lockWalk ns a v m l2).exclLocal = s.exclLocal := by unfold State.lockWalk; split <;> rfl
@[simp] theorem State.lockWalk_exclGlobal (s : State) (ns : Bool) (a : BitVec 8) (v : Word) (m : Mapping) (l2 : Word) : (s.lockWalk ns a v m l2).exclGlobal = s.exclGlobal := by unfold State.lockWalk; split <;> rfl
@[simp] theorem State.lockWalk_pendingAbort (s : State) (ns : Bool) (a : BitVec 8) (v : Word) (m : Mapping) (l2 : Word) : (s.lockWalk ns a v m l2).pendingAbort = s.pendingAbort := by unfold State.lockWalk; split <;> rfl
@[simp] theorem State.lockWalk_codeStale (s : State) (ns : Bool) (a : BitVec 8) (v : Word) (m : Mapping) (l2 : Word) : (s.lockWalk ns a v m l2).codeStale = s.codeStale := by unfold State.lockWalk; split <;> rfl
@[simp] theorem State.lockWalk_dcache (s : State) (ns : Bool) (a : BitVec 8) (v : Word) (m : Mapping) (l2 : Word) : (s.lockWalk ns a v m l2).dcache = s.dcache := by unfold State.lockWalk; split <;> rfl
@[simp] theorem State.lockWalk_walks (s : State) (ns : Bool) (a : BitVec 8) (v : Word) (m : Mapping) (l2 : Word) : (s.lockWalk ns a v m l2).walks = s.walks := by unfold State.lockWalk; split <;> rfl
@[simp] theorem State.lockWalk_transfers (s : State) (ns : Bool) (a : BitVec 8) (v : Word) (m : Mapping) (l2 : Word) : (s.lockWalk ns a v m l2).transfers = s.transfers := by unfold State.lockWalk; split <;> rfl
@[simp] theorem State.lockWalk_irqAcks (s : State) (ns : Bool) (a : BitVec 8) (v : Word) (m : Mapping) (l2 : Word) : (s.lockWalk ns a v m l2).irqAcks = s.irqAcks := by unfold State.lockWalk; split <;> rfl
@[simp] theorem State.lockWalk_wrapped (s : State) (ns : Bool) (a : BitVec 8) (v : Word) (m : Mapping) (l2 : Word) : (s.lockWalk ns a v m l2).wrapped = s.wrapped := by unfold State.lockWalk; split <;> rfl
@[simp] theorem State.lockWalk_jumped (s : State) (ns : Bool) (a : BitVec 8) (v : Word) (m : Mapping) (l2 : Word) : (s.lockWalk ns a v m l2).jumped = s.jumped := by unfold State.lockWalk; split <;> rfl
@[simp] theorem State.lockWalk_draws (s : State) (ns : Bool) (a : BitVec 8) (v : Word) (m : Mapping) (l2 : Word) : (s.lockWalk ns a v m l2).draws = s.draws := by unfold State.lockWalk; split <;> rfl

/-! `State.impreciseAbort` -/

@[simp] theorem State.impreciseAbort_gpr (s : State) (e : BusError) (w : Bool) : (s.impreciseAbort e w).gpr = s.gpr := by unfold State.impreciseAbort; cases s.halted <;> exact ite_field _ _ _ _ rfl rfl
@[simp] theorem State.impreciseAbort_pc (s : State) (e : BusError) (w : Bool) : (s.impreciseAbort e w).pc = s.pc := by unfold State.impreciseAbort; cases s.halted <;> exact ite_field _ _ _ _ rfl rfl
@[simp] theorem State.impreciseAbort_cpsr (s : State) (e : BusError) (w : Bool) : (s.impreciseAbort e w).cpsr = s.cpsr := by unfold State.impreciseAbort; cases s.halted <;> exact ite_field _ _ _ _ rfl rfl
@[simp] theorem State.impreciseAbort_spsr (s : State) (e : BusError) (w : Bool) : (s.impreciseAbort e w).spsr = s.spsr := by unfold State.impreciseAbort; cases s.halted <;> exact ite_field _ _ _ _ rfl rfl
@[simp] theorem State.impreciseAbort_secure (s : State) (e : BusError) (w : Bool) : (s.impreciseAbort e w).secure = s.secure := by unfold State.impreciseAbort; cases s.halted <;> exact ite_field _ _ _ _ rfl rfl
@[simp] theorem State.impreciseAbort_nonSecure (s : State) (e : BusError) (w : Bool) : (s.impreciseAbort e w).nonSecure = s.nonSecure := by unfold State.impreciseAbort; cases s.halted <;> exact ite_field _ _ _ _ rfl rfl
@[simp] theorem State.impreciseAbort_cp15 (s : State) (e : BusError) (w : Bool) : (s.impreciseAbort e w).cp15 = s.cp15 := by unfold State.impreciseAbort; cases s.halted <;> exact ite_field _ _ _ _ rfl rfl
@[simp] theorem State.impreciseAbort_vfp (s : State) (e : BusError) (w : Bool) : (s.impreciseAbort e w).vfp = s.vfp := by unfold State.impreciseAbort; cases s.halted <;> exact ite_field _ _ _ _ rfl rfl
@[simp] theorem State.impreciseAbort_pins (s : State) (e : BusError) (w : Bool) : (s.impreciseAbort e w).pins = s.pins := by unfold State.impreciseAbort; cases s.halted <;> exact ite_field _ _ _ _ rfl rfl
@[simp] theorem State.impreciseAbort_mem (s : State) (e : BusError) (w : Bool) : (s.impreciseAbort e w).mem = s.mem := by unfold State.impreciseAbort; cases s.halted <;> exact ite_field _ _ _ _ rfl rfl
@[simp] theorem State.impreciseAbort_exclLocal (s : State) (e : BusError) (w : Bool) : (s.impreciseAbort e w).exclLocal = s.exclLocal := by unfold State.impreciseAbort; cases s.halted <;> exact ite_field _ _ _ _ rfl rfl
@[simp] theorem State.impreciseAbort_exclGlobal (s : State) (e : BusError) (w : Bool) : (s.impreciseAbort e w).exclGlobal = s.exclGlobal := by unfold State.impreciseAbort; cases s.halted <;> exact ite_field _ _ _ _ rfl rfl
@[simp] theorem State.impreciseAbort_codeStale (s : State) (e : BusError) (w : Bool) : (s.impreciseAbort e w).codeStale = s.codeStale := by unfold State.impreciseAbort; cases s.halted <;> exact ite_field _ _ _ _ rfl rfl
@[simp] theorem State.impreciseAbort_dcache (s : State) (e : BusError) (w : Bool) : (s.impreciseAbort e w).dcache = s.dcache := by unfold State.impreciseAbort; cases s.halted <;> exact ite_field _ _ _ _ rfl rfl
@[simp] theorem State.impreciseAbort_walks (s : State) (e : BusError) (w : Bool) : (s.impreciseAbort e w).walks = s.walks := by unfold State.impreciseAbort; cases s.halted <;> exact ite_field _ _ _ _ rfl rfl
@[simp] theorem State.impreciseAbort_transfers (s : State) (e : BusError) (w : Bool) : (s.impreciseAbort e w).transfers = s.transfers := by unfold State.impreciseAbort; cases s.halted <;> exact ite_field _ _ _ _ rfl rfl
@[simp] theorem State.impreciseAbort_irqAcks (s : State) (e : BusError) (w : Bool) : (s.impreciseAbort e w).irqAcks = s.irqAcks := by unfold State.impreciseAbort; cases s.halted <;> exact ite_field _ _ _ _ rfl rfl
@[simp] theorem State.impreciseAbort_wrapped (s : State) (e : BusError) (w : Bool) : (s.impreciseAbort e w).wrapped = s.wrapped := by unfold State.impreciseAbort; cases s.halted <;> exact ite_field _ _ _ _ rfl rfl
@[simp] theorem State.impreciseAbort_jumped (s : State) (e : BusError) (w : Bool) : (s.impreciseAbort e w).jumped = s.jumped := by unfold State.impreciseAbort; cases s.halted <;> exact ite_field _ _ _ _ rfl rfl
@[simp] theorem State.impreciseAbort_draws (s : State) (e : BusError) (w : Bool) : (s.impreciseAbort e w).draws = s.draws := by unfold State.impreciseAbort; cases s.halted <;> exact ite_field _ _ _ _ rfl rfl

/-! `State.noteWatch` changes the debug unit only -/

@[simp] theorem State.noteWatch_gpr (s : State) (p : Acc) (va : Word) (n : Nat) : (s.noteWatch p va n).gpr = s.gpr := by
  induction n with
  | zero => rfl
  | succ n ih => simp only [State.noteWatch]; split <;> simp [ih]

@[simp] theorem State.noteWatch_pc (s : State) (p : Acc) (va : Word) (n : Nat) : (s.noteWatch p va n).pc = s.pc := by
  induction n with
  | zero => rfl
  | succ n ih => simp only [State.noteWatch]; split <;> simp [ih]

@[simp] theorem State.noteWatch_cpsr (s : State) (p : Acc) (va : Word) (n : Nat) : (s.noteWatch p va n).cpsr = s.cpsr := by
  induction n with
  | zero => rfl
  | succ n ih => simp only [State.noteWatch]; split <;> simp [ih]

@[simp] theorem State.noteWatch_spsr (s : State) (p : Acc) (va : Word) (n : Nat) : (s.noteWatch p va n).spsr = s.spsr := by
  induction n with
  | zero => rfl
  | succ n ih => simp only [State.noteWatch]; split <;> simp [ih]

@[simp] theorem State.noteWatch_secure (s : State) (p : Acc) (va : Word) (n : Nat) : (s.noteWatch p va n).secure = s.secure := by
  induction n with
  | zero => rfl
  | succ n ih => simp only [State.noteWatch]; split <;> simp [ih]

@[simp] theorem State.noteWatch_nonSecure (s : State) (p : Acc) (va : Word) (n : Nat) : (s.noteWatch p va n).nonSecure = s.nonSecure := by
  induction n with
  | zero => rfl
  | succ n ih => simp only [State.noteWatch]; split <;> simp [ih]

@[simp] theorem State.noteWatch_cp15 (s : State) (p : Acc) (va : Word) (n : Nat) : (s.noteWatch p va n).cp15 = s.cp15 := by
  induction n with
  | zero => rfl
  | succ n ih => simp only [State.noteWatch]; split <;> simp [ih]

@[simp] theorem State.noteWatch_vfp (s : State) (p : Acc) (va : Word) (n : Nat) : (s.noteWatch p va n).vfp = s.vfp := by
  induction n with
  | zero => rfl
  | succ n ih => simp only [State.noteWatch]; split <;> simp [ih]

@[simp] theorem State.noteWatch_pins (s : State) (p : Acc) (va : Word) (n : Nat) : (s.noteWatch p va n).pins = s.pins := by
  induction n with
  | zero => rfl
  | succ n ih => simp only [State.noteWatch]; split <;> simp [ih]

@[simp] theorem State.noteWatch_mem (s : State) (p : Acc) (va : Word) (n : Nat) : (s.noteWatch p va n).mem = s.mem := by
  induction n with
  | zero => rfl
  | succ n ih => simp only [State.noteWatch]; split <;> simp [ih]

@[simp] theorem State.noteWatch_exclLocal (s : State) (p : Acc) (va : Word) (n : Nat) : (s.noteWatch p va n).exclLocal = s.exclLocal := by
  induction n with
  | zero => rfl
  | succ n ih => simp only [State.noteWatch]; split <;> simp [ih]

@[simp] theorem State.noteWatch_exclGlobal (s : State) (p : Acc) (va : Word) (n : Nat) : (s.noteWatch p va n).exclGlobal = s.exclGlobal := by
  induction n with
  | zero => rfl
  | succ n ih => simp only [State.noteWatch]; split <;> simp [ih]

@[simp] theorem State.noteWatch_pendingAbort (s : State) (p : Acc) (va : Word) (n : Nat) : (s.noteWatch p va n).pendingAbort = s.pendingAbort := by
  induction n with
  | zero => rfl
  | succ n ih => simp only [State.noteWatch]; split <;> simp [ih]

@[simp] theorem State.noteWatch_codeStale (s : State) (p : Acc) (va : Word) (n : Nat) : (s.noteWatch p va n).codeStale = s.codeStale := by
  induction n with
  | zero => rfl
  | succ n ih => simp only [State.noteWatch]; split <;> simp [ih]

@[simp] theorem State.noteWatch_dcache (s : State) (p : Acc) (va : Word) (n : Nat) : (s.noteWatch p va n).dcache = s.dcache := by
  induction n with
  | zero => rfl
  | succ n ih => simp only [State.noteWatch]; split <;> simp [ih]

@[simp] theorem State.noteWatch_walks (s : State) (p : Acc) (va : Word) (n : Nat) : (s.noteWatch p va n).walks = s.walks := by
  induction n with
  | zero => rfl
  | succ n ih => simp only [State.noteWatch]; split <;> simp [ih]

@[simp] theorem State.noteWatch_transfers (s : State) (p : Acc) (va : Word) (n : Nat) : (s.noteWatch p va n).transfers = s.transfers := by
  induction n with
  | zero => rfl
  | succ n ih => simp only [State.noteWatch]; split <;> simp [ih]

@[simp] theorem State.noteWatch_irqAcks (s : State) (p : Acc) (va : Word) (n : Nat) : (s.noteWatch p va n).irqAcks = s.irqAcks := by
  induction n with
  | zero => rfl
  | succ n ih => simp only [State.noteWatch]; split <;> simp [ih]

@[simp] theorem State.noteWatch_wrapped (s : State) (p : Acc) (va : Word) (n : Nat) : (s.noteWatch p va n).wrapped = s.wrapped := by
  induction n with
  | zero => rfl
  | succ n ih => simp only [State.noteWatch]; split <;> simp [ih]

@[simp] theorem State.noteWatch_jumped (s : State) (p : Acc) (va : Word) (n : Nat) : (s.noteWatch p va n).jumped = s.jumped := by
  induction n with
  | zero => rfl
  | succ n ih => simp only [State.noteWatch]; split <;> simp [ih]

@[simp] theorem State.noteWatch_draws (s : State) (p : Acc) (va : Word) (n : Nat) : (s.noteWatch p va n).draws = s.draws := by
  induction n with
  | zero => rfl
  | succ n ih => simp only [State.noteWatch]; split <;> simp [ih]

/-! `enterException` -/

@[simp] theorem enterException_secure (x : Exc) (s : State) : (enterException x s).secure = s.secure := by
  simp [enterException]
@[simp] theorem enterException_nonSecure (x : Exc) (s : State) : (enterException x s).nonSecure = s.nonSecure := by
  simp [enterException]
@[simp] theorem enterException_vfp (x : Exc) (s : State) : (enterException x s).vfp = s.vfp := by
  simp [enterException]
@[simp] theorem enterException_pins (x : Exc) (s : State) : (enterException x s).pins = s.pins := by
  simp [enterException]
@[simp] theorem enterException_mem (x : Exc) (s : State) : (enterException x s).mem = s.mem := by
  simp [enterException]
@[simp] theorem enterException_exclLocal (x : Exc) (s : State) : (enterException x s).exclLocal = s.exclLocal := by
  simp [enterException]
@[simp] theorem enterException_exclGlobal (x : Exc) (s : State) : (enterException x s).exclGlobal = s.exclGlobal := by
  simp [enterException]
@[simp] theorem enterException_pendingAbort (x : Exc) (s : State) : (enterException x s).pendingAbort = s.pendingAbort := by
  simp [enterException]
@[simp] theorem enterException_dcache (x : Exc) (s : State) : (enterException x s).dcache = s.dcache := by
  simp [enterException]
@[simp] theorem enterException_walks (x : Exc) (s : State) : (enterException x s).walks = s.walks := by
  simp [enterException]
@[simp] theorem enterException_transfers (x : Exc) (s : State) : (enterException x s).transfers = s.transfers := by
  simp [enterException]
@[simp] theorem enterException_wrapped (x : Exc) (s : State) : (enterException x s).wrapped = s.wrapped := by
  simp [enterException]
@[simp] theorem enterException_jumped (x : Exc) (s : State) : (enterException x s).jumped = s.jumped := by
  simp [enterException]
@[simp] theorem enterException_draws (x : Exc) (s : State) : (enterException x s).draws = s.draws := by
  simp [enterException]

/-! What the updates put -/

@[simp] theorem State.branchTo_pc (s : State) (a : Word) : (s.branchTo a).pc = a := rfl

/-- Outside Debug state the address is put as it is. -/
theorem State.branchBy_of_running {s : State} (a : Word) (h : s.halted = false) : s.branchBy a = s.branchTo a := by
  simp [State.branchBy, h]

/-- A branch that keeps the instruction set leaves a multiple of the instruction length in the PC (R567). -/
theorem State.branchKeep_pcAligned (s : State) (a : Word) : (s.branchKeep a).pcAligned = true := by
  have h : (a &&& ~~~3#32).extractLsb' 0 2 = 0#2 := by
    ext i hi
    have : i = 0 ∨ i = 1 := by omega
    rcases this with rfl | rfl <;> simp
  unfold State.branchKeep State.pcAligned
  rw [State.branchTo_cpsr, State.branchTo_pc]
  split
  · simp
  · rw [h]; rfl

/-- In Debug state the PC holds what it can hold of the address. -/
theorem State.branchBy_of_halted {s : State} (a : Word) (h : s.halted = true) : s.branchBy a = s.branchKeep a := by
  simp [State.branchBy, State.branchKeep, h]

@[simp] theorem State.setFlags_cpsr (s : State) (p : Psr) : (s.setFlags p).cpsr = p := rfl

@[simp] theorem State.setFlags_halted (s : State) (p : Psr) : (s.setFlags p).halted = s.halted := rfl

/-- Outside Debug state the flags alone change. -/
theorem State.setFlags_of_running {s : State} (p : Psr) (h : s.halted = false) : s.setFlags p = { s with cpsr := p } := by
  simp [State.setFlags, h]

@[simp] theorem State.setCpsr_cpsr (s : State) (p : Psr) : (s.setCpsr p).cpsr = p := by simp [State.setCpsr]

@[simp] theorem State.setReg_halted (s : State) (n : RegNo) (v : Word) : (s.setReg n v).halted = s.halted := rfl

@[simp] theorem State.setReg_thumb (s : State) (n : RegNo) (v : Word) : (s.setReg n v).thumb = s.thumb := rfl

@[simp] theorem State.branchTo_halted (s : State) (a : Word) : (s.branchTo a).halted = s.halted := rfl

@[simp] theorem State.branchBy_halted (s : State) (a : Word) : (s.branchBy a).halted = s.halted := rfl

@[simp] theorem State.setCpsr_halted (s : State) (p : Psr) : (s.setCpsr p).halted = s.halted := by
  simp [State.setCpsr, State.halted]

@[simp] theorem State.next_halted (s : State) : s.next.halted = s.halted := by unfold State.next; split <;> rfl

/-- Outside Debug state the PC moves on by the length of the instruction. -/
theorem State.next_pc (s : State) (h : s.halted = false) : s.next.pc = s.pc + s.instrLength := by
  simp [State.next, h]

/-- In Debug state the PC is frozen. -/
theorem State.next_of_halted (s : State) (h : s.halted = true) : s.next = s := by simp [State.next, h]

/-- A slot that has been written holds what was written, and no other slot changes. -/
theorem State.setSlot_get (s : State) (k j : Fin 32) (v : Word) :
    (s.setSlot k v).gpr[j] = if k = j then v else s.gpr[j] := by
  simp only [State.setSlot, Fin.getElem_fin, Vector.getElem_set, Fin.ext_iff]

/-- A register that has been written reads as what was written. -/
theorem State.reg_setReg_same (s : State) (n : RegNo) (v : Word) (h : n ≠ 15) : (s.setReg n v).reg n = v := by
  have e : (s.setReg n v).reg n = (s.setSlot (slot s.cpsr.mode n) v).gpr[slot s.cpsr.mode n] := by
    simp only [State.reg, State.regOf, if_neg h]; rfl
  rw [e, State.setSlot_get, if_pos rfl]

/-- The names of two registers of a mode, R15 apart, never share a slot. -/
theorem slot_injective (m : Mode) (a b : RegNo) (ha : a ≠ 15) (hb : b ≠ 15) (h : slot m a = slot m b) : a = b := by
  revert a b; cases m <;> decide

/-- Writing a register leaves the others of the mode alone. -/
theorem State.reg_setReg_other (s : State) (n k : RegNo) (v : Word) (hn : n ≠ 15) (h : k ≠ n) :
    (s.setReg n v).reg k = s.reg k := by
  by_cases hk : k = 15
  · subst hk; rfl
  · have e : (s.setReg n v).reg k = (s.setSlot (slot s.cpsr.mode n) v).gpr[slot s.cpsr.mode k] := by
      simp only [State.reg, State.regOf, if_neg hk]; rfl
    rw [e, State.setSlot_get, if_neg fun he => h (slot_injective _ _ _ hn hk he).symm]
    simp only [State.reg, State.regOf, if_neg hk]

end Sys2Proof.Machine
end

