-- ==== Sys2Proof/Laws/Memory.lean ====
section
/-! SUPPORT. Laws/Memory: reading what was written, and that every write keeps the canonical form. -/

namespace Sys2Proof.Machine

/-- Every key of a memory is above a bound. -/
def Memory.above (k : Nat) (m : List Host.Cell) : Prop := ∀ c ∈ m, k < c.1

/-- The canonical form of a memory with a first byte. -/
theorem Memory.wf_cons (a : Nat) (b : Byte) (m : List Host.Cell) :
    Memory.wf ((a, b) :: m) = true ↔ b ≠ 0 ∧ Memory.above a m ∧ Memory.wf m = true := by
  induction m generalizing a b with
  | nil => simp [Memory.wf, Memory.above]
  | cons c m ih =>
    obtain ⟨a', b'⟩ := c
    simp only [Memory.wf, Bool.and_eq_true, bne_iff_ne, decide_eq_true_eq, Memory.above, List.mem_cons,
      forall_eq_or_imp]
    rw [ih a' b']
    constructor
    · rintro ⟨⟨hb, hlt⟩, hb', hm, hw⟩
      exact ⟨hb, ⟨hlt, fun c hc => lt_trans hlt (hm c hc)⟩, hb', hm, hw⟩
    · rintro ⟨hb, ⟨hlt, -⟩, hb', hm, hw⟩
      exact ⟨⟨hb, hlt⟩, hb', hm, hw⟩

/-- A write adds no key but its own. -/
theorem Memory.above_write (j k : Nat) (v : Byte) (m : List Host.Cell) (h : Memory.above j m) (hk : j < k) :
    Memory.above j (Memory.write m k v) := by
  induction m with
  | nil =>
    simp only [Memory.write]
    split
    · intro c hc; cases hc
    · intro c hc
      rcases List.mem_singleton.mp hc with rfl
      exact hk
  | cons c m ih =>
    obtain ⟨a, b⟩ := c
    have ha : j < a := h (a, b) List.mem_cons_self
    have hm : Memory.above j m := fun c hc => h c (List.mem_cons_of_mem _ hc)
    simp only [Memory.write]
    split
    · split
      · exact h
      · intro c hc
        rcases List.mem_cons.mp hc with rfl | hc
        · exact hk
        · exact h c hc
    · split
      · split
        · exact hm
        · intro c hc
          rcases List.mem_cons.mp hc with rfl | hc
          · exact hk
          · exact hm c hc
      · intro c hc
        rcases List.mem_cons.mp hc with rfl | hc
        · exact ha
        · exact ih hm c hc

/-- Every write keeps the canonical form. -/
theorem Memory.wf_write (m : List Host.Cell) (k : Nat) (v : Byte) (h : Memory.wf m = true) :
    Memory.wf (Memory.write m k v) = true := by
  induction m with
  | nil =>
    simp only [Memory.write]
    split
    · rfl
    · simpa [Memory.wf] using ‹¬v = 0›
  | cons c m ih =>
    obtain ⟨a, b⟩ := c
    obtain ⟨hb, hm, hw⟩ := (Memory.wf_cons a b m).mp h
    simp only [Memory.write]
    split
    · split
      · exact h
      · rename_i hlt hv
        refine (Memory.wf_cons k v _).mpr ⟨hv, fun c hc => ?_, h⟩
        rcases List.mem_cons.mp hc with rfl | hc
        · exact hlt
        · exact lt_trans hlt (hm c hc)
    · split
      · rename_i hk
        subst hk
        split
        · exact hw
        · rename_i hv
          exact (Memory.wf_cons k v m).mpr ⟨hv, hm, hw⟩
      · rename_i h1 h2
        exact (Memory.wf_cons a b _).mpr ⟨hb, Memory.above_write a k v m hm (by omega), ih hw⟩

/-- A key below all that are listed reads as zero. -/
theorem Memory.read_above (k : Nat) (m : List Host.Cell) (h : Memory.above k m) : Memory.read m k = 0 := by
  cases m with
  | nil => rfl
  | cons c m =>
    obtain ⟨a, b⟩ := c
    have ha : k < a := h (a, b) List.mem_cons_self
    simp only [Memory.read]
    rw [if_neg (by omega), if_pos ha]

/-- What was written is read. -/
theorem Memory.read_write_same (m : List Host.Cell) (k : Nat) (v : Byte) (h : Memory.wf m = true) :
    Memory.read (Memory.write m k v) k = v := by
  induction m with
  | nil =>
    simp only [Memory.write]
    split
    · rename_i hv; exact hv.symm
    · simp [Memory.read]
  | cons c m ih =>
    obtain ⟨a, b⟩ := c
    obtain ⟨hb, hm, hw⟩ := (Memory.wf_cons a b m).mp h
    simp only [Memory.write]
    split
    · rename_i hlt
      split
      · rename_i hv
        simp only [Memory.read]
        rw [if_neg (by omega), if_pos hlt, hv]
      · simp [Memory.read]
    · split
      · rename_i hk
        split
        · rename_i hv
          rw [hv, hk]
          exact Memory.read_above a m hm
        · simp [Memory.read]
      · rename_i h1 h2
        simp only [Memory.read]
        rw [if_neg h2, if_neg h1]
        exact ih hw

/-- Every other byte reads as before. -/
theorem Memory.read_write_other (m : List Host.Cell) (j k : Nat) (v : Byte) (h : Memory.wf m = true) (hne : j ≠ k) :
    Memory.read (Memory.write m k v) j = Memory.read m j := by
  induction m with
  | nil =>
    simp only [Memory.write]
    split
    · rfl
    · simp only [Memory.read]
      rw [if_neg hne]
      split <;> rfl
  | cons c m ih =>
    obtain ⟨a, b⟩ := c
    obtain ⟨hb, hm, hw⟩ := (Memory.wf_cons a b m).mp h
    simp only [Memory.write]
    split
    · rename_i hlt
      split
      · rfl
      · simp only [Memory.read]
        rw [if_neg hne]
        by_cases hj : j < k
        · rw [if_pos hj, if_neg (by omega), if_pos (by omega)]
        · rw [if_neg hj]
    · split
      · rename_i hk
        subst hk
        split
        · simp only [Memory.read]
          rw [if_neg hne]
          by_cases hj : j < k
          · rw [if_pos hj]
            exact Memory.read_above j m fun c hc => lt_trans hj (hm c hc)
          · rw [if_neg hj]
        · simp only [Memory.read]
          rw [if_neg hne, if_neg hne]
      · simp only [Memory.read]
        by_cases hj : j = a
        · rw [if_pos hj, if_pos hj]
        · rw [if_neg hj, if_neg hj]
          split
          · rfl
          · exact ih hw

/-- The memory of the reset state is in canonical form. -/
theorem reset_memory_wf (p : Pins) : Memory.wf (State.resetWith p).mem = true := rfl

/-- Storing a byte keeps the canonical form. -/
theorem State.storeByte_wf (s : State) (k : Nat) (v : Byte) (h : Memory.wf s.mem = true) :
    Memory.wf (s.storeByte k v).mem = true := Memory.wf_write _ _ _ h

/-- A byte that has been stored reads as what was stored, and every other byte as before. -/
theorem State.storeByte_read (s : State) (k j : Nat) (v : Byte) (h : Memory.wf s.mem = true) :
    Memory.read (s.storeByte k v).mem j = if j = k then v else Memory.read s.mem j := by
  split
  · rename_i e; subst e; exact Memory.read_write_same _ _ _ h
  · rename_i e; exact Memory.read_write_other _ _ _ _ h e

end Sys2Proof.Machine
end

