-- ==== Sys2Proof/Laws/Ops.lean ====
section
/-! SUPPORT. Laws/Ops: what each shared operation answers, so that a proof about an instruction cites it and unfolds
nothing; and what passes from the parts of a meaning to the whole. -/

namespace Sys2Proof.Machine

/-! Running a meaning -/

theorem exec_bind {α β : Type} (m : Exec α) (f : α → Exec β) (s : State) :
    (m >>= f) s = match m s with | .ok (a, t) => f a t | .error e => .error e := by
  simp only [bind, StateT.bind]
  cases m s <;> rfl

theorem exec_map {α β : Type} (f : α → β) (m : Exec α) (s : State) :
    (f <$> m) s = match m s with | .ok (a, t) => .ok (f a, t) | .error e => .error e := by
  simp only [Functor.map, StateT.map]
  cases m s <;> rfl

/-- A part that completes hands its value and state to the rest. -/
theorem exec_bind_ok {α β : Type} {m : Exec α} {f : α → Exec β} {s t : State} {a : α} (h : m s = .ok (a, t)) :
    (m >>= f) s = f a t := by rw [exec_bind, h]

/-- A part that ends the instruction ends the whole. -/
theorem exec_bind_error {α β : Type} {m : Exec α} {f : α → Exec β} {s : State} {e : Stop} (h : m s = .error e) :
    (m >>= f) s = .error e := by rw [exec_bind, h]

/-- A sequence that completes: both its parts do. -/
theorem exec_bind_ok_iff {α β : Type} {m : Exec α} {f : α → Exec β} {s u : State} {b : β} :
    (m >>= f) s = .ok (b, u) ↔ ∃ a t, m s = .ok (a, t) ∧ f a t = .ok (b, u) := by
  rw [exec_bind]
  cases h : m s with
  | error e => simp
  | ok r => obtain ⟨a, t⟩ := r; simp

theorem exec_pure {α : Type} (a : α) (s : State) : (pure a : Exec α) s = .ok (a, s) := rfl
theorem look_run {α : Type} (f : State → α) (s : State) : look f s = .ok (f s, s) := rfl
theorem update_run (f : State → State) (s : State) : update f s = .ok ((), f s) := rfl
theorem refuse_run {α : Type} (r : Refusal) (s : State) : (refuse r : Exec α) s = .error (.refused r) := rfl
theorem endWith_run {α : Type} (f : State → State) (s : State) : (endWith f : Exec α) s = .error (.took (f s)) := rfl
theorem draw_run (s : State) : draw s = .ok (Config.freeWord s.draws, { s with draws := s.draws + 1 }) := rfl
theorem takeUndefined_run {α : Type} (s : State) : (takeUndefined : Exec α) s = .error (.took s.undefined) := rfl

/-- An instruction answers a next state in two ways: it completes, or it enters an exception. -/
theorem outcome_next_iff {m : Exec Unit} {s t : State} :
    outcome m s = .next t ↔ m s = .ok ((), t) ∨ m s = .error (.took t) := by
  unfold outcome
  split <;> simp_all

theorem outcome_of_ok {m : Exec Unit} {s t : State} (h : m s = .ok ((), t)) : outcome m s = .next t :=
  outcome_next_iff.mpr (.inl h)

theorem outcome_of_took {m : Exec Unit} {s t : State} (h : m s = .error (.took t)) : outcome m s = .next t :=
  outcome_next_iff.mpr (.inr h)

theorem outcome_of_refused {m : Exec Unit} {s : State} {r : Refusal} (h : m s = .error (.refused r)) :
    outcome m s = .refused r := by unfold outcome; rw [h]

theorem conditional_pass {c : Cond} {s : State} (m : Exec Unit) (h : Cond.passes c s.cpsr = true) :
    conditional c m s = m s := by simp [conditional, h]

theorem conditional_fail {c : Cond} {s : State} (m : Exec Unit) (h : Cond.passes c s.cpsr = false) :
    conditional c m s = .ok ((), s.next) := by simp [conditional, h, advance, update]

theorem conditionalBranch_pass {c : Cond} {s : State} (m : Exec Unit) (h : Cond.passes c s.cpsr = true) :
    conditionalBranch c m s = m s := by simp [conditionalBranch, h]

/-- A branch whose condition fails, outside Debug state. -/
theorem conditionalBranch_fail {c : Cond} {s : State} (m : Exec Unit) (h : Cond.passes c s.cpsr = false)
    (hs : s.halted = false) : conditionalBranch c m s = .ok ((), s.next) := by
  simp [conditionalBranch, h, hs, advance, update]

/-- In Debug state it leaves a multiple of the instruction length in the PC. -/
theorem conditionalBranch_fail_halted {c : Cond} {s : State} (m : Exec Unit) (h : Cond.passes c s.cpsr = false)
    (hs : s.halted = true) :
    conditionalBranch c m s =
      .ok ((), { s with draws := s.draws + 1 }.branchKeep (Config.freeWord s.draws)) := by
  simp [conditionalBranch, h, hs, draw, update, exec_bind]

/-! Endings -/

theorem advance_run (s : State) : advance s = .ok ((), s.next) := rfl

theorem finishReg_run (n : RegNo) (v : Word) (s : State) : finishReg n v s = .ok ((), s.wrote n v) := rfl

theorem State.next_of_running {s : State} (h : s.halted = false) :
    s.next = { s with pc := s.pc + s.instrLength
                      wrapped := s.wrapped || decide (2 ^ 32 ≤ s.pc.toNat + s.instrLength.toNat) } := by
  simp [State.next, h, State.noteWrap]

theorem State.undefined_of_running {s : State} (h : s.halted = false) : s.undefined = enterException .undefined s := by
  simp [State.undefined, h]

theorem currentSpsr_run {s : State} {v : Word} (h : s.spsr.get? s.cpsr.mode = some v) : currentSpsr s = .ok (v, s) := by
  simp [currentSpsr, h]

theorem currentSpsr_none {s : State} (h : s.spsr.get? s.cpsr.mode = none) : currentSpsr s = .error (.refused .noSpsr) := by
  simp [currentSpsr, h]

/-- A branch that takes the instruction set from its target, where bits [1:0] are not 0b10. -/
theorem bxWritePc_run {v : Word} (h : v.getLsbD 0 = true ∨ v.getLsbD 1 = false) (s : State) :
    bxWritePc v s = .ok ((), s.interwork v) := by
  unfold bxWritePc State.interwork
  by_cases h0 : v.getLsbD 0 = true
  · simp only [h0, if_true]; rfl
  · have h1 : v.getLsbD 1 = false := h.resolve_left h0
    simp only [h0, h1]; rfl

theorem bxWritePc_refused {v : Word} (h0 : v.getLsbD 0 = false) (h1 : v.getLsbD 1 = true) (s : State) :
    bxWritePc v s = .error (.refused .branchTarget) := by
  simp only [bxWritePc, h0, h1]; rfl

/-- A return from an exception outside Debug state. -/
theorem exceptionReturn_run {before : State} {v target : Word} {s : State} {p : Psr}
    (hm : (Mode.ofBits? (v.extractLsb' 0 5)).isSome = true) (hp : s.cpsr.merge v (s.returnMask v) = some p)
    (hs : s.halted = false) : exceptionReturn before v target s = .ok ((), s.returned p target) := by
  unfold exceptionReturn
  have : cpsrWriteByReturn before v s = .ok ((), s.setCpsr p) := by
    unfold cpsrWriteByReturn
    have hn : ¬(Mode.ofBits? (v.extractLsb' 0 5)).isNone = true := by
      cases h : Mode.ofBits? (v.extractLsb' 0 5) <;> simp_all
    simp only [hn, hp, hs, Bool.false_and]
    rfl
  rw [exec_bind_ok this, update_run, State.returned, State.setCpsr_cpsr]

/-- A value that selects no mode is refused as a status. -/
theorem exceptionReturn_illegal {before : State} {v target : Word} {s : State}
    (hm : Mode.ofBits? (v.extractLsb' 0 5) = none) :
    exceptionReturn before v target s = .error (.refused .illegalMode) :=
  exec_bind_error (by simp [cpsrWriteByReturn, hm])

/-- The registers of an instruction that none of them may be R15. -/
theorem noPc_run {l : List RegNo} (h : 15 ∉ l) (s : State) : noPc l s = .ok ((), s) := by
  simp_all [noPc]

theorem noPc_refused {l : List RegNo} (h : 15 ∈ l) (s : State) : noPc l s = .error (.refused .unpredictableEncoding) := by
  simp_all [noPc]

/-- The end of a data-processing instruction whose destination is not R15. -/
theorem finishDp_run (sf : Bool) {rd : RegNo} (h : rd ≠ 15) (r : Word) (flags : Psr → Psr) (s : State) :
    finishDp sf rd r flags s = .ok ((), s.done sf rd r (flags s.cpsr)) := by
  cases sf <;> simp_all [finishDp, update, State.done]

/-- With R15 and S = 0 it is a branch that keeps the instruction set. -/
theorem finishDp_branch (r : Word) (flags : Psr → Psr) (s : State) :
    finishDp false 15 r flags s = .ok ((), s.branchKeep r) := rfl

/-! Data accesses -/

/-- An aligned address is accessed whole, whatever the control bits are. -/
theorem alignmentCheck_aligned {a u : Bool} {addr : Word} {t : AccType} {pc : Bool} (h : addr.toNat % t.size u = 0) :
    alignmentCheck a u addr t pc = .at addr false := by simp [alignmentCheck, h]

/-- The alignment check changes nothing. -/
theorem alignData_state {p : Acc} {addr : Word} {s t : State} {r : Word × Bool} (h : alignData p addr s = .ok (r, t)) :
    t = s := by
  unfold alignData at h
  split at h
  · cases h; rfl
  · cases h
  · cases h

theorem checkEndianness_state {n : Nat} {s t : State} (h : checkEndianness n s = .ok ((), t)) : t = s := by
  unfold checkEndianness at h
  split at h
  · cases h
  · cases h; rfl

/-- A watchpoint note changes nothing but the note. -/
theorem State.hitWatch_frame (s : State) (mva : Word) (w : Bool) :
    { (s.hitWatch mva w) with dbg := s.dbg } = s ∧
      { (s.hitWatch mva w).dbg with watchHit := s.dbg.watchHit } = s.dbg := by
  unfold State.hitWatch
  split <;> exact ⟨rfl, rfl⟩

theorem State.noteWatch_frame (s : State) (p : Acc) (va : Word) (n : Nat) :
    { (s.noteWatch p va n) with dbg := s.dbg } = s ∧
      { (s.noteWatch p va n).dbg with watchHit := s.dbg.watchHit } = s.dbg := by
  induction n with
  | zero => exact ⟨rfl, rfl⟩
  | succ n ih =>
    simp only [State.noteWatch]
    split
    · unfold State.hitWatch
      split
      · exact ih
      · exact ih
    · exact ih

/-! The VFP11 -/

theorem vfpAccess_run {s : State} {cp11 : Bool} (sys : Bool) (h : s.vfpUsable cp11 = true) :
    vfpAccess cp11 sys s = .ok ((), s) := by
  simp only [State.vfpUsable, Bool.and_eq_true, Bool.or_eq_true, beq_iff_eq] at h
  obtain ⟨⟨⟨h1, h2⟩, h3⟩, h4⟩ := h
  simp only [vfpAccess]
  rcases h1 with h1 | h1 <;> rcases h2 with h2 | h2 <;> simp_all

theorem vfpReady_run {s : State} {cp11 : Bool} (h : s.vfpUsable cp11 = true) : vfpReady cp11 s = .ok ((), s) := by
  have hx : s.vfp.fpexc.getLsbD 31 = false := by
    simp only [State.vfpUsable, Bool.and_eq_true, Bool.not_eq_true'] at h
    exact h.2
  unfold vfpReady
  rw [exec_bind_ok (vfpAccess_run false h), exec_bind_ok (look_run _ s), hx]
  rfl

theorem inexactBounce_run {s : State} (h : enabledIx s.vfp.fpscr = false) : inexactBounce s = .ok ((), s) := by
  simp [inexactBounce, h]

/-- What a VFP operation that is not a vector leaves, whether it bounces or not. -/
theorem settle_run (word : Word) (put : DWord → State → State) (v : Verdict) (s : State) :
    ∃ go t, settle word 0 put v s = .ok (go, t) ∧ t.next = s.settled word put v := by
  cases v with
  | bounce f => exact ⟨false, _, rfl, rfl⟩
  | done r => exact ⟨true, _, rfl, rfl⟩

theorem scalarOnly_run {s : State} {cp11 : Bool} (word : Word) (v : State → Verdict) (put : DWord → State → State)
    (h : s.vfpUsable cp11 = true) (hx : enabledIx s.vfp.fpscr = false) :
    scalarOnly cp11 word v put s = .ok ((), s.settled word put (v s)) := by
  obtain ⟨go, t, h1, h2⟩ := settle_run word put (v s) s
  unfold scalarOnly
  rw [exec_bind_ok (vfpReady_run h), exec_bind_ok (inexactBounce_run hx), exec_bind_ok (look_run _ s),
    exec_bind_ok h1, advance_run, h2]

/-- One iteration that bounces: it records the bounce and ends the vector. -/
theorem iterate_bounce {p : Prec} {op : FpOp} {d n m : BitVec 5} {s : State} {f : Word} (base : Word) (k : Nat)
    (h : op.verdict p s.vfp.fpscr (s.fp p d) (s.fp p n) (s.fp p m) = .bounce f) :
    iterate p op base d n m k s = .ok (false, s.enterExceptional
      (base ||| fdField p d ||| (if op = .sqrt then 0 else fnField p n) ||| fmField p m) f k) := by
  unfold iterate
  rw [exec_bind_ok (look_run _ s), h]
  rfl

/-- One iteration that completes. -/
theorem iterate_done {p : Prec} {op : FpOp} {d n m : BitVec 5} {s : State} {r : Computed} (base : Word) (k : Nat)
    (h : op.verdict p s.vfp.fpscr (s.fp p d) (s.fp p n) (s.fp p m) = .done r) :
    iterate p op base d n m k s =
      .ok (true, (s.setFp p d r.bits).setFpscr ((s.setFp p d r.bits).vfp.fpscr ||| r.flags)) := by
  unfold iterate
  rw [exec_bind_ok (look_run _ s), h]
  rfl

/-- The registers of iteration `i`: Fm stays the same where it lies in bank 0 (R501). -/
def Prec.last (p : Prec) (stride : Nat) (m : BitVec 5) (i : Nat) : BitVec 5 :=
  if m.toNat < p.bank then m else p.at stride i m

/-- The iterations of an arithmetic short vector, up to the first that bounces. -/
theorem vectorFrom_iterate (p : Prec) (op : FpOp) (base : Word) (stride : Nat) (d n m : BitVec 5) (k : Nat) :
    ∀ (i : Nat) (s : State), vectorFrom p stride d n m (iterate p op base) i k s =
      .ok ((), s.iterated p op base (p.at stride · d) (p.at stride · n) (p.last stride m) i k) := by
  induction k with
  | zero => intro i s; rfl
  | succ k ih =>
    intro i s
    have hm : (if m.toNat < p.bank then m else p.at stride i m) = p.last stride m i := rfl
    unfold vectorFrom State.iterated
    rw [hm]
    split
    · rename_i h
      rw [exec_bind_ok (iterate_bounce base k h)]
      rfl
    · rename_i h
      rw [exec_bind_ok (iterate_done base k h)]
      exact ih (i + 1) _

/-- The iterations of a short vector of moves. -/
theorem vectorFrom_move (p : Prec) (f : DWord → DWord) (stride : Nat) (d n m : BitVec 5) (k : Nat) :
    ∀ (i : Nat) (s : State), vectorFrom p stride d n m (moveOne p f) i k s =
      .ok ((), (List.range' i k).foldl (fun t j => t.setFp p (p.at stride j d) (f (t.fp p (p.last stride m j)))) s) := by
  induction k with
  | zero => intro i s; rfl
  | succ k ih => intro i s; exact ih (i + 1) _

/-- A scalar operation makes one iteration, on the registers as they are (R501). -/
theorem shortVector_scalar {p : Prec} {d n m : BitVec 5} {useN go : Bool} {s t : State}
    {body : BitVec 5 → BitVec 5 → BitVec 5 → Nat → Exec Bool} (h : s.isScalar p d = true)
    (hb : body d n m 0 s = .ok (go, t)) : shortVector p d n m useN body s = .ok ((), t) := by
  simp only [shortVector, h, if_true]
  rw [exec_bind_ok hb]
  rfl

/-- A vector whose stride is undefined, or that does not fit in its bank, is refused (R494). -/
theorem shortVector_shape {p : Prec} {d : BitVec 5} {s : State} (n m : BitVec 5) (useN : Bool)
    (body : BitVec 5 → BitVec 5 → BitVec 5 → Nat → Exec Bool) (h : s.isScalar p d = false)
    (hs : s.strideDefined = false ∨ p.bank < s.vectorLength * s.vectorStride) :
    shortVector p d n m useN body s = .error (.refused .vfpVectorShape) := by
  rcases hs with hs | hs <;> simp [shortVector, h, hs]

/-- A vector of a defined shape is refused where a source overlaps the destination (R504), and else runs its iterations. -/
theorem shortVector_vector {p : Prec} {d : BitVec 5} {s : State} (n m : BitVec 5) (useN : Bool)
    (body : BitVec 5 → BitVec 5 → BitVec 5 → Nat → Exec Bool) (h : s.isScalar p d = false)
    (hs : s.strideDefined = true) (hb : s.vectorLength * s.vectorStride ≤ p.bank) :
    shortVector p d n m useN body s =
      let ds := p.sequence s.vectorStride s.vectorLength d
      if (useN && clash ds (p.sequence s.vectorStride s.vectorLength n)) ||
          clash ds (if m.toNat < p.bank then [] else p.sequence s.vectorStride s.vectorLength m) then
        .error (.refused .vfpVectorOverlap)
      else vectorFrom p s.vectorStride d n m body 0 s.vectorLength s := by
  simp [shortVector, h, hs, Nat.not_lt.mpr hb]

theorem vectorMove_run {s : State} {p : Prec} {d : BitVec 5} (f : DWord → DWord) (m : BitVec 5)
    (h : s.vfpUsable p.isDouble = true) (hs : s.isScalar p d = true) :
    vectorMove p f d m s = .ok ((), (s.setFp p d (f (s.fp p m))).next) := by
  unfold vectorMove
  rw [exec_bind_ok (vfpReady_run h), exec_bind_ok (shortVector_scalar hs rfl)]
  rfl

/-! Writes of CP15 that the DMA engine could see (R787) -/

/-- The guard lets everything pass that changes nothing, and everything while no channel is Running or Queued. -/
theorem dmaGuard_run {b : Bool} {s : State} (h : b = false ∨ s.dmaBusy = false) : dmaGuard b s = .ok ((), s) := by
  rcases h with h | h <;> simp [dmaGuard, h]

theorem dmaGuard_refused {s : State} (h : s.dmaBusy = true) :
    dmaGuard true s = .error (.refused .dmaUnpredictable) := by
  simp [dmaGuard, h]

/-- What the guard passes it leaves as it is. -/
theorem dmaGuard_state {b : Bool} {s t : State} (h : dmaGuard b s = .ok ((), t)) : t = s := by
  unfold dmaGuard at h
  split at h
  · cases h
  · cases h; rfl

theorem changeTables_run {f : Cp15Banked → Cp15Banked} {s : State}
    (h : s.dmaBusy = false ∨ s.copyNs ≠ s.dmaNs ∨ f (s.bankOf s.copyNs) = s.bankOf s.copyNs) :
    changeTables f s = .ok ((), s.setCopy f) := by
  unfold changeTables
  rw [exec_bind_ok (look_run _ s), exec_bind_ok (dmaGuard_run ?_), update_run]
  rcases h with h | h | h <;> simp [h]

theorem changeTables_refused {f : Cp15Banked → Cp15Banked} {s : State} (hb : s.dmaBusy = true)
    (hw : s.copyNs = s.dmaNs) (h : f (s.bankOf s.copyNs) ≠ s.bankOf s.copyNs) :
    changeTables f s = .error (.refused .dmaUnpredictable) := by
  have hg : (s.copyNs == s.dmaNs && f (s.bankOf s.copyNs) != s.bankOf s.copyNs) = true := by
    rw [bne_iff_ne.mpr h, hw, Bool.and_true, beq_self_eq_true]
  unfold changeTables
  rw [exec_bind_ok (look_run _ s), hg, exec_bind_error (dmaGuard_refused hb)]

/-- A write of the Control Register passes while no channel is Running or Queued, and where nothing changes by which the
engine's world translates. -/
theorem writeControl_run {v : Word} {s : State}
    (h : s.dmaBusy = false ∨ (s.withControl v).translationControl s.dmaNs = s.translationControl s.dmaNs) :
    writeControl v s = .ok ((), s.withControl v) := by
  unfold writeControl
  rw [exec_bind_ok (look_run _ s), exec_bind_ok (dmaGuard_run ?_), update_run]
  rcases h with h | h <;> simp [h]

theorem writeControl_refused {v : Word} {s : State} (hb : s.dmaBusy = true)
    (h : (s.withControl v).translationControl s.dmaNs ≠ s.translationControl s.dmaNs) :
    writeControl v s = .error (.refused .dmaUnpredictable) := by
  unfold writeControl
  rw [exec_bind_ok (look_run _ s), bne_iff_ne.mpr h, exec_bind_error (dmaGuard_refused hb)]

/-- What a write of the Control Register that completes leaves. -/
theorem writeControl_ok {v : Word} {s t : State} (h : writeControl v s = .ok ((), t)) : t = s.withControl v := by
  unfold writeControl at h
  obtain ⟨_, a, ha, h⟩ := exec_bind_ok_iff.mp h
  cases ha
  obtain ⟨_, b, hb, h⟩ := exec_bind_ok_iff.mp h
  cases dmaGuard_state hb
  cases h
  rfl

/-- A write of the Control Register leaves the lockdown entries, and the permissions they hold, as they are (R143, R705). -/
theorem writeControl_tlbLock {v : Word} {s t : State} (h : writeControl v s = .ok ((), t)) :
    t.cp15.tlbLock = s.cp15.tlbLock := by
  rw [writeControl_ok h]
  simp only [State.withControl, State.setCopy, State.setBankOf, State.setCommon]
  split <;> split <;> rfl

end Sys2Proof.Machine
end

