-- ==== Sys2Proof/Laws/Access.lean ====
section
/-! SUPPORT. Laws/Access: every operation that stores keeps the canonical form of memory (`Memory.wf`): the accesses of
instructions, through TCM, data cache and platform, the write-backs of the cache, the DMA engine; and a translation changes
no byte of memory. -/

namespace Sys2Proof.Machine

/-- The state a part of a meaning leaves, if any, has a property. -/
def Leaves {α : Type} (P : State → Prop) : Except Stop (α × State) → Prop
  | .ok r => P r.2
  | .error (.took t) => P t
  | .error (.refused _) => True
  | .error (.fault _) => True

/-- A part of a meaning keeps a property of the state, whether it completes or ends the instruction. -/
def Keeps {α : Type} (P : State → Prop) (m : Exec α) : Prop := ∀ s, P s → Leaves P (m s)

/-- The state a translation leaves, if any, has a property. -/
def Xlat.Leaves (P : State → Prop) : Xlat → Prop
  | .ok _ t => P t
  | .abort _ t => P t
  | .refused _ => True

/-- The state a lookup leaves, if any, has a property. -/
def Lookup.Leaves (P : State → Prop) : Lookup → Prop
  | .found _ t => P t
  | .abort _ t => P t
  | .refused _ => True

/-- The memory is in canonical form. -/
abbrev State.memWf (s : State) : Prop := Memory.wf s.mem = true

namespace Keeps

variable {α β : Type} {P : State → Prop}

theorem bind {m : Exec α} {f : α → Exec β} (hm : Keeps P m) (hf : ∀ a, Keeps P (f a)) : Keeps P (m >>= f) := by
  intro s hs
  have h := hm s hs
  rw [exec_bind]
  cases e : m s with
  | error x => rw [e] at h; cases x <;> exact h
  | ok r => obtain ⟨a, t⟩ := r; rw [e] at h; exact hf a t h

theorem pure (a : α) : Keeps P (Pure.pure a) := fun _ h => h
theorem look (f : State → α) : Keeps P (look f) := fun _ h => h
theorem refuse (r : Refusal) : Keeps P (refuse r : Exec α) := fun _ _ => trivial
theorem update {f : State → State} (h : ∀ s, P s → P (f s)) : Keeps P (update f) := fun s hs => h s hs
theorem endWith {f : State → State} (h : ∀ s, P s → P (f s)) : Keeps P (endWith f : Exec α) := fun s hs => h s hs
theorem draw (h : ∀ s : State, P s → P { s with draws := s.draws + 1 }) : Keeps P draw := fun s hs => h s hs

/-- What a part that keeps a property answers has it. -/
theorem next {m : Exec Unit} {s t : State} (hm : Keeps P m) (hs : P s) (h : outcome m s = .next t) : P t := by
  have := hm s hs
  rcases outcome_next_iff.mp h with h | h <;> rw [h] at this <;> exact this

end Keeps

/-! Translation -/

/-- Permission checks change nothing. -/
theorem State.checkMapping_leaves (s : State) (ns : Bool) (m : Mapping) (acc : Access) (priv : Bool) (who : Client) :
    (s.checkMapping ns m acc priv who).Leaves (· = s) := by
  unfold State.checkMapping
  dsimp only
  split
  · rfl
  · split
    · rfl
    · split
      · rfl
      · cases m.attrs? (s.bankOf ns)
        · trivial
        · rfl

/-- What a lookup that finds a mapping has found: nothing stale, the copies repeated, and either the outcome of a walk, which
is remembered and may be locked down, or the lockdown entries that match, all the same. -/
theorem State.lookup_found {s t : State} {ns : Bool} {asid : BitVec 8} {mva : Word} {m : Mapping}
    (h : s.lookup ns asid mva = .found m t) :
    let w := s.walk ns mva
    let u := s.drawWalk
    s.isStaleWalk ns w = false ∧ s.copiesOk ns w = true ∧
      ((s.lockMatches ns asid mva = [] ∧ ∃ l2, w.found = .mapping m l2 ∧
          t = if (s.bankOf ns).accessFault m then u.recordWalk ns asid mva m w
            else (u.recordWalk ns asid mva m w).lockWalk ns asid mva m l2) ∨
        ∃ ms, s.lockMatches ns asid mva = m :: ms ∧ ms.all (·.agrees m) = true ∧ t = u) := by
  unfold State.lookup at h
  dsimp only at h ⊢
  split at h
  · cases h
  · split at h
    · cases h
    · refine ⟨by simp_all, by simp_all, ?_⟩
      split at h
      · cases h
      · rename_i l2 hl hw
        refine .inl ⟨hl, l2, ?_⟩
        split at h <;> cases h <;> exact ⟨hw, by simp_all⟩
      · rename_i m' ms _ hl _
        split at h
        · cases h; exact .inr ⟨ms, hl, by assumption, rfl⟩
        · cases h
      · rename_i m' ms _ _ hl _
        split at h
        · cases h; exact .inr ⟨ms, hl, by simp_all, rfl⟩
        · cases h

theorem State.lookup_mem (s : State) (ns : Bool) (asid : BitVec 8) (mva : Word) :
    (s.lookup ns asid mva).Leaves (·.mem = s.mem) := by
  unfold State.lookup
  dsimp only
  split <;> (repeat' split) <;> first | trivial | simp [Lookup.Leaves]

/-- A translation changes no byte of memory: it records the walk, and may fill a lockdown entry. -/
theorem State.translate_mem (s : State) (ns : Bool) (asid : BitVec 8) (mva : Word) (acc : Access) (priv : Bool)
    (who : Client) : (s.translate ns asid mva acc priv who).Leaves (·.mem = s.mem) := by
  unfold State.translate
  dsimp only
  split
  · rfl
  · have hl := s.lookup_mem ns asid mva
    revert hl
    cases s.lookup ns asid mva with
    | found m t =>
      intro (hl : t.mem = s.mem)
      have h := t.checkMapping_leaves ns m acc priv who
      dsimp only
      revert h
      cases t.checkMapping ns m acc priv who with
      | ok x u => intro (h : u = t); subst h; exact hl
      | abort f u => intro (h : u = t); subst h; exact hl
      | refused r => intro _; trivial
    | abort f t => exact id
    | refused r => exact id

theorem State.dataAbort_mem (s : State) (f : MmuFault) (far : Word) (w : Bool) : (s.dataAbort f far w).mem = s.mem := by
  unfold State.dataAbort
  dsimp only
  split <;> simp

theorem alignData_keeps (p : Acc) (a : Word) : Keeps State.memWf (alignData p a) := by
  intro s hs
  unfold alignData
  split
  · exact hs
  · show Memory.wf (s.dataAbort _ _ _).mem = true
    rw [State.dataAbort_mem]
    exact hs
  · trivial

theorem translateData_keeps (p : Acc) (va : Word) (u : Bool) : Keeps State.memWf (translateData p va u) := by
  intro s hs
  have h := s.translate_mem (!s.isSecure) (s.asidOf !s.isSecure) (s.fcse (!s.isSecure) va)
    (if p.write then .write else .read) p.priv .data
  unfold translateData
  dsimp only
  revert h
  cases s.translate (!s.isSecure) (s.asidOf !s.isSecure) (s.fcse (!s.isSecure) va) (if p.write then .write else .read)
    p.priv .data with
  | refused r => intro _; trivial
  | abort f t =>
    intro (h : t.mem = s.mem)
    show Memory.wf (t.dataAbort _ _ _).mem = true
    rw [State.dataAbort_mem, h]
    exact hs
  | ok x t =>
    intro (h : t.mem = s.mem)
    have ht : Memory.wf t.mem = true := by rw [h]; exact hs
    dsimp only
    split
    · split
      · show Memory.wf (t.dataAbort _ _ _).mem = true
        rw [State.dataAbort_mem]
        exact ht
      · trivial
    · split
      · trivial
      · exact ht

theorem checkEndianness_keeps {P : State → Prop} (n : Nat) : Keeps P (checkEndianness n) := by
  intro s hs
  unfold checkEndianness
  split
  · trivial
  · exact hs

theorem reportError_keeps (p : Acc) (va : Word) (x : Translation) (e : BusError) :
    Keeps State.memWf (reportError p va x e) := by
  intro s hs
  unfold reportError
  split
  · show Memory.wf (s.dataAbort _ _ _).mem = true
    rw [State.dataAbort_mem]
    exact hs
  · show Memory.wf (s.impreciseAbort e p.write).mem = true
    rw [State.impreciseAbort_mem]
    exact hs

/-! The parts of an access that touch memory -/

/-- A change that leaves memory as it is keeps its form. -/
theorem keeps_update {f : State → State} (h : ∀ s, (f s).mem = s.mem) : Keeps State.memWf (update f) :=
  Keeps.update fun s hs => by rw [State.memWf, h s]; exact hs

theorem draw_keeps : Keeps State.memWf draw := Keeps.draw fun _ h => h

theorem State.writeExternal_wf (s : State) (q : Request) (pa : Word) (v : Byte) (h : s.memWf) :
    (s.writeExternal q pa v).memWf := by
  unfold State.writeExternal
  split
  · exact h
  · exact s.storeByte_wf _ _ h

theorem State.writeBytes_wf (s : State) (q : Request) (pa : Word) (bs : List Byte) (h : s.memWf) :
    (s.writeBytes q pa bs).memWf := by
  induction bs generalizing s pa with
  | nil => exact h
  | cons b bs ih =>
    refine ih _ _ ?_
    split
    · exact h
    · exact s.writeExternal_wf q pa b h

/-- A line that is written back keeps the canonical form. -/
theorem State.cleanLine_wf (s : State) (l : CacheLine) (a : Word) (h : s.memWf) : (s.cleanLine l a).memWf := by
  unfold State.cleanLine
  split
  · dsimp only
    split
    · simpa [State.memWf] using h
    · simpa [State.memWf] using s.writeBytes_wf _ _ _ h
  · exact h

theorem State.evictLine_wf (s : State) (l : CacheLine) (a : Word) (h : s.memWf) : (s.evictLine l a).memWf := by
  simpa [State.evictLine, State.memWf] using s.cleanLine_wf l a h

theorem readExternal_keeps (q : Request) (pa : Word) : Keeps State.memWf (readExternal q pa) := by
  intro s hs
  unfold readExternal
  split
  · exact (Keeps.bind draw_keeps fun _ => Keeps.pure _) s hs
  · exact hs

theorem readLine_keeps (q : Request) (pa : Word) (n : Nat) : Keeps State.memWf (readLine q pa n) := by
  induction n with
  | zero => exact Keeps.pure _
  | succ n ih => exact Keeps.bind ih fun _ => Keeps.bind (readExternal_keeps _ _) fun _ => Keeps.pure _

theorem chooseWay_keeps (set : Nat) : Keeps State.memWf (chooseWay set) := by
  intro s hs
  unfold chooseWay
  split
  · exact hs
  · exact hs

theorem fillLine_keeps (x : Translation) (mva pa : Word) (priv : Bool) :
    Keeps State.memWf (fillLine x mva pa priv) := by
  unfold fillLine
  refine Keeps.bind (Keeps.look _) fun set => Keeps.bind (chooseWay_keeps set) fun way => ?_
  refine Keeps.bind (Keeps.update fun s hs => ?_) fun _ => Keeps.bind (readLine_keeps _ _ _) fun data => ?_
  · split
    · exact s.evictLine_wf _ _ hs
    · exact hs
  · exact Keeps.bind (keeps_update fun s => by simp) fun _ => Keeps.pure _

theorem lookupLine_keeps (mva pa : Word) (ns : Bool) : Keeps State.memWf (lookupLine mva pa ns) := by
  intro s hs
  unfold lookupLine
  split
  · exact hs
  · rename_i l _
    split
    · have h (b : Bool) : Keeps State.memWf (if b then do update fun s => s.evictLine l pa; Pure.pure none
          else Pure.pure (some l) : Exec (Option CacheLine)) := by
        cases b
        · exact Keeps.pure _
        · exact Keeps.bind (Keeps.update fun s hs => s.evictLine_wf l pa hs) fun _ => Keeps.pure _
      exact (Keeps.bind draw_keeps fun w => h (w.getLsbD 0)) s hs
    · exact hs

theorem cachedLine_keeps (p : Acc) (mva : Word) (x : Translation) : Keeps State.memWf (cachedLine p mva x) := by
  intro s hs
  unfold cachedLine
  split
  · exact hs
  · split
    · exact hs
    · exact lookupLine_keeps _ _ _ s hs

/-- What SWP does not keep is written back. -/
theorem heldLine_keeps (p : Acc) (x : Translation) (hit : Option CacheLine) : Keeps State.memWf (heldLine p x hit) := by
  intro s hs
  unfold heldLine
  split
  · exact hs
  · split
    · exact hs
    · exact s.evictLine_wf _ _ hs

/-- A load other than SWP reads whatever line it hits. -/
theorem heldLine_run {p : Acc} (x : Translation) (hit : Option CacheLine) (s : State) (h : p.swap = false) :
    heldLine p x hit s = .ok (hit, s) := by
  cases hit <;> simp [heldLine, h]

/-! The DMA engine -/

theorem dmaTranslate_keeps (c : Bool) (va : Word) (acc : Access) (bits : MmuFault → Word) :
    Keeps State.memWf (dmaTranslate c va acc bits) := by
  intro s hs
  have h := s.translate_mem s.dmaNs ((s.channel c).context.extractLsb' 0 8) (s.fcse s.dmaNs va) acc
    (!(s.channel c).userTransfer) .dma
  unfold dmaTranslate
  dsimp only
  revert h
  cases s.translate s.dmaNs ((s.channel c).context.extractLsb' 0 8) (s.fcse s.dmaNs va) acc
    (!(s.channel c).userTransfer) .dma with
  | ok x t => intro (h : t.mem = s.mem); show Memory.wf t.mem = true; rw [h]; exact hs
  | abort f t => intro (h : t.mem = s.mem); show Memory.wf t.mem = true; rw [h]; exact hs
  | refused r => intro _; trivial

theorem dmaRead_keeps (q : Request) (pa : Word) : Keeps State.memWf (dmaRead q pa) := by
  unfold dmaRead
  refine Keeps.bind (Keeps.look _) fun k => Keeps.bind (Keeps.look _) fun held => ?_
  cases held with
  | none => exact readExternal_keeps q pa
  | some l =>
    refine Keeps.bind draw_keeps fun w => ?_
    cases w.getLsbD 0
    · exact readExternal_keeps q pa
    · exact Keeps.pure _

theorem dmaIn_keeps (q : Request) (data second : Bool) (off n : Nat) : Keeps State.memWf (dmaIn q data second off n) := by
  induction n with
  | zero => exact Keeps.pure _
  | succ n ih =>
    exact Keeps.bind ih fun _ => Keeps.bind (dmaRead_keeps _ _) fun b =>
      Keeps.bind (Keeps.update fun s hs => s.storeByte_wf _ _ hs) fun _ => Keeps.pure _

theorem State.clearGlobal_mem (s : State) (pa : Word) : (s.clearGlobal pa).mem = s.mem := by
  unfold State.clearGlobal
  split
  · dsimp only
    exact ite_field _ _ _ _ rfl rfl
  · rfl

theorem dmaOut_keeps (q : Request) (data second : Bool) (off n : Nat) :
    Keeps State.memWf (dmaOut q data second off n) := by
  induction n with
  | zero => exact Keeps.pure _
  | succ n ih =>
    refine Keeps.bind ih fun _ => Keeps.bind (Keeps.look _) fun b => Keeps.bind (Keeps.update fun s hs => ?_) fun _ =>
      Keeps.pure _
    rw [State.memWf, State.clearGlobal_mem]
    exact s.writeExternal_wf _ _ _ hs

theorem State.promote_mem (s : State) (c : Bool) : (s.promote c).mem = s.mem := by
  unfold State.promote
  split <;> rfl

theorem State.dmaComplete_mem (s : State) (c : Bool) : (s.dmaComplete c).mem = s.mem := State.promote_mem _ _

/-- One step of the engine keeps the canonical form. -/
theorem dmaTransfer_keeps (c : Bool) : Keeps State.memWf (dmaTransfer c) := by
  have still (f : State → State) (h : ∀ s, (f s).mem = s.mem) : Keeps State.memWf (endWith f : Exec Unit) :=
    Keeps.endWith fun s hs => by rw [State.memWf, h s]; exact hs
  unfold dmaTransfer
  refine Keeps.bind (Keeps.look _) fun d => ?_
  dsimp only
  split
  · exact still _ fun s => s.dmaComplete_mem c
  · refine Keeps.bind (Keeps.look _) fun ns => Keeps.bind (Keeps.look _) fun device =>
      Keeps.bind (dmaTranslate_keeps _ _ _ _) fun i => Keeps.bind (Keeps.look _) fun tcm => ?_
    cases tcm with
    | none => exact still _ fun s => rfl
    | some second =>
      dsimp only
      split
      · exact Keeps.refuse _
      · refine Keeps.bind (dmaTranslate_keeps _ _ _ _) fun e => Keeps.bind (Keeps.look _) fun region => ?_
        split
        · exact still _ fun s => rfl
        · refine Keeps.bind (Keeps.look _) fun pa => Keeps.bind (Keeps.look _) fun err => ?_
          cases err with
          | some x => exact Keeps.bind draw_keeps fun v => Keeps.bind draw_keeps fun w => still _ fun s => rfl
          | none =>
            refine Keeps.bind (Keeps.look _) fun off => ?_
            split
            · exact Keeps.bind (dmaOut_keeps _ _ _ _ _) fun bs => keeps_update fun s => rfl
            · exact Keeps.bind (dmaIn_keeps _ _ _ _ _) fun bs => keeps_update fun s => rfl

theorem dmaStep_keeps : Keeps State.memWf dmaStep := by
  intro s hs
  unfold dmaStep
  split
  · exact hs
  · rename_i c _
    have h := dmaTransfer_keeps c s hs
    revert h
    cases dmaTransfer c s with
    | ok r => exact id
    | error e => cases e <;> exact id

theorem dmaSteps_keeps (n : Nat) : Keeps State.memWf (dmaSteps n) := by
  induction n with
  | zero => exact Keeps.pure ()
  | succ n ih => exact Keeps.bind dmaStep_keeps fun _ => ih

/-- What the engine does between two instructions, or two bytes, keeps the canonical form. -/
theorem dmaInterval_keeps : Keeps State.memWf dmaInterval := by
  intro s hs
  unfold dmaInterval
  split
  · exact hs
  · exact (Keeps.bind draw_keeps fun w => dmaSteps_keeps _) s hs

/-- With no transfer running it does nothing. -/
theorem dmaInterval_idle {s : State} (h : s.running = none) : dmaInterval s = .ok ((), s) := by
  unfold dmaInterval
  rw [h]

/-! Loads -/

theorem State.foldl_mem {α : Type} (f : State → α → State) (h : ∀ s a, (f s a).mem = s.mem) (l : List α) (s : State) :
    (l.foldl f s).mem = s.mem := by
  induction l generalizing s with
  | nil => rfl
  | cons a l ih => rw [List.foldl_cons, ih, h]

theorem notePiece_keeps (p : Acc) (va : Word) (x : Translation) (q : Request) (bs : List Byte) :
    Keeps State.memWf (notePiece p va x q bs) := by
  unfold notePiece
  have h (w : Word) := keeps_update (f := fun s : State =>
    (List.range (w.extractLsb' 0 8).toNat).foldl
      (fun t _ => t.noteTransfer (t.singleRequest p x bs.length) (t.pieceCells x bs) none)
      (s.notePiece p va x q bs none))
    fun s => (State.foldl_mem _ (by intros; rfl) _ _).trans (s.notePiece_mem p va x q bs none)
  split
  · exact Keeps.bind draw_keeps h
  · exact Keeps.bind (Keeps.pure _) h

/-- A record of a transfer changes nothing else. -/
theorem State.noteWord_frame (s : State) (o : Bool) (q : Request) (a : Nat) (d : List Host.Cell) (e : Option BusError) :
    { s.noteWord o q a d e with transfers := s.transfers } = s := rfl

theorem State.notePiece_frame (s : State) (p : Acc) (va : Word) (x : Translation) (q : Request) (bs : List Byte)
    (e : Option BusError) : { s.notePiece p va x q bs e with transfers := s.transfers } = s := rfl

theorem readBytes_keeps (q : Request) (x : Translation) (n : Nat) : Keeps State.memWf (readBytes q x n) := by
  induction n with
  | zero => exact Keeps.pure _
  | succ n ih =>
    exact Keeps.bind ih fun _ => Keeps.bind (Keeps.look _) fun _ => Keeps.bind (readExternal_keeps _ _) fun _ => Keeps.pure _

theorem readBus_keeps (p : Acc) (va : Word) (x : Translation) (n : Nat) : Keeps State.memWf (readBus p va x n) := by
  unfold readBus
  refine Keeps.bind (Keeps.look _) fun q => Keeps.bind (Keeps.look _) fun e => ?_
  cases e with
  | none =>
    exact Keeps.bind (readBytes_keeps _ _ _) fun bs => Keeps.bind (notePiece_keeps _ _ _ _ _) fun _ => Keeps.pure _
  | some e =>
    refine Keeps.bind (keeps_update fun s => by simp) fun _ => ?_
    dsimp only
    split
    · exact Keeps.bind (keeps_update fun s => rfl) fun _ => Keeps.bind (reportError_keeps _ _ _ _) fun _ => Keeps.pure _
    · exact Keeps.bind (reportError_keeps _ _ _ _) fun _ => Keeps.pure _

theorem readFill_keeps (p : Acc) (va mva : Word) (x : Translation) (n : Nat) :
    Keeps State.memWf (readFill p va mva x n) := by
  unfold readFill
  refine Keeps.bind (Keeps.look _) fun e => ?_
  cases e with
  | none => exact Keeps.bind (fillLine_keeps _ _ _ _) fun l => Keeps.bind (Keeps.look _) fun _ => Keeps.pure _
  | some e =>
    exact Keeps.bind (keeps_update fun s => rfl) fun _ => Keeps.bind (reportError_keeps _ _ _ _) fun _ => Keeps.pure _

theorem readRouted_keeps (p : Acc) (va : Word) (x : Translation) (n : Nat) :
    Keeps State.memWf (readRouted p va x n) := by
  unfold readRouted
  have tcm (data : Bool) : Keeps State.memWf (some <$> readTcm data x n) := Keeps.bind (Keeps.look _) fun _ => Keeps.pure _
  refine Keeps.bind (Keeps.look _) fun mva => Keeps.bind (Keeps.look _) fun data => ?_
  split
  · exact tcm true
  · refine Keeps.bind (cachedLine_keeps _ _ _) fun hit => Keeps.bind (heldLine_keeps _ _ _) fun held => ?_
    cases held with
    | some l => exact Keeps.bind (Keeps.look _) fun _ => Keeps.pure _
    | none =>
      refine Keeps.bind (Keeps.look _) fun instr => ?_
      split
      · exact tcm false
      · refine Keeps.bind (Keeps.look _) fun fills => ?_
        split
        · exact readFill_keeps _ _ _ _ _
        · exact readBus_keeps _ _ _ _

theorem openBytes_keeps (n : Nat) : Keeps State.memWf (openBytes n) := by
  induction n with
  | zero => exact Keeps.pure _
  | succ n ih => exact Keeps.bind draw_keeps fun _ => Keeps.bind ih fun _ => Keeps.pure _

theorem pieceState_keeps (p : Acc) (va : Word) (n : Nat) :
    Keeps State.memWf (update fun s => (s.noteWatch p va n).notePast p va) := keeps_update fun s => by simp

/-- A load of a piece keeps the canonical form, the write-back of a line that makes room included. -/
theorem readPiece_keeps (p : Acc) (va : Word) (n : Nat) (u : Bool) : Keeps State.memWf (readPiece p va n u) := by
  unfold readPiece
  refine Keeps.bind (pieceState_keeps p va n) fun _ => Keeps.bind (translateData_keeps p va u) fun x => ?_
  refine Keeps.bind (checkEndianness_keeps n) fun _ => Keeps.bind (readRouted_keeps p va x n) fun r => ?_
  cases r with
  | some bs => exact Keeps.pure _
  | none => exact Keeps.bind (openBytes_keeps n) fun _ => Keeps.pure _

theorem readSplit_keeps (p : Acc) (va : Word) (n : Nat) : Keeps State.memWf (readSplit p va n) := by
  induction n generalizing va with
  | zero => exact Keeps.pure _
  | succ n ih =>
    exact Keeps.bind (readPiece_keeps _ _ _ _) fun _ => Keeps.bind dmaInterval_keeps fun _ => Keeps.bind (ih _) fun _ =>
      Keeps.pure _

/-- A load of a byte, halfword or word keeps the canonical form. -/
theorem memRead_keeps (p : Acc) (a : Word) (n : Nat) : Keeps State.memWf (memRead p a n) := by
  unfold memRead
  refine Keeps.bind (alignData_keeps p a) fun r => ?_
  obtain ⟨b, split⟩ := r
  cases split with
  | true =>
    exact Keeps.bind (checkEndianness_keeps n) fun _ => Keeps.bind (readSplit_keeps _ _ _) fun _ =>
      Keeps.bind (Keeps.look _) fun _ => Keeps.pure _
  | false =>
    exact Keeps.bind (readPiece_keeps _ _ _ _) fun _ => Keeps.bind (Keeps.look _) fun _ => Keeps.pure _

theorem readWordAt_keeps (p : Acc) (a : Word) : Keeps State.memWf (readWordAt p a) := by
  unfold readWordAt
  exact Keeps.bind (readPiece_keeps _ _ _ _) fun _ => Keeps.bind (Keeps.look _) fun _ => Keeps.pure _

/-! Stores -/

theorem State.storeTcm_wf (s : State) (data : Bool) (x : Translation) (i : Nat) (bs : List Byte) (h : s.memWf) :
    (s.storeTcm data x i bs).memWf := by
  induction bs generalizing s i with
  | nil => exact h
  | cons b bs ih => exact ih _ _ (s.storeByte_wf _ _ h)

theorem State.storeBytes_wf (s : State) (q : Request) (x : Translation) (i : Nat) (bs : List Byte) (h : s.memWf) :
    (s.storeBytes q x i bs).memWf := by
  induction bs generalizing s i with
  | nil => exact h
  | cons b bs ih => exact ih _ _ (s.writeExternal_wf _ _ _ h)

/-- A store that hits changes no byte of memory: it is in the line. -/
theorem State.storeHit_mem (s : State) (l : CacheLine) (x : Translation) (bs : List Byte) :
    (s.storeHit l x bs).mem = s.mem := by
  unfold State.storeHit
  dsimp only
  split
  · simp only [State.markDirty_mem, State.putLine_mem]
    exact State.foldl_mem _ (by intros; rfl) _ _
  · rfl

theorem writeBus_keeps (p : Acc) (va : Word) (x : Translation) (bs : List Byte) :
    Keeps State.memWf (writeBus p va x bs) := by
  unfold writeBus
  refine Keeps.bind (Keeps.look _) fun q => Keeps.bind (Keeps.look _) fun e => ?_
  cases e with
  | some e =>
    exact Keeps.bind (keeps_update fun s => by simp) fun _ => reportError_keeps _ _ _ _
  | none =>
    exact Keeps.bind (Keeps.update fun s hs => s.storeBytes_wf _ _ _ _ hs) fun _ => notePiece_keeps _ _ _ _ _

theorem writeRouted_keeps (p : Acc) (va : Word) (x : Translation) (bs : List Byte) :
    Keeps State.memWf (writeRouted p va x bs) := by
  unfold writeRouted
  have tcm (data : Bool) : Keeps State.memWf (update fun s => s.storeTcm data x 0 bs) :=
    Keeps.update fun s hs => s.storeTcm_wf _ _ _ _ hs
  have tail : Keeps State.memWf (do
      let instr ← look fun s => (s.tcmOf false x.ns x.pa).isSome
      if instr then update fun s => s.storeTcm false x 0 bs else writeBus p va x bs) := by
    refine Keeps.bind (Keeps.look _) fun instr => ?_
    split
    · exact tcm false
    · exact writeBus_keeps _ _ _ _
  refine Keeps.bind (Keeps.look _) fun mva => Keeps.bind (Keeps.look _) fun data => ?_
  split
  · exact tcm true
  · refine Keeps.bind (cachedLine_keeps _ _ _) fun hit => Keeps.bind (Keeps.look _) fun kept => ?_
    cases hit with
    | none =>
      dsimp only
      split
      · exact Keeps.pure _
      · exact tail
    | some l =>
      refine Keeps.bind (keeps_update fun s => s.storeHit_mem l x bs) fun _ => ?_
      split
      · exact Keeps.pure _
      · exact tail

theorem writePiece_keeps (p : Acc) (va : Word) (bytes : List Byte) (u : Bool) :
    Keeps State.memWf (writePiece p va bytes u) := by
  unfold writePiece
  refine Keeps.bind (pieceState_keeps p va _) fun _ => Keeps.bind (translateData_keeps p va u) fun x => ?_
  exact Keeps.bind (checkEndianness_keeps _) fun _ => Keeps.bind (writeRouted_keeps p va x bytes) fun _ => Keeps.pure x

/-- What a Shared store-exclusive does that the global monitor does not let pass: the status is 1, after an error too. -/
theorem refusedExclusive_run {p : Acc} {x : Translation} (a : Word) (bs : List Byte) (s : State) (hw : p.write = true)
    (hp : p.loadsPc = false) (hx : x.attrs.ty = .normal) :
    let q := s.singleRequest p x bs.length
    refusedExclusive p a x bs s = match s.pieceError q x bs.length with
      | none => .ok (1, s.notePiece p a x q bs none)
      | some e => .ok (1, (s.notePiece p a x q bs (some e)).impreciseAbort e true) := by
  unfold refusedExclusive
  rw [exec_bind_ok (look_run _ s), exec_bind_ok (look_run _ s)]
  dsimp only
  cases s.pieceError (s.singleRequest p x bs.length) x bs.length with
  | none => rw [exec_bind_ok (update_run _ s)]; rfl
  | some e =>
    rw [exec_bind_ok (update_run _ s)]
    have h : reportError p a x e (s.notePiece p a x (s.singleRequest p x bs.length) bs (some e)) =
        .ok ((), (s.notePiece p a x (s.singleRequest p x bs.length) bs (some e)).impreciseAbort e true) := by
      simp [reportError, State.reportsPrecisely, hw, hp, hx]
    dsimp only
    rw [exec_bind_ok h]
    rfl

theorem writeSplit_keeps (p : Acc) (va : Word) (bs : List Byte) : Keeps State.memWf (writeSplit p va bs) := by
  induction bs generalizing va with
  | nil => exact Keeps.pure ()
  | cons b bs ih =>
    exact Keeps.bind (writePiece_keeps p va [b] true) fun _ => Keeps.bind dmaInterval_keeps fun _ => ih (va + 1)

/-- A store of a byte, halfword or word keeps the canonical form. -/
theorem memWrite_keeps (p : Acc) (a : Word) (n : Nat) (v : Word) : Keeps State.memWf (memWrite p a n v) := by
  unfold memWrite
  refine Keeps.bind (alignData_keeps p a) fun r => ?_
  obtain ⟨b, split⟩ := r
  refine Keeps.bind (Keeps.look _) fun big => ?_
  cases split with
  | true => exact Keeps.bind (checkEndianness_keeps n) fun _ => writeSplit_keeps _ b _
  | false => exact Keeps.bind (writePiece_keeps _ b _ false) fun _ => Keeps.pure ()

/-- A word of a transfer of several keeps the canonical form. -/
theorem writeWordAt_keeps (p : Acc) (a v : Word) : Keeps State.memWf (writeWordAt p a v) := by
  unfold writeWordAt
  exact Keeps.bind (Keeps.look _) fun _ => Keeps.bind (writePiece_keeps p a _ false) fun _ => Keeps.pure ()

theorem writeWords_keeps (p : Acc) (a : Word) (vs : List Word) : Keeps State.memWf (writeWords p a vs) := by
  induction vs generalizing a with
  | nil => exact Keeps.pure ()
  | cons v vs ih => exact Keeps.bind (writeWordAt_keeps p a v) fun _ => Keeps.bind dmaInterval_keeps fun _ => ih (a + 4)

theorem readWords_keeps (p : Acc) (a : Word) (n : Nat) : Keeps State.memWf (readWords p a n) := by
  induction n generalizing a with
  | zero => exact Keeps.pure _
  | succ n ih =>
    exact Keeps.bind (readWordAt_keeps p a) fun _ => Keeps.bind dmaInterval_keeps fun _ => Keeps.bind (ih (a + 4)) fun _ =>
      Keeps.pure _

/-! Placed code, and the resets -/

theorem State.placeBytes_wf (s : State) (ns : Bool) (pa w : Word) (n k : Nat) (h : s.memWf) :
    (s.placeBytes ns pa w n k).memWf := by
  induction k with
  | zero => exact h
  | succ k ih => exact Memory.wf_write _ _ _ ih

/-- A processor reset leaves memory as it was. -/
theorem State.processorReset_mem (s : State) : s.processorReset.mem = s.mem := by
  simp [State.processorReset, State.coreReset]

theorem Memory.wf_filter (m : List Host.Cell) (f : Host.Cell → Bool) (h : Memory.wf m = true) :
    Memory.wf (m.filter f) = true := by
  induction m with
  | nil => rfl
  | cons c m ih =>
    obtain ⟨a, b⟩ := c
    obtain ⟨hb, hm, hw⟩ := (Memory.wf_cons a b m).mp h
    simp only [List.filter_cons]
    split
    · exact (Memory.wf_cons a b _).mpr ⟨hb, fun c hc => hm c (List.mem_filter.mp hc).1, ih hw⟩
    · exact ih hw

/-- A power-on reset keeps the canonical form, whatever the TCMs are supplied with. -/
theorem State.powerOnReset_wf (s : State) (tcm : List Host.Cell) (h : s.memWf) : (s.powerOnReset tcm).memWf := by
  have fold (l : List Host.Cell) (m : List Host.Cell) (hm : Memory.wf m = true) :
      Memory.wf (l.foldl (fun m c => Memory.write m c.1 c.2) m) = true := by
    induction l generalizing m with
    | nil => exact hm
    | cons c l ih => exact ih _ (Memory.wf_write _ _ _ hm)
  exact fold _ _ (Memory.wf_filter _ _ h)

end Sys2Proof.Machine
end

