-- ==== Sys2Proof/Machine/Outputs.lean ====
section
/-! DEFINITION. Outputs: the output pins that are functions of the state (R30 to R37, R72, R355, R412, R471, R788), and the
signals with which the ports show a transfer (R797 to R800). True is HIGH. -/

namespace Sys2Proof.Machine

/-! Debug (R36, R471) -/

/-- DBGACK: in Debug state, or forced HIGH by DSCR[10]. -/
def State.dbgAck (s : State) : Bool := s.halted || s.dbg.dscr.getLsbD 10

/-- DBGNOPWRDWN: DSCR[9]. -/
def State.dbgNoPwrDwn (s : State) : Bool := s.dbg.dscr.getLsbD 9

/-- COMMRX and COMMTX: DSCR[30] and DSCR[29]. -/
def State.commRx (s : State) : Bool := s.dbg.dscr.getLsbD 30
def State.commTx (s : State) : Bool := s.dbg.dscr.getLsbD 29

/-! Interrupts (R33), active LOW -/

/-- nDMAIRQ: of channels that were Non-secure when the interrupt came (R788). -/
def State.nDmaIrq (s : State) : Bool := !((s.channel false).irq || (s.channel true).irq)

/-- nDMASIRQ: of channels that were Secure. -/
def State.nDmaSirq (s : State) : Bool := !((s.channel false).sirq || (s.channel true).sirq)

/-- nDMAEXTERRIRQ: an external access of the DMA has been answered with an error (R788). -/
def State.nDmaExtErrIrq (s : State) : Bool := !((s.channel false).externalError || (s.channel true).externalError)

/-- nPMUIRQ (R355). -/
def State.nPmuIrq (s : State) : Bool := !s.cp15.pmuInterrupt

/-- IRQACK, seen as the notice R1581 makes of it: a step from `s` to `t` has acknowledged a vectored IRQ. -/
def irqAcknowledged (s t : State) : Bool := t.irqAcks != s.irqAcks

/-! Configuration and monitoring -/

/-- CFGBIGEND: the B bit (R31). -/
def State.cfgBigEnd (s : State) : Bool := s.bigEndian32

/-- STANDBYWFI: LOW, since Wait For Interrupt is over within its step (R1600, R1644, decision D51). -/
def State.standbyWfi (_ : State) : Bool := false

/-- nVALIRQ, nVALFIQ, nVALRESET and VALEDBGREQ: the System Validation counters never fire (R37, R361, decision D14). Inactive
is HIGH for the first three and, DESIGN CHOICE (log 85), LOW for the last, as its name says; R361 has it go LOW to fire. -/
def State.nValIrq (_ : State) : Bool := true
def State.nValFiq (_ : State) : Bool := true
def State.nValReset (_ : State) : Bool := true
def State.valEdbgReq (_ : State) : Bool := false

/-- This instruction, executed in this state, is an MCR that performs one of the operations `p` picks. -/
def State.performs (s : State) (p : Cp15 → Bool) (i : Instr) : Bool :=
  match i with
  | .mcr c op1 crn rd cp op2 crm =>
    Cond.passes c s.cpsr && cp == 15 && rd != 15 && (Cp15.of? crn op1 crm op2).any fun r => p r && r.writable s
  | _ => false

/-- SECMONBUS[20:5] (R72). -/
def State.secMonFields (s : State) : BitVec 16 :=
  let tcm (t : Tcm) : BitVec 1 := BitVec.ofBool (t.region.getLsbD 0)
  let control (k : Nat) : BitVec 1 := BitVec.ofBool (s.secure.sctlr.getLsbD k)
  tcm s.cp15.itcm[1] ++ tcm s.cp15.itcm[0] ++ tcm s.cp15.dtcm[1] ++ tcm s.cp15.dtcm[0] ++
    BitVec.ofBool (s.cp15.nsacr.getLsbD 18) ++ control 12 ++ control 2 ++ control 0 ++
    BitVec.ofBool (s.cp15.scr.getLsbD 0) ++ BitVec.ofBool s.cpsr.a ++ BitVec.ofBool s.cpsr.i ++ BitVec.ofBool s.cpsr.f ++
    s.cpsr.mode.toBits.extractLsb' 0 4

/-- SECMONBUS[24:0] (R72) in a state, between instructions or while one executes there: bit 22 while a barrier does, Wait For
Interrupt with its Data Synchronization Barrier among them (R1600; DESIGN CHOICE, log 85), and bit 21 for a Prefetch Flush. The bits of the ETM
registers are 0, since there is no ETM (log 6). -/
def State.secMonBus (s : State) (executing : Option Instr) : BitVec 25 :=
  let bit (p : Cp15 → Bool) : BitVec 1 := BitVec.ofBool (executing.any (s.performs p))
  0#2 ++ bit (fun r => r == .dsb || r == .dmb || r == .wfi) ++ bit (· == .flushPrefetch) ++ s.secMonFields ++ 0#5

/-! The signals of a transfer (R797 to R800) -/

/-- AxPROT[2:0]. -/
def Request.prot (q : Request) : BitVec 3 := BitVec.ofBool q.instr ++ BitVec.ofBool q.ns ++ BitVec.ofBool q.priv

/-- AxLEN[3:0], AxSIZE[2:0] and AxBURST[1:0] (R797): the number of transfers less one, log2 of their size, and how their
addresses go on. -/
def Request.axLen (q : Request) : BitVec 4 := BitVec.ofNat 4 (q.beats - 1)
def Request.axSize (q : Request) : BitVec 3 := BitVec.ofNat 3 (Nat.log2 q.size)
def Request.axBurst (q : Request) : BitVec 2 :=
  match q.burst with
  | .fixed => 0b00 | .incr => 0b01 | .wrap => 0b10

/-- AxLOCK[1:0]. -/
def Request.axLock (q : Request) : BitVec 2 :=
  match q.lock with
  | .normal => 0b00 | .exclusive => 0b01 | .locked => 0b10

/-- The code of a memory type with one of its cache policies (Tables 8-6 and 8-8). -/
def MemType.signal (ty : MemType) (policy : BitVec 2) : BitVec 4 :=
  match ty with
  | .stronglyOrdered => 0b0000
  | .device => 0b0001
  | .normal =>
    if policy = 0b00#2 then 0b0010 else if policy = 0b10#2 then 0b0110 else if policy = 0b11#2 then 0b0111 else 0b1111

/-- AxCACHE[3:0]: the outer attributes. With the MMU off and no TEX remap, accesses are Outer Noncacheable
(R578). -/
def Request.axCache (q : Request) : BitVec 4 := if q.attrs.flat then 0b0010 else q.attrs.ty.signal q.attrs.outer

/-- AxSIDEBAND[4:0]: the inner attributes, which the instruction port shows as cacheable or not (Table 8-9), and the Shared
attribute. With the MMU off and no TEX remap, accesses are Inner Strongly Ordered (R578). -/
def Request.axSideband (q : Request) : BitVec 5 :=
  let inner := if q.attrs.flat then 0 else q.attrs.ty.signal q.attrs.inner
  (if q.port = .instruction && q.attrs.ty = .normal && q.attrs.inner != 0 then 0b0110#4 else inner) ++
    BitVec.ofBool q.attrs.shared

end Sys2Proof.Machine
end

