-- ==== Sys2Proof/Tests/Slice0.lean ====
section
/-! SUPPORT. Tests: ill-formed terms that WellFormed refuses; words written out from the encodings of 30_encoding.md
      and
the opcode table, field by field, and what they decode to; worked values of 95_test_vectors.md and
96_test_vectors_derived.md, one step each; and for each statement a state that meets its hypotheses. -/

namespace Sys2Proof.Machine

set_option Elab.async false

/-! Ill-formed terms: the encoding belongs to an earlier row of the opcode table -/

theorem test_wf_unprivileged_row : [Instr.ldrImm .al false true true 1 2 4, .ldrReg .al false true true 1 2 0 .lsl 3,
    .ldrbImm .al false true true 1 2 4, .ldrbReg .al false true true 1 2 0 .lsl 3, .strImm .al false true true 1 2 4,
    .strReg .al false true true 1 2 0 .lsl 3, .strbImm .al false true true 1 2 4,
    .strbReg .al false true true 1 2 0 .lsl 3].any (·.wf) = false := by decide +kernel
theorem test_wf_base_15 : [Instr.sxtab16 .al 15 1 0 2, .sxtab .al 15 1 0 2, .sxtah .al 15 1 0 2, .uxtab16 .al 15 1 0
      2,
    .uxtab .al 15 1 0 2, .uxtah .al 15 1 0 2, .smlad .al 1 15 2 false 3, .smlsd .al 1 15 2 false 3,
    .smmla .al 1 15 2 false 3, .usada8 .al 1 15 2 3].any (·.wf) = false := by decide +kernel
theorem test_wf_hint_row : [Instr.nopReservedHint .al 0, .nopReservedHint .al 1, .msrImm .al false 0 0 5].any (·.wf) =
    false := by decide +kernel
theorem test_wf_cpy_row : [Instr.movShift .al false 1 0 .lsl 2, .tMov3 false false 1 2].any (·.wf) = false := by
  decide +kernel
theorem test_wf_fmstat_row : (Instr.fmrx .al 1 15).wf = false := by decide +kernel
theorem test_wf_thumb_rows : [Instr.tAdd1 0 1 2, .tB1 .al 5].any (·.wf) = false := by decide +kernel
theorem test_wf_unconditional_rows : [Instr.undefinedArm 0x5700010, .undefinedArm 0x1010000, .undefinedArm
      0xB000000].any
    (·.wf) = false := by decide +kernel
theorem test_wf_vfp_rows : [Instr.cdp .al 3 1 2 10 0 3, .mcr .al 0 1 2 10 0 0, .mrc .al 7 1 15 10 0 0,
    .mcrr .al 1 2 11 1 3, .mrrc .al 1 2 11 1 3, .stcOffset .al true false false 1 2 10 4, .stcPost .al true false 1 2
      10 4,
    .stcUnindexed .al false 1 2 10 4, .ldcOffset .al true false false 1 2 10 4, .ldcPost .al true false 1 2 10 4,
    .ldcUnindexed .al false 1 2 10 4].any (·.wf) = false := by decide +kernel
theorem test_wf_vfp_decrement_rows : [Instr.stcOffset .al false false true 1 2 10 4, .ldcOffset .al false false true
      1 2 11 4,
    .stcPost .al false false 1 2 11 4, .ldcPost .al false false 1 2 11 4].map (·.wf) = [false, false, true, true] :=
      by
  decide +kernel

/-! Decoding -/

theorem test_decode_unconditional :
    decodeArm 0b111100010000_01_1_00000000_0_0_1_0_01001#32 = .instr (.cps 1 true false false true 9) ∧
    decodeArm 0b1111000100000001000000_0_000000000#32 = .instr (.setend false) ∧
    decodeArm 0b11110101011111111111000000011111#32 = .instr .clrex ∧
    decodeArm 0b11110101_1_101_0111_1111_000100100011#32 = .instr (.pldImm true 7 0x123) ∧
    decodeArm 0b11110111_0_101_1101_1111_10011_01_0_0010#32 = .instr (.pldReg false 13 0x13 .lsr 2) ∧
    decodeArm 0b1111100_0_0_1_1_0110100000101000_10101#32 = .instr (.srs false false true 0x15) ∧
    decodeArm 0b1111100_1_0_0_0_1_0100_0000101000000000#32 = .instr (.rfe true false false 4) ∧
    decodeArm 0b1111101_0_101001010001110010010011#32 = .instr (.blxImm false 0xa51c93) ∧
    decodeArm 0b1111_0010101001010001110010010011#32 = .instr (.undefinedArm 0x2a51c93) := by decide +kernel
theorem test_decode_unconditional_coprocessor :
    decodeArm 0b111111000100_0010_0100_0111_0111_1101#32 = .instr (.mcrr2 2 4 7 7 13) ∧
    decodeArm 0b111111000101_0100_1000_0111_1101_1011#32 = .instr (.mrrc2 4 8 7 13 11) ∧
    decodeArm 0b11111101_0_1_0_0_1011_0001_0111_00011100#32 = .instr (.stc2Offset false true false 11 1 7 0x1c) ∧
    decodeArm 0b11111101_0_1_0_1_0100_1000_0111_00011100#32 = .instr (.ldc2Offset false true false 4 8 7 0x1c) ∧
    decodeArm 0b11111100_1_0_10_1011_0001_0111_00011100#32 = .instr (.stc2Post true false 11 1 7 0x1c) ∧
    decodeArm 0b11111100_1_0_11_0100_1000_0111_00011100#32 = .instr (.ldc2Post true false 4 8 7 0x1c) ∧
    decodeArm 0b111111001_1_00_1011_0001_0111_00011100#32 = .instr (.stc2Unindexed true 11 1 7 0x1c) ∧
    decodeArm 0b111111001_1_01_0100_1000_0111_00011100#32 = .instr (.ldc2Unindexed true 4 8 7 0x1c) ∧
    decodeArm 0b11111110_0100_1000_0111_0111_100_0_0001#32 = .instr (.cdp2 4 8 7 7 4 1) ∧
    decodeArm 0b11111110_011_0_0111_1101_0111_101_1_0010#32 = .instr (.mcr2 3 7 13 7 5 2) ∧
    decodeArm 0b11111110_001_1_1101_1011_0111_110_1_0100#32 = .instr (.mrc2 1 13 11 7 6 4) := by decide +kernel
theorem test_decode_vfp_cdp_3op_s :
    decodeArm 0b1110_11100_0_00_0010_0100_1010_0_0_1_0_1101#32 = .instr (.fmacs .al false 2 4 false true 13) ∧
    decodeArm 0b0001_11100_0_00_1000_0111_1010_1_1_0_0_0001#32 = .instr (.fnmacs .ne false 8 7 true false 1) ∧
    decodeArm 0b0011_11100_1_01_1101_1011_1010_0_0_0_0_0100#32 = .instr (.fmscs .lo true 13 11 false false 4) ∧
    decodeArm 0b0000_11100_0_01_0001_0010_1010_0_1_1_0_0111#32 = .instr (.fnmscs .eq false 1 2 false true 7) ∧
    decodeArm 0b1100_11100_0_10_0100_1000_1010_1_0_0_0_1011#32 = .instr (.fmuls .gt false 4 8 true false 11) ∧
    decodeArm 0b1110_11100_1_10_0111_1101_1010_0_1_0_0_0010#32 = .instr (.fnmuls .al true 7 13 false false 2) ∧
    decodeArm 0b0001_11100_0_11_1011_0001_1010_0_0_1_0_1000#32 = .instr (.fadds .ne false 11 1 false true 8) ∧
    decodeArm 0b0011_11100_0_11_0010_0100_1010_1_1_0_0_1101#32 = .instr (.fsubs .lo false 2 4 true false 13) ∧
    decodeArm 0b0000_11101_1_00_1000_0111_1010_0_0_0_0_0001#32 = .instr (.fdivs .eq true 8 7 false false 1) := by
      decide+kernel
theorem test_decode_vfp_cdp_3op_d :
    decodeArm 0b0000_11100000_0010_0100_10110000_1000#32 = .instr (.fmacd .eq 2 4 8) ∧
    decodeArm 0b1100_11100000_1000_0111_10110100_1101#32 = .instr (.fnmacd .gt 8 7 13) ∧
    decodeArm 0b1110_11100001_1101_1011_10110000_0001#32 = .instr (.fmscd .al 13 11 1) ∧
    decodeArm 0b0001_11100001_0001_0010_10110100_0100#32 = .instr (.fnmscd .ne 1 2 4) ∧
    decodeArm 0b0011_11100010_0100_1000_10110000_0111#32 = .instr (.fmuld .lo 4 8 7) ∧
    decodeArm 0b0000_11100010_0111_1101_10110100_1011#32 = .instr (.fnmuld .eq 7 13 11) ∧
    decodeArm 0b1100_11100011_1011_0001_10110000_0010#32 = .instr (.faddd .gt 11 1 2) ∧
    decodeArm 0b1110_11100011_0010_0100_10110100_1000#32 = .instr (.fsubd .al 2 4 8) ∧
    decodeArm 0b0001_11101000_1000_0111_10110000_1101#32 = .instr (.fdivd .ne 8 7 13) := by decide +kernel
theorem test_decode_vfp_cdp_ext_s :
    decodeArm 0b1100_11101_1_110000_1101_101001_0_0_0001#32 = .instr (.fcpys .gt true 13 false 1) ∧
    decodeArm 0b1110_11101_0_110000_0001_101011_1_0_0100#32 = .instr (.fabss .al false 1 true 4) ∧
    decodeArm 0b0001_11101_1_110001_0100_101001_0_0_0111#32 = .instr (.fnegs .ne true 4 false 7) ∧
    decodeArm 0b0011_11101_1_110001_0111_101011_0_0_1011#32 = .instr (.fsqrts .lo true 7 false 11) ∧
    decodeArm 0b0000_11101_0_110100_1011_101001_1_0_0010#32 = .instr (.fcmps .eq false 11 true 2) ∧
    decodeArm 0b1100_11101_1_110100_0010_101011_0_0_1000#32 = .instr (.fcmpes .gt true 2 false 8) := by decide +kernel
theorem test_decode_vfp_cdp_ext_d :
    decodeArm 0b0011_111010110000_1101_10110100_1011#32 = .instr (.fcpyd .lo 13 11) ∧
    decodeArm 0b0000_111010110000_0001_10111100_0010#32 = .instr (.fabsd .eq 1 2) ∧
    decodeArm 0b1100_111010110001_0100_10110100_1000#32 = .instr (.fnegd .gt 4 8) ∧
    decodeArm 0b1110_111010110001_0111_10111100_1101#32 = .instr (.fsqrtd .al 7 13) ∧
    decodeArm 0b0001_111010110100_1011_10110100_0001#32 = .instr (.fcmpd .ne 11 1) ∧
    decodeArm 0b0011_111010110100_0010_10111100_0100#32 = .instr (.fcmped .lo 2 4) := by decide +kernel
theorem test_decode_vfp_cdp_cmpz_s :
    decodeArm 0b1110_11101_1_110101_1000_101001000000#32 = .instr (.fcmpzs .al true 8) ∧
    decodeArm 0b0001_11101_0_110101_1101_101011000000#32 = .instr (.fcmpezs .ne false 13) := by decide +kernel
theorem test_decode_vfp_cdp_cmpz_d :
    decodeArm 0b0000_111010110101_1000_101101000000#32 = .instr (.fcmpzd .eq 8) ∧
    decodeArm 0b1100_111010110101_1101_101111000000#32 = .instr (.fcmpezd .gt 13) := by decide +kernel
theorem test_decode_vfp_cdp_cvt :
    decodeArm 0b0011_111010110111_1011_101011_1_0_0010#32 = .instr (.fcvtds .lo 11 true 2) ∧
    decodeArm 0b1110_11101_0_110111_0010_10111100_0100#32 = .instr (.fcvtsd .al false 2 4) := by decide +kernel
theorem test_decode_vfp_cdp_int_to_float :
    decodeArm 0b0000_11101_1_111000_0100_101001_0_0_0111#32 = .instr (.fuitos .eq true 4 false 7) ∧
    decodeArm 0b0001_111010111000_0100_101101_1_0_0111#32 = .instr (.fuitod .ne 4 true 7) ∧
    decodeArm 0b1100_11101_0_111000_0111_101011_1_0_1011#32 = .instr (.fsitos .gt false 7 true 11) ∧
    decodeArm 0b0011_111010111000_0111_101111_1_0_1011#32 = .instr (.fsitod .lo 7 true 11) := by decide +kernel
theorem test_decode_vfp_cdp_float_to_int :
    decodeArm 0b1110_11101_1_111100_1011_101001_0_0_0010#32 = .instr (.ftouis .al true 11 false 2) ∧
    decodeArm 0b0000_11101_0_111100_0001_10110100_0010#32 = .instr (.ftouid .eq false 1 2) ∧
    decodeArm 0b0001_11101_1_111100_0010_101011_0_0_1000#32 = .instr (.ftouizs .ne true 2 false 8) ∧
    decodeArm 0b1100_11101_1_111100_0100_10111100_1000#32 = .instr (.ftouizd .gt true 4 8) ∧
    decodeArm 0b0011_11101_0_111101_1000_101001_1_0_1101#32 = .instr (.ftosis .lo false 8 true 13) ∧
    decodeArm 0b1110_11101_1_111101_0111_10110100_1101#32 = .instr (.ftosid .al true 7 13) ∧
    decodeArm 0b0000_11101_1_111101_1101_101011_0_0_0001#32 = .instr (.ftosizs .eq true 13 false 1) ∧
    decodeArm 0b0001_11101_0_111101_1011_10111100_0001#32 = .instr (.ftosizd .ne false 11 1) := by decide +kernel
theorem test_decode_vfp_load_store_1 :
    decodeArm 0b1100_1101_1_0_01_0010_0100_1010_00011100#32 = .instr (.flds .gt true false 2 4 0x1c) ∧
    decodeArm 0b1110_1101_0_1_00_1000_0111_1010_10100101#32 = .instr (.fsts .al false true 8 7 0xa5) ∧
    decodeArm 0b0011_1101_1_001_0010_0100_1011_00011100#32 = .instr (.fldd .lo true 2 4 0x1c) ∧
    decodeArm 0b0000_1101_1_000_1000_0111_1011_10100101#32 = .instr (.fstd .eq true 8 7 0xa5) ∧
    decodeArm 0b0001_11001_1_0_1_1101_1011_1010_10010011#32 = .instr (.fldmsIa .ne true false 13 11 0x93) ∧
    decodeArm 0b0011_110010_1_1_1011_0001_1011_1010101_0#32 = .instr (.fldmdIa .lo true 11 1 0x55) ∧
    decodeArm 0b0000_110010_0_1_0010_0100_1011_1010101_1#32 = .instr (.fldmxIa .eq false 2 4 0x55) ∧
    decodeArm 0b1100_11001_1_0_0_0111_1101_1010_10010011#32 = .instr (.fstmsIa .gt true false 7 13 0x93) := by
      decide+kernel
theorem test_decode_vfp_load_store_2 :
    decodeArm 0b1110_110010_1_0_1101_1011_1011_1010101_0#32 = .instr (.fstmdIa .al true 13 11 0x55) ∧
    decodeArm 0b0001_110010_0_0_0001_0010_1011_1010101_1#32 = .instr (.fstmxIa .ne false 1 2 0x55) ∧
    decodeArm 0b1100_11010_0_11_1101_1011_1010_10010011#32 = .instr (.fldmsDb .gt false 13 11 0x93) ∧
    decodeArm 0b1110_11010011_1011_0001_1011_1010101_0#32 = .instr (.fldmdDb .al 11 1 0x55) ∧
    decodeArm 0b0001_11010011_0010_0100_1011_1010101_1#32 = .instr (.fldmxDb .ne 2 4 0x55) ∧
    decodeArm 0b0011_11010_0_10_0111_1101_1010_10010011#32 = .instr (.fstmsDb .lo false 7 13 0x93) ∧
    decodeArm 0b0000_11010010_1101_1011_1011_1010101_0#32 = .instr (.fstmdDb .eq 13 11 0x55) ∧
    decodeArm 0b1100_11010010_0001_0010_1011_1010101_1#32 = .instr (.fstmxDb .gt 1 2 0x55) := by decide +kernel
theorem test_decode_vfp_transfer_1 :
    decodeArm 0b0011_1110111100011111101000010000#32 = .instr (.fmstat .lo) ∧
    decodeArm 0b0000_11100001_1000_0111_1010_1_0010000#32 = .instr (.fmrs .eq 8 7 true) ∧
    decodeArm 0b1100_11100001_1101_1011_101100010000#32 = .instr (.fmrdl .gt 13 11) ∧
    decodeArm 0b1110_11100011_0001_0010_101100010000#32 = .instr (.fmrdh .al 1 2) ∧
    decodeArm 0b1110_11100000_0100_1000_1010_0_0010000#32 = .instr (.fmsr .al 4 8 false) ∧
    decodeArm 0b0001_11100000_0111_1101_101100010000#32 = .instr (.fmdlr .ne 7 13) ∧
    decodeArm 0b0011_11100010_1011_0001_101100010000#32 = .instr (.fmdhr .lo 11 1) := by decide +kernel
theorem test_decode_vfp_transfer_2 :
    decodeArm 0b0000_11101110_0010_0100_101000010000#32 = .instr (.fmxr .eq 2 4) ∧
    decodeArm 0b0001_11101111_1000_1000_101000010000#32 = .instr (.fmrx .ne 8 8) ∧
    decodeArm 0b1100_11000100_1000_0111_10110001_1101#32 = .instr (.fmdrr .gt 8 7 13) ∧
    decodeArm 0b0011_11000101_0111_1101_10110001_1011#32 = .instr (.fmrrd .lo 7 13 11) ∧
    decodeArm 0b1110_11000100_1101_1011_101000_1_1_0010#32 = .instr (.fmsrr .al 13 11 true 2) ∧
    decodeArm 0b0000_11000101_1011_0001_101000_1_1_0100#32 = .instr (.fmrrs .eq 11 1 true 4) := by decide +kernel
theorem test_decode_miscellaneous_1 :
    decodeArm 0b0001_00010_0_001111_0010_000000000000#32 = .instr (.mrs .ne false 2) ∧
    decodeArm 0b1100_00010_1_10_0100_111100000000_1000#32 = .instr (.msrReg .gt true 4 8) ∧
    decodeArm 0b0011_000100101111111111110001_0100#32 = .instr (.bx .lo 4) ∧
    decodeArm 0b1110_000100101111111111110010_1000#32 = .instr (.bxj .al 8) ∧
    decodeArm 0b0000_000100101111111111110011_0111#32 = .instr (.blxReg .eq 7) ∧
    decodeArm 0b0001_000101101111_1101_11110001_1011#32 = .instr (.clz .ne 13 11) ∧
    decodeArm 0b1100_00010000_1011_0001_00000101_0010#32 = .instr (.qadd .gt 11 1 2) ∧
    decodeArm 0b0011_00010010_0001_0010_00000101_0100#32 = .instr (.qsub .lo 1 2 4) := by decide +kernel
theorem test_decode_miscellaneous_2 :
    decodeArm 0b1110_00010100_0010_0100_00000101_1000#32 = .instr (.qdadd .al 2 4 8) ∧
    decodeArm 0b0000_00010110_0100_1000_00000101_0111#32 = .instr (.qdsub .eq 4 8 7) ∧
    decodeArm 0b1100_0011001000001111000000000000#32 = .instr (.nop .gt) ∧
    decodeArm 0b0011_0011001000001111000000000001#32 = .instr (.yield .lo) ∧
    decodeArm 0b1110_00110010000011110000_10010011#32 = .instr (.nopReservedHint .al 0x93) ∧
    decodeArm 0b0000_00110_1_10_1001_1111_0100_10100101#32 = .instr (.msrImm .eq true 9 4 0xa5) ∧
    decodeArm 0b1110_00010010_101001011100_0111_0011#32 = .instr (.bkpt 0xA5C3) ∧
    decodeArm 0b1110_00010110_000000000000_0111_0000#32 = .instr (.smc .al 0) := by decide +kernel
theorem test_decode_multiply :
    decodeArm 0b0011_00010000_1101_1011_0001_1_0_1_0_1000#32 = .instr (.smlaXY .lo 13 11 1 false true 8) ∧
    decodeArm 0b1110_00010010_1011_0001_0010_1_1_00_1000#32 = .instr (.smlawY .al 11 1 2 true 8) ∧
    decodeArm 0b0000_00010010_0001_0000_0010_1_1_10_1000#32 = .instr (.smulwY .eq 1 2 true 8) ∧
    decodeArm 0b0001_00010100_0010_0100_1000_1_0_1_0_1011#32 = .instr (.smlalXY .ne 2 4 8 false true 11) ∧
    decodeArm 0b1100_00010110_0100_0000_1000_1_1_0_0_1011#32 = .instr (.smulXY .gt 4 8 true false 11) ∧
    decodeArm 0b0011_0000000_1_0111_0000_1101_1001_1011#32 = .instr (.mul .lo true 7 13 11) ∧
    decodeArm 0b1110_0000001_0_1101_1011_0001_1001_0010#32 = .instr (.mla .al false 13 11 1 2) ∧
    decodeArm 0b0000_00000100_1101_1011_0001_1001_0010#32 = .instr (.umaal .eq 13 11 1 2) ∧
    decodeArm 0b0001_0000100_1_0001_0010_0100_1001_1000#32 = .instr (.umull .ne true 1 2 4 8) ∧
    decodeArm 0b1100_0000101_0_0010_0100_1000_1001_0111#32 = .instr (.umlal .gt false 2 4 8 7) ∧
    decodeArm 0b0011_0000110_1_0100_1000_0111_1001_1101#32 = .instr (.smull .lo true 4 8 7 13) ∧
    decodeArm 0b1110_0000111_1_1000_0111_1101_1001_1011#32 = .instr (.smlal .al true 8 7 13 11) := by decide +kernel
theorem test_decode_synchronisation :
    decodeArm 0b0000_00010000_1000_0111_00001001_1101#32 = .instr (.swp .eq 8 7 13) ∧
    decodeArm 0b0001_00010100_0111_1101_00001001_1011#32 = .instr (.swpb .ne 7 13 11) ∧
    decodeArm 0b1100_00011000_1101_1011_11111001_0001#32 = .instr (.strex .gt 13 11 1) ∧
    decodeArm 0b1110_00011010_0001_0010_11111001_0100#32 = .instr (.strexd .al 1 2 4) ∧
    decodeArm 0b0001_00011100_0100_1000_11111001_0111#32 = .instr (.strexb .ne 4 8 7) ∧
    decodeArm 0b0011_00011110_0111_1101_11111001_1011#32 = .instr (.strexh .lo 7 13 11) ∧
    decodeArm 0b0011_00011001_1011_0001_111110011111#32 = .instr (.ldrex .lo 11 1) ∧
    decodeArm 0b0000_00011011_0010_0100_111110011111#32 = .instr (.ldrexd .eq 2 4) ∧
    decodeArm 0b1100_00011101_1000_0111_111110011111#32 = .instr (.ldrexb .gt 8 7) ∧
    decodeArm 0b1110_00011111_1101_1011_111110011111#32 = .instr (.ldrexh .al 13 11) := by decide +kernel
theorem test_decode_load_store_extra :
    decodeArm 0b0000_000_0_0_1_1_0_0100_1000_0111_1011_1101#32 = .instr (.strhImm .eq false false true 4 8 7 13) ∧
    decodeArm 0b1100_000_0_1_1_0_0_0111_1101_1011_1101_0001#32 = .instr (.ldrdImm .gt false true false 7 13 11 1) ∧
    decodeArm 0b1110_000_1_0_1_0_0_1011_0001_0010_1111_0100#32 = .instr (.strdImm .al true false false 11 1 2 4) ∧
    decodeArm 0b0001_000_0_0_1_1_1_0010_0100_1000_1011_0111#32 = .instr (.ldrhImm .ne false false true 2 4 8 7) ∧
    decodeArm 0b0011_000_0_1_1_0_1_1000_0111_1101_1101_1011#32 = .instr (.ldrsbImm .lo false true false 8 7 13 11) ∧
    decodeArm 0b0000_000_1_0_1_0_1_1101_1011_0001_1111_0010#32 = .instr (.ldrshImm .eq true false false 13 11 1 2) ∧
    decodeArm 0b0001_000_1_0_0_0_0_1000_0111_00001011_1101#32 = .instr (.strhReg .ne true false false 8 7 13) ∧
    decodeArm 0b0011_000_0_0_0_1_0_1101_1011_00001101_0001#32 = .instr (.ldrdReg .lo false false true 13 11 1) ∧
    decodeArm 0b0000_000_0_1_0_0_0_0001_0010_00001111_0100#32 = .instr (.strdReg .eq false true false 1 2 4) ∧
    decodeArm 0b1100_000_1_0_0_0_1_0100_1000_00001011_0111#32 = .instr (.ldrhReg .gt true false false 4 8 7) ∧
    decodeArm 0b1110_000_0_0_0_1_1_0111_1101_00001101_1011#32 = .instr (.ldrsbReg .al false false true 7 13 11) ∧
    decodeArm 0b0001_000_0_1_0_0_1_1011_0001_00001111_0010#32 = .instr (.ldrshReg .ne false true false 11 1 2) := by
      decide+kernel
theorem test_decode_dp_cpy :
    decodeArm 0b0001_000110100000_0010_00000000_0100#32 = .instr (.cpy .ne 2 4) := by decide +kernel
theorem test_decode_dp_imm_1 :
    decodeArm 0b1100_0010000_0_1000_0111_1101_10100101#32 = .instr (.andImm .gt false 8 7 13 0xa5) ∧
    decodeArm 0b0000_0010001_0_1011_0001_0010_10100101#32 = .instr (.eorImm .eq false 11 1 2 0xa5) ∧
    decodeArm 0b0011_0010010_0_0100_1000_0111_10100101#32 = .instr (.subImm .lo false 4 8 7 0xa5) ∧
    decodeArm 0b0001_0010011_0_1101_1011_0001_10100101#32 = .instr (.rsbImm .ne false 13 11 1 0xa5) ∧
    decodeArm 0b1110_0010100_0_0010_0100_1000_10100101#32 = .instr (.addImm .al false 2 4 8 0xa5) ∧
    decodeArm 0b1100_0010101_0_0111_1101_1011_10100101#32 = .instr (.adcImm .gt false 7 13 11 0xa5) ∧
    decodeArm 0b0000_0010110_0_0001_0010_0100_10100101#32 = .instr (.sbcImm .eq false 1 2 4 0xa5) ∧
    decodeArm 0b0011_0010111_0_1000_0111_1101_10100101#32 = .instr (.rscImm .lo false 8 7 13 0xa5) := by decide +kernel
theorem test_decode_dp_imm_2 :
    decodeArm 0b0001_00110001_1101_0000_1011_00011100#32 = .instr (.tstImm .ne 13 11 0x1c) ∧
    decodeArm 0b1110_00110011_0010_0000_0100_00011100#32 = .instr (.teqImm .al 2 4 0x1c) ∧
    decodeArm 0b1100_00110101_0111_0000_1101_00011100#32 = .instr (.cmpImm .gt 7 13 0x1c) ∧
    decodeArm 0b0000_00110111_0001_0000_0010_00011100#32 = .instr (.cmnImm .eq 1 2 0x1c) ∧
    decodeArm 0b0011_0011100_0_0111_1101_1011_10100101#32 = .instr (.orrImm .lo false 7 13 11 0xa5) ∧
    decodeArm 0b0001_0011101_0_0000_0001_0010_10010011#32 = .instr (.movImm .ne false 1 2 0x93) ∧
    decodeArm 0b1110_0011110_0_1000_0111_1101_10100101#32 = .instr (.bicImm .al false 8 7 13 0xa5) ∧
    decodeArm 0b1100_0011111_0_0000_1011_0001_10010011#32 = .instr (.mvnImm .gt false 11 1 0x93) := by decide +kernel
theorem test_decode_dp_reg_shift_imm_1 :
    decodeArm 0b0011_0000000_1_0111_1101_10101_10_0_0010#32 = .instr (.andShift .lo true 7 13 0x15 .asr 2) ∧
    decodeArm 0b0001_0000001_1_0001_0010_10011_01_0_0111#32 = .instr (.eorShift .ne true 1 2 0x13 .lsr 7) ∧
    decodeArm 0b1110_0000010_1_1000_0111_00110_01_0_0001#32 = .instr (.subShift .al true 8 7 6 .lsr 1) ∧
    decodeArm 0b1100_0000011_1_1011_0001_00011_11_0_1000#32 = .instr (.rsbShift .gt true 11 1 3 .ror 8) ∧
    decodeArm 0b0000_0000100_1_0100_1000_01001_10_0_1011#32 = .instr (.addShift .eq true 4 8 9 .asr 11) ∧
    decodeArm 0b0011_0000101_1_1101_1011_10101_01_0_0100#32 = .instr (.adcShift .lo true 13 11 0x15 .lsr 4) ∧
    decodeArm 0b0001_0000110_1_0010_0100_10011_01_0_1101#32 = .instr (.sbcShift .ne true 2 4 0x13 .lsr 13) ∧
    decodeArm 0b1110_0000111_1_0111_1101_00110_11_0_0010#32 = .instr (.rscShift .al true 7 13 6 .ror 2) := by
      decide+kernel
theorem test_decode_dp_reg_shift_imm_2 :
    decodeArm 0b1100_00010001_1011_0000_01001_10_0_0100#32 = .instr (.tstShift .gt 11 9 .asr 4) ∧
    decodeArm 0b0000_00010011_0100_0000_10101_01_0_1101#32 = .instr (.teqShift .eq 4 0x15 .lsr 13) ∧
    decodeArm 0b0011_00010101_1101_0000_10011_01_0_0010#32 = .instr (.cmpShift .lo 13 0x13 .lsr 2) ∧
    decodeArm 0b0001_00010111_0010_0000_00110_11_0_0111#32 = .instr (.cmnShift .ne 2 6 .ror 7) ∧
    decodeArm 0b1110_0001100_1_1101_1011_00110_10_0_0100#32 = .instr (.orrShift .al true 13 11 6 .asr 4) ∧
    decodeArm 0b1100_0001101_1_0000_0010_10011_01_0_0111#32 = .instr (.movShift .gt true 2 0x13 .lsr 7) ∧
    decodeArm 0b0000_0001110_1_0111_1101_01001_01_0_0010#32 = .instr (.bicShift .eq true 7 13 9 .lsr 2) ∧
    decodeArm 0b0011_0001111_1_0000_0001_00011_11_0_1000#32 = .instr (.mvnShift .lo true 1 3 .ror 8) := by
      decide+kernel
theorem test_decode_dp_reg_shift_reg_1 :
    decodeArm 0b1110_0000000_1_1101_1011_0001_0_11_1_0100#32 = .instr (.andRegShift .al true 13 11 1 .ror 4) ∧
    decodeArm 0b1100_0000001_1_0010_0100_1000_0_10_1_1101#32 = .instr (.eorRegShift .gt true 2 4 8 .asr 13) ∧
    decodeArm 0b0000_0000010_1_0111_1101_1011_0_01_1_0010#32 = .instr (.subRegShift .eq true 7 13 11 .lsr 2) ∧
    decodeArm 0b0011_0000011_1_0001_0010_0100_0_01_1_0111#32 = .instr (.rsbRegShift .lo true 1 2 4 .lsr 7) ∧
    decodeArm 0b0001_0000100_1_1000_0111_1101_0_11_1_0001#32 = .instr (.addRegShift .ne true 8 7 13 .ror 1) ∧
    decodeArm 0b1110_0000101_1_1011_0001_0010_0_10_1_1000#32 = .instr (.adcRegShift .al true 11 1 2 .asr 8) ∧
    decodeArm 0b1100_0000110_1_0100_1000_0111_0_01_1_1011#32 = .instr (.sbcRegShift .gt true 4 8 7 .lsr 11) ∧
    decodeArm 0b0000_0000111_1_1101_1011_0001_0_01_1_0100#32 = .instr (.rscRegShift .eq true 13 11 1 .lsr 4) := by
      decide+kernel
theorem test_decode_dp_reg_shift_reg_2 :
    decodeArm 0b0011_00010001_0001_0000_0010_0_11_1_1000#32 = .instr (.tstRegShift .lo 1 2 .ror 8) ∧
    decodeArm 0b0001_00010011_1000_0000_0111_0_10_1_1011#32 = .instr (.teqRegShift .ne 8 7 .asr 11) ∧
    decodeArm 0b1110_00010101_1011_0000_0001_0_01_1_0100#32 = .instr (.cmpRegShift .al 11 1 .lsr 4) ∧
    decodeArm 0b1100_00010111_0100_0000_1000_0_01_1_1101#32 = .instr (.cmnRegShift .gt 4 8 .lsr 13) ∧
    decodeArm 0b0000_0001100_1_1011_0001_0010_0_11_1_1000#32 = .instr (.orrRegShift .eq true 11 1 2 .ror 8) ∧
    decodeArm 0b0011_0001101_1_0000_0100_1000_0_10_1_1101#32 = .instr (.movRegShift .lo true 4 8 .asr 13) ∧
    decodeArm 0b0001_0001110_1_1101_1011_0001_0_01_1_0100#32 = .instr (.bicRegShift .ne true 13 11 1 .lsr 4) ∧
    decodeArm 0b1110_0001111_1_0000_0010_0100_0_01_1_0111#32 = .instr (.mvnRegShift .al true 2 4 .lsr 7) := by
      decide+kernel
theorem test_decode_load_store_1 :
    decodeArm 0b0000_0100_0_011_0100_1000_101010111100#32 = .instr (.ldrtImm .eq false 4 8 0xabc) ∧
    decodeArm 0b1100_0100_1_111_0111_1101_101010111100#32 = .instr (.ldrbtImm .gt true 7 13 0xabc) ∧
    decodeArm 0b1110_0100_1_010_1011_0001_101010111100#32 = .instr (.strtImm .al true 11 1 0xabc) ∧
    decodeArm 0b0001_0100_0_110_0010_0100_101010111100#32 = .instr (.strbtImm .ne false 2 4 0xabc) ∧
    decodeArm 0b0001_0110_1_011_1000_0111_10011_10_0_0001#32 = .instr (.ldrtReg .ne true 8 7 0x13 .asr 1) ∧
    decodeArm 0b0011_0110_0_111_1101_1011_10101_01_0_0100#32 = .instr (.ldrbtReg .lo false 13 11 0x15 .lsr 4) ∧
    decodeArm 0b0000_0110_1_010_0001_0010_01001_10_0_0111#32 = .instr (.strtReg .eq true 1 2 9 .asr 7) ∧
    decodeArm 0b1100_0110_1_110_0100_1000_00011_01_0_1011#32 = .instr (.strbtReg .gt true 4 8 3 .lsr 11) := by
      decide+kernel
theorem test_decode_load_store_2 :
    decodeArm 0b0011_010_1_0_0_0_1_1101_1011_101010111100#32 = .instr (.ldrImm .lo true false false 13 11 0xabc) ∧
    decodeArm 0b0000_010_0_0_1_0_1_0001_0010_101010111100#32 = .instr (.ldrbImm .eq false false false 1 2 0xabc) ∧
    decodeArm 0b1100_010_0_1_0_0_0_0100_1000_101010111100#32 = .instr (.strImm .gt false true false 4 8 0xabc) ∧
    decodeArm 0b1110_010_1_0_1_0_0_0111_1101_101010111100#32 = .instr (.strbImm .al true false false 7 13 0xabc) ∧
    decodeArm 0b1110_011_0_1_0_0_1_1011_0001_10011_10_0_1000#32 = .instr (.ldrReg .al false true false 11 1 0x13 .asr
      8) ∧
    decodeArm 0b0001_011_1_0_1_0_1_0010_0100_10101_01_0_1101#32 = .instr (.ldrbReg .ne true false false 2 4 0x15 .lsr
      13) ∧
    decodeArm 0b0011_011_0_0_0_0_0_1000_0111_01001_10_0_0001#32 = .instr (.strReg .lo false false false 8 7 9 .asr 1)
      ∧
    decodeArm 0b0000_011_0_1_1_0_0_1101_1011_00011_01_0_0100#32 = .instr (.strbReg .eq false true false 13 11 3 .lsr
      4) := by decide +kernel
theorem test_decode_parallel_1 :
    decodeArm 0b0001_01100001_1000_0111_11110001_1101#32 = .instr (.sadd16 .ne 8 7 13) ∧
    decodeArm 0b1100_01100010_0111_1101_11110001_1011#32 = .instr (.qadd16 .gt 7 13 11) ∧
    decodeArm 0b0011_01100011_1101_1011_11110001_0001#32 = .instr (.shadd16 .lo 13 11 1) ∧
    decodeArm 0b1110_01100101_1011_0001_11110001_0010#32 = .instr (.uadd16 .al 11 1 2) ∧
    decodeArm 0b0000_01100110_0001_0010_11110001_0100#32 = .instr (.uqadd16 .eq 1 2 4) ∧
    decodeArm 0b0001_01100111_0010_0100_11110001_1000#32 = .instr (.uhadd16 .ne 2 4 8) ∧
    decodeArm 0b1100_01100001_0100_1000_11110011_0111#32 = .instr (.saddsubx .gt 4 8 7) ∧
    decodeArm 0b0011_01100010_1000_0111_11110011_1101#32 = .instr (.qaddsubx .lo 8 7 13) ∧
    decodeArm 0b1110_01100011_0111_1101_11110011_1011#32 = .instr (.shaddsubx .al 7 13 11) ∧
    decodeArm 0b0000_01100101_1101_1011_11110011_0001#32 = .instr (.uaddsubx .eq 13 11 1) ∧
    decodeArm 0b0001_01100110_1011_0001_11110011_0010#32 = .instr (.uqaddsubx .ne 11 1 2) ∧
    decodeArm 0b1100_01100111_0001_0010_11110011_0100#32 = .instr (.uhaddsubx .gt 1 2 4) := by decide +kernel
theorem test_decode_parallel_2 :
    decodeArm 0b0011_01100001_0010_0100_11110101_1000#32 = .instr (.ssubaddx .lo 2 4 8) ∧
    decodeArm 0b1110_01100010_0100_1000_11110101_0111#32 = .instr (.qsubaddx .al 4 8 7) ∧
    decodeArm 0b0000_01100011_1000_0111_11110101_1101#32 = .instr (.shsubaddx .eq 8 7 13) ∧
    decodeArm 0b0001_01100101_0111_1101_11110101_1011#32 = .instr (.usubaddx .ne 7 13 11) ∧
    decodeArm 0b1100_01100110_1101_1011_11110101_0001#32 = .instr (.uqsubaddx .gt 13 11 1) ∧
    decodeArm 0b0011_01100111_1011_0001_11110101_0010#32 = .instr (.uhsubaddx .lo 11 1 2) ∧
    decodeArm 0b1110_01100001_0001_0010_11110111_0100#32 = .instr (.ssub16 .al 1 2 4) ∧
    decodeArm 0b0000_01100010_0010_0100_11110111_1000#32 = .instr (.qsub16 .eq 2 4 8) ∧
    decodeArm 0b0001_01100011_0100_1000_11110111_0111#32 = .instr (.shsub16 .ne 4 8 7) ∧
    decodeArm 0b1100_01100101_1000_0111_11110111_1101#32 = .instr (.usub16 .gt 8 7 13) ∧
    decodeArm 0b0011_01100110_0111_1101_11110111_1011#32 = .instr (.uqsub16 .lo 7 13 11) ∧
    decodeArm 0b1110_01100111_1101_1011_11110111_0001#32 = .instr (.uhsub16 .al 13 11 1) := by decide +kernel
theorem test_decode_parallel_3 :
    decodeArm 0b0000_01100001_1011_0001_11111001_0010#32 = .instr (.sadd8 .eq 11 1 2) ∧
    decodeArm 0b0001_01100010_0001_0010_11111001_0100#32 = .instr (.qadd8 .ne 1 2 4) ∧
    decodeArm 0b1100_01100011_0010_0100_11111001_1000#32 = .instr (.shadd8 .gt 2 4 8) ∧
    decodeArm 0b0011_01100101_0100_1000_11111001_0111#32 = .instr (.uadd8 .lo 4 8 7) ∧
    decodeArm 0b1110_01100110_1000_0111_11111001_1101#32 = .instr (.uqadd8 .al 8 7 13) ∧
    decodeArm 0b0000_01100111_0111_1101_11111001_1011#32 = .instr (.uhadd8 .eq 7 13 11) ∧
    decodeArm 0b0001_01100001_1101_1011_11111111_0001#32 = .instr (.ssub8 .ne 13 11 1) ∧
    decodeArm 0b1100_01100010_1011_0001_11111111_0010#32 = .instr (.qsub8 .gt 11 1 2) ∧
    decodeArm 0b0011_01100011_0001_0010_11111111_0100#32 = .instr (.shsub8 .lo 1 2 4) ∧
    decodeArm 0b1110_01100101_0010_0100_11111111_1000#32 = .instr (.usub8 .al 2 4 8) ∧
    decodeArm 0b0000_01100110_0100_1000_11111111_0111#32 = .instr (.uqsub8 .eq 4 8 7) ∧
    decodeArm 0b0001_01100111_1000_0111_11111111_1101#32 = .instr (.uhsub8 .ne 8 7 13) := by decide +kernel
theorem test_decode_media_1 :
    decodeArm 0b1100_01101000_0111_1101_10011_001_0001#32 = .instr (.pkhbt .gt 7 13 0x13 1) ∧
    decodeArm 0b0011_01101000_1101_1011_00011_101_0010#32 = .instr (.pkhtb .lo 13 11 3 2) ∧
    decodeArm 0b1110_01101010_1011_0001_11110011_0010#32 = .instr (.ssat16 .al 11 1 2) ∧
    decodeArm 0b0000_01101110_0001_0010_11110011_0100#32 = .instr (.usat16 .eq 1 2 4) ∧
    decodeArm 0b0001_0110101_10101_0100_01001_1_01_1101#32 = .instr (.ssat .ne 0x15 4 9 true 13) ∧
    decodeArm 0b1100_0110111_00110_1000_10011_0_01_1011#32 = .instr (.usat .gt 6 8 0x13 false 11) ∧
    decodeArm 0b0011_01101000_1000_0111_11111011_1101#32 = .instr (.sel .lo 8 7 13) ∧
    decodeArm 0b1110_011010111111_0111_11110011_1101#32 = .instr (.rev .al 7 13) ∧
    decodeArm 0b0000_011010111111_1101_11111011_1011#32 = .instr (.rev16 .eq 13 11) ∧
    decodeArm 0b0001_011011111111_1011_11111011_0001#32 = .instr (.revsh .ne 11 1) ∧
    decodeArm 0b1100_011010001111_0001_11_000111_0100#32 = .instr (.sxtb16 .gt 1 3 4) := by decide +kernel
theorem test_decode_media_2 :
    decodeArm 0b0011_011010101111_0010_01_000111_1000#32 = .instr (.sxtb .lo 2 1 8) ∧
    decodeArm 0b1110_011010111111_0100_10_000111_0111#32 = .instr (.sxth .al 4 2 7) ∧
    decodeArm 0b0000_011011001111_1000_11_000111_1101#32 = .instr (.uxtb16 .eq 8 3 13) ∧
    decodeArm 0b0001_011011101111_0111_01_000111_1011#32 = .instr (.uxtb .ne 7 1 11) ∧
    decodeArm 0b1100_011011111111_1101_10_000111_0001#32 = .instr (.uxth .gt 13 2 1) ∧
    decodeArm 0b0011_01101000_1011_0001_01_000111_0100#32 = .instr (.sxtab16 .lo 11 1 1 4) ∧
    decodeArm 0b1110_01101010_0001_0010_10_000111_1000#32 = .instr (.sxtab .al 1 2 2 8) ∧
    decodeArm 0b0000_01101011_0010_0100_11_000111_0111#32 = .instr (.sxtah .eq 2 4 3 7) ∧
    decodeArm 0b0001_01101100_0100_1000_01_000111_1101#32 = .instr (.uxtab16 .ne 4 8 1 13) ∧
    decodeArm 0b1100_01101110_1000_0111_10_000111_1011#32 = .instr (.uxtab .gt 8 7 2 11) ∧
    decodeArm 0b0011_01101111_0111_1101_11_000111_0001#32 = .instr (.uxtah .lo 7 13 3 1) := by decide +kernel
theorem test_decode_media_multiply :
    decodeArm 0b1110_01110000_1101_1111_1011_00_1_1_0010#32 = .instr (.smuad .al 13 11 true 2) ∧
    decodeArm 0b0000_01110000_1011_1111_0001_01_0_1_0100#32 = .instr (.smusd .eq 11 1 false 4) ∧
    decodeArm 0b0000_01110101_0111_1111_1101_00_1_1_0001#32 = .instr (.smmul .eq 7 13 true 1) ∧
    decodeArm 0b0011_01111000_0001_1111_0010_0001_0100#32 = .instr (.usad8 .lo 1 2 4) ∧
    decodeArm 0b0001_01110000_0001_0010_0100_00_1_1_0111#32 = .instr (.smlad .ne 1 2 4 true 7) ∧
    decodeArm 0b1100_01110000_0010_0100_1000_01_1_1_1101#32 = .instr (.smlsd .gt 2 4 8 true 13) ∧
    decodeArm 0b0001_01110101_1101_1011_0001_00_0_1_0100#32 = .instr (.smmla .ne 13 11 1 false 4) ∧
    decodeArm 0b1100_01110101_1011_0001_0010_11_1_1_1000#32 = .instr (.smmls .gt 11 1 2 true 8) ∧
    decodeArm 0b1110_01111000_0010_0100_1000_0001_0111#32 = .instr (.usada8 .al 2 4 8 7) ∧
    decodeArm 0b0011_01110100_0100_1000_0111_00_0_1_1011#32 = .instr (.smlald .lo 4 8 7 false 11) ∧
    decodeArm 0b1110_01110100_1000_0111_1101_01_1_1_0001#32 = .instr (.smlsld .al 8 7 13 true 1) := by decide +kernel
theorem test_decode_load_store_multiple :
    decodeArm 0b0000_100_0_0_0_1_1_1101_0100101001010011#32 = .instr (.ldm1 .eq false false true 13 0x4a53) ∧
    decodeArm 0b0001_100_1_0_1_0_1_1011_1_100101001010011#32 = .instr (.ldm3 .ne true false false 11 0x4a53) ∧
    decodeArm 0b1100_100_0_1_101_1011_0_100101001010011#32 = .instr (.ldm2 .gt false true 11 0x4a53) ∧
    decodeArm 0b0011_100_0_0_0_1_0_0010_0001001000110100#32 = .instr (.stm1 .lo false false true 2 0x1234) ∧
    decodeArm 0b1110_100_1_0_100_0010_0001001000110100#32 = .instr (.stm2 .al true false 2 0x1234) := by decide +kernel
theorem test_decode_branch :
    decodeArm 0b0000_1010_000100100011010001010110#32 = .instr (.b .eq 0x123456) ∧
    decodeArm 0b0001_1011_101001010001110010010011#32 = .instr (.bl .ne 0xa51c93) ∧
    decodeArm 0b0011_1111_101001010001110010010011#32 = .instr (.svc .lo 0xa51c93) := by decide +kernel
theorem test_decode_coprocessor :
    decodeArm 0b1100_11000100_0100_1000_0111_1101_1011#32 = .instr (.mcrr .gt 4 8 7 13 11) ∧
    decodeArm 0b0011_11000101_1000_0111_0111_1011_0001#32 = .instr (.mrrc .lo 8 7 7 11 1) ∧
    decodeArm 0b1110_1101_0_0_1_0_0001_0010_0111_10100101#32 = .instr (.stcOffset .al false false true 1 2 7 0xa5) ∧
    decodeArm 0b1100_1101_0_0_1_1_1000_0111_0111_10100101#32 = .instr (.ldcOffset .gt false false true 8 7 7 0xa5) ∧
    decodeArm 0b0000_1100_1_0_10_0001_0010_0111_10100101#32 = .instr (.stcPost .eq true false 1 2 7 0xa5) ∧
    decodeArm 0b0011_1100_1_0_11_1000_0111_0111_10100101#32 = .instr (.ldcPost .lo true false 8 7 7 0xa5) ∧
    decodeArm 0b0001_11001_0_00_0001_0010_0111_10100101#32 = .instr (.stcUnindexed .ne false 1 2 7 0xa5) ∧
    decodeArm 0b1110_11001_0_01_1000_0111_0111_10100101#32 = .instr (.ldcUnindexed .al false 8 7 7 0xa5) ∧
    decodeArm 0b0000_1110_1000_0111_1101_0111_010_0_0010#32 = .instr (.cdp .eq 8 7 13 7 2 2) ∧
    decodeArm 0b0001_1110_110_0_1101_1011_0111_100_1_0100#32 = .instr (.mcr .ne 6 13 11 7 4 4) ∧
    decodeArm 0b1100_1110_011_1_1011_0001_0111_101_1_1000#32 = .instr (.mrc .gt 3 11 1 7 5 8) := by decide +kernel
theorem test_decode_thumb_shift_add :
    decodeThumb 0b0001110000_001_010#16 = .instr (.tMov2 1 2) ∧
    decodeThumb 0b0001110_101_010_100#16 = .instr (.tAdd1 5 2 4) ∧
    decodeThumb 0b0001111_010_100_101#16 = .instr (.tSub1 2 4 5) ∧
    decodeThumb 0b00000_10011_100_101#16 = .instr (.tLsl1 0x13 4 5) ∧
    decodeThumb 0b00001_00011_101_110#16 = .instr (.tLsr1 3 5 6) ∧
    decodeThumb 0b00010_10101_110_011#16 = .instr (.tAsr1 0x15 6 3) ∧
    decodeThumb 0b0001100_110_011_001#16 = .instr (.tAdd3 6 3 1) ∧
    decodeThumb 0b0001101_011_001_010#16 = .instr (.tSub3 3 1 2) ∧
    decodeThumb 0b00100_100_10100101#16 = .instr (.tMov1 4 0xa5) ∧
    decodeThumb 0b00101_101_00011100#16 = .instr (.tCmp1 5 0x1c) ∧
    decodeThumb 0b00110_110_10010011#16 = .instr (.tAdd2 6 0x93) ∧
    decodeThumb 0b00111_011_10100101#16 = .instr (.tSub2 3 0xa5) := by decide +kernel
theorem test_decode_thumb_alu_1 :
    decodeThumb 0b0100000000_001_010#16 = .instr (.tAnd 1 2) ∧
    decodeThumb 0b0100000001_010_100#16 = .instr (.tEor 2 4) ∧
    decodeThumb 0b0100000010_100_101#16 = .instr (.tLsl2 4 5) ∧
    decodeThumb 0b0100000011_101_110#16 = .instr (.tLsr2 5 6) ∧
    decodeThumb 0b0100000100_110_011#16 = .instr (.tAsr2 6 3) ∧
    decodeThumb 0b0100000101_011_001#16 = .instr (.tAdc 3 1) ∧
    decodeThumb 0b0100000110_001_010#16 = .instr (.tSbc 1 2) ∧
    decodeThumb 0b0100000111_010_100#16 = .instr (.tRor 2 4) := by decide +kernel
theorem test_decode_thumb_alu_2 :
    decodeThumb 0b0100001000_100_101#16 = .instr (.tTst 4 5) ∧
    decodeThumb 0b0100001001_101_110#16 = .instr (.tNeg 5 6) ∧
    decodeThumb 0b0100001010_110_011#16 = .instr (.tCmp2 6 3) ∧
    decodeThumb 0b0100001011_011_001#16 = .instr (.tCmn 3 1) ∧
    decodeThumb 0b0100001100_001_010#16 = .instr (.tOrr 1 2) ∧
    decodeThumb 0b0100001101_010_100#16 = .instr (.tMul 2 4) ∧
    decodeThumb 0b0100001110_100_101#16 = .instr (.tBic 4 5) ∧
    decodeThumb 0b0100001111_101_110#16 = .instr (.tMvn 5 6) := by decide +kernel
theorem test_decode_thumb_high :
    decodeThumb 0b01000100_0_1_001_010#16 = .instr (.tAdd4 false true 1 2) ∧
    decodeThumb 0b01000101_1_0_010_100#16 = .instr (.tCmp3 true false 2 4) ∧
    decodeThumb 0b0100011000_001_010#16 = .instr (.tCpy 1 2) ∧
    decodeThumb 0b01000110_1_1_101_110#16 = .instr (.tMov3 true true 5 6) ∧
    decodeThumb 0b010001110_1_101_000#16 = .instr (.tBx true 5) ∧
    decodeThumb 0b010001111_1_110_000#16 = .instr (.tBlx2 true 6) ∧
    decodeThumb 0b10100_101_00011100#16 = .instr (.tAdd5 5 0x1c) ∧
    decodeThumb 0b10101_110_10010011#16 = .instr (.tAdd6 6 0x93) := by decide +kernel
theorem test_decode_thumb_load_store_1 :
    decodeThumb 0b01001_110_10010011#16 = .instr (.tLdr3 6 0x93) ∧
    decodeThumb 0b0101000_011_001_010#16 = .instr (.tStr2 3 1 2) ∧
    decodeThumb 0b0101001_001_010_100#16 = .instr (.tStrh2 1 2 4) ∧
    decodeThumb 0b0101010_010_100_101#16 = .instr (.tStrb2 2 4 5) ∧
    decodeThumb 0b0101011_100_101_110#16 = .instr (.tLdrsb 4 5 6) ∧
    decodeThumb 0b0101100_101_110_011#16 = .instr (.tLdr2 5 6 3) ∧
    decodeThumb 0b0101101_110_011_001#16 = .instr (.tLdrh2 6 3 1) ∧
    decodeThumb 0b0101110_011_001_010#16 = .instr (.tLdrb2 3 1 2) ∧
    decodeThumb 0b0101111_001_010_100#16 = .instr (.tLdrsh 1 2 4) := by decide +kernel
theorem test_decode_thumb_load_store_2 :
    decodeThumb 0b01100_10101_100_101#16 = .instr (.tStr1 0x15 4 5) ∧
    decodeThumb 0b01101_00110_101_110#16 = .instr (.tLdr1 6 5 6) ∧
    decodeThumb 0b01110_01001_110_011#16 = .instr (.tStrb1 9 6 3) ∧
    decodeThumb 0b01111_10011_011_001#16 = .instr (.tLdrb1 0x13 3 1) ∧
    decodeThumb 0b10000_00011_001_010#16 = .instr (.tStrh1 3 1 2) ∧
    decodeThumb 0b10001_10101_010_100#16 = .instr (.tLdrh1 0x15 2 4) ∧
    decodeThumb 0b10010_010_10010011#16 = .instr (.tStr3 2 0x93) ∧
    decodeThumb 0b10011_100_10100101#16 = .instr (.tLdr4 4 0xa5) := by decide +kernel
theorem test_decode_thumb_misc_1 :
    decodeThumb 0b101100000_1010101#16 = .instr (.tAdd7 0x55) ∧
    decodeThumb 0b101100001_1010101#16 = .instr (.tSub4 0x55) ∧
    decodeThumb 0b1011001000_010_100#16 = .instr (.tSxth 2 4) ∧
    decodeThumb 0b1011001001_100_101#16 = .instr (.tSxtb 4 5) ∧
    decodeThumb 0b1011001010_101_110#16 = .instr (.tUxth 5 6) ∧
    decodeThumb 0b1011001011_110_011#16 = .instr (.tUxtb 6 3) ∧
    decodeThumb 0b1011010_1_10100101#16 = .instr (.tPush true 0xa5) := by decide +kernel
theorem test_decode_thumb_misc_2 :
    decodeThumb 0b1011110_1_00011100#16 = .instr (.tPop true 0x1c) ∧
    decodeThumb 0b101101100101_0_000#16 = .instr (.tSetend false) ∧
    decodeThumb 0b10110110011_0_0_0_1_0#16 = .instr (.tCps false false true false) ∧
    decodeThumb 0b1011101000_101_110#16 = .instr (.tRev 5 6) ∧
    decodeThumb 0b1011101001_110_011#16 = .instr (.tRev16 6 3) ∧
    decodeThumb 0b1011101011_011_001#16 = .instr (.tRevsh 3 1) ∧
    decodeThumb 0b10111110_10100101#16 = .instr (.tBkpt 0xa5) := by decide +kernel
theorem test_decode_thumb_branch :
    decodeThumb 0b11000_010_10010011#16 = .instr (.tStmia 2 0x93) ∧
    decodeThumb 0b11001_100_10100101#16 = .instr (.tLdmia 4 0xa5) ∧
    decodeThumb 0b11011111_10100101#16 = .instr (.tSvc 0xa5) ∧
    decodeThumb 0b11011110_00011100#16 = .instr (.tUndefined 0x1c) ∧
    decodeThumb 0b1101_0001_10100101#16 = .instr (.tB1 .ne 0xa5) ∧
    decodeThumb 0b11100_01010100101#16 = .instr (.tB2 0x2a5) ∧
    decodeThumb 0b11101_1010100101_0#16 = .instr (.tBlx1Suffix 0x2a5) ∧
    decodeThumb 0b11110_01010100101#16 = .instr (.tBlBlxPrefix 0x2a5) ∧
    decodeThumb 0b11111_10101011010#16 = .instr (.tBlSuffix 0x55a) := by decide +kernel

/-! States for the tests -/

/-- Supervisor mode, the Secure world, ARM state, at 0x8000, with the example memory of 96_test_vectors_derived.md. -/
def start : State :=
  { State.reset with
    pc := 0x8000
    mem := [(0x1001, 0x11), (0x1002, 0x22), (0x1003, 0x33), (0x1004, 0x44), (0x1005, 0x55), (0x1006, 0x66), (0x1007,
      0x77),
            (0x1008, 0x88), (0x1009, 0x99), (0x100A, 0xAA), (0x100B, 0xBB), (0x100C, 0xCC), (0x100D, 0xDD), (0x100E,
      0xEE),
            (0x100F, 0xFF)] }

def State.withRegs (s : State) (l : List (RegNo × Word)) : State := l.foldl (fun t x => t.setReg x.1 x.2) s
def State.withFlags (s : State) (v : BitVec 4) : State := { s with cpsr := s.cpsr.setNZCV v }
def State.nzcv (s : State) : BitVec 4 := s.cpsr.toWord.extractLsb' 28 4
def State.withGe (s : State) (v : BitVec 4) : State := { s with cpsr := { s.cpsr with ge := v } }
def State.withQ (s : State) : State := { s with cpsr := { s.cpsr with q := true } }
def State.withE (s : State) : State := { s with cpsr := { s.cpsr with e := true } }
def State.inThumb (s : State) : State := { s with cpsr := { s.cpsr with t := true } }
def State.withPsr (s : State) (v : Word) : State := { s with cpsr := (s.cpsr.merge v psrMask).getD s.cpsr }
def State.withSpsr (s : State) (v : Word) : State := { s with spsr := s.spsr.put s.cpsr.mode v }
def State.atPc (s : State) (a : Word) : State := { s with pc := a }
def State.withSctlr (s : State) (v : Word) : State := { s with secure := { s.secure with sctlr := s.secure.sctlr |||
      v } }
def State.inBe32 (s : State) : State := { s with cp15 := { s.cp15 with sctlr := s.cp15.sctlr ||| 0x80 } }
def State.withScr (s : State) (v : Word) : State := { s with cp15 := { s.cp15 with scr := v } }
def State.inNs (s : State) : State := s.withScr 1
def State.withDacr (s : State) (v : Word) : State := { s with secure := { s.secure with dacr := v } }
def State.reserved (s : State) : State := { s with exclLocal := true }
def State.reservedAt (s : State) (a : Word) : State := { s with exclGlobal := some (a, 4) }
def State.withCpacr (s : State) : State := { s with cp15 := { s.cp15 with cpacr := 0x00F00000 } }
def State.withFpscr (s : State) (v : Word) : State := { s with vfp := { s.vfp with fpscr := v } }
def State.withFpexc (s : State) (v : Word) : State := { s with vfp := { s.vfp with fpexc := v } }
/-- The VFP11 enabled, in RunFast mode. -/
def State.withVfp (s : State) : State := (s.withCpacr.withFpexc 0x40000000).withFpscr 0x03000000
def State.withS (s : State) (k : Fin 32) (v : Word) : State := { s with vfp := { s.vfp with s := s.vfp.s.set k v } }
def State.withD (s : State) (k : Fin 16) (v : BitVec 64) : State :=
  (s.withS ⟨2 * k.val, by omega⟩ (v.extractLsb' 0 32)).withS ⟨2 * k.val + 1, by omega⟩ (v.extractLsb' 32 32)
/-- Place a little-endian word in external memory. -/
def State.poke (s : State) (a v : Word) : State :=
  { s with mem := (List.range 4).foldl (fun m k => Memory.write m (a.toNat + k) (v.extractLsb' (8 * k) 8)) s.mem }
def State.word (s : State) (a : Word) : Word := Memory.word s.mem a.toNat
/-- The MMU on with XP = 1, domain 0 a client, and a section descriptor for the first megabyte. -/
def State.mapped (s : State) (d : Word) : State :=
  { (s.withSctlr 0x800001).poke 0x4000 d with secure := { (s.withSctlr 0x800001).secure with ttbr0 := 0x4000, dacr :=
      1 } }
/-- The same for the second megabyte (96_test_vectors_derived.md, section 2.14). -/
def State.mappedAt1 (s : State) (d : Word) : State :=
  { (s.withSctlr 0x800001).poke 0x4004 d with secure := { (s.withSctlr 0x800001).secure with ttbr0 := 0x4000, dacr :=
      1 } }

/-- The word decodes, and from this state its execution answers a next state with the property. -/
noncomputable def runs (isa : Isa) (w : Word) (s : State) (p : State → State → Bool) : Bool :=
  match execDecoded (decodeFor isa w) s with
  | .next t => p s t
  | .fault _ => false
  | .refused _ => false

/-- The word is refused, when it is decoded or when it executes. -/
noncomputable def refuses (isa : Isa) (w : Word) (s : State) : Bool :=
  match execDecoded (decodeFor isa w) s with
  | .next _ => false
  | .fault _ => false
  | .refused _ => true

/-! Worked values: `runs isa word state` and what holds of the state `t` after one instruction at state `s` -/

theorem test_run_dp_reg_shift_imm_1 : [
    runs .arm 0xE1B00081 (start.withRegs [(1, 0x80000001)]) fun _ t => t.reg 0 == 2 && t.nzcv == 0b0010 && t.pc ==
      0x8004,
    runs .arm 0xE1B00F81 (start.withRegs [(1, 3)]) fun _ t => t.reg 0 == 0x80000000 && t.nzcv == 0b1010 && t.pc ==
      0x8004,
    runs .arm 0xE0910002 (start.withRegs [(0, 0x777), (1, 0x7FFFFFFF), (2, 1)]) fun _ t => t.reg 0 == 0x80000000 &&
      t.nzcv == 0b1001 && t.pc == 0x8004,
    runs .arm 0xE0910002 (start.withRegs [(0, 0x777), (1, 0xFFFFFFFF), (2, 1)]) fun _ t => t.reg 0 == 0 && t.nzcv ==
      0b0110 && t.pc == 0x8004,
    runs .arm 0xE0B10002 ((start.withRegs [(0, 0x777), (1, 0xFFFFFFFF), (2, 0)]).withFlags 0b0010) fun _ t => t.reg 0
      == 0 && t.nzcv == 0b0110 && t.pc == 0x8004].all id = true := by decide +kernel
theorem test_run_dp_reg_shift_imm_2 : [
    runs .arm 0xE0B10002 ((start.withRegs [(0, 0x777), (1, 0x7FFFFFFF), (2, 0)]).withFlags 0b0010) fun _ t => t.reg 0
      == 0x80000000 && t.nzcv == 0b1001 && t.pc == 0x8004,
    runs .arm 0xE0510002 (start.withRegs [(0, 0x777), (1, 0), (2, 1)]) fun _ t => t.reg 0 == 0xFFFFFFFF && t.nzcv ==
      0b1000 && t.pc == 0x8004,
    runs .arm 0xE0510002 (start.withRegs [(0, 0x777), (1, 0x80000000), (2, 1)]) fun _ t => t.reg 0 == 0x7FFFFFFF &&
      t.nzcv == 0b0011 && t.pc == 0x8004,
    runs .arm 0xE0D10002 ((start.withRegs [(0, 0x777), (1, 5), (2, 5)]).withFlags 0b0000) fun _ t => t.reg 0 ==
      0xFFFFFFFF && t.nzcv == 0b1000 && t.pc == 0x8004,
    runs .arm 0xE0D10002 ((start.withRegs [(0, 0x777), (1, 5), (2, 5)]).withFlags 0b0010) fun _ t => t.reg 0 == 0 &&
      t.nzcv == 0b0110 && t.pc == 0x8004].all id = true := by decide +kernel
theorem test_run_dp_reg_shift_imm_3 : [
    runs .arm 0xE0F10002 ((start.withRegs [(0, 0x777), (1, 1), (2, 3)]).withFlags 0b0000) fun _ t => t.reg 0 == 1 &&
      t.nzcv == 0b0010 && t.pc == 0x8004,
    runs .arm 0xE1510002 (start.withRegs [(0, 0x777), (1, 0x7FFFFFFF), (2, 0xFFFFFFFF)]) fun _ t => t.reg 0 == 0x777
      && t.nzcv == 0b1001 && t.pc == 0x8004,
    runs .arm 0xE1710002 (start.withRegs [(0, 0x777), (1, 1), (2, 0xFFFFFFFF)]) fun _ t => t.reg 0 == 0x777 && t.nzcv
      == 0b0110 && t.pc == 0x8004,
    runs .arm 0xE1310002 ((start.withRegs [(0, 0x777), (1, 0x55), (2, 0x55)]).withFlags 0b0010) fun _ t => t.reg 0 ==
      0x777 && t.nzcv == 0b0110 && t.pc == 0x8004,
    runs .arm 0xE01100A2 (start.withRegs [(0, 0x777), (1, 0xFFFFFFFF), (2, 3)]) fun _ t => t.reg 0 == 1 && t.nzcv ==
      0b0010 && t.pc == 0x8004].all id = true := by decide +kernel
theorem test_run_dp_reg_shift_imm_4 : [
    runs .arm 0xE0310002 ((start.withRegs [(0, 0x777), (1, 0xFFFFFFFF), (2, 0xFFFFFFFF)]).withFlags 0b0010) fun _ t
      => t.reg 0 == 0 && t.nzcv == 0b0110 && t.pc == 0x8004,
    runs .arm 0xE1D10002 ((start.withRegs [(0, 0x777), (1, 0xFF), (2, 0xFF)]).withFlags 0b0010) fun _ t => t.reg 0 ==
      0 && t.nzcv == 0b0110 && t.pc == 0x8004,
    runs .arm 0xE1F00001 ((start.withRegs [(0, 0x777), (1, 0)]).withFlags 0b0010) fun _ t => t.reg 0 == 0xFFFFFFFF &&
      t.nzcv == 0b1010 && t.pc == 0x8004,
    runs .arm 0xE1100001 (start.withRegs [(0, 1), (1, 2)]) fun _ t => t.nzcv == 0b0100].all id = true := by
      decide+kernel
theorem test_run_dp_reg_shift_reg : [
    runs .arm 0xE1B00211 ((start.withRegs [(1, 1), (2, 0)]).withFlags 0b0010) fun _ t => t.reg 0 == 1 && t.nzcv ==
      0b0010 && t.pc == 0x8004,
    refuses .arm 0xE081021F start].all id = true := by decide +kernel
theorem test_run_dp_imm_1 : [
    runs .arm 0xE3B004FF start fun _ t => t.reg 0 == 0xFF000000 && t.nzcv == 0b1010 && t.pc == 0x8004,
    runs .arm 0xE2710000 (start.withRegs [(0, 0x777), (1, 0x80000000)]) fun _ t => t.reg 0 == 0x80000000 && t.nzcv ==
      0b1001 && t.pc == 0x8004,
    runs .arm 0xE3710001 (start.withRegs [(0, 0x777), (1, 0x7FFFFFFF)]) fun _ t => t.reg 0 == 0x777 && t.nzcv ==
      0b1001 && t.pc == 0x8004,
    runs .arm 0xE3110102 (start.withRegs [(0, 0x777), (1, 0x80000000)]) fun _ t => t.reg 0 == 0x777 && t.nzcv ==
      0b1010 && t.pc == 0x8004].all id = true := by decide +kernel
theorem test_run_dp_imm_2 : [
    runs .arm 0xE3910102 (start.withRegs [(0, 0x777), (1, 1)]) fun _ t => t.reg 0 == 0x80000001 && t.nzcv == 0b1010
      && t.pc == 0x8004,
    runs .arm 0xE28F0008 start fun _ t => t.reg 0 == 0x8010,
    runs .arm 0xE25EF004 (((start.withPsr 0x12).withRegs [(14, 0x8008)]).withSpsr 0x60000010) fun _ t => t.pc ==
      0x8004 && t.cpsr.toWord == 0x60000010].all id = true := by decide +kernel
theorem test_run_miscellaneous_1 : [
    runs .arm 0xE16F0F11 (start.withRegs [(0, 0x777), (1, 0)]) fun _ t => t.reg 0 == 0x20 && t.nzcv == 0b0000 && t.pc
      == 0x8004,
    runs .arm 0x320F000 start fun _ t => t.pc == 0x8004,
    runs .arm 0xE1020051 (start.withRegs [(1, 0x7FFFFFFF), (2, 1)]) fun _ t => t.reg 0 == 0x7FFFFFFF && t.cpsr.q,
    runs .arm 0xE1220051 (start.withRegs [(1, 0x80000000), (2, 1)]) fun _ t => t.reg 0 == 0x80000000 && t.cpsr.q,
    runs .arm 0xE1420051 (start.withRegs [(1, 0), (2, 0x40000000)]) fun _ t => t.reg 0 == 0x7FFFFFFF && t.cpsr.q,
    runs .arm 0xE1620051 (start.withRegs [(1, 0), (2, 0x40000000)]) fun _ t => t.reg 0 == 0x80000001 && t.cpsr.q].all
      id = true := by decide +kernel
theorem test_run_miscellaneous_2 : [
    runs .arm 0xE12FFF1E (start.withRegs [(14, 0x9001)]) fun _ t => t.pc == 0x9000 && t.cpsr.t,
    refuses .arm 0xE12FFF1E (start.withRegs [(14, 0x8006)]),
    runs .arm 0xE12FFF20 (start.withRegs [(0, 0x9001)]) fun _ t => t.pc == 0x9000 && t.cpsr.t && !t.cpsr.j,
    runs .arm 0xE12FFF33 (start.withRegs [(3, 0x9001)]) fun _ t => t.reg 14 == 0x8004 && t.pc == 0x9000 && t.cpsr.t,
    runs .arm 0xE10F0000 start fun _ t => t.reg 0 == 0x1D3,
    refuses .arm 0xE14F0000 (start.withPsr 0x10)].all id = true := by decide +kernel
theorem test_run_miscellaneous_3 : [
    runs .arm 0xE121F003 ((start.withPsr 0x600001D3).withRegs [(3, 0x1F)]) fun _ t => t.cpsr.toWord == 0x6000011F,
    runs .arm 0xE328F000 (start.withPsr 0xF8000013) fun _ t => t.cpsr.toWord == 0x13,
    refuses .arm 0xE321F000 start,
    runs .arm 0xE1600070 (start.withPsr 0x10) fun s t => t.cpsr.mode == .und && t.pc == 4 && t.gpr[slot .und 14] ==
      s.pc + 4 && t.cpsr.toWord == 0x9B,
    runs .arm 0xE1600070 (start.inNs.withPsr 0x13) fun _ t => t.gpr[slot .mon 14] == 0x8004 && t.spsr.mon == 0x13 &&
      t.cpsr.toWord == 0x1D6 && t.pc == 0x8 && t.cp15.scr == 1,
    runs .arm 0xE1200070 (start.withPsr 0x13) fun _ t => t.gpr[slot .abt 14] == 0x8004 && t.spsr.abt == 0x13 &&
      t.cpsr.toWord == 0x197 && t.pc == 0xC && t.secure.ifsr == 2].all id = true := by decide +kernel
theorem test_run_parallel_1 : [
    runs .arm 0xE6110F12 ((start.withRegs [(1, 0x7FFF8000), (2, 0x18000)]).withGe 0b1010) fun _ t => t.reg 0 ==
      0x80000000 && t.cpsr.ge == 0b1100 && !t.cpsr.q,
    runs .arm 0xE6210F12 ((start.withRegs [(1, 0x7FFF8000), (2, 0x18000)]).withGe 0b1010) fun _ t => t.reg 0 ==
      0x7FFF8000 && t.cpsr.ge == 0b1010 && !t.cpsr.q,
    runs .arm 0xE6310F12 ((start.withRegs [(1, 0x7FFF8000), (2, 0x18000)]).withGe 0b1010) fun _ t => t.reg 0 ==
      0x40008000 && t.cpsr.ge == 0b1010 && !t.cpsr.q,
    runs .arm 0xE6510F12 ((start.withRegs [(1, 0xFFFF0001), (2, 0x10001)]).withGe 0b1010) fun _ t => t.reg 0 == 2 &&
      t.cpsr.ge == 0b1100 && !t.cpsr.q,
    runs .arm 0xE6610F12 ((start.withRegs [(1, 0xFFFF0001), (2, 0x10001)]).withGe 0b1010) fun _ t => t.reg 0 ==
      0xFFFF0002 && t.cpsr.ge == 0b1010 && !t.cpsr.q].all id = true := by decide +kernel
theorem test_run_parallel_2 : [
    runs .arm 0xE6710F12 ((start.withRegs [(1, 0xFFFF0001), (2, 0x10001)]).withGe 0b1010) fun _ t => t.reg 0 ==
      0x80000001 && t.cpsr.ge == 0b1010 && !t.cpsr.q,
    runs .arm 0xE6110F32 ((start.withRegs [(1, 0x10002), (2, 0x30004)]).withGe 0b1010) fun _ t => t.reg 0 == 0x5FFFF
      && t.cpsr.ge == 0b1100 && !t.cpsr.q,
    runs .arm 0xE6210F32 ((start.withRegs [(1, 0x7FFF8000), (2, 0x10001)]).withGe 0b1010) fun _ t => t.reg 0 ==
      0x7FFF8000 && t.cpsr.ge == 0b1010 && !t.cpsr.q,
    runs .arm 0xE6510F52 ((start.withRegs [(1, 0x10002), (2, 0x30004)]).withGe 0b1010) fun _ t => t.reg 0 ==
      0xFFFD0005 && t.cpsr.ge == 0b0000 && !t.cpsr.q,
    runs .arm 0xE6510F92 ((start.withRegs [(1, 0xFF010280), (2, 0x1FF0280)]).withGe 0b1010) fun _ t => t.reg 0 ==
      0x400 && t.cpsr.ge == 0b1101 && !t.cpsr.q].all id = true := by decide +kernel
theorem test_run_parallel_3 : [
    runs .arm 0xE6110FF2 ((start.withRegs [(1, 0x800001), (2, 0x17F0002)]).withGe 0b1010) fun _ t => t.reg 0 ==
      0xFF0100FF && t.cpsr.ge == 0b0010 && !t.cpsr.q,
    runs .arm 0xE6210FF2 ((start.withRegs [(1, 0x800001), (2, 0x17F0002)]).withGe 0b1010) fun _ t => t.reg 0 ==
      0xFF8000FF && t.cpsr.ge == 0b1010 && !t.cpsr.q,
    runs .arm 0xE6510FF2 ((start.withRegs [(1, 0x800001), (2, 0x17F0002)]).withGe 0b1010) fun _ t => t.reg 0 ==
      0xFF0100FF && t.cpsr.ge == 0b0110 && !t.cpsr.q,
    runs .arm 0xE6610FF2 ((start.withRegs [(1, 0x800001), (2, 0x17F0002)]).withGe 0b1010) fun _ t => t.reg 0 ==
      0x10000 && t.cpsr.ge == 0b1010 && !t.cpsr.q].all id = true := by decide +kernel
theorem test_run_branch : [
    runs .arm 0x1F000001 (start.withFlags 0b0100) fun _ t => t.pc == 0x8004 && t.cpsr.mode == .svc,
    runs .arm 0xEA000002 start fun _ t => t.pc == 0x8010,
    runs .arm 0xEB0003FE start fun _ t => t.reg 14 == 0x8004 && t.pc == 0x9000].all id = true := by decide +kernel
theorem test_run_load_store_1 : [
    runs .arm 0x15910000 ((((start.withFlags 0b0100).withRegs [(1, 3)]).withSctlr 2).withRegs [(0, 7)]) fun _ t =>
      t.reg 0 == 7 && t.pc == 0x8004,
    runs .arm 0xE7910102 (start.withRegs [(1, 0x1000), (2, 2)]) fun _ t => t.reg 0 == 0xBBAA9988,
    runs .arm 0xE5D10003 (start.withRegs [(1, 0x1000)]) fun _ t => t.reg 0 == 0x33,
    runs .arm 0xE5810004 (start.withRegs [(1, 0x1000), (0, 0xDEADBEEF)]) fun _ t => t.word 0x1004 == 0xDEADBEEF].all
      id = true := by decide +kernel
theorem test_run_load_store_2 : [
    runs .arm 0xE5C10001 (start.withRegs [(1, 0x1000), (0, 0xDEADBEEF)]) fun _ t => t.word 0x1000 == 0x3322EF00,
    refuses .arm 0xE4900004 start,
    runs .arm 0xE5810001 ((start.withRegs [(1, 0x1000)]).withSctlr 2) fun _ t => t.cpsr.mode == .abt && t.secure.dfsr
      == 0x801 && t.secure.far == 0x1001,
    runs .arm 0xE5D10000 (((start.withPsr 0x10).withRegs [(1, 0x123456)]).mappedAt1 0x0010040E) fun _ t =>
      t.cpsr.mode == .abt && t.secure.dfsr == 0x00D && t.secure.far == 0x123456].all id = true := by decide +kernel
theorem test_run_undefined_words : [
    runs .arm 0x7F000F0 start fun _ t => t.pc == 0x8004,
    runs .arm 0x7F000F0 (start.withFlags 0b0100) fun s t => t.cpsr.mode == .und && t.pc == 4 && t.gpr[slot .und 14]
      == s.pc + 4,
    runs .arm 0xE7F000F0 (start.withPsr 0x60000010) fun _ t => t.gpr[slot .und 14] == 0x8004 && t.spsr.und ==
      0x60000010 && t.cpsr.toWord == 0x6000009B && t.pc == 0x4,
    runs .arm 0xE3000000 start fun s t => t.cpsr.mode == .und && t.pc == 4 && t.gpr[slot .und 14] == s.pc + 4,
    runs .arm 0xE0500091 start fun s t => t.cpsr.mode == .und && t.pc == 4 && t.gpr[slot .und 14] == s.pc + 4,
    runs .arm 0xE6000F10 start fun s t => t.cpsr.mode == .und && t.pc == 4 && t.gpr[slot .und 14] == s.pc + 4].all id
      = true := by decide +kernel
theorem test_run_dp_cpy : [
    runs .arm 0xE1A0000F start fun _ t => t.reg 0 == 0x8008].all id = true := by decide +kernel
theorem test_run_multiply_1 : [
    runs .arm 0xE0100291 ((start.withRegs [(1, 0xFFFFFFFF), (2, 0xFFFFFFFF)]).withFlags 0b1111) fun _ t => t.reg 0 ==
      1 && t.nzcv == 0b0011,
    runs .arm 0xE0203291 (start.withRegs [(1, 0xFFFFFFFF), (2, 2), (3, 5)]) fun _ t => t.reg 0 == 3,
    runs .arm 0xE0810392 (start.withRegs [(2, 0xFFFFFFFF), (3, 0xFFFFFFFF)]) fun _ t => t.reg 0 == 1 && t.reg 1 ==
      0xFFFFFFFE,
    runs .arm 0xE0C10392 (start.withRegs [(2, 0xFFFFFFFF), (3, 0xFFFFFFFF)]) fun _ t => t.reg 0 == 1 && t.reg 1 == 0,
    runs .arm 0xE0A10392 (start.withRegs [(0, 0xFFFFFFFF), (1, 0xFFFFFFFF), (2, 0xFFFFFFFF), (3, 0xFFFFFFFF)]) fun _
      t => t.reg 0 == 0 && t.reg 1 == 0xFFFFFFFE].all id = true := by decide +kernel
theorem test_run_multiply_2 : [
    runs .arm 0xE0F10392 (start.withRegs [(0, 1), (1, 0), (2, 0xFFFFFFFF), (3, 1)]) fun _ t => t.reg 0 == 0 && t.reg
      1 == 0 && t.nzcv == 0b0100,
    runs .arm 0xE0410392 (start.withRegs [(0, 0xFFFFFFFF), (1, 0xFFFFFFFF), (2, 0xFFFFFFFF), (3, 0xFFFFFFFF)]) fun _
      t => t.reg 0 == 0xFFFFFFFF && t.reg 1 == 0xFFFFFFFF,
    runs .arm 0xE1003281 (start.withRegs [(1, 0x8000), (2, 0x8000), (3, 0x7FFFFFFF)]) fun _ t => t.reg 0 ==
      0xBFFFFFFF && t.cpsr.q,
    runs .arm 0xE16002E1 (start.withRegs [(1, 0x80000000), (2, 0x80000000)]) fun _ t => t.reg 0 == 0x40000000 &&
      !t.cpsr.q,
    runs .arm 0xE12002A1 (start.withRegs [(1, 0x80000000), (2, 0x8000)]) fun _ t => t.reg 0 == 0x40000000].all id =
      true := by decide +kernel
theorem test_run_multiply_3 : [
    runs .arm 0xE12032C1 (start.withRegs [(1, 0x7FFFFFFF), (2, 0x7FFF0000), (3, 0x7FFFFFFF)]) fun _ t => t.reg 0 ==
      0xBFFF7FFE && t.cpsr.q,
    runs .arm 0xE14103C2 (start.withRegs [(0, 0xFFFFFFFF), (1, 0), (2, 2), (3, 0x30000)]) fun _ t => t.reg 0 == 5 &&
      t.reg 1 == 1 && !t.cpsr.q,
    refuses .arm 0xE00F0291 start,
    refuses .arm 0xE0800392 start].all id = true := by decide +kernel
theorem test_run_media_1 : [
    runs .arm 0xE6810FB2 ((start.withGe 0b0101).withRegs [(1, 0x11223344), (2, 0xAABBCCDD)]) fun _ t => t.reg 0 ==
      0xAA22CC44,
    runs .arm 0xE6A70011 (start.withRegs [(1, 0x80)]) fun _ t => t.reg 0 == 0x7F && t.cpsr.q,
    runs .arm 0xE6E80011 (start.withRegs [(1, 0xFFFFFFFF)]) fun _ t => t.reg 0 == 0 && t.cpsr.q,
    runs .arm 0xE6A70F31 (start.withRegs [(1, 0x80FF7F)]) fun _ t => t.reg 0 == 0x7FFF80 && t.cpsr.q,
    runs .arm 0xE6E80F31 (start.withRegs [(1, 0x100FFFF)]) fun _ t => t.reg 0 == 0xFF0000 && t.cpsr.q].all id = true
      := by decide +kernel
theorem test_run_media_2 : [
    runs .arm 0xE6810812 (start.withRegs [(1, 0x11112222), (2, 0x33334444)]) fun _ t => t.reg 0 == 0x44442222,
    runs .arm 0xE6810852 (start.withRegs [(1, 0x11112222), (2, 0x33334444)]) fun _ t => t.reg 0 == 0x11113333,
    runs .arm 0xE6A10472 (start.withRegs [(1, 0x10), (2, 0xF000)]) fun _ t => t.reg 0 == 0,
    runs .arm 0xE6CF0472 (start.withRegs [(2, 0xAABBCCDD)]) fun _ t => t.reg 0 == 0xAA00CC,
    runs .arm 0xE68F0072 (start.withRegs [(2, 0x800080)]) fun _ t => t.reg 0 == 0xFF80FF80].all id = true := by
      decide+kernel
theorem test_run_media_3 : [
    runs .arm 0xE6F10C72 (start.withRegs [(1, 1), (2, 0x11223344)]) fun _ t => t.reg 0 == 0x4412,
    runs .arm 0xE6BF0F31 (start.withRegs [(1, 0x11223344)]) fun _ t => t.reg 0 == 0x44332211,
    runs .arm 0xE6BF0FB1 (start.withRegs [(1, 0x11223344)]) fun _ t => t.reg 0 == 0x22114433,
    runs .arm 0xE6FF0FB1 (start.withRegs [(1, 0x12347F80)]) fun _ t => t.reg 0 == 0xFFFF807F,
    runs .arm 0xE6AF0071 (start.withRegs [(1, 0x80)]) fun _ t => t.reg 0 == 0xFFFFFF80].all id = true := by
      decide+kernel
theorem test_run_media_multiply_1 : [
    runs .arm 0xE700F211 (start.withRegs [(1, 0x80008000), (2, 0x80008000)]) fun _ t => t.reg 0 == 0x80000000 &&
      t.cpsr.q,
    runs .arm 0xE700F271 (start.withRegs [(1, 0x20003), (2, 0x40005)]) fun _ t => t.reg 0 == 2 && !t.cpsr.q,
    runs .arm 0xE7003211 (start.withRegs [(1, 0x20003), (2, 0x40005), (3, 0x7FFFFFFF)]) fun _ t => t.reg 0 ==
      0x80000016 && t.cpsr.q,
    runs .arm 0xE7410312 (start.withRegs [(0, 0xFFFFFFFF), (1, 0), (2, 0x10001), (3, 0x10001)]) fun _ t => t.reg 0 ==
      1 && t.reg 1 == 1,
    runs .arm 0xE7410352 (start.withRegs [(2, 0x20003), (3, 0x40005)]) fun _ t => t.reg 0 == 7 && t.reg 1 == 0].all
      id = true := by decide +kernel
theorem test_run_media_multiply_2 : [
    runs .arm 0xE750F211 (start.withRegs [(1, 0x7FFFFFFF), (2, 0x7FFFFFFF)]) fun _ t => t.reg 0 == 0x3FFFFFFF,
    runs .arm 0xE75032D1 (start.withRegs [(1, 0x10000), (2, 0x10000), (3, 5)]) fun _ t => t.reg 0 == 4,
    runs .arm 0xE780F211 (start.withRegs [(1, 0x1FF8000), (2, 0xFF017F01)]) fun _ t => t.reg 0 == 0x1FE,
    runs .arm 0xE7803211 (start.withRegs [(1, 0x1FF8000), (2, 0xFF017F01), (3, 0xFFFFFF00)]) fun _ t => t.reg 0 ==
      0xFE].all id = true := by decide +kernel
theorem test_run_unconditional_1 : [
    runs .arm 0xFB0003FE start fun _ t => t.reg 14 == 0x8004 && t.cpsr.t && t.pc == 0x9002,
    runs .arm 0xF8BD0A00 (((start.withRegs [(13, 0x1000)]).poke 0x1000 0x8000).poke 0x1004 0x10) fun _ t =>
      t.cpsr.toWord == 0x10 && t.pc == 0x8000 && t.gpr[slot .svc 13] == 0x1008,
    runs .arm 0xF96D0513 ((((start.withRegs [(13, 0x1008)]).withPsr 0x12).withRegs [(14, 0x8004)]).withSpsr 0x10) fun
      _ t => t.word 0x1000 == 0x8004 && t.word 0x1004 == 0x10 && t.gpr[slot .svc 13] == 0x1000,
    runs .arm 0xF94D0516 start.inNs fun s t => t.cpsr.mode == .und && t.pc == 4 && t.gpr[slot .und 14] == s.pc + 4,
    runs .arm 0xF5D1F000 (start.withRegs [(1, 0xFFFFFF00)]) fun _ t => t.pc == 0x8004].all id = true := by
      decide+kernel
theorem test_run_unconditional_2 : [
    runs .arm 0xF57FF01F start.reserved fun _ t => !t.exclLocal,
    runs .arm 0xF10C01C0 (start.withPsr 0x13) fun _ t => t.cpsr.toWord == 0x1D3,
    refuses .arm 0xF1040000 start,
    refuses .arm 0xF1030013 start,
    runs .arm 0xF1010200 (start.withPsr 0x10) fun _ t => t.cpsr.toWord == 0x210,
    runs .arm 0xF0000000 (start.withFlags 0b1111) fun s t => t.cpsr.mode == .und && t.pc == 4 && t.gpr[slot .und 14]
      == s.pc + 4].all id = true := by decide +kernel
theorem test_run_load_store_extra_1 : [
    runs .arm 0xE1D100DF (start.withRegs [(1, 0x1000)]) fun _ t => t.reg 0 == 0xFFFFFFFF,
    runs .arm 0xE1D100B2 (start.withRegs [(1, 0x1000)]) fun _ t => t.reg 0 == 0x3322,
    runs .arm 0xE1D100FA (start.withRegs [(1, 0x1000)]) fun _ t => t.reg 0 == 0xFFFFBBAA,
    runs .arm 0xE1C100B2 (start.withRegs [(1, 0x1000), (0, 0xDEADBEEF)]) fun _ t => t.word 0x1000 == 0xBEEF1100].all
      id = true := by decide +kernel
theorem test_run_load_store_extra_2 : [
    runs .arm 0xE1C120D0 (start.withRegs [(1, 0x1000)]) fun _ t => t.reg 2 == 0x33221100 && t.reg 3 == 0x77665544,
    runs .arm 0xE1E120F8 (start.withRegs [(1, 0x1000), (2, 0x11111111), (3, 0x22222222)]) fun _ t => t.word 0x1008 ==
      0x11111111 && t.word 0x100C == 0x22222222 && t.reg 1 == 0x1008,
    refuses .arm 0xE1C130D0 (start.withRegs [(1, 0x1000)]),
    runs .arm 0xE1D100B1 ((start.withRegs [(1, 0x1000)]).withSctlr 2) fun _ t => t.cpsr.mode == .abt && t.secure.dfsr
      == 0x001 && t.secure.far == 0x1001].all id = true := by decide +kernel
theorem test_run_load_store_multiple_1 : [
    runs .arm 0xE8910005 (start.withRegs [(1, 0x1002)]) fun _ t => t.reg 0 == 0x33221100 && t.reg 2 == 0x77665544,
    runs .arm 0xE8910005 (((start.withRegs [(1, 0x1002)]).withSctlr 0x400000).mapped 0x1C02) fun _ t => t.cpsr.mode
      == .abt && t.secure.dfsr == 0x001 && t.secure.far == 0x1002,
    runs .arm 0xE9810005 (start.withRegs [(1, 0x1000), (0, 0xA), (2, 0xB)]) fun _ t => t.word 0x1004 == 0xA && t.word
      0x1008 == 0xB,
    refuses .arm 0xE8A20006 (start.withRegs [(2, 0x1000)])].all id = true := by decide +kernel
theorem test_run_load_store_multiple_2 : [
    runs .arm 0xE8C16000 ((((start.withPsr 0x1F).withRegs [(13, 0x100), (14, 0x200)]).withPsr 0x13).withRegs [(1,
      0x1000)]) fun _ t => t.word 0x1000 == 0x100 && t.word 0x1004 == 0x200,
    runs .arm 0xE8D16000 (start.withRegs [(1, 0x1000), (13, 5), (14, 6)]) fun _ t => t.gpr[slot .usr 13] ==
      0x33221100 && t.gpr[slot .usr 14] == 0x77665544 && t.reg 13 == 5 && t.reg 14 == 6,
    runs .arm 0xE8FD8001 (((((start.withPsr 0x12).withRegs [(13, 0x1000)]).poke 0x1000 7).poke 0x1004
      0x8000).withSpsr 0x60000010) fun _ t => t.reg 0 == 7 && t.gpr[slot .irq 13] == 0x1008 && t.cpsr.toWord ==
      0x60000010 && t.pc == 0x8000].all id = true := by decide +kernel
theorem test_run_synchronisation_1 : [
    runs .arm 0xE1910F9F ((start.withRegs [(1, 0x1002)]).mapped 0x1C02) fun _ t => t.reg 0 == 0x33221100,
    runs .arm 0xE1910F9F (((start.withRegs [(1, 0x1002)]).mapped 0x1C02).withSctlr 0x400000) fun _ t => t.cpsr.mode
      == .abt && t.secure.dfsr == 0x001 && t.secure.far == 0x1002,
    runs .arm 0xE1010092 (start.withRegs [(1, 0x1001), (2, 0xAAAAAAAA)]) fun _ t => t.reg 0 == 0x332211 && t.word
      0x1000 == 0xAAAAAAAA,
    runs .arm 0xE1010092 (((start.withRegs [(1, 0x1001)]).withSctlr 0x400000).mapped 0x1C02) fun _ t => t.cpsr.mode
      == .abt && t.secure.far == 0x1001,
    runs .arm 0xE1812F90 (((start.withRegs [(1, 0x1000)]).mapped 0x1C02).reserved.withRegs [(0, 5)]) fun _ t =>
      t.word 0x1000 == 5 && t.reg 2 == 0 && !t.exclLocal].all id = true := by decide +kernel
theorem test_run_synchronisation_2 : [
    runs .arm 0xE1D10F9F ((start.withRegs [(1, 0x1003)]).mapped 0x1C02) fun _ t => t.reg 0 == 0x33 && t.exclLocal,
    runs .arm 0xE1C12F90 (((start.withRegs [(1, 0x1003)]).mapped 0x1C02).reserved.withRegs [(0, 0xAB)]) fun _ t =>
      t.word 0x1000 == 0xAB221100 && t.reg 2 == 0,
    runs .arm 0xE1F10F9F ((start.withRegs [(1, 0x1002)]).mapped 0x1C02) fun _ t => t.reg 0 == 0x3322,
    runs .arm 0xE1F10F9F (((start.withRegs [(1, 0x1001)]).mapped 0x1C02).withSctlr 0x400000) fun _ t => t.cpsr.mode
      == .abt && t.secure.dfsr == 0x001 && t.secure.far == 0x1001,
    runs .arm 0xE1B12F9F ((start.withRegs [(1, 0x1000)]).mapped 0x1C02) fun _ t => t.reg 2 == 0x33221100 && t.reg 3
      == 0x77665544 && t.exclLocal].all id = true := by decide +kernel
theorem test_run_synchronisation_3 : [
    runs .arm 0xE1A10F92 (((start.withRegs [(1, 0x1000)]).mapped 0x1C02).reserved.withRegs [(2, 1), (3, 2)]) fun _ t
      => t.word 0x1000 == 1 && t.word 0x1004 == 2 && t.reg 0 == 0,
    runs .arm 0xE1B12F9F (((start.withRegs [(1, 0x1004)]).mapped 0x1C02).withSctlr 0x400000) fun _ t => t.cpsr.mode
      == .abt && t.secure.dfsr == 0x001 && t.secure.far == 0x1004,
    runs .arm 0xE1410092 (start.withRegs [(1, 0x1001), (2, 0xFF)]) fun _ t => t.reg 0 == 0x11 && t.word 0x1000 ==
      0x3322FF00].all id = true := by decide +kernel
theorem test_run_coprocessor_1 : [
    runs .arm 0xEE100F10 start fun _ t => t.reg 0 == 0x410FB767,
    runs .arm 0xEE100F10 (start.withPsr 0x10) fun s t => t.cpsr.mode == .und && t.pc == 4 && t.gpr[slot .und 14] ==
      s.pc + 4,
    runs .arm 0xEE010F50 (start.withRegs [(0, 0xFFFFFFFF)]) fun _ t => t.cp15.cpacr == 0x00F00000,
    runs .arm 0xEE0D0F70 (start.withPsr 0x10) fun s t => t.cpsr.mode == .und && t.pc == 4 && t.gpr[slot .und 14] ==
      s.pc + 4].all id = true := by decide +kernel
theorem test_run_coprocessor_2 : [
    runs .arm 0xEE000700 start fun s t => t.cpsr.mode == .und && t.pc == 4 && t.gpr[slot .und 14] == s.pc + 4,
    runs .arm 0xED910500 (start.withRegs [(1, 0x1000)]) fun s t => t.cpsr.mode == .und && t.pc == 4 && t.gpr[slot
      .und 14] == s.pc + 4,
    runs .arm 0xEC410F05 (start.withRegs [(0, 0x1000), (1, 0x1000)]) fun _ t => t.pc == 0x8004 && t.reg 0 == 0x1000
      && t.reg 1 == 0x1000].all id = true := by decide +kernel
theorem test_run_unconditional_coprocessor : [
    runs .arm 0xFE010F10 start fun s t => t.cpsr.mode == .und && t.pc == 4 && t.gpr[slot .und 14] == s.pc + 4].all id
      = true := by decide +kernel
theorem test_run_thumb_shift_add_1 : [
    runs .thumb 0x8 ((start.inThumb.withRegs [(1, 0x80000000)]).withFlags 0b0011) fun _ t => t.reg 0 == 0x80000000 &&
      t.nzcv == 0b1011 && t.pc == 0x8002,
    runs .thumb 0x808 (start.inThumb.withRegs [(1, 0x80000000)]) fun _ t => t.reg 0 == 0 && t.nzcv == 0b0110,
    runs .thumb 0x1008 (start.inThumb.withRegs [(1, 0x80000000)]) fun _ t => t.reg 0 == 0xFFFFFFFF && t.nzcv ==
      0b1010,
    runs .thumb 0x1888 (start.inThumb.withRegs [(1, 0x7FFFFFFF), (2, 1)]) fun _ t => t.reg 0 == 0x80000000 && t.nzcv
      == 0b1001,
    runs .thumb 0x1A88 (start.inThumb.withRegs [(1, 0), (2, 1)]) fun _ t => t.reg 0 == 0xFFFFFFFF && t.nzcv == 0b1000,
    runs .thumb 0x1DC8 (start.inThumb.withRegs [(1, 0xFFFFFFF9)]) fun _ t => t.reg 0 == 0 && t.nzcv == 0b0110].all id
      = true := by decide +kernel
theorem test_run_thumb_shift_add_2 : [
    runs .thumb 0x1E48 (start.inThumb.withRegs [(1, 0x80000000)]) fun _ t => t.reg 0 == 0x7FFFFFFF && t.nzcv ==
      0b0011,
    runs .thumb 0x20FF (start.inThumb.withFlags 0b1111) fun _ t => t.reg 0 == 0xFF && t.nzcv == 0b0011,
    runs .thumb 0x2910 (start.inThumb.withRegs [(1, 0x10)]) fun _ t => t.nzcv == 0b0110,
    runs .thumb 0x33FF (start.inThumb.withRegs [(3, 0xFFFFFF01)]) fun _ t => t.reg 3 == 0 && t.nzcv == 0b0110,
    runs .thumb 0x3B01 (start.inThumb.withRegs [(3, 0)]) fun _ t => t.reg 3 == 0xFFFFFFFF && t.nzcv == 0b1000,
    runs .thumb 0x1C08 ((start.inThumb.withRegs [(1, 0x80000000)]).withFlags 0b0011) fun _ t => t.reg 0 == 0x80000000
      && t.nzcv == 0b1000].all id = true := by decide +kernel
theorem test_run_thumb_alu_1 : [
    runs .thumb 0x4008 ((start.inThumb.withRegs [(0, 0xF0F0F0F0), (1, 0xFF00FF0)]).withFlags 0b0011) fun _ t => t.reg
      0 == 0xF000F0 && t.nzcv == 0b0011,
    runs .thumb 0x4048 (start.inThumb.withRegs [(0, 0xFFFFFFFF), (1, 0xFFFFFFFF)]) fun _ t => t.reg 0 == 0 && t.nzcv
      == 0b0100,
    runs .thumb 0x4088 (start.inThumb.withRegs [(0, 1), (1, 0x20)]) fun _ t => t.reg 0 == 0 && t.nzcv == 0b0110,
    runs .thumb 0x40C8 ((start.inThumb.withRegs [(0, 0x80000000), (1, 0)]).withFlags 0b0010) fun _ t => t.reg 0 ==
      0x80000000 && t.nzcv == 0b1010,
    runs .thumb 0x4108 (start.inThumb.withRegs [(0, 0x80000000), (1, 0x28)]) fun _ t => t.reg 0 == 0xFFFFFFFF &&
      t.nzcv == 0b1010,
    runs .thumb 0x4148 ((start.inThumb.withRegs [(0, 0xFFFFFFFF), (1, 0)]).withFlags 0b0010) fun _ t => t.reg 0 == 0
      && t.nzcv == 0b0110].all id = true := by decide +kernel
theorem test_run_thumb_alu_2 : [
    runs .thumb 0x4188 (start.inThumb.withRegs [(0, 5), (1, 5)]) fun _ t => t.reg 0 == 0xFFFFFFFF && t.nzcv == 0b1000,
    runs .thumb 0x41C8 (start.inThumb.withRegs [(0, 0x80000001), (1, 0x20)]) fun _ t => t.reg 0 == 0x80000001 &&
      t.nzcv == 0b1010,
    runs .thumb 0x4208 ((start.inThumb.withRegs [(0, 0x80000000), (1, 0x80000000)]).withFlags 0b0011) fun _ t =>
      t.nzcv == 0b1011,
    runs .thumb 0x4248 (start.inThumb.withRegs [(1, 0x80000000)]) fun _ t => t.reg 0 == 0x80000000 && t.nzcv ==
      0b1001,
    runs .thumb 0x4288 (start.inThumb.withRegs [(0, 0x7FFFFFFF), (1, 0xFFFFFFFF)]) fun _ t => t.nzcv == 0b1001,
    runs .thumb 0x42C8 (start.inThumb.withRegs [(0, 1), (1, 0xFFFFFFFF)]) fun _ t => t.nzcv == 0b0110].all id = true
      := by decide +kernel
theorem test_run_thumb_alu_3 : [
    runs .thumb 0x4308 (start.inThumb.withFlags 0b0011) fun _ t => t.reg 0 == 0 && t.nzcv == 0b0111,
    runs .thumb 0x4348 ((start.inThumb.withRegs [(0, 0x10000), (1, 0x10000)]).withFlags 0b0011) fun _ t => t.reg 0 ==
      0 && t.nzcv == 0b0111,
    runs .thumb 0x4388 (start.inThumb.withRegs [(0, 0xFF), (1, 0xF)]) fun _ t => t.reg 0 == 0xF0 && t.nzcv == 0b0000,
    runs .thumb 0x43C8 (start.inThumb.withRegs [(1, 0xFFFFFFFF)]) fun _ t => t.reg 0 == 0 && t.nzcv == 0b0100].all id
      = true := by decide +kernel
theorem test_run_thumb_high_1 : [
    runs .thumb 0x4440 ((start.inThumb.withRegs [(0, 1), (8, 0xFFFFFFFF)]).withFlags 0b1001) fun _ t => t.reg 0 == 0
      && t.nzcv == 0b1001,
    runs .thumb 0x4541 (start.inThumb.withRegs [(1, 5), (8, 5)]) fun _ t => t.nzcv == 0b0110,
    runs .thumb 0x4688 ((start.inThumb.withRegs [(1, 0x80000000)]).withFlags 0b0100) fun _ t => t.reg 8 == 0x80000000
      && t.nzcv == 0b0100,
    runs .thumb 0x4608 ((start.inThumb.withRegs [(1, 0)]).withFlags 0b1000) fun _ t => t.reg 0 == 0 && t.nzcv ==
      0b1000,
    runs .thumb 0x4708 (start.inThumb.withRegs [(1, 0x9001)]) fun _ t => t.pc == 0x9000 && t.cpsr.t].all id = true :=
      by decide +kernel
theorem test_run_thumb_high_2 : [
    refuses .thumb 0x4708 (start.inThumb.withRegs [(1, 0x9002)]),
    runs .thumb 0x4788 (start.inThumb.withRegs [(1, 0x9000)]) fun _ t => t.reg 14 == 0x8003 && t.pc == 0x9000 &&
      !t.cpsr.t,
    runs .thumb 0xA001 (start.inThumb.atPc 0x8002) fun _ t => t.reg 0 == 0x8008,
    runs .thumb 0xA802 (start.inThumb.withRegs [(13, 0x2000)]) fun _ t => t.reg 0 == 0x2008].all id = true := by
      decide+kernel
theorem test_run_thumb_misc_1 : [
    runs .thumb 0xB004 (start.inThumb.withRegs [(13, 0x2000)]) fun _ t => t.reg 13 == 0x2010,
    runs .thumb 0xB084 (start.inThumb.withRegs [(13, 0x2000)]) fun _ t => t.reg 13 == 0x1FF0,
    runs .thumb 0xB503 (start.inThumb.withRegs [(13, 0x2000), (0, 1), (1, 2), (14, 0x8005)]) fun _ t => t.reg 13 ==
      0x1FF4 && t.word 0x1FF4 == 1 && t.word 0x1FF8 == 2 && t.word 0x1FFC == 0x8005,
    runs .thumb 0xBD01 (((start.inThumb.withRegs [(13, 0x1FF8)]).poke 0x1FF8 7).poke 0x1FFC 0x9001) fun _ t => t.reg
      0 == 7 && t.pc == 0x9000 && t.cpsr.t && t.reg 13 == 0x2000,
    runs .thumb 0xBA08 (start.inThumb.withRegs [(1, 0x11223344)]) fun _ t => t.reg 0 == 0x44332211].all id = true :=
      by decide +kernel
theorem test_run_thumb_misc_2 : [
    runs .thumb 0xBA48 (start.inThumb.withRegs [(1, 0x11223344)]) fun _ t => t.reg 0 == 0x22114433,
    runs .thumb 0xBAC8 (start.inThumb.withRegs [(1, 0x80FF)]) fun _ t => t.reg 0 == 0xFFFFFF80,
    runs .thumb 0xB208 (start.inThumb.withRegs [(1, 0x18000)]) fun _ t => t.reg 0 == 0xFFFF8000,
    runs .thumb 0xB248 (start.inThumb.withRegs [(1, 0x80)]) fun _ t => t.reg 0 == 0xFFFFFF80,
    runs .thumb 0xB288 (start.inThumb.withRegs [(1, 0xFFFF8000)]) fun _ t => t.reg 0 == 0x8000].all id = true := by
      decide+kernel
theorem test_run_thumb_misc_3 : [
    runs .thumb 0xB2C8 (start.inThumb.withRegs [(1, 0xFFFFFF80)]) fun _ t => t.reg 0 == 0x80,
    runs .thumb 0xB658 start.inThumb fun _ t => t.cpsr.e,
    runs .thumb 0xB667 (start.inThumb.withPsr 0x1F3) fun _ t => t.cpsr.toWord == 0x33,
    runs .thumb 0xBEAB (start.inThumb.atPc 0x8100) fun _ t => t.gpr[slot .abt 14] == 0x8104 && t.pc == 0xC].all id =
      true := by decide +kernel
theorem test_run_thumb_load_store_1 : [
    runs .thumb 0x4802 ((start.inThumb.atPc 0x8002).poke 0x800C 0x12345678) fun _ t => t.reg 0 == 0x12345678,
    runs .thumb 0x5888 (start.inThumb.withRegs [(1, 0x1000), (2, 4)]) fun _ t => t.reg 0 == 0x77665544,
    runs .thumb 0x5688 ((start.inThumb.poke 0x1000 0x80221100).withRegs [(1, 0x1000), (2, 3)]) fun _ t => t.reg 0 ==
      0xFFFFFF80,
    runs .thumb 0x5E88 ((start.inThumb.poke 0x1000 0x80221100).withRegs [(1, 0x1000), (2, 2)]) fun _ t => t.reg 0 ==
      0xFFFF8022,
    runs .thumb 0x8848 ((start.inThumb.poke 0x1000 0x80221100).withRegs [(1, 0x1000)]) fun _ t => t.reg 0 == 0x8022,
    runs .thumb 0x78C8 ((start.inThumb.poke 0x1000 0x80221100).withRegs [(1, 0x1000)]) fun _ t => t.reg 0 ==
      0x80].all id = true := by decide +kernel
theorem test_run_thumb_load_store_2 : [
    runs .thumb 0x6848 (start.inThumb.withRegs [(1, 0x1000)]) fun _ t => t.reg 0 == 0x77665544,
    runs .thumb 0x6048 (start.inThumb.withRegs [(1, 0x1000), (0, 0xDEADBEEF)]) fun _ t => t.word 0x1004 == 0xDEADBEEF,
    runs .thumb 0x8048 ((start.inThumb.poke 0x1000 0x11111111).withRegs [(1, 0x1000), (0, 0xDEADBEEF)]) fun _ t =>
      t.word 0x1000 == 0xBEEF1111,
    runs .thumb 0x7048 ((start.inThumb.poke 0x1000 0x11111111).withRegs [(1, 0x1000), (0, 0xDEADBEEF)]) fun _ t =>
      t.word 0x1000 == 0x1111EF11,
    runs .thumb 0x9801 (start.inThumb.withRegs [(13, 0x1000)]) fun _ t => t.reg 0 == 0x77665544,
    runs .thumb 0x9001 (start.inThumb.withRegs [(13, 0x1000), (0, 9)]) fun _ t => t.word 0x1004 == 9].all id = true
      := by decide +kernel
theorem test_run_thumb_branch_1 : [
    runs .thumb 0xC90D (start.inThumb.withRegs [(1, 0x1000)]) fun _ t => t.reg 0 == 0x33221100 && t.reg 2 ==
      0x77665544 && t.reg 3 == 0xBBAA9988 && t.reg 1 == 0x100C,
    runs .thumb 0xC105 (start.inThumb.withRegs [(1, 0x1000), (0, 0xA), (2, 0xB)]) fun _ t => t.word 0x1000 == 0xA &&
      t.word 0x1004 == 0xB && t.reg 1 == 0x1008,
    runs .thumb 0xD0FE (start.inThumb.withFlags 0b0100) fun _ t => t.pc == 0x8000,
    runs .thumb 0xDE00 ((start.inThumb.atPc 0x8100).withPsr 0xF3) fun _ t => t.gpr[slot .und 14] == 0x8102 &&
      t.spsr.und == 0xF3 && t.cpsr.toWord == 0xDB && t.pc == 0x4,
    runs .thumb 0xE7FE start.inThumb fun _ t => t.pc == 0x8000].all id = true := by decide +kernel
theorem test_run_thumb_branch_2 : [
    runs .thumb 0xF000 start.inThumb fun _ t => t.reg 14 == 0x8004 && t.pc == 0x8002,
    runs .thumb 0xF87E ((start.inThumb.atPc 0x8002).withRegs [(14, 0x8004)]) fun _ t => t.pc == 0x8100 && t.reg 14 ==
      0x8005,
    runs .thumb 0xE87E ((start.inThumb.atPc 0x8004).withRegs [(14, 0x8006)]) fun _ t => t.pc == 0x8100 && !t.cpsr.t
      && t.reg 14 == 0x8007,
    runs .thumb 0xDFAB ((start.inThumb.atPc 0x8100).withPsr 0x30) fun _ t => t.gpr[slot .svc 14] == 0x8102 &&
      t.spsr.svc == 0x30 && t.cpsr.toWord == 0x93 && t.pc == 0x8].all id = true := by decide +kernel
theorem test_run_vfp_cdp_3op_s : [
    runs .arm 0xEE200A81 (((start.withVfp.withFpscr 0x3000000).withS 1 0xFF7FFFFF).withS 2 0x40000000) fun _ t =>
      t.vfp.s[0] == 0xFF800000 && t.vfp.fpscr == 0x3000014 && t.vfp.fpexc == 0x40000000,
    runs .arm 0xEE800A81 (((start.withVfp.withFpscr 0x3000000).withS 1 0x40000000).withS 2 0x40400000) fun _ t =>
      t.vfp.s[0] == 0x3F2AAAAB && t.vfp.fpscr == 0x3000010 && t.vfp.fpexc == 0x40000000,
    runs .arm 0xEE300AC1 (((start.withVfp.withFpscr 0x3000000).withS 1 0x3F800000).withS 2 0x3F800000) fun _ t =>
      t.vfp.s[0] == 0 && t.vfp.fpscr == 0x3000000 && t.vfp.fpexc == 0x40000000,
    runs .arm 0xEE300A81 (((start.withVfp.withFpscr 0x3000000).withS 1 0x7F800000).withS 2 0xFF800000) fun _ t =>
      t.vfp.s[0] == 0x7FC00000 && t.vfp.fpscr == 0x3000001 && t.vfp.fpexc == 0x40000000,
    runs .arm 0xEE000A81 ((((start.withVfp.withFpscr 0x3000000).withS 0 0xBF801000).withS 1 0x3F800800).withS 2
      0x3F800800) fun _ t => t.vfp.s[0] == 0 && t.vfp.fpscr == 0x3000010 && t.vfp.fpexc == 0x40000000,
    runs .arm 0xEE300A81 start fun s t => t.cpsr.mode == .und && t.pc == 4 && t.gpr[slot .und 14] == s.pc + 4].all id
      = true := by decide +kernel
theorem test_run_vfp_cdp_3op_d : [
    runs .arm 0xEE310B02 (((start.withVfp.withFpscr 0x3000000).withD 1 0x3FF0000000000000).withD 2
      0x3CA0000000000000) fun _ t => t.vfp.s[1] ++ t.vfp.s[0] == 0x3ff0000000000000#64 && t.vfp.fpscr == 0x3000010 &&
      t.vfp.fpexc == 0x40000000].all id = true := by decide +kernel
theorem test_run_vfp_cdp_ext_s : [
    runs .arm 0xEEB10AE0 ((start.withVfp.withFpscr 0x3000000).withS 1 0x40000000) fun _ t => t.vfp.s[0] == 0x3FB504F3
      && t.vfp.fpscr == 0x3000010 && t.vfp.fpexc == 0x40000000,
    runs .arm 0xEEB00A60 ((start.withVfp.withFpscr 0x3000000).withS 1 0x7FA00000) fun _ t => t.vfp.s[0] == 0x7FA00000
      && t.vfp.fpscr == 0x3000000 && t.vfp.fpexc == 0x40000000,
    runs .arm 0xEEB00AE0 ((start.withVfp.withFpscr 0x3000000).withS 1 0xFFC00001) fun _ t => t.vfp.s[0] == 0x7FC00001
      && t.vfp.fpscr == 0x3000000 && t.vfp.fpexc == 0x40000000,
    runs .arm 0xEEB10A60 ((start.withVfp.withFpscr 0x3000000).withS 1 0) fun _ t => t.vfp.s[0] == 0x80000000 &&
      t.vfp.fpscr == 0x3000000 && t.vfp.fpexc == 0x40000000,
    runs .arm 0xEEB40A60 (((start.withVfp.withFpscr 0x3000000).withS 0 0x3F800000).withS 1 0x40000000) fun _ t =>
      t.vfp.fpscr == 0x83000000,
    runs .arm 0xEEB40AE0 (((start.withVfp.withFpscr 0x3000000).withS 0 0x7FC00000).withS 1 0x3F800000) fun _ t =>
      t.vfp.fpscr == 0x33000001].all id = true := by decide +kernel
theorem test_run_vfp_cdp_ext_d : [
    runs .arm 0xEEB10BC1 ((start.withVfp.withFpscr 0x3000000).withD 1 0x4000000000000000) fun _ t => t.vfp.s[1] ++
      t.vfp.s[0] == 0x3ff6a09e667f3bcd#64 && t.vfp.fpscr == 0x3000010 && t.vfp.fpexc == 0x40000000].all id = true :=
      by decide +kernel
theorem test_run_vfp_cdp_int_to_float : [
    runs .arm 0xEEB80A60 ((start.withVfp.withFpscr 0x3000000).withS 1 0xFFFFFFFF) fun _ t => t.vfp.s[0] == 0x4F800000
      && t.vfp.fpscr == 0x3000010 && t.vfp.fpexc == 0x40000000,
    runs .arm 0xEEB80AE0 ((start.withVfp.withFpscr 0x3000000).withS 1 0xFFFFFFFF) fun _ t => t.vfp.s[0] == 0xBF800000
      && t.vfp.fpscr == 0x3000000 && t.vfp.fpexc == 0x40000000,
    runs .arm 0xEEB80BE0 ((start.withVfp.withFpscr 0x3000000).withS 1 0xFFFFFFFF) fun _ t => t.vfp.s[1] ++ t.vfp.s[0]
      == 0xbff0000000000000#64 && t.vfp.fpscr == 0x3000000 && t.vfp.fpexc == 0x40000000,
    runs .arm 0xEEB80B60 ((start.withVfp.withFpscr 0x3000000).withS 1 0xFFFFFFFF) fun _ t => t.vfp.s[1] ++ t.vfp.s[0]
      == 0x41efffffffe00000#64 && t.vfp.fpscr == 0x3000000 && t.vfp.fpexc == 0x40000000].all id = true := by
      decide+kernel
theorem test_run_vfp_cdp_cvt : [
    runs .arm 0xEEB70AE0 ((start.withVfp.withFpscr 0x3000000).withS 1 0x3DCCCCCD) fun _ t => t.vfp.s[1] ++ t.vfp.s[0]
      == 0x3fb99999a0000000#64 && t.vfp.fpscr == 0x3000000 && t.vfp.fpexc == 0x40000000,
    runs .arm 0xEEB70BC1 ((start.withVfp.withFpscr 0x3000000).withD 1 0x3FB999999999999A) fun _ t => t.vfp.s[0] ==
      0x3DCCCCCD && t.vfp.fpscr == 0x3000010 && t.vfp.fpexc == 0x40000000].all id = true := by decide +kernel
theorem test_run_vfp_cdp_float_to_int : [
    runs .arm 0xEEBD0A60 ((start.withVfp.withFpscr 0x3000000).withS 1 0x40200000) fun _ t => t.vfp.s[0] == 2 &&
      t.vfp.fpscr == 0x3000010 && t.vfp.fpexc == 0x40000000,
    runs .arm 0xEEBD0AE0 ((start.withVfp.withFpscr 0x3000000).withS 1 0xC0200000) fun _ t => t.vfp.s[0] == 0xFFFFFFFE
      && t.vfp.fpscr == 0x3000010 && t.vfp.fpexc == 0x40000000,
    runs .arm 0xEEBC0A60 ((start.withVfp.withFpscr 0x3000000).withS 1 0xBF000000) fun _ t => t.vfp.s[0] == 0 &&
      t.vfp.fpscr == 0x3000010 && t.vfp.fpexc == 0x40000000,
    runs .arm 0xEEBC0AE0 ((start.withVfp.withFpscr 0x3000000).withS 1 0xBF800000) fun _ t => t.vfp.s[0] == 0 &&
      t.vfp.fpscr == 0x3000001 && t.vfp.fpexc == 0x40000000,
    runs .arm 0xEEBD0BC1 ((start.withVfp.withFpscr 0x3000000).withD 1 0xC004000000000000) fun _ t => t.vfp.s[0] ==
      0xFFFFFFFE && t.vfp.fpscr == 0x3000010 && t.vfp.fpexc == 0x40000000].all id = true := by decide +kernel
theorem test_run_vfp_cdp_cmpz_s : [
    runs .arm 0xEEB50A40 ((start.withVfp.withFpscr 0x3000000).withS 0 0x80000000) fun _ t => t.vfp.fpscr ==
      0x63000000,
    runs .arm 0xEEB50AC0 ((start.withVfp.withFpscr 0x3000000).withS 0 0xBF800000) fun _ t => t.vfp.fpscr ==
      0x83000000].all id = true := by decide +kernel
theorem test_run_vfp_transfer_1 : [
    runs .arm 0xEEF1FA10 (start.withVfp.withFpscr 0x33000000) fun _ t => t.nzcv == 0b0011,
    runs .arm 0xEE000A90 (start.withVfp.withRegs [(0, 0x12345678)]) fun _ t => t.vfp.s[1] == 0x12345678,
    runs .arm 0xEE010B10 (start.withVfp.withRegs [(0, 0x11111111)]) fun _ t => t.vfp.s[2] == 0x11111111,
    runs .arm 0xEE212B10 (start.withVfp.withRegs [(2, 0x22222222)]) fun _ t => t.vfp.s[3] == 0x22222222,
    runs .arm 0xEC420B11 (start.withVfp.withRegs [(0, 0xAAAAAAAA), (2, 0xBBBBBBBB)]) fun _ t => t.vfp.s[2] ==
      0xAAAAAAAA && t.vfp.s[3] == 0xBBBBBBBB].all id = true := by decide +kernel
theorem test_run_vfp_transfer_2 : [
    runs .arm 0xEC520B11 (start.withVfp.withD 1 0x3FF0000000000000) fun _ t => t.reg 0 == 0 && t.reg 2 == 0x3FF00000,
    runs .arm 0xEC410A11 (start.withVfp.withRegs [(0, 1), (1, 2)]) fun _ t => t.vfp.s[2] == 1 && t.vfp.s[3] == 2,
    runs .arm 0xEEE10A10 (start.withVfp.withRegs [(0, 0xFFFFFFFF)]) fun _ t => t.vfp.fpscr == 0xF3F79F9F,
    runs .arm 0xEEF80A10 (start.withVfp.withPsr 0x10) fun s t => t.cpsr.mode == .und && t.pc == 4 && t.gpr[slot .und
      14] == s.pc + 4,
    runs .arm 0xEEF00A10 start.withVfp fun _ t => t.reg 0 == 0x410120B5].all id = true := by decide +kernel
theorem test_run_vfp_load_store_1 : [
    runs .arm 0xEDD00A01 (start.withVfp.withRegs [(0, 0x1000)]) fun _ t => t.vfp.s[1] == 0x77665544,
    runs .arm 0xED901B02 (start.withVfp.withRegs [(0, 0x1000)]) fun _ t => t.vfp.s[2] == 0xBBAA9988 && t.vfp.s[3] ==
      0xFFEEDDCC,
    runs .arm 0xEDC00A00 ((start.withVfp.withRegs [(0, 0x1000)]).withS 1 0x3F800000) fun _ t => t.word 0x1000 ==
      0x3F800000,
    runs .arm 0xECB01A04 (start.withVfp.withRegs [(0, 0x1000)]) fun _ t => t.vfp.s[2] == 0x33221100 && t.vfp.s[3] ==
      0x77665544 && t.vfp.s[4] == 0xBBAA9988 && t.vfp.s[5] == 0xFFEEDDCC && t.reg 0 == 0x1010].all id = true := by
      decide+kernel
theorem test_run_vfp_load_store_2 : [
    runs .arm 0xED2D8B04 (((((start.withVfp.withRegs [(13, 0x2000)]).withS 16 1).withS 17 2).withS 18 3).withS 19 4)
      fun _ t => t.word 0x1FF0 == 1 && t.word 0x1FF4 == 2 && t.word 0x1FF8 == 3 && t.word 0x1FFC == 4 && t.reg 13 ==
      0x1FF0,
    runs .arm 0xEC900B05 (start.withVfp.withRegs [(0, 0x1000)]) fun _ t => t.vfp.s[0] == 0x33221100 && t.vfp.s[1] ==
      0x77665544 && t.vfp.s[2] == 0xBBAA9988 && t.vfp.s[3] == 0xFFEEDDCC && t.reg 0 == 0x1000,
    runs .arm 0xEDD00A01 (((start.withVfp.withRegs [(0, 0x1002)]).withSctlr 0x400000).mapped 0x1C02) fun _ t =>
      t.cpsr.mode == .abt && t.secure.dfsr == 0x001 && t.secure.far == 0x1006].all id = true := by decide +kernel

/-! Witnesses: for each statement with hypotheses, states and operands that meet them all, clause by clause -/

/-- A part of a meaning completes. -/
def completes {α : Type} (r : Except Stop α) : Bool :=
  match r with
  | .ok _ => true
  | .error _ => false

/-- A step or an instruction answers a next state. -/
def nexts (o : Host.Outcome State Fault Refusal) : Bool :=
  match o with
  | .next _ => true
  | .fault _ => false
  | .refused _ => false

/-- A step or an instruction is refused. -/
def stops (o : Host.Outcome State Fault Refusal) : Bool :=
  match o with
  | .next _ => false
  | .fault _ => false
  | .refused _ => true

/-- The condition of the tests passes. -/
def State.passes (s : State) : Bool := Cond.passes .al s.cpsr

theorem test_witness_StepKeepsInv : (State.reset.withFetchWord 32 0xE2811004).Inv ∧
    nexts (step (State.reset.withFetchWord 32 0xE2811004)) = true :=
  ⟨⟨by decide +kernel, by decide +kernel, by decide +kernel, by decide +kernel, by decide +kernel⟩, by decide +kernel⟩

theorem test_witness_StepKeepsPins : nexts (step (State.reset.withFetchWord 16 0x3105)) = true := by decide +kernel

/-- The fetch at the PC answers this word, it decodes, and its execution has a property. -/
noncomputable def fetches (s : State) (w : Word) (p : Host.Outcome State Fault Refusal → Bool) : Bool :=
  match fetch (if s.cpsr.t then 2 else 4) s with
  | .error _ => false
  | .ok (v, u) =>
    v == w && s.quiet && u.clear &&
      match decodeFor s.isa v with
      | .instr i =>
        i.wf && p (exec i { u with jumped := false, wrapped := false, dbg := { u.dbg with sample := u.pcSample } })
      | .shouldBe _ => false
      | .bkptCond => false
      | .unallocated _ => false
      | .unallocatedThumb => false

/-- The next state has, or has not, run past the top of the address space, and no watchpoint has hit. -/
def stays (past : Bool) (o : Host.Outcome State Fault Refusal) : Bool :=
  match o with
  | .next t => t.wrapped == past && t.dbg.watchHit == none
  | .fault _ => false
  | .refused _ => false

theorem test_witness_StepRunsDecoded : [fetches (start.poke 0x8000 0xE2811004) 0xE2811004 (stays false),
    fetches (start.inThumb.poke 0x8000 0x3105) 0x3105 (stays false),
    fetches ((start.poke 0xFFFFFFFC 0xE2811004).atPc 0xFFFFFFFC) 0xE2811004 (stays true),
    fetches (start.poke 0x8000 0xE1000090) 0xE1000090 stops, !start.cp15.pmnc.getLsbD 0].all id = true := by
      decide+kernel

theorem test_witness_FetchReadsMemory : start.plainMemory = true ∧ start.codeStale = [] ∧
    start.pc.extractLsb' 0 2 = 0 ∧ (start.atPc 0x8002).plainMemory = true ∧ (start.atPc 0x8002).pc.getLsbD 0 = false
      := by
  decide+kernel

theorem test_witness_DecodeEncode : (Instr.tBx true 6).WellFormed ∧ (Instr.blxImm true 0xFFFFFF).WellFormed := by
  decide+kernel

theorem test_witness_EncodeDecode : decodeArm 0xFBFFFFFF = .instr (.blxImm true 0xFFFFFF) ∧
    decodeThumb 0x4770 = .instr (.tBx true 6) := by decide +kernel

theorem test_witness_FailedConditionSkips : condOf? (.addImm .eq true 1 15 0 4) = some .eq ∧
    Cond.passes .eq start.cpsr = false ∧ start.halted = false := by decide +kernel

/-- User mode in the Secure world. -/
def user : State := start.withPsr 0x10

theorem test_witness_UserModeConfined : user.cpsr.mode = .usr ∧ user.halted = false ∧
    nexts (exec (.addImm .al true 1 2 0 4) user) = true ∧ nexts (exec (.svc .al 5) user) = true := by decide +kernel

theorem test_witness_NonSecureConfined : start.inNs.isSecure = false ∧ start.inNs.halted = false ∧
    nexts (exec (.mcr .al 0 3 0 15 0 0) start.inNs) = true ∧
    (match exec (.mcr .al 0 5 0 15 0 0) (start.inNs.withRegs [(0, 0x805)]) with
      | .next t => t.cpsr.mode == .svc && t.nonSecure.dfsr == 0x805
      | .fault _ => false
      | .refused _ => false) = true := by decide +kernel

/-- The Non-secure world, on a platform that gives it memory of its own. -/
def apart : State := { start.inNs with pins := { start.pins with split := [{ first := 0, last := 0xFFFFFFFF }] } }

theorem test_witness_SecureMemoryUntouched_splits (pa : Word) : apart.splits pa = true := by
  have h : apart.splits pa = (decide ((0 : Word) ≤ pa) && decide (pa ≤ 0xFFFFFFFF#32) || false) := rfl
  have h0 : (0 : Word) ≤ pa := BitVec.le_def.mpr (by simp)
  have h1 : pa ≤ 0xFFFFFFFF#32 := BitVec.le_def.mpr (by have := pa.isLt; simp; omega)
  rw [h, decide_eq_true h0, decide_eq_true h1]; rfl

theorem test_witness_SecureMemoryUntouched_inv : apart.Inv :=
  ⟨by decide +kernel, by decide +kernel, by decide +kernel, by decide +kernel, by decide +kernel⟩

theorem test_witness_SecureMemoryUntouched : apart.isSecure = false ∧ apart.halted = false ∧ apart.running = none ∧
    apart.dcache = [] ∧ nexts (exec (.strImm .al true true false 1 2 4) apart) = true := by decide +kernel

/-- An interrupt input is asserted, and nothing is masked. -/
def interrupted (irq fiq : Bool) : State := { user with pins := { user.pins with nIRQ := !irq, nFIQ := !fiq } }

theorem test_witness_InterruptsAreTaken : (interrupted true true).running = none ∧
    (interrupted true true).debugRequest = none ∧ (interrupted true true).halted = false ∧
    (interrupted true true).dbg.dscr.getLsbD 11 = false ∧ (interrupted true true).pins.irqAddrV = false ∧
    (interrupted true true).pins.nFIQ = false ∧
    (interrupted true true).cpsr.f = false ∧ (interrupted true false).pins.nFIQ = true ∧
    (interrupted true false).pins.nIRQ = false ∧ (interrupted true false).cpsr.i = false ∧
    ((interrupted true true).withPsr 0x50).cpsr.f = true ∧ ((interrupted true true).withPsr 0x50).cpsr.i = false := by
  decide+kernel

/-- Debug permitted, with Halting or Monitor debug-mode selected. -/
def debugging (dscr : Word) : State :=
  { start with pins := { start.pins with dbgen := true, spiden := true }, dbg := { start.dbg with dscr := dscr } }

theorem test_witness_SystemCallResults : start.halted = false ∧ start.passes = true ∧ start.privileged = true ∧
    user.halted = false ∧ user.passes = true ∧ user.privileged = false ∧ start.haltingDebug = false ∧
    start.monitorDebug = false ∧ (debugging 0x4002).haltingDebug = true ∧ (debugging 0x4002).halted = false ∧
    (debugging 0x8002).haltingDebug = false ∧ (debugging 0x8002).monitorDebug = true := by decide +kernel

theorem test_witness_UndefinedResults : start.halted = false ∧ start.passes = true ∧ start.withVfp.halted = false ∧
    start.withVfp.passes = true ∧ start.withVfp.vfpUsable false = true ∧ start.withVfp.vfpUsable true = true ∧
    Cond.passes .eq start.cpsr = false ∧ (14 : BitVec 4) ≠ 15 ∧ (9 : BitVec 4) ≠ 10 ∧ (9 : BitVec 4) ≠ 11 := by
      decide+kernel

theorem test_witness_SupervisorCallReturns : user.halted = false ∧ user.cpsr.t = false ∧ user.cpsr.j = false ∧
    user.pcAligned = true ∧ user.cpsr.mode ≠ .svc ∧ user.cpsr.mode ≠ .mon ∧ nexts (exec (.svc .al 5) user) = true :=
      by
  decide+kernel

theorem test_witness_ImmediateOpcodes : start.passes = true ∧ (14 : RegNo) ≠ 15 ∧
    nexts (exec (.rscImm .al true 15 14 15 0xFF) start) = true := by decide +kernel

theorem test_witness_ShiftOpcodes : start.passes = true ∧ (0 : RegNo) ≠ 15 ∧
    nexts (exec (.sbcShift .al true 15 0 31 .ror 15) start) = true := by decide +kernel

theorem test_witness_RegisterShiftOpcodes : start.passes = true ∧ (15 : RegNo) ∉ [(0 : RegNo), 14, 1, 2] ∧
    (15 : RegNo) ∉ [(14 : RegNo), 1, 2] ∧ (15 : RegNo) ∈ [(0 : RegNo), 14, 15, 2] ∧ (15 : RegNo) ∈ [(14 : RegNo), 1,
      15] := by
  decide+kernel

theorem test_witness_ShifterBits : (1 : BitVec 5) ≠ 0 ∧ (31 : BitVec 5) ≠ 0 ∧
    [0#32, 0x100, 1, 31, 32, 33, 255].map (fun b => (b.extractLsb' 0 8).toNat) = [0, 0, 1, 31, 32, 33, 255] := by
  decide+kernel

theorem test_witness_PcDestination : start.passes = true ∧ user.passes = true ∧
    user.spsr.get? user.cpsr.mode = none ∧ start.spsr.get? start.cpsr.mode = some 0 ∧
    Mode.ofBits? (BitVec.extractLsb' 0 5 0#32) = none ∧
    (start.withSpsr 0x1F).spsr.get? (start.withSpsr 0x1F).cpsr.mode = some 0x1F ∧
    (Mode.ofBits? (BitVec.extractLsb' 0 5 0x1F#32)).isSome = true ∧ (start.withSpsr 0x1F).isSecure = true ∧
    (start.withSpsr 0x1F).halted = false ∧ user.halted = false := by decide +kernel

theorem test_witness_MultiplyResults : start.passes = true ∧ (15 : RegNo) ∉ [(14 : RegNo), 0, 1, 1] ∧
    (14 : RegNo) ≠ 0 := by decide +kernel

theorem test_witness_SaturatingResults : start.passes = true ∧ (15 : RegNo) ∉ [(0 : RegNo), 0, 0, 14] := by
      decide+kernel

theorem test_witness_QFlagIsSticky : restoresStatus (.qadd .al 1 2 3) = false ∧ start.withQ.cpsr.q = true ∧
    nexts (exec (.qadd .al 1 2 3) start.withQ) = true := by decide +kernel

theorem test_witness_ParallelResults : start.passes = true ∧ (15 : RegNo) ∉ [(0 : RegNo), 14, 14] := by decide +kernel

theorem test_witness_GeBits : start.passes = true ∧ (15 : RegNo) ∉ [(14 : RegNo), 1, 2] ∧
    (15 : RegNo) ∈ [(14 : RegNo), 1, 15] := by decide +kernel

theorem test_witness_PackExtendResults : start.passes = true ∧ (15 : RegNo) ∉ [(1 : RegNo), 2, 14] := by decide +kernel

/-- R0 is 1, R1 is 2, R8 is 3. -/
def targets : State := start.withRegs [(0, 1), (1, 2), (8, 3)]

theorem test_witness_BranchResults : targets.passes = true ∧ (targets.reg 0).getLsbD 0 = true ∧
    (targets.reg 2).getLsbD 1 = false ∧ (targets.reg 1).getLsbD 0 = false ∧ (targets.reg 1).getLsbD 1 = true ∧
    (targets.reg (high true 0)).getLsbD 0 = true ∧ (targets.reg (high false 1)).getLsbD 1 = true ∧
    high true 0 ≠ 15 ∧ high false 1 ≠ 15 ∧ high true 7 = 15 := by decide +kernel

/-- R1 is 0x1000, R2 is 4, R13 is 0x1008. -/
def based : State := start.withRegs [(1, 0x1000), (2, 4), (13, 0x1008)]

/-- The addressing mode of a load or store of R3, off R1, by an immediate and by R2. -/
def modes (p wb : Bool) : List Word :=
  [(indexed p true wb 1 4 based).addr, (indexed p false wb 1 (based.reg 2) based).addr]

theorem test_witness_LoadResults : based.passes = true ∧ [(true, true), (true, false), (false, false)].all (fun x =>
    (modes x.1 x.2).all fun a => completes (memRead (loadOf .wload true) a 4 based) &&
      completes (memRead (loadOf .half true) a 2 based) && completes (memRead (loadOf .byte true) a 1 based)) = true ∧
    (modes false true).all (fun a => completes (memRead (loadOf .wload false) a 4 based) &&
      completes (memRead (loadOf .byte false) a 1 based)) = true := by decide +kernel

theorem test_witness_StoreResults : based.passes = true ∧ [(true, true), (true, false), (false, false)].all (fun x =>
    (modes x.1 x.2).all fun a => completes (memWrite (storeOf .wstore true) a 4 (based.storedReg 3) based) &&
      completes (memWrite (storeOf .half true) a 2 (based.storedReg 3) based) &&
      completes (memWrite (storeOf .byte true) a 1 (based.storedReg 3) based)) = true ∧
    (modes false true).all (fun a => completes (memWrite (storeOf .wstore false) a 4 (based.storedReg 3) based) &&
      completes (memWrite (storeOf .byte false) a 1 (based.storedReg 3) based)) = true := by decide +kernel

/-- A load of the PC reads this value, with this bit 15 of the Control Register. -/
noncomputable def loadsPc (s : State) (v : Word) (l4 : Bool) : Bool :=
  match memRead { loadOf .wload s.privileged with loadsPc := true } (indexed true true false 1 4 s).addr 4 s with
  | .ok (w, t) => w == v && t.cp15.sctlr.getLsbD 15 == l4
  | .error _ => false

/-- Control Register bit 15 is set. -/
def State.withL4 (s : State) : State := { s with cp15 := { s.cp15 with sctlr := s.cp15.sctlr ||| 0x8000 } }

theorem test_witness_PcTransferResults : based.passes = true ∧ [loadsPc based.withL4 0x77665544 true,
    loadsPc (based.poke 0x1004 0x8001) 0x8001 false, loadsPc (based.poke 0x1004 0x8004) 0x8004 false,
    loadsPc (based.poke 0x1004 0x8002) 0x8002 false].all id = true := by decide +kernel

/-- Two words are read upwards from the aligned address. -/
noncomputable def readsTwo (p : Acc) (a : Word) (s : State) : Bool :=
  match alignData p a s with
  | .error _ => false
  | .ok ((b, _), _) =>
    match readWordAt (p.block b 2) b s with
    | .error _ => false
    | .ok (_, t) =>
      match dmaInterval t with
      | .error _ => false
      | .ok (_, u) => completes (readWordAt (p.block b 2) (b + 4) u)

/-- The same from the upper word down, as RFE reads them. -/
noncomputable def readsReturn (a : Word) (s : State) : Bool :=
  let p : Acc := { loadOf .multi true with loadsPc := true }
  match alignData p a s with
  | .error _ => false
  | .ok ((b, _), _) =>
    let q : Acc := { p.block b 2 with lead := some (b + 4) }
    match readWordAt q (b + 4) s with
    | .error _ => false
    | .ok (_, t) =>
      match dmaInterval t with
      | .error _ => false
      | .ok (_, u) => completes (readWordAt q b u)

/-- Two words are stored upwards from the aligned address. -/
noncomputable def writesTwo (p : Acc) (a : Word) (s : State) : Bool :=
  match alignData p a s with
  | .error _ => false
  | .ok ((b, _), _) => completes (writeWords (p.block b 2) b [s.reg 4, s.reg 5] s)

theorem test_witness_DoubleResults : based.passes = true ∧ (12 : RegNo).getLsbD 0 = false ∧
    readsTwo (loadOf .twoWord true) 0x1008 based = true ∧ writesTwo (storeOf .twoWord true) 0x1008 based = true := by
  decide+kernel

/-- The words of a list are loaded from the block that the base register selects. -/
noncomputable def loadsBlock (m : Mode) (rs : List RegNo) (a : Word) (p : List (RegNo × Word) → State → Bool) (s :
      State) (precise : Bool := false) :
    Bool :=
  match loadBlock precise m 1 rs a s with
  | .error _ => false
  | .ok (ws, t) => p ws t

theorem test_witness_MultipleResults : based.passes = true ∧ based.cpsr.mode ≠ .usr ∧ based.cpsr.mode ≠ .sys ∧
    listed 0x8005 = [0, 2, 15] ∧ listed 0x4005 = [0, 2, 14] ∧ listed 0x0006 = [1, 2] ∧
    [loadsBlock .svc [0, 2, 14] 0x1000 (fun _ _ => true) based,
     loadsBlock .svc [0, 2, 15] 0x1000 (fun _ t => t.cp15.sctlr.getLsbD 15) based.withL4,
     loadsBlock .svc [0, 2, 15] 0x1000 (fun ws t => !t.cp15.sctlr.getLsbD 15 && !(pcWord ws).getLsbD 1) based,
     loadsBlock .usr [0, 2, 14] 0x1000 (fun _ _ => true) based,
     loadsBlock .svc [0, 2, 15] 0x1000 (fun _ t => !t.halted && t.spsr.svc == 0x1F &&
       (t.cpsr.merge 0x1F (t.returnMask 0x1F)).isSome) (based.withSpsr 0x1F) true,
     loadsBlock .svc [0, 2, 15] 0x1000 (fun ws t => !t.cp15.sctlr.getLsbD 15 && !(pcWord ws).getLsbD 0 &&
       (pcWord ws).getLsbD 1) (based.poke 0x1008 0x8002),
     completes (storeBlock 0x1000 [based.storedReg 0, based.storedReg 15] based)].all id = true := by decide +kernel

theorem test_witness_SaveReturnResults : (based.withSpsr 0x1F).spsr.get? (based.withSpsr 0x1F).cpsr.mode = some 0x1F ∧
    Mode.ofBits? 0x12 = some .irq ∧ based.isSecure = true ∧ user.spsr.get? user.cpsr.mode = none ∧
    (based.inNs.spsr.get? based.inNs.cpsr.mode).isSome = true ∧ based.inNs.isSecure = false ∧ user.privileged = false
      ∧
    based.privileged = true ∧ completes (storeBlock 0x1000 [based.reg 14, 0x1F] based) = true ∧
    readsReturn 0x1000 based = true ∧
    (based.cpsr.merge 0x1F (based.returnMask 0x1F)).isSome = true := by decide +kernel

/-- The MMU on, with the bytes of the tests in Normal memory that is not Shared. -/
def normal : State := based.mapped 0x1C02

theorem test_witness_SwapExclusiveResults : normal.passes = true ∧ (15 : RegNo) ∉ [(1 : RegNo), 4, 2] ∧
    (6 : RegNo).getLsbD 0 = false ∧
    [runs .arm 0xE1014092 normal fun _ _ => true, runs .arm 0xE1414092 normal fun _ _ => true,
     completes (loadExclusive .wsync 4 1 normal), completes (loadExclusive .bsync 1 1 normal),
     completes (loadExclusive .hwsync 2 1 normal), completes (loadExclusive .dwsync 8 1 normal)].all id = true := by
  decide+kernel

/-- A dirty line of Write-Back memory at 0x1000 whose first word is 42, while stores are forced to be Write-Through. -/
def forced : State :=
  let s := ((based.mapped 0x0C0E).withSctlr 4).setCommon fun c => { c with cbor := 0x20 }
  let set := s.setOf true 0x1000
  (s.validate 0 set).putLine
    { way := 0, set := set, line := 0x80, ns := false, dirtyLow := true, dirtyHigh := false, data := 42
      attrs := { ty := .normal, shared := false, inner := 0b11, outer := 0b11 } }

/-- SWP then writes the line back and moves a locked pair: R4 gets the line's word, memory that of R2 (R628). -/
theorem test_swap_dirty_line : runs .arm 0xE1014092 forced (fun _ t =>
      t.reg 4 == 42#32 && Memory.word t.mem 0x1000 == 4#32 && t.dcache.isEmpty &&
        t.transfers.map (fun x => (x.request.write, x.request.lock, x.request.writeback)) ==
          [(true, .locked, false), (false, .locked, false), (true, .normal, true)]) = true := by decide +kernel

/-- A store-exclusive of these bytes passes the local monitor and reaches memory, Shared or not, whose bytes it can
store; the global monitor holds its tag, or not. -/
noncomputable def storesExclusive (ty : AccType) (bs : List Byte) (shared tagged : Bool) (s : State) : Bool :=
  let st : Acc := { storeOf ty s.privileged with excl := true }
  match translateData st 0x1000 false (s.noteWatch st 0x1000 bs.length) with
  | .error _ => false
  | .ok (x, t) =>
    s.exclLocal && x.attrs.shared == shared && completes (checkEndianness bs.length t) &&
      (t.exclGlobal == some (x.pa, bs.length) && !t.noMonitorAt (t.singleRequest st x bs.length)) == tagged &&
      (t.pieceError (t.singleRequest st x bs.length) x bs.length).isNone &&
      completes (writeRouted st 0x1000 x bs { t with draws := t.draws + 1 }) && completes (writeRouted st 0x1000 x bs t)

/-- The same with Shared memory, and the global monitor holding this many bytes at 0x1000. -/
def sharedWith (n : Nat) : State := { (based.mapped 0x11C02).reserved with exclGlobal := some (0x1000, n) }

theorem test_witness_SwapExclusiveResults_store : normal.exclLocal = false ∧
    [storesExclusive .wsync [1, 2, 3, 4] false false normal.reserved, storesExclusive .bsync [1] false false
      normal.reserved,
     storesExclusive .hwsync [1, 2] false false normal.reserved,
     storesExclusive .dwsync [1, 2, 3, 4, 5, 6, 7, 8] false false normal.reserved,
     storesExclusive .wsync [1, 2, 3, 4] true true (sharedWith 4), storesExclusive .bsync [1] true true (sharedWith
      1),
     storesExclusive .hwsync [1, 2] true true (sharedWith 2),
     storesExclusive .dwsync [1, 2, 3, 4, 5, 6, 7, 8] true true (sharedWith 8),
     storesExclusive .wsync [1, 2, 3, 4] true false (sharedWith 8), storesExclusive .bsync [1] true false (sharedWith
      4),
     storesExclusive .hwsync [1, 2] true false (sharedWith 4),
     storesExclusive .dwsync [1, 2, 3, 4, 5, 6, 7, 8] true false (sharedWith 4),
     completes (alignData { storeOf .dwsync true with excl := true } (normal.reg 1) normal)].all id = true := by
  decide+kernel

/-- A load-exclusive of this many bytes knows what it reads, Shared or not. -/
noncomputable def readsExclusive (ty : AccType) (n : Nat) (shared : Bool) (s : State) : Bool :=
  let ld : Acc := { loadOf ty s.privileged with excl := true }
  match translateData ld 0x1000 false (s.noteWatch ld 0x1000 n) with
  | .error _ => false
  | .ok (x, t) =>
    x.attrs.shared == shared && completes (checkEndianness n t) &&
      match readRouted ld 0x1000 x n t with
      | .ok (some _, _) => true
      | .ok (none, _) => false
      | .error _ => false

/-- The platform answers a store to Shared memory with an error. -/
def failing : State :=
  let s := sharedWith 8
  { s with pins := { s.pins with errors := [{ region := { span := { first := 0x1000, last := 0x1003 } }, error := .slverr }] } }

theorem test_witness_SwapExclusiveResults_monitors :
    [readsExclusive .wsync 4 false normal, readsExclusive .bsync 1 true (sharedWith 1),
     readsExclusive .hwsync 2 true (sharedWith 1), readsExclusive .dwsync 8 true (sharedWith 1),
     (match translateData { storeOf .wsync true with excl := true } 0x1000 false failing with
      | .ok (x, t) => x.attrs.shared && t.exclLocal && t.exclGlobal != some (x.pa, 4) &&
        (t.pieceError (t.singleRequest { storeOf .wsync true with excl := true } x 4) x 4).isSome
      | .error _ => false)].all id = true := by decide +kernel

/-- LDREX of Shared memory sets both monitors; STREX with another tag sets Rd to 1, and the transfer is recorded (R620, R621,
R622, R626). -/
theorem test_run_exclusive_shared : [
    runs .arm 0xE1914F9F (sharedWith 1) fun _ t => t.exclLocal && t.exclGlobal == some (0x1000, 4) && t.reg 4 == 0x33221100,
    runs .arm 0xE1814F92 (sharedWith 8) fun s t => t.reg 4 == 1 && !t.exclLocal && t.word 0x1000 == s.word 0x1000 &&
      (t.transfers.head?.any fun r => r.request.write && r.request.lock == .exclusive)].all id = true := by
  decide +kernel

/-- An LDM of four words from an even word of Strongly Ordered memory is one burst of two doublewords (R797, R804). -/
theorem test_run_burst : runs .arm 0xE89100E4 ((start.withRegs [(1, 0x1000)])) (fun _ t =>
    t.transfers.map (fun r => (r.request.pa, r.request.size, r.request.beats, r.data.length)) == [(0x1000, 8, 2, 16)]) =
      true := by decide +kernel

theorem test_witness_HintResults : based.halted = false ∧ based.passes = true ∧ nexts (exec .clrex based) = true ∧
    (15 : RegNo) ∉ [(1 : RegNo), 4, 2] ∧ based.reg 1 &&& 3 = 0 ∧ based.cpsr.t = false := by decide +kernel

/-- What the Non-secure world may not change: without AW and FW the A and F bits, and with them, nothing of these; a mode field
that names the Secure Monitor in the Non-secure world, and in the Secure world; a User mode, and a mode that is none. -/
theorem test_witness_StatusResults : start.passes = true ∧ start.halted = false ∧ user.passes = true ∧
    user.halted = false ∧ start.spsr.get? start.cpsr.mode = some 0 ∧ user.spsr.get? user.cpsr.mode = none ∧
    [start.inNs, start.withScr 0x31].all (fun s => !s.isSecure && s.privileged && s.passes && !s.halted) = true ∧
    [start.inNs.instrMask 0x1D6 (fieldMask 1), (start.withScr 0x31).instrMask 0x1D3 0x1DF, start.instrMask 0x16 0x1F,
      user.instrMask 0 (fieldMask 15)] = [0x80, 0x1DF, 0x1F, 0xF80F0200] ∧
    (start.cpsr.merge 0x1F (start.instrMask 0x1F (fieldMask 1))).isSome = true ∧
    start.cpsr.merge 0 (start.instrMask 0 (fieldMask 15)) = none ∧ cpsRefused 2 true true 0x13 = false ∧
    cpsRefused 1 true false 0x13 = true ∧ user.privileged = false ∧ start.privileged = true ∧
    (start.cpsr.merge 0x13 (start.instrMask 0x13 0xDF)).isSome = true := by decide +kernel

/-- The register is readable with a value, and writing zero to it completes. -/
noncomputable def cp15Works (r? : Option Cp15) (s : State) : Bool :=
  match r? with
  | none => false
  | some r => r.readable s && (r.value s).isSome && r.writable s && completes (r.write 0 s)

theorem test_witness_Cp15Results : start.passes = true ∧ cp15Works (Cp15.of? 2 0 0 0) start = true ∧
    (Cp15.of? 0 0 0 0).map (fun r => r.readable start && !r.writable start && !r.readable user) = some true ∧
    Cp15.of? 14 0 0 0 = none ∧ RangeOp.of? 0 5 = some .invalidateCode ∧ RangeOp.allowed .invalidateCode start = true ∧
    RangeOp.allowed .invalidateCode user = false ∧ RangeOp.of? 1 5 = none ∧
    completes (onRange invalidateCodeMva 0x1000 0x1040 start) = true ∧
    completes (onRange (CacheOp.atMva .cleanInvalidate) 0x1000 0x1040 start) = true ∧
    (7 : BitVec 4) ∉ [(10 : BitVec 4), 11, 14, 15] := by decide +kernel

theorem test_witness_Cp15ReadBack : start.secureAdmin = true ∧ start.halted = false := by decide +kernel

theorem test_witness_Cp14Results : based.passes = true ∧ Cp14.of? 0 5 = some .dtr ∧ Cp14.of? 0 1 = some .dscr ∧
    Cp14.of? 0 0 = some .didr ∧ Cp14.dtr.permitted true based = true ∧ Cp14.dtr.permitted false based = true ∧
    Cp14.dscr.permitted false based = true ∧ Cp14.dscr.permitted true user = false ∧
    Cp14.vcr.permitted false user = false ∧ Cp14.dtr.reservedBreakpoint (based.reg 1) = false ∧
    readsTwo (loadOf .multi true) 0x1000 based = true ∧ writesTwo (storeOf .multi true) 0x1000 based = true ∧
    completes (writeWordAt (storeOf .multi true) 0x1000 based.dbg.rdtr based) = true ∧
    (7 : BitVec 4) ∉ [(10 : BitVec 4), 11, 14] := by decide +kernel

theorem test_witness_ThumbHighResults : high true 7 = 15 ∧ high true 0 ≠ 15 ∧ high false 7 ≠ 15 := by decide +kernel

theorem test_witness_ThumbMemoryResults : listed (BitVec.setWidth 16 0x86#8) = [1, 2, 7] ∧
    [completes (memRead (loadOf .wload true) 0x1004 4 based), completes (memRead (loadOf .half true) 0x1006 2 based),
     completes (memRead (loadOf .byte true) 0x1007 1 based), completes (memWrite (storeOf .wstore true) 0x1004 4 7
      based),
     completes (memWrite (storeOf .half true) 0x1006 2 7 based), completes (memWrite (storeOf .byte true) 0x1007 1 7
      based),
     completes (storeBlock 0x1000 [1, 2, 3] based),
     loadsBlock .svc [1, 2, 7] 0x1000 (fun _ _ => true) based,
     loadsBlock .svc [2, 15] 0x1000 (fun ws t => !t.cp15.sctlr.getLsbD 15 && !(pcWord ws).getLsbD 1) based,
     loadsBlock .svc [2, 15] 0x1000 (fun ws t => !t.cp15.sctlr.getLsbD 15 && !(pcWord ws).getLsbD 0 &&
       (pcWord ws).getLsbD 1) (based.poke 0x1004 0x8002),
     loadsBlock .svc [2, 15] 0x1000 (fun _ t => t.cp15.sctlr.getLsbD 15) based.withL4].all id = true := by
      decide+kernel

theorem test_witness_ForbiddenRefused : forbidden (.mul .al true 15 1 2) = true ∧
    (condOf? (.mul .al true 15 1 2)).all (Cond.passes · start.cpsr) = true ∧ forbidden (.mrs .al true 15) = true ∧
    forbidden (.ldrdImm .al false true true 1 2 0 8) = true := by decide +kernel

/-- The VFP11 enabled, with a length, a stride and IXE. -/
def shaped (len : BitVec 3) (stride : BitVec 2) (ixe : Bool) : State :=
  start.withVfp.withFpscr (0x03000000 ||| (len.setWidth 32 <<< 16) ||| (stride.setWidth 32 <<< 20) ||| bitAt ixe 12)

/-- For each clause a state that meets its hypotheses: scalar at the last registers, vectors of the greatest length, IXE, a
stride field that is not defined, one element too many, an overlap by one register, identical vectors, and Fm in bank 0. -/
theorem test_witness_VfpArithmeticResults :
    [shaped 0 0 false, shaped 0 3 false, shaped 7 0 false, shaped 3 3 false, shaped 1 3 false, shaped 3 0 true,
      shaped 0 1 false, shaped 1 2 false, shaped 4 0 false].all (fun s =>
        s.passes && s.vfpUsable false && s.vfpUsable true) = true ∧
    (shaped 0 0 false).isScalar .single (singleNo 15 true) = true ∧ (shaped 0 3 false).isScalar .double 15 = true ∧
    (shaped 7 0 false).isScalar .single 7 = true ∧ (shaped 7 0 false).isScalar .single 8 = false ∧
    (shaped 3 0 false).isScalar .double 3 = true ∧ (shaped 3 0 false).isScalar .double 4 = false ∧
    enabledIx (shaped 3 0 true).vfp.fpscr = true ∧ (shaped 0 1 false).strideDefined = false ∧
    (shaped 1 2 false).strideDefined = false ∧ Prec.bank .double < (shaped 4 0 false).vectorLength ∧
    clash (Prec.sequence .single 1 2 9) (Prec.sequence .single 1 2 8) = true ∧
    clash (Prec.sequence .single 1 8 8) (Prec.sequence .single 1 8 8) = false ∧
    clash (Prec.sequence .single 2 4 8) (Prec.sequence .single 2 4 9) = false := by decide +kernel

/-- Examples 19-1, 19-3 and 19-4 of R505 (95_test_vectors.md): the registers of each iteration. -/
theorem test_vector_registers : let r (p : Prec) (n : Nat) (len : Nat) := p.sequence 1 len (BitVec.ofNat 5 n)
    r .single 11 6 = [11, 12, 13, 14, 15, 8] ∧ r .single 22 6 = [22, 23, 16, 17, 18, 19] ∧
    r .single 31 6 = [31, 24, 25, 26, 27, 28] ∧ r .double 12 2 = [12, 13] ∧ r .double 8 2 = [8, 9] := by decide +kernel

/-- `FMULS S24, S26, S1` with a length of 2 (R505, Example 19-4) takes the one S1 twice; the same with IXE is Undefined, and
with S25 for S26 refused; `FCPYS S8, S16` with a stride of 2 copies S16 and S18. -/
theorem test_vector_runs :
    (match exec (.fmuls .al false 13 12 false true 0) (((shaped 1 0 false).withS 26 0x40000000).withS 27 0x40400000 |>.withS
        1 0x3F000000) with
      | .next t => t.vfp.s[24] == 0x3F800000 && t.vfp.s[25] == 0x3FC00000 && t.vfp.s[26] == 0x40000000
      | _ => false) = true ∧
    (match exec (.fmuls .al false 13 12 false true 0) (shaped 1 0 true) with
      | .next t => t.pc == 4 && t.vfp.fpexc == 0xC0000000
      | _ => false) = true ∧
    (match exec (.fmuls .al false 12 12 true true 0) (shaped 1 0 false) with
      | .refused .vfpVectorOverlap => true
      | _ => false) = true ∧
    (match exec (.fcpys .al false 4 false 8) (((shaped 1 3 false).withS 16 5).withS 18 6) with
      | .next t => t.vfp.s[8] == 5 && t.vfp.s[9] == 0 && t.vfp.s[10] == 6
      | _ => false) = true := by decide +kernel

theorem test_witness_VfpConversionResults : start.withVfp.passes = true ∧ enabledIx start.withVfp.vfp.fpscr = false ∧
    start.withVfp.vfpUsable false = true ∧ start.withVfp.vfpUsable true = true := by decide +kernel

/-- Some VFP11 registers are loaded upwards from the aligned address. -/
noncomputable def readsSingles (many : Option Prec) (rs : List (BitVec 5)) (s : State) : Bool :=
  match alignData (loadOf .multi s.privileged) 0x1000 s with
  | .error _ => false
  | .ok ((a, _), _) => completes (readSingles ((loadOf .multi s.privileged).block a rs.length) many a [] rs s)

theorem test_witness_VfpMemoryResults : based.withVfp.passes = true ∧ based.withVfp.vfpUsable false = true ∧
    based.withVfp.vfpUsable true = true ∧ (singleNo 15 true).toNat + 1 ≤ 32 ∧ (doubleNo 15).toNat + 1 ≤ 16 ∧
    [readsSingles none [31] based.withVfp, readsSingles none [0, 1] based.withVfp,
     readsSingles (some .single) [0, 1, 2, 3] based.withVfp,
     readsSingles (some .double) (consecutive .double false (doubleNo 15) 1) based.withVfp,
     completes (storeBlock 0x1000 ((consecutive .double false (doubleNo 15) 1).map based.withVfp.single)
      based.withVfp)].all
      id = true := by decide +kernel

theorem test_witness_VfpTransferResults : start.withVfp.passes = true ∧ start.withVfp.vfpUsable false = true ∧
    start.withVfp.vfpUsable true = true ∧ start.withVfp.privileged = true ∧ singleNo 15 false ≠ 31 ∧
    FpReg.of? 10 = some .fpinst2 ∧ FpReg.of? 0 = some .fpsid ∧ completes (readFpReg .fpscr start.withVfp) = true := by
  decide+kernel

/-- User mode with CP10 and CP11 open. -/
def userVfp : State := user.withCpacr

theorem test_witness_VfpTransferResults_system : userVfp.passes = true ∧ userVfp.privileged = false ∧
    userVfp.isSecure = true ∧ userVfp.cpAccess false = 0b11 ∧ userVfp.vfp.fpexc.getLsbD 30 = false ∧
    start.withCpacr.privileged = true ∧ start.withCpacr.vfp.fpexc.getLsbD 30 = false ∧
    (userVfp.withFpexc 0x40000000).vfp.fpexc.getLsbD 30 = true ∧
    (userVfp.withFpexc 0x40000000).vfp.fpexc.getLsbD 31 = false ∧ FpReg.of? 1 = some .fpscr ∧ FpReg.of? 8 = some
      .fpexc ∧
    start.inNs.isSecure = false ∧ start.inNs.cp15.nsacr.getLsbD 10 = false ∧ user.cpAccess false = 0b00 ∧
    (let s : State := { start with cp15 := { start.cp15 with cpacr := 0x00200000 } }
     s.isSecure = true ∧ s.cpAccess false = 0b10) := by decide +kernel

theorem test_witness_VfpUnusable : vfpSide (.fadds .al false 1 2 false false 3) = some false ∧
    vfpSide (.faddd .al 1 2 3) = some true ∧ start.passes = true ∧ start.halted = false ∧ start.vfpUsable false =
      false ∧
    start.cpAccess false ≠ 0b10 ∧ start.inNs.isSecure = false ∧ start.inNs.cp15.nsacr.getLsbD 10 = false ∧
    start.inNs.vfpUsable true = false ∧
    (let s : State := { start with cp15 := { start.cp15 with cpacr := 0x00A00000 } }
     s.vfpUsable false = false ∧ s.isSecure = true ∧ s.cpAccess false = 0b10) := by decide +kernel

theorem test_witness_AccessFrames_inv :
    (normal.withSctlr 0x400000).Inv ∧ based.Inv ∧ (normal.withSctlr 0x400000).running = none ∧ based.running = none :=
  ⟨⟨by decide +kernel, by decide +kernel, by decide +kernel, by decide +kernel, by decide +kernel⟩,
    ⟨by decide +kernel, by decide +kernel, by decide +kernel, by decide +kernel, by decide +kernel⟩, by decide +kernel, by
      decide+kernel⟩

theorem test_witness_AccessFrames : AccType.size .half true = 2 ∧ AccType.size .wstore false = 4 ∧
    (0x1000#32).extractLsb' 0 2 = 0 ∧ (0x1008#32).extractLsb' 0 2 = 0 ∧
    [completes (memRead (loadOf .half true) 0x1003 2 (normal.withSctlr 0x400000)),
     completes (readWordAt (loadOf .multi true) 0x1008 based), completes (memWrite (storeOf .wstore true) 0x1004 4 9
      based),
     completes (memWrite (storeOf .wstore true) 0x1003 4 9 (normal.withSctlr 0x400000)),
     completes (writeWords (storeOf .multi true) 0x1000 [1, 2] based)].all id = true := by decide +kernel

theorem test_witness_StoreThenLoad : start.plainMemory = true ∧ start.debugPermitted = false ∧
    [loadOf .byte true, loadOf .half true, loadOf .wload true].all (fun p => !p.write && !p.excl && !p.crosses &&
      p.first == 0) =
      true ∧
    [storeOf .byte true, storeOf .half true, storeOf .wstore true].all
      (fun p => p.write && !p.excl && !p.crosses && p.first == 0) = true ∧
    (0xFFFFFFFE#32).getLsbD 0 = false ∧ (0xFFFFFFFC#32).extractLsb' 0 2 = 0 := by decide +kernel

theorem test_witness_StoreThenLoad_inv : start.Inv :=
  ⟨by decide +kernel, by decide +kernel, by decide +kernel, by decide +kernel, by decide +kernel⟩

theorem test_witness_MemoryExtensional : Memory.wf start.mem = true ∧ Memory.wf [] = true := by decide +kernel

/-- The last three bytes of a doubleword, and the one after it. -/
def offsets : List Word := [0x1005, 0x1006, 0x1007, 0x1008]

theorem test_witness_AlignmentRules : offsets.map (fun a => (a.toNat % 2, a.toNat % 4, a.toNat % 8)) =
      [(1, 1, 5), (0, 2, 6), (1, 3, 7), (0, 0, 0)] ∧
    alignmentCheck false true 0x1005 .half false = .at 0x1005 true ∧
    alignmentCheck true false 0x1006 .wload false = .fault ∧
    alignmentCheck false false 0x1004 .twoWord false = .refused .legacyDoubleword ∧
    based.sctlr 1 = false ∧ based.sctlr 22 = false ∧
    completes (readPiece ((loadOf .wload true).keepLow 0x1006 0x1004) 0x1004 4 false based) = true ∧
    (match based.translate false 0 0x1001 .read true .data with
      | .ok x _ => x.attrs.ty == .stronglyOrdered
      | .abort _ _ => false
      | .refused _ => false) = true := by decide +kernel

/-- With the MMU on and XP = 1, a split access to Strongly Ordered memory takes the fault: the FAR of a byte, the status of a
load. -/
theorem test_witness_AlignmentRules_split : let s := start.mapped 0x00000C02
    (s.sctlr 0 && s.sctlr 23) = true ∧
    (match s.translate false 0 0x1001 .read true .data with
      | .ok x _ => x.attrs.ty == .stronglyOrdered
      | .abort _ _ => false
      | .refused _ => false) = true ∧
    (match translateData (loadOf .half true) 0x1001 true s with
      | .error (.took t) => t.cpsr.mode == .abt && t.secure.far == 0x1001 && t.secure.dfsr == 1
      | _ => false) = true := by decide +kernel

/-- The descriptor of the first megabyte, and what it maps. -/
def section0 (s : State) : Mapping := sectionMapping true (s.descriptor false (s.extKey false 0x4000)) 0x1234

/-- The MMU on with a section for the first megabyte and nothing for the second; domain 0 a client. -/
def sections : State := start.mapped 0x00000C0E

theorem test_witness_SectionTranslates : (start.bankOf false).sctlr.getLsbD 0 = false ∧
    (start.bankOf false).sctlr.getLsbD 28 = false ∧ inPeripheralPort (start.bankOf false).ppmr 0x1234 = false ∧
    start.tcmByte false false 0x1234 = none ∧
    (sections.bankOf false).sctlr.getLsbD 0 = true ∧ (sections.bankOf false).sctlr.getLsbD 23 = true ∧
    (sections.bankOf false).sctlr.getLsbD 29 = false ∧ (sections.bankOf false).ttbcr = 0 ∧
    sections.lockMatches false 0 0x1234 = [] ∧ sections.walks = [] ∧ sections.walkError false 0x1234 0x4000 = none ∧
    (sections.bankOf false).ttbr0 &&& 0xFFFFC000 ||| (0x1234#32 >>> 20 <<< 2) = 0x4000 ∧
    sections.walksDevice false 0x1234 0x4000 = false ∧
    ((List.range 16).all fun i =>
      let e := sections.descriptor false (sections.extKey false 0x4000 / 64 * 64 + 4 * i)
      !(e.extractLsb' 0 2 == 0b10#2 && e.getLsbD 18)) = true ∧
    (sections.descriptor false (sections.extKey false 0x4000)).extractLsb' 0 2 = 0b10 ∧
    (sections.descriptor false (sections.extKey false 0x4000)).getLsbD 18 = false ∧
    (sections.bankOf false).dacr.extractLsb' 0 2 = 0b01 ∧
    (section0 sections).permits (sections.bankOf false) .write false = true ∧
    (Mapping.attrs? (section0 sections) (sections.bankOf false)).isSome = true ∧
    (section0 (start.mapped 0x0000040E)).permits ((start.mapped 0x0000040E).bankOf false) .read false = false ∧
    ((sections.withDacr 0).bankOf false).dacr.extractLsb' 0 2 = 0b00 ∧
    (sections.descriptor false (sections.extKey false 0x4004)).extractLsb' 0 2 = 0b00 := by decide +kernel

/-- Channel 0 of the DMA engine has this status, and both its Start Registers and its End Register these values. -/
def transferring (status first : Word) : State :=
  start.setChannel false fun d =>
    { d with control := 2, status := status, intStart := first, extStart := first, intEnd := first }

theorem test_witness_DmaCommands : (transferring 0 8).pins.params.hasTcm = true ∧
    ({ start.pins.params with itcm := .none, dtcm := .none } : Config.Params).hasTcm = false ∧
    ((transferring 0 8).channel false).busy = false ∧
    ((transferring 0 8).channel false).badParameters = false ∧ ((transferring 0 8).channel true).inOperation = false ∧
    ((transferring 2 8).channel true).busy = false ∧ ((transferring 2 8).channel true).badParameters = false ∧
    ((transferring 2 8).channel false).inOperation = true ∧ ((transferring 0 0x1001).channel false).badParameters =
      true ∧
    ((transferring 1 8).channel false).busy = true ∧ ((transferring 1 8).channel false).state = 1 ∧
    ((transferring 2 8).channel false).state = 2 ∧
    (let s := (transferring 1 8).setChannel true fun d => { d with status := 1 }
     (s.channel false).state = 1 ∧ (s.channel true).state = 1) ∧
    (let s := (transferring 2 8).setChannel false fun d => { d with curInt := 8 }
     s.running = some false ∧ (s.channel false).curInt = (s.channel false).intEnd) := by decide +kernel

/-- The pin that an interrupt has asserted stays asserted until Clear, whatever becomes of the world of the channels (R788). -/
theorem test_dma_interrupt_pin :
    let s := (start.setChannel false fun d => { d with control := 0x20000000, status := 2 }).dmaStop false
    let t := s.setCommon fun c => { c with nsacr := 0x40000 }
    s.nDmaSirq = false ∧ t.nDmaSirq = false ∧ t.nDmaIrq = true ∧ (t.dmaClear false).nDmaSirq = true := by decide +kernel

/-- A lockdown entry of the other world may change while a channel runs, and one of the channel's world not (U53). -/
theorem test_lockdown_while_dma :
    let s := transferring 2 8
    completes (Cp15.write .lockVa 0x1000 s) = true ∧ completes (Cp15.write .lockPa 0x100 s) = true ∧
      completes (Cp15.write .lockPa 0 s) = false := by decide +kernel

/-- While a channel runs a write of the value that a register has completes, and a change is refused; the region of a TCM that
does not exist is not changed (R787, U53). -/
theorem test_unchanged_while_dma :
    let s := transferring 2 8
    let absent : State := { s with pins := { s.pins with params := { s.pins.params with dtcm := .none } } }
    [Cp15.dacr, .fcse, .ttbr0, .ttbr1, .ttbcr].all (fun r =>
      completes (r.write 0 s) && !completes (r.write 0x02000010 s)) = true ∧
    completes (Cp15.write (.tcmRegion true) (s.selectedTcm true).region s) = true ∧
    completes (Cp15.write (.tcmRegion true) 1 s) = false ∧ completes (Cp15.write (.tcmRegion true) 1 absent) = true := by
  decide +kernel

/-- Where the walks follow EE, a change of EE, U or B that changes how the channel's descriptors are read is refused too, and
one that does not completes (R787, U53, D38). -/
theorem test_walk_order_while_dma :
    let s := transferring 2 8
    let t : State := { s with pins := { s.pins with walkFollowsEE := true } }
    [0x02400000#32, 0x02000000, 0x00000080].map (fun v =>
      (completes (Cp15.write .sctlr v s), completes (Cp15.write .sctlr v t))) = [(true, false), (true, true), (true, true)] ∧
    completes (Cp15.write .sctlr 0x02400080 (t.withSctlr 0x02400000)) = false := by decide +kernel

/-- With B = 1 the engine moves the byte that the core has at an address, in external memory and in the TCM: byte 0 of either is
the actual byte 3 (R805, R550). -/
theorem test_dma_big_endian :
    let s := (transferring 2 0).setChannel false fun d =>
      { d with control := 0x40000000, curInt := 0, curExt := 0x10000, intEnd := 1 }
    let t := s.setCommon fun c =>
      { c with sctlr := 0x80, dtcm := c.dtcm.set 0 { c.dtcm[0] with region := c.dtcm[0].region ||| 1 } }
    (match dmaStep { t with mem := Memory.write t.mem (tcmKey true false 3) 0x5A } with
      | .ok (_, u) => Memory.read u.mem 0x10003 == 0x5A && Memory.read u.mem 0x10000 == 0 && (u.channel false).curInt == 1
      | .error _ => false) = true := by decide +kernel

/-- A pending imprecise abort that is not masked comes after a BKPT that is a debug event (R437), and before one that is an
exception (R1572). -/
theorem test_bkpt_before_imprecise :
    let place (s : State) : State := { (s.withPsr 0x13).poke 0x8000 0xE1200070 with
      pendingAbort := some { error := .slverr, write := false, secure := true } }
    let u (s : State) : Bool := match step (place s) with
      | .next t => t.halted && t.pendingAbort.isSome && t.dbg.dscr.extractLsb' 2 4 == 3
      | .fault _ => false
      | .refused _ => false
    let w (s : State) : Bool := match step (place s) with
      | .next t => t.pc == 0x10 && t.pendingAbort.isNone && t.cpsr.mode == .abt
      | .fault _ => false
      | .refused _ => false
    u (debugging 0x4002) = true ∧ w start = true := by decide +kernel

/-- In Debug state and User mode CP15 is as for a privileged mode while the debugger may change to one, and with DBGEN LOW an
access is Undefined, which sets DSCR[8] only (R405, R448, R449). -/
theorem test_cp15_debug_state :
    let s : State := { (debugging 0x4003) with cpsr := user.cpsr }
    let t : State := { s with pins := { s.pins with dbgen := false } }
    (Cp15.readable .actlr s, Cp15.readable .actlr t) = (true, false) ∧
    runs .arm 0xEE110F30 t (fun t u => u.dbg.dscr == t.dbg.dscr ||| 0x100 && u.pc == t.pc && u.cpsr == t.cpsr) = true := by
  decide +kernel

/-- SECMONBUS while a Data Synchronization Barrier and a Prefetch Flush execute, and in between (R72). -/
theorem test_secMonBus : [some (Instr.mcr .al 0 7 1 15 4 10), some (.mcr .al 0 7 1 15 4 5), none].map (fun i =>
    (State.reset.secMonBus i).extractLsb' 21 4) = [0b0010, 0b0001, 0] ∧
    (State.reset.secMonBus none).extractLsb' 5 7 = 0b1110011 := by decide +kernel

/-- Invalidate Both Caches clears the Master Valid bits, and an invalidation by MVA does not reach a line whose bit is 0 (R227,
91_not_in_source.md N22). -/
theorem test_master_valid :
    let l : CacheLine := { way := 0, set := 0x40, line := 0x240, ns := false, dirtyLow := true, dirtyHigh := false, data := 0
                           attrs := { ty := .normal, shared := false, inner := 0b11, outer := 0b11 } }
    let s : State := { start with dcache := [l] }
    let t := s.setCommon fun c => { c with iMasterValid := Vector.replicate 8 1, dMasterValid := Vector.replicate 8 0x100 }
    (Lines.reach (.line 0x4800 0x4800 false) s l, Lines.reach (.line 0x4800 0x4800 false) t l) = (false, true) ∧
    (match exec (.mcr .al 0 7 1 15 0 7) t with
      | .next u => u.dcache == [] && (u.cp15.iMasterValid.toList ++ u.cp15.dMasterValid.toList).all (· == 0)
      | .fault _ => false
      | .refused _ => false) = true := by decide +kernel

/-- A VA to PA operation that misses with the walks disabled reports a TLB miss (R690), an access a Translation fault (R203). -/
theorem test_walk_disabled : let s := start.mapped 0x00000C0E
    let t : State := { s with secure := { s.secure with ttbcr := 0x10 } }
    (match exec (.mcr .al 0 7 1 15 0 8) t with
      | .next u => u.secure.par == 1
      | .fault _ => false
      | .refused _ => false) = true ∧
    (match exec (.ldrImm .al true true false 1 2 0) t with
      | .next u => u.secure.dfsr == 5
      | .fault _ => false
      | .refused _ => false) = true := by decide +kernel

/-- A fetch with the MMU and the instruction cache off: Normal Noncacheable (R1646), shown as Shared, Inner Strongly Ordered,
Outer Noncacheable (R578). -/
theorem test_flat_fetch : let a := flatAttrs (start.bankOf false) true
    let q := start.fetchRequest { pa := 0x8000, attrs := a, marked := a, ns := false, domain := 0 } 4
    (a.ty, a.inner, q.axCache, q.axSideband) = (.normal, 0, 0b0010, 0b00001) := by decide +kernel

/-- The flags of a verdict that completes. -/
def Verdict.flags? : Verdict → Option Word
  | .done r => some r.flags
  | .bounce _ => none

theorem test_witness_VfpArithmeticResults_values : (0x03000000#32).getLsbD 25 = true ∧ (0x03000000#32).getLsbD 24 =
      true ∧
    (0x03000000#32).getLsbD 8 = false ∧ (0x03000000#32).getLsbD 15 = false ∧
    (FpOp.add.operands 0 0x7FA00000 0x3F800000).any Prec.single.isNan = true ∧
    (FpOp.mac.operands 0x7FF4000000000000 0 0).any Prec.double.isNan = true ∧
    Prec.single.isNormal 0x3F800000 = true ∧ Prec.single.isSubnormal 0x00000001 = true ∧
    Prec.single.isNormal 0x00800000 = true ∧ Prec.double.isSubnormal 0x0000000000000001 = true ∧
    Prec.single.exponent 0x00800000 + Prec.single.exponent 0x3F800000 + 1 > Prec.single.bias ∧
    Prec.single.exponent 0x00800000 + Prec.single.exponent 0x3E800000 + 1 ≤ Prec.single.bias ∧
    (FpOp.mac.operands 0x7FC00000 0x00000001 0x7FC00000).any Prec.single.isSubnormal = true ∧
    (0x03000100#32).getLsbD 8 = true ∧ (FpOp.mac.operands 0x7FC00000 0x00000001 0x7FC00000).any Prec.single.isSnan = false ∧
    [FpOp.mul, FpOp.nmul, FpOp.div, FpOp.add, FpOp.sub, FpOp.mac, FpOp.nmac, FpOp.msc, FpOp.nmsc].map (fun o =>
      (o.verdict .single 0 0x3F800000 0x3FC00000 0x40490FDB).flags?.map (· &&& 0x0C)) = List.replicate 9 (some 0) ∧
    (FpOp.sub.verdict .single 0 0 0x3FC00000 0x3FC00000).flags? = some 0 ∧
    [(0x00000000#64, 0x7F800000#64), (0x3F800001, 0x3F800001), (0x3F800000, 0x40000000)].map (fun x =>
      (FpOp.mac.verdict .single 0x03000000 0x7FC00000 x.1 x.2).flags?) = [some 0x01, some 0x10, some 0] ∧
    (FpOp.msc.verdict .single 0 0x3FC00000 0x3FC00000 0x3F800000).flags? = some 0 ∧
    [FpOp.mul, FpOp.div, FpOp.add, FpOp.sub].map (fun o =>
      (o.verdict .double 0x03C00000 0 0x3FF8000000000000 0x400921FB54442D18).flags?.map (· &&& 0x0C)) =
      List.replicate 4 (some 0) := by decide +kernel

/-- The values of the examples of R1458, infinity, in both precisions, and the conditions of the compares. -/
theorem test_witness_VfpConversionResults_compares :
    [compareVerdict false .single 0x03000000 0x3F800000 0x40000000, compareVerdict false .single 0x03000000 0x80000000 0,
     compareVerdict true .double 0 0x7FF0000000000000 0x7FEFFFFFFFFFFFFF,
     compareVerdict false .single 0x03000000 0x3F800000 0x7FC00000, compareVerdict true .single 0x03000000 0x3F800000
      0x7FC00000,
     compareVerdict false .single 0x03000000 0x3F800000 0x7FA00000, compareVerdict false .single 0x03000000 0x80000001 0] =
      [.done { bits := 0b1000, flags := 0 }, .done { bits := 0b0110, flags := 0 }, .done { bits := 0b0010, flags := 0 },
       .done { bits := 0b0011, flags := 0 }, .done { bits := 0b0011, flags := 1 }, .done { bits := 0b0011, flags := 1 },
       .done { bits := 0b0110, flags := 0x80 }] ∧
    (0x03000000#32).getLsbD 24 = true ∧ (0x03000000#32).getLsbD 15 = false ∧ (0x03000000#32).getLsbD 25 = true ∧
    (0x03000000#32).getLsbD 8 = false ∧ Prec.single.isSubnormal 0x80000001 = true := by decide +kernel

theorem test_witness_VfpConversionResults_values : Prec.double.isNormal 0x400921FB54442D18 = true ∧
    (narrowVerdict 0 0x400921FB54442D18).flags? = some 0x10 ∧ (widenVerdict 0 0x3FC00000).flags? = some 0 ∧
    (toIntVerdict true .single .zero 0x03000000 0xBFC00000).flags? = some 0x10 ∧
    (toIntVerdict false .double .zero 0 0x41E0000000000000).flags? = some 0 ∧
    (-1 : Int) ≠ 0 ∧ (4294967295 : Int).natAbs ≤ 2 ^ 32 ∧ (-2147483648 : Int).natAbs ≤ 2 ^ 32 ∧
    Prec.double.isNan 0x7FF4000000000000 = true ∧ Prec.single.isNan 0x7FA00000 = true ∧
    Prec.double.isSubnormal 1 = true ∧ Prec.single.isSubnormal 1 = true := by decide +kernel

end Sys2Proof.Machine
end

namespace Sys2Proof.Machine

/-! The state of reset, and the exact results of the instructions that write Q and GE. -/

theorem resetControl_bits (p : Pins) :
    (resetControl p).getLsbD 25 = (p.bigendinit && p.ubitinit) ∧ (resetControl p).getLsbD 13 = p.vinithi := by
  unfold resetControl
  cases p.ubitinit <;> cases p.bigendinit <;> cases p.vinithi <;> decide

/-- Settles O1, by the bits of the Control Register that reset takes from the pins. -/
theorem resetState : Obligations.ResetState := by
  intro p
  obtain ⟨hee, hv⟩ := resetControl_bits p
  have hs : (State.resetWith p).secure.sctlr = resetControl p := rfl
  have he : (State.resetWith p).cpsr.e = (p.bigendinit && p.ubitinit) := Bool.and_comm _ _
  refine ⟨BitVec.getLsbD_zero, rfl, rfl, rfl, rfl, rfl, rfl, ?_, ?_, ?_, ?_⟩
  · rw [he, hs, hee]
  · rw [hs, hee]
  · rw [hs, hv]
  · rw [hs, hv]; rfl

theorem resetWith_pcAligned (p : Pins) : (State.resetWith p).pcAligned = true := by
  show ((if p.vinithi then 0xFFFF0000#32 else 0).extractLsb' 0 2 == 0) = true
  cases p.vinithi <;> rfl

/-- Settles O3: every field of the reset state that the invariant looks at is a constant. -/
theorem resetHasInv : Obligations.ResetHasInv := fun p =>
  { memory := reset_memory_wf p
    bases := rfl
    saved := (by decide : Spsrs.reservedZero ⟨0, 0, 0, 0, 0, 0⟩ = true)
    watch := rfl
    pc := .inr (resetWith_pcAligned p) }

/-- A conditional instruction that completes. -/
theorem outcome_conditional_of_ok {c : Cond} {m : Exec Unit} {s t : State} (hc : Cond.passes c s.cpsr = true)
    (h : m s = .ok ((), t)) : outcome (conditional c m) s = .next t :=
  outcome_of_ok ((conditional_pass m hc).trans h)

theorem finishQ_run (rd : RegNo) (r : Word) (q : Bool) (s : State) :
    finishQ rd r q s = .ok ((), s.stickyDone rd r q) := rfl

/-- The four saturating additions: `f` of Rm and of Rn, or of twice Rn saturated. -/
theorem saturating_run {rn rd rm : RegNo} (double : Bool) (f : Int → Int → Int) (s : State) (h : 15 ∉ [rn, rd, rm]) :
    let n := (s.reg rn).toInt
    let d := if double then signedSat (2 * n) 32 else (n, false)
    let r := signedSat (f (s.reg rm).toInt d.1) 32
    saturating double rn rd rm f s = .ok ((), s.stickyDone rd (narrow r.1) (d.2 || r.2)) := by
  simp only [saturating, exec_bind_ok (noPc_run h s), exec_bind_ok (look_run _ s), finishQ_run]

/-- Settles O28: with the condition passed and no R15 among the registers each form is one look at the
state and one `State.stickyDone`; the four saturating additions share `saturating_run`. -/
theorem saturatingResults : Obligations.SaturatingResults := by
  intro s c x y sh rd rn rs rm sat amount sat4 hc hr
  have dual : 15 ∉ [rd, rs, rm] := mt (by simp only [List.mem_cons]; tauto) hr
  have add : 15 ∉ [rn, rd, rm] := mt (by simp only [List.mem_cons]; tauto) hr
  have halves : 15 ∉ [rd, rm] := mt (by simp only [List.mem_cons]; tauto) hr
  have run {m : Exec Unit} {t : State} : m s = .ok ((), t) → outcome (conditional c m) s = .next t :=
    outcome_conditional_of_ok hc
  have add1 (double : Bool) (f : Int → Int → Int) := run (saturating_run double f s add)
  dsimp only
  refine ⟨?_, ?_, ?_, ?_, ?_⟩
  · simp only [List.forall_mem_cons, List.not_mem_nil, false_implies, implies_true, and_true]
    exact ⟨add1 false _, add1 false _, add1 true _, add1 true _⟩
  · simp only [List.forall_mem_cons, List.not_mem_nil, false_implies, implies_true, and_true]
    exact ⟨run (exec_bind_ok (noPc_run hr s)), run (exec_bind_ok (noPc_run hr s)),
      run (exec_bind_ok (noPc_run dual s)), run (exec_bind_ok (noPc_run hr s)), run (exec_bind_ok (noPc_run hr s))⟩
  · exact run (exec_bind_ok (noPc_run halves s))
  · exact run (exec_bind_ok (noPc_run halves s))
  · simp only [List.forall_mem_cons, List.not_mem_nil, false_implies, implies_true, and_true]
    exact ⟨run (exec_bind_ok (noPc_run halves s)), run (exec_bind_ok (noPc_run halves s))⟩

/-- A parallel addition or subtraction without R15. -/
theorem parallel_run {rn rd rm : RegNo} (p : LanePrefix) (o : LaneOp) {s : State} (h : 15 ∉ [rn, rd, rm]) :
    parallel p o rn rd rm s = .ok ((), s.lanesDone rd (o.apply p (s.reg rn) (s.reg rm)) p.writesGe) := by
  unfold parallel
  rw [exec_bind_ok (noPc_run h s), exec_bind_ok (look_run _ s)]
  rfl

theorem State.lanesDone_ge (s : State) (rd : RegNo) (r : Word × BitVec 4) (w : Bool) :
    (s.lanesDone rd r w).cpsr.ge = if w then r.2 else s.cpsr.ge := by
  cases w <;> simp [State.lanesDone]

/-- Two halfword lanes give each GE bit twice. -/
theorem getLsbD_pairs (x y : Bool) :
    let g := BitVec.ofBool x ++ BitVec.ofBool x ++ BitVec.ofBool y ++ BitVec.ofBool y
    g.getLsbD 3 = x ∧ g.getLsbD 2 = x ∧ g.getLsbD 1 = y ∧ g.getLsbD 0 = y := by
  cases x <;> cases y <;> decide

/-- Four byte lanes give a GE bit each. -/
theorem getLsbD_four (g : Nat → Bool) {i : Nat} (hi : i < 4) :
    (BitVec.ofBool (g 3) ++ BitVec.ofBool (g 2) ++ BitVec.ofBool (g 1) ++ BitVec.ofBool (g 0)).getLsbD i = g i := by
  have all : ∀ a b c d : Bool, let v := BitVec.ofBool d ++ BitVec.ofBool c ++ BitVec.ofBool b ++ BitVec.ofBool a
      v.getLsbD 0 = a ∧ v.getLsbD 1 = b ∧ v.getLsbD 2 = c ∧ v.getLsbD 3 = d := by decide
  obtain ⟨h0, h1, h2, h3⟩ := all (g 0) (g 1) (g 2) (g 3)
  have : i = 0 ∨ i = 1 ∨ i = 2 ∨ i = 3 := by omega
  rcases this with rfl | rfl | rfl | rfl
  exacts [h0, h1, h2, h3]

/-- The GE bits of a halfword operation follow its two exact results. -/
theorem parallelHalves_ge (p : LanePrefix) (o : LaneOp) (a b : Word) :
    let g := (parallelHalves p o a b).2
    let r := o.halves p.signed a b
    g.getLsbD 3 = p.ge 16 r.1.2 r.1.1 ∧ g.getLsbD 2 = p.ge 16 r.1.2 r.1.1 ∧ g.getLsbD 1 = p.ge 16 r.2.2 r.2.1 ∧
      g.getLsbD 0 = p.ge 16 r.2.2 r.2.1 :=
  getLsbD_pairs _ _

/-- The exact result of byte lane `i`. -/
def byteLane (p : LanePrefix) (sub : Bool) (a b : Word) (i : Nat) : Int :=
  if sub then lane p.signed 8 a (8 * i) - lane p.signed 8 b (8 * i)
  else lane p.signed 8 a (8 * i) + lane p.signed 8 b (8 * i)

/-- The GE bits of a byte operation follow its four exact results. -/
theorem parallelBytes_ge (p : LanePrefix) (sub : Bool) (a b : Word) {i : Nat} (hi : i < 4) :
    (parallelBytes p sub a b).2.getLsbD i = p.ge 8 sub (byteLane p sub a b i) :=
  getLsbD_four (fun i => p.ge 8 sub (byteLane p sub a b i)) hi

/-- Byte `i` of four. -/
theorem extractLsb'_four (x : Nat → Byte) {i : Nat} (hi : i < 4) :
    (x 3 ++ x 2 ++ x 1 ++ x 0 : BitVec 32).extractLsb' (8 * i) 8 = x i := by
  refine BitVec.eq_of_getLsbD_eq fun j hj => ?_
  rw [BitVec.getLsbD_extractLsb', BitVec.getLsbD_append, BitVec.getLsbD_append, BitVec.getLsbD_append]
  simp only [hj, decide_true, Bool.true_and]
  split_ifs <;> (congr 2 <;> omega)

/-- Byte `i` of what SEL selects (R1087). -/
theorem selected_byte (ge : BitVec 4) (a b : Word) {i : Nat} (hi : i < 4) :
    (selected ge a b).extractLsb' (8 * i) 8 =
      (if ge.getLsbD i then a.extractLsb' (8 * i) 8 else b.extractLsb' (8 * i) 8) :=
  extractLsb'_four (fun i => if ge.getLsbD i then a.extractLsb' (8 * i) 8 else b.extractLsb' (8 * i) 8) hi

/-- Settles O31: a parallel operation writes the GE bits of its exact lane results (`parallelHalves_ge`,
`parallelBytes_ge`) or leaves them (`State.lanesDone_ge`), and SEL takes its bytes one by one. -/
theorem geBits : Obligations.GeBits := by
  intro s c rn rd rm hc
  have run {m : Exec Unit} {t : State} : m s = .ok ((), t) → outcome (conditional c m) s = .next t :=
    outcome_conditional_of_ok hc
  refine ⟨fun h => ?_, fun h => ?_⟩
  · refine outcome_of_refused ((conditional_pass _ hc).trans ?_)
    exact exec_bind_error (noPc_refused h s)
  have keeps (p : LanePrefix) (o : LaneOp) (hw : p.writesGe = false) :
      ∃ t, outcome (conditional c (parallel p o rn rd rm)) s = .next t ∧ t.cpsr.ge = s.cpsr.ge :=
    ⟨_, run (parallel_run p o h), by simp [State.lanesDone_ge, hw]⟩
  have writes (p : LanePrefix) (o : LaneOp) (hw : p.writesGe = true) :
      ∃ t, outcome (conditional c (parallel p o rn rd rm)) s = .next t ∧
        t.cpsr.ge = (o.apply p (s.reg rn) (s.reg rm)).2 :=
    ⟨_, run (parallel_run p o h), by simp [State.lanesDone_ge, hw]⟩
  have halves (p : LanePrefix) (o : LaneOp) (hw : p.writesGe = true)
      (ho : o.apply p (s.reg rn) (s.reg rm) = parallelHalves p o (s.reg rn) (s.reg rm)) {high low : Prop}
      (hh : let r := o.halves p.signed (s.reg rn) (s.reg rm); p.ge 16 r.1.2 r.1.1 = true ↔ high)
      (hl : let r := o.halves p.signed (s.reg rn) (s.reg rm); p.ge 16 r.2.2 r.2.1 = true ↔ low) :
      ∃ t, outcome (conditional c (parallel p o rn rd rm)) s = .next t ∧
        (t.cpsr.ge.getLsbD 3 = true ↔ high) ∧ (t.cpsr.ge.getLsbD 2 = true ↔ high) ∧
        (t.cpsr.ge.getLsbD 1 = true ↔ low) ∧ (t.cpsr.ge.getLsbD 0 = true ↔ low) := by
    obtain ⟨t, ht, hg⟩ := writes p o hw
    obtain ⟨h3, h2, h1, h0⟩ := parallelHalves_ge p o (s.reg rn) (s.reg rm)
    refine ⟨t, ht, ?_⟩
    rw [hg, ho, h3, h2, h1, h0]
    exact ⟨hh, hh, hl, hl⟩
  have bytes (p : LanePrefix) (o : LaneOp) (sub : Bool) (hw : p.writesGe = true)
      (ho : o.apply p (s.reg rn) (s.reg rm) = parallelBytes p sub (s.reg rn) (s.reg rm)) {f : Nat → Prop}
      (hf : ∀ i, p.ge 8 sub (byteLane p sub (s.reg rn) (s.reg rm) i) = true ↔ f i) :
      ∃ t, outcome (conditional c (parallel p o rn rd rm)) s = .next t ∧
        ∀ i, i < 4 → (t.cpsr.ge.getLsbD i = true ↔ f i) := by
    obtain ⟨t, ht, hg⟩ := writes p o hw
    refine ⟨t, ht, fun i hi => ?_⟩
    rw [hg, ho, parallelBytes_ge p sub _ _ hi]
    exact hf i
  refine ⟨?_, ?_, selected s.cpsr.ge (s.reg rn) (s.reg rm), ?_, fun i hi => selected_byte _ _ _ hi⟩
  · simp only [List.forall_mem_cons, List.not_mem_nil, false_implies, implies_true, and_true]
    exact ⟨halves .s .add16 rfl rfl decide_eq_true_iff decide_eq_true_iff,
      halves .s .sub16 rfl rfl decide_eq_true_iff decide_eq_true_iff,
      halves .s .addsubx rfl rfl decide_eq_true_iff decide_eq_true_iff,
      halves .s .subaddx rfl rfl decide_eq_true_iff decide_eq_true_iff,
      bytes .s .add8 false rfl rfl fun _ => decide_eq_true_iff,
      bytes .s .sub8 true rfl rfl fun _ => decide_eq_true_iff,
      halves .u .add16 rfl rfl decide_eq_true_iff decide_eq_true_iff,
      halves .u .sub16 rfl rfl decide_eq_true_iff decide_eq_true_iff,
      halves .u .addsubx rfl rfl decide_eq_true_iff decide_eq_true_iff,
      halves .u .subaddx rfl rfl decide_eq_true_iff decide_eq_true_iff,
      bytes .u .add8 false rfl rfl fun _ => decide_eq_true_iff,
      bytes .u .sub8 true rfl rfl fun _ => decide_eq_true_iff⟩
  · simp only [List.forall_mem_cons, List.not_mem_nil, false_implies, implies_true, and_true]
    exact ⟨keeps .q .add16 rfl, keeps .q .sub16 rfl, keeps .q .addsubx rfl, keeps .q .subaddx rfl, keeps .q .add8 rfl,
      keeps .q .sub8 rfl, keeps .sh .add16 rfl, keeps .sh .sub16 rfl, keeps .sh .addsubx rfl, keeps .sh .subaddx rfl,
      keeps .sh .add8 rfl, keeps .sh .sub8 rfl, keeps .uq .add16 rfl, keeps .uq .sub16 rfl, keeps .uq .addsubx rfl,
      keeps .uq .subaddx rfl, keeps .uq .add8 rfl, keeps .uq .sub8 rfl, keeps .uh .add16 rfl, keeps .uh .sub16 rfl,
      keeps .uh .addsubx rfl, keeps .uh .subaddx rfl, keeps .uh .add8 rfl, keeps .uh .sub8 rfl⟩
  · exact run (exec_bind_ok (noPc_run h s))

/-! What an instruction keeps of the state, by one pass over the instruction set. A property of states is carried through
the parts of a meaning (`Stays`): one predicate holds between the parts, another one where the instruction ends in an
exception. The parts that only move data do not touch the few fields that the claims speak of (`State.view`), so that
every property of these fields and of the form of memory passes through them (`Framed`). -/

/-! Two predicates through a meaning -/

/-- Where a part of a meaning completes `I` holds, where it ends the instruction `E` does, and it has no fault. -/
def Post {α : Type} (I E : State → Prop) : Except Stop (α × State) → Prop
  | .ok r => I r.2
  | .error (.took t) => E t
  | .error (.refused _) => True
  | .error (.fault _) => False

/-- Begun where `I` holds, a part of a meaning completes there, or ends the instruction where `E` holds. -/
def Stays {α : Type} (I E : State → Prop) (m : Exec α) : Prop := ∀ s, I s → Post I E (m s)

/-- What an instruction answers: a state where `E` holds, or a refusal, but no fault. -/
def Sound (E : State → Prop) : Host.Outcome State Fault Refusal → Prop
  | .next t => E t
  | .refused _ => True
  | .fault _ => False

section

variable {α β : Type} {I J E : State → Prop}

theorem Post.bind {m : Exec α} {f : α → Exec β} {s : State} (hm : Post J E (m s))
    (hf : ∀ a t, J t → Post I E (f a t)) : Post I E ((m >>= f) s) := by
  rw [exec_bind]
  cases e : m s with
  | error x => rw [e] at hm; cases x <;> exact hm
  | ok r => rw [e] at hm; exact hf r.1 r.2 hm

theorem Post.update {f : State → State} {s : State} (h : I (f s)) : Post I E (Machine.update f s) := h

theorem Post.sound {m : Exec Unit} {s : State} (hI : ∀ s, I s → E s) (h : Post I E (m s)) : Sound E (outcome m s) := by
  unfold outcome
  match m s, h with
  | .ok _, h => exact hI _ h
  | .error (.took _), h => exact h
  | .error (.refused _), _ => trivial

namespace Stays

theorem bind {m : Exec α} {f : α → Exec β} (hm : Stays I E m) (hf : ∀ a, Stays I E (f a)) : Stays I E (m >>= f) :=
  fun s hs => (hm s hs).bind fun a t ht => hf a t ht

theorem map {m : Exec α} (f : α → β) (hm : Stays I E m) : Stays I E (f <$> m) := by
  intro s hs
  have h := hm s hs
  rw [exec_map]
  cases e : m s with
  | error x => rw [e] at h; cases x <;> exact h
  | ok r => rw [e] at h; exact h

theorem pure (a : α) : Stays I E (Pure.pure a) := fun _ hs => hs
theorem look (f : State → α) : Stays I E (look f) := fun _ hs => hs
theorem refuse (r : Refusal) : Stays I E (refuse r : Exec α) := fun _ _ => trivial
theorem update {f : State → State} (h : ∀ s, I s → I (f s)) : Stays I E (update f) := h
theorem endWith {f : State → State} (h : ∀ s, I s → E (f s)) : Stays I E (endWith f : Exec α) := h

/-- What is read off the state is known of it. -/
theorem lookThen {g : State → α} {f : α → Exec β} (h : ∀ s, I s → Post I E (f (g s) s)) :
    Stays I E (Machine.look g >>= f) := h

theorem ite {c : Prop} [Decidable c] {a b : Exec α} (ha : Stays I E a) (hb : Stays I E b) :
    Stays I E (if c then a else b) := by split <;> assumption

theorem dite {c : Prop} [Decidable c] {a b : Exec α} (ha : c → Stays I E a) (hb : ¬ c → Stays I E b) :
    Stays I E (if c then a else b) := by
  split
  · exact ha ‹_›
  · exact hb ‹_›

/-- A choice by the state. -/
theorem branch {c : State → Prop} [DecidablePred c] {a b : Exec α} (ha : Stays I E a) (hb : Stays I E b) :
    Stays I E (fun s => if c s then a s else b s) := by
  intro s hs
  show Post I E (if c s then a s else b s)
  split
  · exact ha s hs
  · exact hb s hs

end Stays

end

/-! What the claims look at -/

/-- The registers of a world that place its vectors, and its process ID (R340, R345). -/
structure WorldView where
  sctlr : Word
  vbar : Word
  fcse : Word

def Cp15Banked.view (b : Cp15Banked) : WorldView := ⟨b.sctlr, b.vbar, b.fcse⟩

/-- What the claims speak of, memory apart: the PC, the status registers, Debug state and a watchpoint that has been hit,
and the registers that choose the world and place the vectors. -/
structure View where
  pc : Word
  cpsr : Psr
  spsr : Spsrs
  halted : Bool
  watch : Option WatchHit
  scr : Word
  mvbar : Word
  secure : WorldView
  nonSecure : WorldView

def State.view (s : State) : View where
  pc := s.pc
  cpsr := s.cpsr
  spsr := s.spsr
  halted := s.halted
  watch := s.dbg.watchHit
  scr := s.cp15.scr
  mvbar := s.cp15.mvbar
  secure := s.secure.view
  nonSecure := s.nonSecure.view

/-- `t` is `s` but for what the claims do not speak of, and its memory is in canonical form where that of `s` is. -/
structure SameView (s t : State) : Prop where
  view : t.view = s.view
  mem : s.memWf → t.memWf

namespace SameView

variable {s t u : State}

theorem refl (s : State) : SameView s s := ⟨rfl, id⟩
theorem trans (h : SameView s t) (k : SameView t u) : SameView s u := ⟨k.view.trans h.view, k.mem ∘ h.mem⟩
theorem of_mem (hv : t.view = s.view) (hm : t.mem = s.mem) : SameView s t := ⟨hv, fun h => by rwa [State.memWf, hm]⟩

theorem pc (h : SameView s t) : t.pc = s.pc := congrArg View.pc h.view
theorem cpsr (h : SameView s t) : t.cpsr = s.cpsr := congrArg View.cpsr h.view
theorem spsr (h : SameView s t) : t.spsr = s.spsr := congrArg View.spsr h.view
theorem halted (h : SameView s t) : t.halted = s.halted := congrArg View.halted h.view
theorem watch (h : SameView s t) : t.dbg.watchHit = s.dbg.watchHit := congrArg View.watch h.view
theorem scr (h : SameView s t) : t.cp15.scr = s.cp15.scr := congrArg View.scr h.view
theorem mvbar (h : SameView s t) : t.cp15.mvbar = s.cp15.mvbar := congrArg View.mvbar h.view
theorem secure (h : SameView s t) : t.secure.view = s.secure.view := congrArg View.secure h.view
theorem nonSecure (h : SameView s t) : t.nonSecure.view = s.nonSecure.view := congrArg View.nonSecure h.view

theorem ite {c : Prop} [Decidable c] (ha : SameView s t) (hb : SameView s u) : SameView s (if c then t else u) := by
  split <;> assumption

theorem foldl {α : Type} {f : State → α → State} (h : ∀ s a, SameView s (f s a)) (l : List α) (s : State) :
    SameView s (l.foldl f s) := by
  induction l generalizing s with
  | nil => exact .refl s
  | cons a l ih => exact (h s a).trans (ih _)

end SameView

/-! The updates that the claims do not see -/

section

variable (s : State)

theorem State.setReg_same (n : RegNo) (v : Word) : SameView s (s.setReg n v) := .of_mem rfl rfl
theorem State.touch_same (k : Nat) : SameView s (s.touch k) := .of_mem rfl rfl
theorem State.storeByte_same (k : Nat) (v : Byte) : SameView s (s.storeByte k v) := ⟨rfl, s.storeByte_wf k v⟩
theorem State.noteTransfer_same (q : Request) (d : List Host.Cell) (e : Option BusError) :
    SameView s (s.noteTransfer q d e) := .of_mem rfl rfl
theorem State.dropLine_same (w : BitVec 2) (k : Nat) : SameView s (s.dropLine w k) := .of_mem rfl rfl
theorem State.putLine_same (l : CacheLine) : SameView s (s.putLine l) := .of_mem rfl rfl
theorem State.markDirty_same (ns : Bool) : SameView s (s.markDirty ns) := .of_mem rfl rfl
theorem State.notePiece_same (p : Acc) (va : Word) (x : Translation) (q : Request) (bs : List Byte)
    (e : Option BusError) : SameView s (s.notePiece p va x q bs e) := .of_mem rfl rfl
theorem State.setChannel_same (c : Bool) (f : DmaChannel → DmaChannel) : SameView s (s.setChannel c f) := .of_mem rfl rfl
theorem State.drawWalk_same : SameView s s.drawWalk := .of_mem rfl rfl
theorem State.passCode_same (a b : StaleStage) (p : StaleCode → Bool) : SameView s (s.passCode a b p) := .of_mem rfl rfl

theorem State.validate_same (w : BitVec 2) (k : Nat) : SameView s (s.validate w k) := by
  unfold State.validate
  exact .ite (.refl s) (.of_mem rfl rfl)

theorem State.switchedFrom_same (t : State) : SameView s (s.switchedFrom t) := by
  unfold State.switchedFrom
  exact .ite (s.passCode_same _ _ _) (.refl s)

theorem State.addRecord_same (r : WalkRecord) : SameView s (s.addRecord r) := by
  unfold State.addRecord
  exact .ite (.refl s) (.of_mem rfl rfl)

theorem State.recordWalk_same (ns : Bool) (asid : BitVec 8) (mva : Word) (m : Mapping) (w : Walk) :
    SameView s (s.recordWalk ns asid mva m w) := s.addRecord_same _

theorem State.recordFault_same (ns : Bool) (mva : Word) (w : Walk) : SameView s (s.recordFault ns mva w) :=
  s.addRecord_same _

theorem State.lockWalk_same (ns : Bool) (asid : BitVec 8) (mva : Word) (m : Mapping) (l2 : Word) :
    SameView s (s.lockWalk ns asid mva m l2) := by
  unfold State.lockWalk
  exact .ite (.of_mem rfl rfl) (.refl s)

theorem State.writeExternal_same (q : Request) (pa : Word) (v : Byte) : SameView s (s.writeExternal q pa v) := by
  unfold State.writeExternal
  exact .ite (.refl s) (s.storeByte_same _ _)

theorem State.clearGlobal_same (pa : Word) : SameView s (s.clearGlobal pa) := by
  unfold State.clearGlobal
  split
  · exact .ite (.of_mem rfl rfl) (.refl s)
  · exact .refl s

theorem State.setBankOf_same (ns : Bool) {f : Cp15Banked → Cp15Banked} (h : ∀ b, (f b).view = b.view) :
    SameView s (s.setBankOf ns f) := by
  cases ns
  · exact .of_mem (by simp [State.view, State.setBankOf, State.halted, h]) rfl
  · exact .of_mem (by simp [State.view, State.setBankOf, State.halted, h]) rfl

/-- Bits of the DSCR but bit 0. -/
theorem State.setDscr_same {w : Word} (h : w.getLsbD 0 = s.dbg.dscr.getLsbD 0) :
    SameView s { s with dbg := { s.dbg with dscr := w } } := .of_mem (congrArg (fun b => { s.view with halted := b }) h) rfl

/-- A sticky bit of the DSCR. -/
theorem State.stickDscr_same {w : Word} (h : w.getLsbD 0 = false) :
    SameView s { s with dbg := { s.dbg with dscr := s.dbg.dscr ||| w } } :=
  s.setDscr_same (by rw [BitVec.getLsbD_or, h, Bool.or_false])

theorem State.impreciseAbort_same (e : BusError) (w : Bool) : SameView s (s.impreciseAbort e w) := by
  have h : SameView s (if s.halted then { s with dbg := { s.dbg with dscr := s.dbg.dscr ||| 0x80 } } else s) :=
    .ite (s.stickDscr_same rfl) (.refl s)
  unfold State.impreciseAbort
  exact .ite h (h.trans (.of_mem rfl rfl))

theorem State.writeBytes_same (q : Request) (pa : Word) (bs : List Byte) : SameView s (s.writeBytes q pa bs) := by
  induction bs generalizing s pa with
  | nil => exact .refl s
  | cons b bs ih => exact (SameView.ite (.refl s) (s.writeExternal_same q pa b)).trans (ih _ _)

theorem State.cleanLine_same (l : CacheLine) (a : Word) : SameView s (s.cleanLine l a) := by
  unfold State.cleanLine
  split
  · dsimp only
    split
    · exact (s.noteTransfer_same _ _ _).trans (State.impreciseAbort_same _ _ _)
    · exact (s.writeBytes_same _ _ _).trans (State.noteTransfer_same _ _ _ _)
  · exact .refl s

theorem State.evictLine_same (l : CacheLine) (a : Word) : SameView s (s.evictLine l a) :=
  (s.cleanLine_same l a).trans (State.dropLine_same _ _ _)

theorem State.promote_same (c : Bool) : SameView s (s.promote c) := by
  unfold State.promote
  exact .ite (s.setChannel_same _ _) (.refl s)

theorem State.dmaComplete_same (c : Bool) : SameView s (s.dmaComplete c) :=
  (s.setChannel_same _ _).trans (State.promote_same _ _)

theorem State.dmaFail_same (c : Bool) (w : Word) (x : Bool) : SameView s (s.dmaFail c w x) := s.setChannel_same _ _

theorem State.storeTcm_same (data : Bool) (x : Translation) (i : Nat) (bs : List Byte) :
    SameView s (s.storeTcm data x i bs) := by
  induction bs generalizing s i with
  | nil => exact .refl s
  | cons b bs ih => exact (s.storeByte_same _ _).trans (ih _ _)

theorem State.storeBytes_same (q : Request) (x : Translation) (i : Nat) (bs : List Byte) :
    SameView s (s.storeBytes q x i bs) := by
  induction bs generalizing s i with
  | nil => exact .refl s
  | cons b bs ih => exact (s.writeExternal_same _ _ _).trans (ih _ _)

theorem State.storeHit_same (l : CacheLine) (x : Translation) (bs : List Byte) : SameView s (s.storeHit l x bs) := by
  unfold State.storeHit
  exact .ite ((SameView.foldl (fun t _ => t.touch_same _) _ s).trans
    ((State.putLine_same _ _).trans (State.markDirty_same _ _))) (s.putLine_same _)

end

/-! Translation -/

theorem State.lookup_same (s : State) (ns : Bool) (asid : BitVec 8) (mva : Word) :
    (s.lookup ns asid mva).Leaves (SameView s) := by
  have walk (m : Mapping) (w : Walk) : SameView s (s.drawWalk.recordWalk ns asid mva m w) :=
    s.drawWalk_same.trans (State.recordWalk_same _ _ _ _ _ _)
  unfold State.lookup
  dsimp only
  split
  · trivial
  · split
    · trivial
    · split
      · exact s.drawWalk_same.trans (State.recordFault_same _ _ _ _)
      · split
        · exact walk _ _
        · exact (walk _ _).trans (State.lockWalk_same _ _ _ _ _ _)
      · split
        · exact s.drawWalk_same
        · trivial
      · split
        · exact s.drawWalk_same
        · trivial

theorem State.translate_same (s : State) (ns : Bool) (asid : BitVec 8) (mva : Word) (acc : Access) (priv : Bool)
    (who : Client) : (s.translate ns asid mva acc priv who).Leaves (SameView s) := by
  unfold State.translate
  dsimp only
  split
  · exact .refl s
  · have hl := s.lookup_same ns asid mva
    revert hl
    cases s.lookup ns asid mva with
    | found m t =>
      intro (hl : SameView s t)
      have h := t.checkMapping_leaves ns m acc priv who
      dsimp only
      revert h
      cases t.checkMapping ns m acc priv who with
      | ok x u => intro (h : u = t); exact h ▸ hl
      | abort f u => intro (h : u = t); exact h ▸ hl
      | refused r => exact id
    | abort f t => exact id
    | refused r => exact id

/-! Parts that only move data -/

/-- A property of what the claims speak of. -/
abbrev Framed (I : State → Prop) : Prop := ∀ ⦃s t : State⦄, SameView s t → I s → I t

theorem checkEndianness_stays {I E : State → Prop} (n : Nat) : Stays I E (checkEndianness n) := by
  unfold checkEndianness
  exact .branch (.refuse _) (.pure _)

section

variable {I E : State → Prop} (F : Framed I)
include F

namespace Framed

theorem update {f : State → State} (h : ∀ s, SameView s (f s)) : Stays I E (update f) := .update fun s hs => F (h s) hs

theorem draw : Stays I E draw := fun s hs => F (s := s) (.of_mem rfl rfl) hs

theorem readExternal (q : Request) (pa : Word) : Stays I E (readExternal q pa) := by
  unfold Machine.readExternal
  exact .branch (.bind F.draw fun _ => .pure _) (.look _)

theorem readLine (q : Request) (pa : Word) (n : Nat) : Stays I E (readLine q pa n) := by
  induction n with
  | zero => exact .pure _
  | succ n ih => exact .bind ih fun _ => .bind (F.readExternal _ _) fun _ => .pure _

theorem chooseWay (set : Nat) : Stays I E (chooseWay set) := by
  intro s hs
  unfold Machine.chooseWay
  split
  · exact hs
  · exact (Stays.bind F.draw fun _ => .pure _) s hs

theorem fillLine (x : Translation) (mva pa : Word) (priv : Bool) : Stays I E (fillLine x mva pa priv) := by
  refine .bind (.look _) fun set => .bind (F.chooseWay set) fun way => .bind (F.update fun s => ?_) fun _ =>
    .bind (F.readLine _ _ _) fun data => .bind (F.update fun s => ?_) fun _ => .pure _
  · split
    · exact s.evictLine_same _ _
    · exact .refl s
  · exact (s.noteTransfer_same _ _ _).trans ((State.validate_same _ _ _).trans (State.putLine_same _ _))

theorem lookupLine (mva pa : Word) (ns : Bool) : Stays I E (lookupLine mva pa ns) := by
  intro s hs
  unfold Machine.lookupLine
  split
  · exact hs
  · split
    · exact (Stays.bind F.draw fun w => .ite (.bind (F.update fun s => s.evictLine_same _ _) fun _ => .pure _)
        (.pure _)) s hs
    · exact hs

theorem cachedLine (p : Acc) (mva : Word) (x : Translation) : Stays I E (cachedLine p mva x) := by
  unfold Machine.cachedLine
  exact .branch (.pure _) (.branch (c := fun _ => _) (.look _) (F.lookupLine _ _ _))

theorem heldLine (p : Acc) (x : Translation) (hit : Option CacheLine) : Stays I E (heldLine p x hit) := by
  intro s hs
  unfold Machine.heldLine
  split
  · exact hs
  · split
    · exact hs
    · exact F (s.evictLine_same _ _) hs

theorem notePiece (p : Acc) (va : Word) (x : Translation) (q : Request) (bs : List Byte) :
    Stays I E (notePiece p va x q bs) := by
  have note (w : Word) := F.update (E := E) (f := fun s : State =>
    (List.range (w.extractLsb' 0 8).toNat).foldl
      (fun t _ => t.noteTransfer (t.singleRequest p x bs.length) (t.pieceCells x bs) none)
      (s.notePiece p va x q bs none))
    fun s => (s.notePiece_same p va x q bs none).trans (.foldl (fun t _ => t.noteTransfer_same _ _ _) _ _)
  unfold Machine.notePiece
  exact .ite (.bind F.draw note) (.bind (.pure _) note)

theorem readBytes (q : Request) (x : Translation) (n : Nat) : Stays I E (readBytes q x n) := by
  induction n with
  | zero => exact .pure _
  | succ n ih => exact .bind ih fun _ => .bind (.look _) fun _ => .bind (F.readExternal _ _) fun _ => .pure _

theorem openBytes (n : Nat) : Stays I E (openBytes n) := by
  induction n with
  | zero => exact .pure _
  | succ n ih => exact .bind F.draw fun _ => .bind ih fun _ => .pure _

/-! The DMA engine -/

theorem dmaTranslate (c : Bool) (va : Word) (acc : Access) (bits : MmuFault → Word) :
    Stays I I (dmaTranslate c va acc bits) := by
  intro s hs
  have h := s.translate_same s.dmaNs ((s.channel c).context.extractLsb' 0 8) (s.fcse s.dmaNs va) acc
    (!(s.channel c).userTransfer) .dma
  unfold Machine.dmaTranslate
  dsimp only
  revert h
  cases s.translate s.dmaNs ((s.channel c).context.extractLsb' 0 8) (s.fcse s.dmaNs va) acc
    (!(s.channel c).userTransfer) .dma with
  | ok x t => intro h; exact F h hs
  | abort f t => intro (h : SameView s t); exact F (h.trans (State.dmaFail_same _ _ _ _)) hs
  | refused r => intro _; trivial

theorem dmaRead (q : Request) (pa : Word) : Stays I E (dmaRead q pa) := by
  refine .bind (.look _) fun k => .bind (.look _) fun held => ?_
  cases held with
  | none => exact F.readExternal q pa
  | some l => exact .bind F.draw fun w => .ite (.pure _) (F.readExternal q pa)

theorem dmaIn (q : Request) (data second : Bool) (off n : Nat) : Stays I E (dmaIn q data second off n) := by
  induction n with
  | zero => exact .pure _
  | succ n ih =>
    exact .bind ih fun _ => .bind (F.dmaRead _ _) fun b => .bind (F.update fun s => s.storeByte_same _ _) fun _ => .pure _

theorem dmaOut (q : Request) (data second : Bool) (off n : Nat) : Stays I E (dmaOut q data second off n) := by
  induction n with
  | zero => exact .pure _
  | succ n ih =>
    exact .bind ih fun _ => .bind (.look _) fun b =>
      .bind (F.update fun s => (s.writeExternal_same _ _ _).trans (State.clearGlobal_same _ _)) fun _ => .pure _

theorem dmaTransfer (c : Bool) : Stays I I (dmaTransfer c) := by
  have ends {f : State → State} (h : ∀ s, SameView s (f s)) : Stays I I (endWith f : Exec Unit) :=
    .endWith fun s hs => F (h s) hs
  refine .bind (.look _) fun d => .ite (ends fun s => s.dmaComplete_same c) ?_
  refine .bind (.look _) fun ns => .bind (.look _) fun device => .bind (F.dmaTranslate _ _ _ _) fun i =>
    .bind (.look _) fun tcm => ?_
  cases tcm with
  | none => exact ends fun s => s.dmaFail_same _ _ _
  | some second =>
    refine .ite (.refuse _) (.bind (F.dmaTranslate _ _ _ _) fun e => .bind (.look _) fun region =>
      .ite (ends fun s => s.dmaFail_same _ _ _) (.bind (.look _) fun pa => .bind (.look _) fun err => ?_))
    have moved (g : State → State) (hg : ∀ s, SameView s (g s)) (f : DmaChannel → DmaChannel) (s : State) :
        SameView s ((g s).setChannel c f) := (hg s).trans (State.setChannel_same _ _ _)
    cases err with
    | some x =>
      exact .bind F.draw fun v => .bind F.draw fun w => ends <| moved _ (fun s =>
        (s.noteTransfer_same _ _ _).trans (State.dmaFail_same _ _ _ _)) _
    | none =>
      have done (bs : List Byte) := F.update (E := I) <| moved
        (fun s => s.noteTransfer (d.request e pa) (cellsFrom (d.request e pa).pa.toNat bs) none)
        (fun s => s.noteTransfer_same _ _ _) fun d =>
          { d with curInt := d.curInt + BitVec.ofNat 32 d.size, curExt := d.curExt + d.stride }
      exact .bind (.look _) fun off => .ite (.bind (F.dmaOut _ _ _ _ _) done) (.bind (F.dmaIn _ _ _ _ _) done)

/-- One step of the engine completes, whatever the transfer ends with. -/
theorem dmaStep : Stays I E dmaStep := by
  intro s hs
  unfold Machine.dmaStep
  split
  · exact hs
  · rename_i c _
    have h := F.dmaTransfer c s hs
    match Machine.dmaTransfer c s, h with
    | .ok _, h => exact h
    | .error (.took _), h => exact h
    | .error (.refused _), _ => trivial

theorem dmaSteps (n : Nat) : Stays I E (dmaSteps n) := by
  induction n with
  | zero => exact .pure _
  | succ n ih => exact .bind F.dmaStep fun _ => ih

theorem dmaInterval : Stays I E dmaInterval := by
  intro s hs
  unfold Machine.dmaInterval
  split
  · exact hs
  · exact (Stays.bind F.draw fun _ => F.dmaSteps _) s hs

end Framed

end

/-! The data access path -/

/-- A pair of predicates that every data access goes through: it ends with a Data Abort, or completes. -/
structure Accesses (I E : State → Prop) : Prop where
  frame : Framed I
  frameE : Framed E
  done : ∀ s, I s → E s
  watched : ∀ s w, I s → I { s with dbg := { s.dbg with watchHit := w } }
  abort : ∀ s external, I s → s.halted = false → E (enterException (.dataAbort external) s)

theorem State.notePast_same (s : State) (p : Acc) (va : Word) : SameView s (s.notePast p va) := .of_mem rfl rfl

/-- What is known of a state beyond `I` and no access changes may be carried along. -/
theorem Accesses.and {I E P : State → Prop} (S : Accesses I E) (hP : Framed P)
    (hw : ∀ s w, P s → P { s with dbg := { s.dbg with watchHit := w } }) : Accesses (fun s => I s ∧ P s) E where
  frame := fun _ _ h k => ⟨S.frame h k.1, hP h k.2⟩
  frameE := S.frameE
  done := fun s h => S.done s h.1
  watched := fun s w h => ⟨S.watched s w h.1, hw s w h.2⟩
  abort := fun s x h => S.abort s x h.1

/-- A Data Abort writes fault registers and drops a watchpoint; in Debug state it sets a sticky bit besides (R452), else it
enters the exception. -/
theorem State.dataAbort_eq (s : State) (f : MmuFault) (far : Word) (w : Bool) : ∃ u, SameView s u ∧
    s.dataAbort f far w =
      if s.halted then { u with dbg := { u.dbg with watchHit := none, dscr := u.dbg.dscr ||| 0x40 } }
      else enterException (.dataAbort f.error.isSome) { u with dbg := { u.dbg with watchHit := none } } :=
  ⟨_, s.setBankOf_same (s.abortWorld f.error.isSome) (f := fun b => { b with far := far, dfsr := dfsrOf f w })
    fun _ => rfl, rfl⟩

section

variable {I E : State → Prop} (S : Accesses I E)
include S

namespace Accesses

theorem dataAbort (f : MmuFault) (far : Word) (w : Bool) {s : State} (hs : I s) : E (s.dataAbort f far w) := by
  obtain ⟨u, hu, e⟩ := s.dataAbort_eq f far w
  have ht : I { u with dbg := { u.dbg with watchHit := none } } := S.watched u none (S.frame hu hs)
  rw [e]
  split
  · exact S.frameE (State.stickDscr_same _ rfl) (S.done _ ht)
  · exact S.abort _ _ ht (hu.halted.trans (Bool.eq_false_iff.mpr ‹_›))

theorem noteWatch (p : Acc) (va : Word) (n : Nat) {s : State} (hs : I s) : I (s.noteWatch p va n) := by
  induction n with
  | zero => exact hs
  | succ n ih =>
    unfold State.noteWatch
    dsimp only
    split
    · unfold State.hitWatch
      split
      · exact ih
      · exact S.watched _ _ ih
    · exact ih

theorem takeDataAbort {α : Type} (f : MmuFault) (far : Word) (w : Bool) :
    Stays I E (takeDataAbort f far w : Exec α) := .endWith fun _ hs => S.dataAbort f far w hs

theorem takeAlignmentFault {α : Type} (va : Word) (w : Bool) : Stays I E (takeAlignmentFault va w : Exec α) :=
  .endWith fun _ hs => S.dataAbort _ _ w hs

theorem alignData (p : Acc) (a : Word) : Stays I E (alignData p a) := by
  intro s hs
  unfold Machine.alignData
  split
  · exact hs
  · exact S.takeAlignmentFault _ _ s hs
  · trivial

theorem translateData (p : Acc) (va : Word) (u : Bool) : Stays I E (translateData p va u) := by
  intro s hs
  have h := s.translate_same (!s.isSecure) (s.asidOf !s.isSecure) (s.fcse (!s.isSecure) va)
    (if p.write then .write else .read) p.priv .data
  unfold Machine.translateData
  dsimp only
  revert h
  cases s.translate (!s.isSecure) (s.asidOf !s.isSecure) (s.fcse (!s.isSecure) va) (if p.write then .write else .read)
    p.priv .data with
  | refused r => intro _; trivial
  | abort f t => intro h; exact S.takeDataAbort _ _ _ t (S.frame h hs)
  | ok x t =>
    intro h
    have ht : I t := S.frame h hs
    dsimp only
    split
    · split
      · exact S.takeAlignmentFault _ _ t ht
      · trivial
    · split
      · trivial
      · exact ht

theorem reportError (p : Acc) (va : Word) (x : Translation) (e : BusError) : Stays I E (reportError p va x e) := by
  intro s hs
  unfold Machine.reportError
  split
  · exact S.takeDataAbort _ _ _ s hs
  · exact S.frame (s.impreciseAbort_same _ _) hs

/-! Loads -/

theorem readBus (p : Acc) (va : Word) (x : Translation) (n : Nat) : Stays I E (readBus p va x n) := by
  refine .bind (.look _) fun q => .bind (.look _) fun e => ?_
  cases e with
  | none => exact .bind (S.frame.readBytes _ _ _) fun bs => .bind (S.frame.notePiece _ _ _ _ _) fun _ => .pure _
  | some e =>
    exact .bind (S.frame.update fun s => s.notePiece_same _ _ _ _ _ _) fun _ =>
      .ite (.bind (S.frame.update fun s => s.noteTransfer_same _ _ _) fun _ => .bind (S.reportError _ _ _ _) fun _ => .pure _)
        (.bind (S.reportError _ _ _ _) fun _ => .pure _)

theorem readFill (p : Acc) (va mva : Word) (x : Translation) (n : Nat) : Stays I E (readFill p va mva x n) := by
  refine .bind (.look _) fun e => ?_
  cases e with
  | none => exact .bind (S.frame.fillLine _ _ _ _) fun l => .map _ (.look _)
  | some e =>
    exact .bind (S.frame.update fun s => s.noteTransfer_same _ _ _) fun _ => .bind (S.reportError _ _ _ _) fun _ => .pure _

theorem readRouted (p : Acc) (va : Word) (x : Translation) (n : Nat) : Stays I E (readRouted p va x n) := by
  refine .bind (.look _) fun mva => .bind (.look _) fun data => .ite (.map _ (.look _)) ?_
  refine .bind (S.frame.cachedLine _ _ _) fun hit => .bind (S.frame.heldLine _ _ _) fun held => ?_
  cases held with
  | some l => exact .map _ (.look _)
  | none =>
    exact .bind (.look _) fun instr => .ite (.map _ (.look _))
      (.bind (.look _) fun fills => .ite (S.readFill _ _ _ _ _) (S.readBus _ _ _ _))

theorem readPiece (p : Acc) (va : Word) (n : Nat) (u : Bool) : Stays I E (readPiece p va n u) := by
  refine .bind (.update fun _ hs => S.frame (State.notePast_same _ _ _) (S.noteWatch p va n hs)) fun _ =>
    .bind (S.translateData _ _ _) fun x => .bind (checkEndianness_stays _) fun _ =>
      .bind (S.readRouted _ _ _ _) fun r => ?_
  cases r with
  | some bs => exact .bind (.pure _) fun _ => .pure _
  | none => exact .bind (S.frame.openBytes _) fun _ => .pure _

theorem readSplit (p : Acc) (va : Word) (n : Nat) : Stays I E (readSplit p va n) := by
  induction n generalizing va with
  | zero => exact .pure _
  | succ n ih => exact .bind (S.readPiece _ _ _ _) fun r => .bind S.frame.dmaInterval fun _ => .bind (ih _) fun _ => .pure _

theorem memRead (p : Acc) (a : Word) (n : Nat) : Stays I E (memRead p a n) :=
  .bind (S.alignData _ _) fun _ => .ite
    (.bind (checkEndianness_stays _) fun _ => .bind (S.readSplit _ _ _) fun _ => .bind (.look _) fun _ => .pure _)
    (.bind (S.readPiece _ _ _ _) fun _ => .bind (.look _) fun _ => .pure _)

theorem readWordAt (p : Acc) (a : Word) : Stays I E (readWordAt p a) :=
  .bind (S.readPiece _ _ _ _) fun _ => .bind (.look _) fun _ => .pure _

/-! Stores -/

theorem writeBus (p : Acc) (va : Word) (x : Translation) (bs : List Byte) : Stays I E (writeBus p va x bs) := by
  refine .bind (.look _) fun q => .bind (.look _) fun e => ?_
  cases e with
  | none => exact .bind (S.frame.update fun s => s.storeBytes_same _ _ _ _) fun _ => S.frame.notePiece _ _ _ _ _
  | some e => exact .bind (S.frame.update fun s => s.notePiece_same _ _ _ _ _ _) fun _ => S.reportError _ _ _ _

theorem writeRouted (p : Acc) (va : Word) (x : Translation) (bs : List Byte) : Stays I E (writeRouted p va x bs) := by
  refine .bind (.look _) fun mva => .bind (.look _) fun data => .ite (S.frame.update fun s => s.storeTcm_same _ _ _ _) ?_
  refine .bind (S.frame.cachedLine _ _ _) fun hit => .bind (.look _) fun kept => ?_
  have rest : Stays I E (if kept then pure () else do
      let instr ← look fun s => (s.tcmOf false x.ns x.pa).isSome
      if instr then update fun s => s.storeTcm false x 0 bs else Machine.writeBus p va x bs) :=
    .ite (.pure _) (.bind (.look _) fun _ => .ite (S.frame.update fun s => s.storeTcm_same _ _ _ _) (S.writeBus _ _ _ _))
  cases hit with
  | some l => exact .bind (S.frame.update fun s => s.storeHit_same _ _ _) fun _ => rest
  | none => exact rest

theorem writePiece (p : Acc) (va : Word) (bs : List Byte) (u : Bool) : Stays I E (writePiece p va bs u) :=
  .bind (.update fun _ hs => S.frame (State.notePast_same _ _ _) (S.noteWatch p va bs.length hs)) fun _ =>
    .bind (S.translateData _ _ _) fun _ => .bind (checkEndianness_stays _) fun _ =>
      .bind (S.writeRouted _ _ _ _) fun _ => .pure _

theorem writeSplit (p : Acc) (va : Word) (bs : List Byte) : Stays I E (writeSplit p va bs) := by
  induction bs generalizing va with
  | nil => exact .pure _
  | cons b bs ih => exact .bind (S.writePiece _ _ _ _) fun _ => .bind S.frame.dmaInterval fun _ => ih _

theorem memWrite (p : Acc) (a : Word) (n : Nat) (v : Word) : Stays I E (memWrite p a n v) :=
  .bind (S.alignData _ _) fun _ => .bind (.look _) fun _ => .ite
    (.bind (checkEndianness_stays _) fun _ => S.writeSplit _ _ _) (.bind (S.writePiece _ _ _ _) fun _ => .pure _)

theorem writeWordAt (p : Acc) (a v : Word) : Stays I E (writeWordAt p a v) :=
  .bind (.look _) fun _ => .bind (S.writePiece _ _ _ _) fun _ => .pure _

theorem writeWords (p : Acc) (a : Word) (vs : List Word) : Stays I E (writeWords p a vs) := by
  induction vs generalizing a with
  | nil => exact .pure _
  | cons v vs ih => exact .bind (S.writeWordAt _ _ _) fun _ => .bind S.frame.dmaInterval fun _ => ih _

end Accesses

end

/-! Programs' addresses -/

/-- The PC can hold this address in Thumb state, or in ARM state (R54). -/
def fitsPc (thumb : Bool) (a : Word) : Bool := if thumb then !a.getLsbD 0 else a.extractLsb' 0 2 == 0

theorem State.pcAligned_eq (s : State) : s.pcAligned = fitsPc s.cpsr.t s.pc := rfl

theorem fitsPc_iff (thumb : Bool) (a : Word) : fitsPc thumb a = true ↔ a.toNat % (if thumb then 2 else 4) = 0 := by
  cases thumb
  · have h : (a.extractLsb' 0 2).toNat = a.toNat % 4 := by simp
    simp [fitsPc, ← BitVec.toNat_inj]
  · simp [fitsPc, BitVec.getLsbD, Nat.testBit_zero]

theorem fitsPc_true_of_masked (v : Word) : fitsPc true (v &&& ~~~1#32) = true := by simp [fitsPc]

theorem fitsPc_false_of_masked (v : Word) : fitsPc false (v &&& ~~~3#32) = true := by
  have h : (v &&& ~~~3#32).extractLsb' 0 2 = 0#2 := by
    ext i hi
    have : i = 0 ∨ i = 1 := by omega
    rcases this with rfl | rfl <;> simp
  rw [fitsPc, if_neg Bool.false_ne_true, h]
  rfl

/-- A target of BX that is taken in ARM state. -/
theorem fitsPc_false_of_bits {v : Word} (h0 : v.getLsbD 0 = false) (h1 : v.getLsbD 1 = false) :
    fitsPc false v = true := by
  have h : v.extractLsb' 0 2 = 0#2 := by
    ext i hi
    have : i = 0 ∨ i = 1 := by omega
    rcases this with rfl | rfl
    · simpa using h0
    · simpa using h1
  simp [fitsPc, h]

/-- An address stays one that the PC can hold at a distance of whole words. -/
theorem fitsPc_add {thumb : Bool} {a b : Word} (h : fitsPc thumb a = true) (hb : b.toNat % 4 = 0) :
    fitsPc thumb (a + b) = true := by
  rw [fitsPc_iff] at h ⊢
  rw [BitVec.toNat_add]
  cases thumb <;> simp only [Bool.false_eq_true, if_true, if_false] at h ⊢ <;> omega

/-- In Thumb state at a distance of whole halfwords. -/
theorem fitsPc_true_add {a b : Word} (h : fitsPc true a = true) (hb : b.toNat % 2 = 0) : fitsPc true (a + b) = true := by
  rw [fitsPc_iff] at h ⊢
  rw [BitVec.toNat_add]
  simp only [if_true] at h ⊢
  omega

theorem fitsPc_true_of_fits {thumb : Bool} {a : Word} (h : fitsPc thumb a = true) : fitsPc true a = true := by
  rw [fitsPc_iff] at h ⊢
  cases thumb <;> simp only [Bool.false_eq_true, if_true, if_false] at h ⊢ <;> omega

theorem shiftLeft_two_mod (v : Word) : (v <<< 2).toNat % 4 = 0 := by
  rw [BitVec.toNat_shiftLeft, Nat.shiftLeft_eq]
  omega

theorem shiftLeft_one_mod (v : Word) : (v <<< 1).toNat % 2 = 0 := by
  rw [BitVec.toNat_shiftLeft, Nat.shiftLeft_eq]
  omega

/-- What an instruction reads from R15 outside Debug state is aligned as its own address is. -/
theorem fitsPc_readPc {s : State} (hh : s.halted = false) (h : s.pcAligned = true) : fitsPc s.cpsr.t s.readPc = true := by
  unfold State.readPc
  rw [if_neg (by simp [hh])]
  split
  · exact fitsPc_add h rfl
  · exact fitsPc_add h rfl

theorem fitsPc_next {s : State} (hh : s.halted = false) (h : s.pcAligned = true) :
    fitsPc s.cpsr.t (s.pc + s.instrLength) = true := by
  rw [State.pcAligned_eq] at h
  unfold State.instrLength State.thumb
  rw [hh]
  cases ht : s.cpsr.t
  · rw [ht] at h; exact fitsPc_add h rfl
  · rw [ht] at h; exact fitsPc_true_add h rfl

/-! What instructions do to the fields that the claims look at -/

/-- Flags, GE, E and J may change and Q may be set, but neither the mode, nor the masks, nor the instruction set. -/
structure Psr.SameControl (p p' : Psr) : Prop where
  mode : p'.mode = p.mode
  a : p'.a = p.a
  i : p'.i = p.i
  f : p'.f = p.f
  t : p'.t = p.t
  q : p.q = true → p'.q = true

theorem Psr.setNZ_control (p : Psr) (r : Word) : p.SameControl (p.setNZ r) := ⟨rfl, rfl, rfl, rfl, rfl, id⟩
theorem Psr.setNZ64_control (p : Psr) (r : DWord) : p.SameControl (p.setNZ64 r) := ⟨rfl, rfl, rfl, rfl, rfl, id⟩
theorem Psr.logical_control (p : Psr) (r : Word) (c : Bool) : p.SameControl (p.logical r c) :=
  ⟨rfl, rfl, rfl, rfl, rfl, id⟩
theorem Psr.arithmetic_control (p : Psr) (r : Sum) : p.SameControl (p.arithmetic r) := ⟨rfl, rfl, rfl, rfl, rfl, id⟩
theorem Psr.setNZCV_control (p : Psr) (v : BitVec 4) : p.SameControl (p.setNZCV v) := ⟨rfl, rfl, rfl, rfl, rfl, id⟩
theorem Psr.setGe_control (p : Psr) (v : BitVec 4) : p.SameControl { p with ge := v } := ⟨rfl, rfl, rfl, rfl, rfl, id⟩
theorem Psr.stickQ_control (p : Psr) (q : Bool) : p.SameControl (p.stickQ q) :=
  ⟨rfl, rfl, rfl, rfl, rfl, fun h => by simp [Psr.stickQ, h]⟩

/-- Only registers of CP15 that a privileged instruction writes have changed, and the vector bases and process IDs are
still in form. -/
structure ControlOnly (s t : State) : Prop where
  pc : t.pc = s.pc
  cpsr : t.cpsr = s.cpsr
  spsr : t.spsr = s.spsr
  halted : t.halted = s.halted
  mem : t.mem = s.mem
  bases : s.basesAligned = true → t.basesAligned = true

/-- The exceptions that an instruction raises itself: SMC is Undefined in User mode. -/
def Exc.raisedIn (x : Exc) (s : State) : Prop :=
  match x with
  | .undefined | .svc | .prefetchAbort _ | .dataAbort _ => True
  | .smc => s.privileged = true
  | .irq | .fiq => False

/-- A pair of predicates that every instruction goes through: `I` holds while it runs, `E` where it ends in an exception
or in Debug state. `strict` says that `I` speaks of the alignment of the PC, `restores` that instructions count which
write a status register back. -/
structure Stable (strict restores : Prop) (I E : State → Prop) : Prop extends Accesses I E where
  enter : ∀ s x, I s → s.halted = false → x.raisedIn s → E (enterException x s)
  halt : ∀ s e, I s → s.halted = false → E (s.enterDebug e)
  running : strict ∨ restores → ∀ s, I s → s.halted = false
  aligned : strict → ∀ s, I s → s.pcAligned = true
  jump : ∀ s t a, I s → (strict → fitsPc t a = true) → I { s with pc := a, cpsr := { s.cpsr with t := t } }
  status : ∀ s p, I s → p.t = s.cpsr.t →
    (s.privileged = false → p.mode = s.cpsr.mode ∧ p.a = s.cpsr.a ∧ p.i = s.cpsr.i ∧ p.f = s.cpsr.f) →
    (restores ∨ (s.cpsr.q = true → p.q = true)) → I { s with cpsr := p }
  restore : restores → ∀ s p a, I s → s.privileged = true → fitsPc p.t a = true → I { s with cpsr := p, pc := a }
  saved : ∀ s old w, I s → s.spsr.get? s.cpsr.mode = some old → w &&& ~~~psrMask = old &&& ~~~psrMask →
    I { s with spsr := s.spsr.put s.cpsr.mode w }
  control : ∀ s t, I s → (s.privileged = true ∨ s.halted = true) → ControlOnly s t → I t

theorem noPc_stays {I E : State → Prop} (l : List RegNo) : Stays I E (noPc l) := by
  unfold noPc
  exact .branch (c := fun _ => _) (.refuse _) (.pure _)

/-- What follows may use that no register is R15. -/
theorem noPc_then {I E : State → Prop} {α : Type} {l : List RegNo} {m : Exec α} (h : 15 ∉ l → Stays I E m) :
    Stays I E (noPc l >>= fun _ => m) := by
  intro s hs
  by_cases hl : 15 ∈ l
  · rw [exec_bind_error (noPc_refused hl s)]; trivial
  · rw [exec_bind_ok (noPc_run hl s)]; exact h hl s hs

theorem refuseIf_stays {I E : State → Prop} (b : Bool) : Stays I E (refuseIf b) := .ite (.refuse _) (.pure _)

theorem distinct_stays {I E : State → Prop} (a b : RegNo) : Stays I E (distinct a b) := by
  unfold distinct
  exact .branch (c := fun _ => _) (.refuse _) (.pure _)

theorem dmaGuard_stays {I E : State → Prop} (b : Bool) : Stays I E (dmaGuard b) := by
  unfold dmaGuard
  exact .branch (.refuse _) (.pure _)

theorem currentSpsr_stays {I E : State → Prop} : Stays I E currentSpsr := by
  intro s hs
  unfold currentSpsr
  split
  · exact hs
  · trivial

/-- The modes that have an SPSR are privileged (R53). -/
theorem State.privileged_of_spsr {s : State} {v : Word} (h : s.spsr.get? s.cpsr.mode = some v) : s.privileged = true := by
  unfold State.privileged
  cases hm : s.cpsr.mode <;> rw [hm] at h <;> first | rfl | cases h

theorem State.setCpsr_same (s : State) (p : Psr) : SameView { s with cpsr := p } (s.setCpsr p) := by
  have written (d : Debug) (h : d.dscr = s.dbg.dscr) (hw : d.watchHit = s.dbg.watchHit) :
      SameView { s with cpsr := p } { s with cpsr := p, dbg := d } :=
    .of_mem (by simp [State.view, State.halted, h, hw]) rfl
  exact (written { s.dbg with
    cpsrWritten := s.dbg.cpsrWritten || s.halted
    pcWritten := s.dbg.pcWritten && !s.halted } rfl rfl).trans (State.switchedFrom_same _ s)

theorem SameView.setPc {s t : State} (h : SameView s t) (a : Word) : SameView { s with pc := a } { t with pc := a } :=
  ⟨congrArg (fun v : View => { v with pc := a }) h.view, h.mem⟩

section

variable {strict restores : Prop} {I E : State → Prop} (S : Stable strict restores I E)
include S

namespace Stable

theorem undefined {s : State} (hs : I s) : E s.undefined := by
  unfold State.undefined
  split
  · exact S.frameE (State.stickDscr_same _ rfl) (S.done _ hs)
  · exact S.enter s .undefined hs (Bool.eq_false_iff.mpr ‹_›) trivial

theorem takeUndefined {α : Type} : Stays I E (takeUndefined : Exec α) := .endWith fun _ hs => S.undefined hs

/-! The PC -/

/-- Another PC in the same instruction set. -/
theorem move {s t : State} {a : Word} (hs : I s) (hv : t.view = { s.view with pc := a }) (hm : t.mem = s.mem)
    (ha : strict → fitsPc s.cpsr.t a = true) : I t :=
  S.frame (s := { s with pc := a, cpsr := { s.cpsr with t := s.cpsr.t } }) (.of_mem hv hm) (S.jump s s.cpsr.t a hs ha)

/-- Another PC in an instruction set that is chosen with it. -/
theorem moveTo {s t : State} {b : Bool} {a : Word} (hs : I s)
    (hv : t.view = { s.view with pc := a, cpsr := { s.cpsr with t := b } }) (hm : t.mem = s.mem)
    (ha : strict → fitsPc b a = true) : I t :=
  S.frame (s := { s with pc := a, cpsr := { s.cpsr with t := b } }) (.of_mem hv hm) (S.jump s b a hs ha)

theorem next {s : State} (hs : I s) : I s.next := by
  unfold State.next
  split
  · exact hs
  · exact S.move hs rfl rfl fun h => fitsPc_next (Bool.eq_false_iff.mpr ‹_›) (S.aligned h s hs)

theorem advance : Stays I E advance := .update fun _ hs => S.next hs

theorem branchKeep (v : Word) {s : State} (hs : I s) : I (s.branchKeep v) :=
  S.move hs rfl rfl fun _ => s.branchKeep_pcAligned v

theorem setReg (n : RegNo) (v : Word) {s : State} (hs : I s) : I (s.setReg n v) := S.frame (s.setReg_same n v) hs

/-- A branch to an address computed from the PC. -/
theorem branchBy (a : Word) {s : State} (hs : I s) (ha : strict → fitsPc s.cpsr.t a = true) : I (s.branchBy a) := by
  cases hh : s.halted
  · rw [State.branchBy_of_running a hh]
    exact S.move hs rfl rfl ha
  · rw [State.branchBy_of_halted a hh]
    exact S.branchKeep a hs

theorem fitsReadPc (h : strict) {s : State} (hs : I s) : fitsPc s.cpsr.t s.readPc = true :=
  fitsPc_readPc (S.running (.inl h) s hs) (S.aligned h s hs)

theorem finishReg (n : RegNo) (v : Word) : Stays I E (finishReg n v) := .update fun _ hs => S.next (S.setReg n v hs)

theorem bxWritePc (v : Word) : Stays I E (bxWritePc v) := by
  refine .dite (fun _ => .update fun s hs => S.moveTo hs rfl rfl fun _ => fitsPc_true_of_masked v) fun h0 =>
    .dite (fun _ => .refuse _) fun h1 => .update fun s hs => S.moveTo hs rfl rfl fun _ => ?_
  exact fitsPc_false_of_bits (Bool.eq_false_iff.mpr h0) (Bool.eq_false_iff.mpr h1)

theorem loadPc (v : Word) : Stays I E (loadPc v) :=
  .bind (.look _) fun _ => .ite (.update fun _ hs => S.branchKeep v hs) (S.bxWritePc v)

theorem link (back bits : Word) : Stays I E (link back bits) := .update fun _ hs => S.setReg _ _ hs

/-! Conditions -/

theorem conditional (c : Cond) {m : Exec Unit} (h : Stays I E m) : Stays I E (conditional c m) :=
  .branch (c := fun s => Cond.passes c s.cpsr = true) h S.advance

theorem conditionalBranch (c : Cond) {m : Exec Unit} (h : Stays I E m) : Stays I E (conditionalBranch c m) :=
  .branch (c := fun s => Cond.passes c s.cpsr = true) h
    (.branch (.bind S.frame.draw fun v => .update fun _ hs => S.branchKeep v hs) S.advance)

/-! The status register -/

/-- Flags change, and no field that controls the processor. -/
theorem flags {s t : State} {p : Psr} (hs : I s) (hp : s.cpsr.SameControl p) (hv : t.view = { s.view with cpsr := p })
    (hm : t.mem = s.mem) : I t :=
  S.frame (s := { s with cpsr := p }) (.of_mem hv hm)
    (S.status s p hs hp.t (fun _ => ⟨hp.mode, hp.a, hp.i, hp.f⟩) (.inr hp.q))

theorem setFlags {s : State} {p : Psr} (hs : I s) (hp : s.cpsr.SameControl p) : I (s.setFlags p) := S.flags hs hp rfl rfl

/-- Flags are written where a form of the instruction asks for it. -/
theorem setFlagsIf (b : Bool) {s : State} {p : Psr} (hs : I s) (hp : s.cpsr.SameControl p) :
    I (if b then s.setFlags p else s) := by
  cases b
  · exact hs
  · exact S.setFlags hs hp

theorem openFlags : Stays I E openFlags :=
  .bind S.frame.draw fun _ => .update fun _ hs => S.setFlags hs (Psr.setNZCV_control _ _)

/-- An exception return of a privileged instruction. -/
theorem exceptionReturn (hr : restores) (before : State) (v target : Word) {s : State} (hs : I s)
    (hp : s.privileged = true) : Post I E (exceptionReturn before v target s) := by
  have hh := S.running (.inr hr) s hs
  have back (p : Psr) : I ((s.setCpsr p).branchKeep target) := by
    have hm := S.restore hr s p (((s.setCpsr p).branchKeep target).pc) hs hp ?_
    · exact S.frame (((s.setCpsr_same p).setPc _).trans (.of_mem rfl rfl)) hm
    · simpa [State.pcAligned_eq] using (s.setCpsr p).branchKeep_pcAligned target
  unfold Machine.exceptionReturn
  cases hi : (Mode.ofBits? (v.extractLsb' 0 5)).isNone
  · cases hm : s.cpsr.merge v (s.returnMask v) with
    | none => rw [exec_bind_error (e := .refused .illegalMode) (by simp [cpsrWriteByReturn, hi, hm])]; trivial
    | some p => rw [exec_bind_ok (a := ()) (t := s.setCpsr p) (by simp [cpsrWriteByReturn, hi, hm, hh])]; exact back p
  · rw [exec_bind_error (e := .refused .illegalMode) (by simp [cpsrWriteByReturn, hi])]; trivial

end Stable

end

theorem low_ne_pc (r : LowReg) : low r ≠ 15 := by
  unfold low
  intro h
  have := congrArg BitVec.toNat h
  simp at this
  omega

theorem State.setRegOf_same (s : State) (m : Mode) (n : RegNo) (v : Word) : SameView s (s.setRegOf m n v) := .of_mem rfl rfl
theorem State.setSingle_same (s : State) (n : BitVec 5) (v : Word) : SameView s (s.setSingle n v) := .of_mem rfl rfl

theorem State.putRegs_same (s : State) (m : Mode) (l : List (RegNo × Word)) : SameView s (s.putRegs m l) := by
  induction l generalizing s with
  | nil => exact .refl s
  | cons x l ih =>
    obtain ⟨r, w⟩ := x
    unfold State.putRegs
    exact .ite (ih s) ((s.setRegOf_same m r w).trans (ih _))

theorem State.putSingles_same (s : State) (l : List (BitVec 5 × Word)) : SameView s (s.putSingles l) := by
  induction l generalizing s with
  | nil => exact .refl s
  | cons x l ih => exact (s.setSingle_same x.1 x.2).trans (ih _)

theorem State.openMonitor_same (s : State) : SameView s s.openMonitor := .of_mem rfl rfl

theorem checkSingle_stays {I E : State → Prop} (w : Bool) (rn rd : RegNo) (rm : Option RegNo) (pc : Bool) :
    Stays I E (checkSingle w rn rd rm pc) := .ite (.refuse _) (.pure _)

theorem checkDouble_stays {I E : State → Prop} (w l : Bool) (rn rd : RegNo) (rm : Option RegNo) :
    Stays I E (checkDouble w l rn rd rm) := .ite (.refuse _) (.pure _)

theorem checkMode3_stays {I E : State → Prop} (p w : Bool) : Stays I E (checkMode3 p w) := .ite (.refuse _) (.pure _)

theorem checkLoadList_stays {I E : State → Prop} (wb : Bool) (rn : RegNo) (rs : List RegNo) :
    Stays I E (checkLoadList wb rn rs) := .ite (.refuse _) (.pure _)

theorem checkStoreList_stays {I E : State → Prop} (wb : Bool) (rn : RegNo) (rs : List RegNo) :
    Stays I E (checkStoreList wb rn rs) := .ite (.refuse _) (.pure _)

theorem exceptionModeOnly_stays {I E : State → Prop} : Stays I E exceptionModeOnly := .branch (.refuse _) (.pure _)

/-! Transfers of lists, which an abort leaves in any part -/

section

variable {I E : State → Prop}

theorem Framed.writeBase (F : Framed I) (rn : RegNo) (v : Option Word) : Stays I E (writeBase rn v) := by
  cases v with
  | none => exact .pure _
  | some v => exact F.update fun s => s.setReg_same rn v

theorem Framed.openLoaded (F : Framed I) (m : Mode) (base : Fin 32) (l : List (RegNo × Word)) :
    Stays I E (openLoaded m base l) := by
  induction l with
  | nil => exact .pure _
  | cons x l ih => exact .bind F.draw fun d => .bind (F.update fun s => .ite (.of_mem rfl rfl) (.refl s)) fun _ => ih

theorem Framed.openSingles (F : Framed I) (p : Prec) (l : List (BitVec 5 × Word)) : Stays I E (openSingles p l) := by
  have put (b : Bool) (l : List (BitVec 5 × Word)) :
      Stays I E (Machine.update fun s => if b then s.putSingles l else s) :=
    F.update fun s => .ite (s.putSingles_same l) (.refl s)
  induction l using openSingles.induct with
  | case1 => exact .pure _
  | case2 x => exact .bind F.draw fun d => F.update fun s => .ite (s.putSingles_same _) (.refl s)
  | case3 x y rest h1 h2 =>
    exact .bind F.draw fun d => .ite (.bind (put _ _) fun _ => h1) (.bind (put _ _) fun _ => h2)

/-- What follows an abort keeps what holds after it. -/
theorem Post.afterTook {α β : Type} {m : Exec α} (h : Stays E E m) {t : State} (ht : E t) :
    Post I E ((do let _ ← m; endWith id : Exec β) t) := Post.bind (J := E) (h t ht) fun _ _ hu => hu

variable (S : Accesses I E)
include S

namespace Accesses

/-- A word of a list with what the engine does after it. -/
theorem listedWord (p : Acc) (a : Word) : Stays I E (do let w ← Machine.readWordAt p a; Machine.dmaInterval; pure w) :=
  .bind (S.readWordAt p a) fun _ => .bind S.frame.dmaInterval fun _ => .pure _

theorem readListed (p : Acc) (m : Mode) (base : Fin 32) (done l : List (RegNo × Word)) :
    Stays I E (readListed p m base done l) := by
  induction l generalizing done with
  | nil => exact .pure _
  | cons x l ih =>
    obtain ⟨r, a⟩ := x
    intro s hs
    have h := S.listedWord { p with loadsPc := p.loadsPc || r = 15 } a s hs
    unfold Machine.readListed
    split
    · rename_i w t e
      rw [e] at h
      exact ih _ t h
    · rename_i t e
      rw [e] at h
      exact Post.afterTook (S.frameE.openLoaded _ _ _) h
    · rename_i x hx e
      rw [e] at h
      cases x with
      | took t => exact absurd rfl (hx t)
      | refused r => trivial
      | fault f => exact h

theorem readSingles (p : Acc) (many : Option Prec) (a : Word) (done : List (BitVec 5 × Word)) (l : List (BitVec 5)) :
    Stays I E (readSingles p many a done l) := by
  induction l generalizing a done with
  | nil => exact .pure _
  | cons r l ih =>
    intro s hs
    have h := S.listedWord p a s hs
    unfold Machine.readSingles
    split
    · rename_i w t e
      rw [e] at h
      exact ih _ _ t h
    · rename_i t e
      rw [e] at h
      cases many with
      | some k => exact Post.afterTook (S.frameE.openSingles _ _) h
      | none => exact Post.afterTook (.pure ()) h
    · rename_i x hx e
      rw [e] at h
      cases x with
      | took t => exact absurd rfl (hx t)
      | refused r => trivial
      | fault f => exact h

theorem loadBlock (precise : Bool) (m : Mode) (rn : RegNo) (rs : List RegNo) (start : Word) :
    Stays I E (loadBlock precise m rn rs start) :=
  .bind (.look _) fun _ => .bind (.look _) fun _ => .bind (S.alignData _ _) fun _ => S.readListed _ _ _ _ _

theorem storeBlock (start : Word) (ws : List Word) : Stays I E (storeBlock start ws) :=
  .bind (.look _) fun _ => .bind (S.alignData _ _) fun _ => S.writeWords _ _ _

/-! Exclusive accesses -/

theorem readExclusive (p : Acc) (a : Word) (x : Translation) (n : Nat) : Stays I E (readExclusive p a x n) := by
  intro s hs
  have h := S.readRouted p a x n s hs
  unfold Machine.readExclusive
  match Machine.readRouted p a x n s, h with
  | .ok (some bs, t), h => exact S.frame (s := t) (.of_mem rfl rfl) h
  | .ok (none, t), h => exact S.frame.openBytes n _ (S.frame t.openMonitor_same h)
  | .error (.took t), h => exact S.frameE t.openMonitor_same h
  | .error (.refused _), _ => trivial

theorem loadExclusive (ty : AccType) (n : Nat) (rn : RegNo) : Stays I E (loadExclusive ty n rn) :=
  .bind (.look _) fun _ => .bind (.look _) fun _ => .bind (S.alignData _ _) fun _ =>
    .bind (.update fun _ hs => S.noteWatch _ _ _ hs) fun _ => .bind (S.translateData _ _ _) fun _ =>
      .bind (checkEndianness_stays _) fun _ => S.readExclusive _ _ _ _

theorem monitorPasses (p : Acc) (x : Translation) (n : Nat) : Stays I E (monitorPasses p x n) :=
  .ite (.bind (.look _) fun _ => .ite
    (.bind S.frame.draw fun _ => .bind (S.frame.update fun s => .ite (.refl s) (.of_mem rfl rfl)) fun _ => .pure _)
    (.pure _)) (.pure _)

theorem writeExclusive (p : Acc) (a : Word) (x : Translation) (bs : List Byte) : Stays I E (writeExclusive p a x bs) :=
  .bind (S.writeRouted _ _ _ _) fun _ => .bind (S.frame.update fun s => .ite (.of_mem rfl rfl) (.refl s)) fun _ => .pure _

theorem refusedExclusive (p : Acc) (a : Word) (x : Translation) (bs : List Byte) :
    Stays I E (refusedExclusive p a x bs) := by
  refine .bind (.look _) fun q => .bind (.look _) fun e => .bind (S.frame.update fun s => s.notePiece_same _ _ _ _ _ _) fun _ => ?_
  cases e with
  | some e => exact .bind (S.reportError _ _ _ _) fun _ => .pure _
  | none => exact .pure _

end Accesses

end

section

variable {strict restores : Prop} {I E : State → Prop} (S : Stable strict restores I E)
include S

namespace Stable

/-! Data processing -/

theorem finishDp {sf : Bool} {rd : RegNo} (hr : (sf && rd == 15) = true → restores) (r : Word) {flags : Psr → Psr}
    (hf : ∀ p : Psr, p.SameControl (flags p)) : Stays I E (finishDp sf rd r flags) := by
  refine .dite (fun hd => .dite (fun hsf => ?_) fun _ => .update fun _ hs => S.branchKeep r hs) fun _ =>
    .update fun s hs => S.next (S.setFlagsIf sf (S.setReg rd r hs) (hf _))
  have hres : restores := hr (by simp [hd, hsf])
  intro s hs
  cases hp : s.spsr.get? s.cpsr.mode with
  | none => rw [exec_bind_error (currentSpsr_none hp)]; trivial
  | some v =>
    rw [exec_bind_ok (currentSpsr_run hp)]
    exact S.exceptionReturn hres s v r hs (State.privileged_of_spsr hp)

theorem dpLogical {sf : Bool} {rd : RegNo} (hr : (sf && rd == 15) = true → restores) (rn : RegNo)
    (f : Word → Word → Word) (o : Operand) : Stays I E (dpLogical sf rd rn f o) :=
  .bind (.look _) fun _ => .bind (.look _) fun _ => S.finishDp hr _ fun p => p.logical_control _ _

theorem dpMove {sf : Bool} {rd : RegNo} (hr : (sf && rd == 15) = true → restores) (f : Word → Word) (o : Operand) :
    Stays I E (dpMove sf rd f o) := .bind (.look _) fun _ => S.finishDp hr _ fun p => p.logical_control _ _

theorem dpArithmetic {sf : Bool} {rd : RegNo} (hr : (sf && rd == 15) = true → restores) (rn : RegNo)
    (f : Word → Word → Bool → Sum) (o : Operand) : Stays I E (dpArithmetic sf rd rn f o) :=
  .bind (.look _) fun _ => .bind (.look _) fun _ => S.finishDp hr _ fun p => p.arithmetic_control _

theorem dpTest (rn : RegNo) (f : Word → Word → Word) (o : Operand) : Stays I E (dpTest rn f o) :=
  .bind (.look _) fun _ => .update fun _ hs => S.next (S.setFlags hs (Psr.logical_control _ _ _))

theorem dpCompare (rn : RegNo) (f : Word → Word → Sum) (o : Operand) : Stays I E (dpCompare rn f o) :=
  .bind (.look _) fun _ => .update fun _ hs => S.next (S.setFlags hs (Psr.arithmetic_control _ _))

/-! Multiplies and media -/

theorem finishMul (sf : Bool) (rd : RegNo) (r : Word) : Stays I E (finishMul sf rd r) :=
  .update fun _ hs => S.next (S.setFlagsIf sf (S.setReg rd r hs) (Psr.setNZ_control _ _))

theorem finishLong (sf : Bool) (hi lo : RegNo) (r : DWord) : Stays I E (finishLong sf hi lo r) :=
  .update fun _ hs => S.next (S.setFlagsIf sf (S.setReg hi _ (S.setReg lo _ hs)) (Psr.setNZ64_control _ _))

theorem finishQ (rd : RegNo) (r : Word) (q : Bool) : Stays I E (finishQ rd r q) :=
  .update fun _ hs => S.next (S.setFlags (S.setReg rd r hs) (Psr.stickQ_control _ _))

theorem saturating (double : Bool) (rn rd rm : RegNo) (f : Int → Int → Int) : Stays I E (saturating double rn rd rm f) :=
  .bind (noPc_stays _) fun _ => .bind (.look _) fun _ => .bind (.look _) fun _ => S.finishQ _ _ _

theorem parallel (p : LanePrefix) (o : LaneOp) (rn rd rm : RegNo) : Stays I E (parallel p o rn rd rm) :=
  .bind (noPc_stays _) fun _ => .bind (.look _) fun _ =>
    .update fun _ hs => S.next (S.setFlagsIf _ (S.setReg rd _ hs) (Psr.setGe_control _ _))

theorem extend (rd rm : RegNo) (rot : BitVec 2) (f : Word → Word) : Stays I E (extend rd rm rot f) :=
  .bind (noPc_stays _) fun _ => .bind (.look _) fun _ => S.finishReg _ _

theorem extendAdd (rn rd rm : RegNo) (rot : BitVec 2) (f : Word → Word → Word) : Stays I E (extendAdd rn rd rm rot f) :=
  .bind (noPc_stays _) fun _ => .bind (.look _) fun _ => S.finishReg _ _

/-! Loads and stores -/

theorem loadSingle (ty : AccType) (n : Nat) (user : Bool) (f : Word → Word) (rn rd : RegNo) (a : Indexed) :
    Stays I E (loadSingle ty n user f rn rd a) :=
  .bind (.look _) fun _ => .bind (S.memRead _ _ _) fun _ => .bind (S.frame.writeBase _ _) fun _ => S.finishReg _ _

theorem loadWord (rn rd : RegNo) (a : Indexed) : Stays I E (loadWord rn rd a) :=
  .ite (.bind (.look _) fun _ => .bind (S.memRead _ _ _) fun _ => .bind (S.frame.writeBase _ _) fun _ => S.loadPc _)
    (S.loadSingle _ _ _ _ _ _ _)

theorem storeSingle (ty : AccType) (n : Nat) (user : Bool) (rn rd : RegNo) (a : Indexed) :
    Stays I E (storeSingle ty n user rn rd a) :=
  .bind (.look _) fun _ => .bind (.look _) fun _ => .bind (S.memWrite _ _ _ _) fun _ =>
    .bind (S.frame.writeBase _ _) fun _ => S.advance

theorem loadDouble (rn rd : RegNo) (a : Indexed) : Stays I E (loadDouble rn rd a) :=
  .bind (.look _) fun _ => .bind (S.alignData _ _) fun _ => .bind (S.readWordAt _ _) fun _ =>
    .bind S.frame.dmaInterval fun _ => .bind (S.readWordAt _ _) fun _ => .bind (S.frame.writeBase _ _) fun _ =>
      .bind (.update fun _ hs => S.setReg _ _ hs) fun _ => S.finishReg _ _

theorem storeDouble (rn rd : RegNo) (a : Indexed) : Stays I E (storeDouble rn rd a) :=
  .bind (.look _) fun _ => .bind (.look _) fun _ => .bind (.look _) fun _ => .bind (S.alignData _ _) fun _ =>
    .bind (S.writeWords _ _ _) fun _ => .bind (S.frame.writeBase _ _) fun _ => S.advance

theorem loadMultiple (p u wb : Bool) (rn : RegNo) (rs : List RegNo) : Stays I E (loadMultiple p u wb rn rs) :=
  .bind (checkLoadList_stays _ _ _) fun _ => .bind (.look _) fun _ => .bind (.look _) fun _ =>
    .bind (S.loadBlock _ _ _ _ _) fun _ => .bind (S.frame.writeBase _ _) fun _ =>
      .bind (S.frame.update fun s => s.putRegs_same _ _) fun _ => .ite (S.loadPc _) S.advance

theorem storeMultiple (p u wb : Bool) (rn : RegNo) (rs : List RegNo) : Stays I E (storeMultiple p u wb rn rs) :=
  .bind (checkStoreList_stays _ _ _) fun _ => .bind (.look _) fun _ => .bind (.look _) fun _ =>
    .bind (S.storeBlock _ _) fun _ => .bind (S.frame.writeBase _ _) fun _ => S.advance

theorem storeExclusive (ty : AccType) (rn rd : RegNo) (value : State → List Byte) :
    Stays I E (storeExclusive ty rn rd value) := by
  have finish (w : Word) : Stays I E (do update fun s => { s with exclLocal := false }; Machine.finishReg rd w) :=
    .bind (S.frame.update fun s => .of_mem rfl rfl) fun _ => S.finishReg _ _
  refine .bind (.look _) fun _ => .bind (.look _) fun _ => .bind (.look _) fun _ => .bind (S.alignData _ _) fun _ =>
    .bind (.update fun _ hs => S.noteWatch _ _ _ hs) fun _ => .bind (.look _) fun _ => .ite ?_ (.bind (.pure _) finish)
  exact .bind (S.translateData _ _ _) fun _ => .bind (checkEndianness_stays _) fun _ =>
    .bind (S.monitorPasses _ _ _) fun _ =>
      .ite (.bind (S.writeExclusive _ _ _ _) finish) (.bind (S.refusedExclusive _ _ _ _) finish)

theorem loadExclusiveReg (ty : AccType) (n : Nat) (rn rd : RegNo) : Stays I E (loadExclusiveReg ty n rn rd) :=
  .bind (noPc_stays _) fun _ => .bind (S.loadExclusive _ _ _) fun _ => .bind (.look _) fun _ => S.finishReg _ _

theorem storeExclusiveReg (ty : AccType) (n : Nat) (rn rd rm : RegNo) : Stays I E (storeExclusiveReg ty n rn rd rm) :=
  .bind (noPc_stays _) fun _ => .bind (refuseIf_stays _) fun _ => S.storeExclusive _ _ _ _

theorem swap (byte : Bool) (rn rd rm : RegNo) : Stays I E (swap byte rn rd rm) :=
  .bind (noPc_stays _) fun _ => .bind (refuseIf_stays _) fun _ => .bind (.look _) fun _ => .bind (.look _) fun _ =>
    .bind (.look _) fun _ => .bind (.look _) fun _ => .bind (S.alignData _ _) fun _ => .bind (S.translateData _ _ _) fun _ =>
      .bind (S.translateData _ _ _) fun _ => .bind (S.memRead _ _ _) fun _ => .bind (S.memWrite _ _ _ _) fun _ =>
        S.finishReg _ _

end Stable

end

/-! Writing a status register -/

/-- What a masked write leaves of a status register: each field that the mask leaves out. -/
theorem Psr.merge_fields {p p' : Psr} {v mask : Word} (h : p.merge v mask = some p') :
    (mask.getLsbD 0 = false → p'.mode = p.mode) ∧ (mask.getLsbD 8 = false → p'.a = p.a) ∧
      (mask.getLsbD 7 = false → p'.i = p.i) ∧ (mask.getLsbD 6 = false → p'.f = p.f) ∧
      (mask.getLsbD 5 = false → p'.t = p.t) ∧ (mask.getLsbD 27 = false → p'.q = p.q) := by
  have keep {c a b : Bool} (hc : c = false) : (if c then a else b) = b := if_neg (Bool.eq_false_iff.mp hc)
  unfold Psr.merge at h
  dsimp only at h
  split at h
  · rename_i h0
    obtain ⟨m, -, rfl⟩ := Option.map_eq_some_iff.mp h
    exact ⟨fun hk => Bool.noConfusion (h0.symm.trans hk), keep, keep, keep, keep, keep⟩
  · cases h
    exact ⟨fun _ => rfl, keep, keep, keep, keep, keep⟩

/-- What the world allows an MSR to change is among what the mode allows. -/
theorem State.instrMask_bit {s : State} {v bytes : Word} {k : Nat} (h : (s.instrMask v bytes).getLsbD k = true) :
    bytes.getLsbD k = true ∧ (if s.privileged then 0xF80F03DF#32 else 0xF80F0200#32).getLsbD k = true := by
  unfold State.instrMask at h
  dsimp only at h
  split at h
  · simpa using h
  · simp only [BitVec.getLsbD_and, Bool.and_eq_true] at h
    exact h.1.1.1

theorem State.instrMask_clear {s : State} {k : Nat} (v : Word) {bytes : Word}
    (h : bytes.getLsbD k = false ∨ (if s.privileged then 0xF80F03DF#32 else 0xF80F0200#32).getLsbD k = false) :
    (s.instrMask v bytes).getLsbD k = false := by
  by_contra hc
  obtain ⟨hb, hm⟩ := State.instrMask_bit (Bool.eq_true_of_not_eq_false hc)
  rcases h with h | h
  · rw [h] at hb; cases hb
  · rw [h] at hm; cases hm

theorem State.setEntry_same (s : State) (e : Entry) : SameView s (s.setEntry e) :=
  s.setDscr_same (by cases e <;> simp [Entry.code])

section

variable {strict restores : Prop} {I E : State → Prop} (S : Stable strict restores I E)
include S

namespace Stable

/-- An MSR, or a CPS, which does not write Q. -/
theorem cpsrWriteByInstr (v bytes : Word) (hq : restores ∨ bytes.getLsbD 27 = false) :
    Stays I E (cpsrWriteByInstr v bytes) := by
  intro s hs
  unfold Machine.cpsrWriteByInstr
  cases hm : s.cpsr.merge v (s.instrMask v bytes) with
  | none => trivial
  | some p =>
    obtain ⟨hmode, ha, hi, hf, ht, hkq⟩ := Psr.merge_fields hm
    have hp : I (s.setCpsr p) := by
      refine S.frame (s.setCpsr_same p) (S.status s p hs (ht ?_) (fun hu => ?_) ?_)
      · exact s.instrMask_clear v (.inr (by cases s.privileged <;> rfl))
      · have clear {k : Nat} (h : (0xF80F0200#32).getLsbD k = false) : (s.instrMask v bytes).getLsbD k = false :=
          s.instrMask_clear v (.inr (by rw [hu]; exact h))
        exact ⟨hmode (clear rfl), ha (clear rfl), hi (clear rfl), hf (clear rfl)⟩
      · exact hq.imp_right fun hb hold => (hkq (s.instrMask_clear v (.inl hb))).trans hold
    dsimp only
    split
    · exact hs
    · exact hp

theorem writeStatus (spsr : Bool) (hr : spsr = false → restores) (bytes v : Word) : Stays I E (writeStatus spsr bytes v) := by
  cases spsr
  · have hres := hr rfl
    intro s hs
    have hh := S.running (.inr hres) s hs
    show Post I E ((do
      if ← look State.halted then cpsrWriteHalted v bytes else Machine.cpsrWriteByInstr v bytes
      Machine.advance) s)
    refine Stays.lookThen (g := State.halted) (fun s hs => ?_) s hs
    rw [S.running (.inr hres) s hs]
    exact Stays.bind (S.cpsrWriteByInstr v bytes (.inl hres)) (fun _ => S.advance) s hs
  · intro s hs
    cases hp : s.spsr.get? s.cpsr.mode with
    | none => show Post I E ((currentSpsr >>= _) s); rw [exec_bind_error (currentSpsr_none hp)]; trivial
    | some old =>
      show Post I E ((currentSpsr >>= _) s)
      rw [exec_bind_ok (currentSpsr_run hp)]
      refine S.next (S.saved s old _ hs hp ?_)
      ext k hk
      simp only [BitVec.getElem_and, BitVec.getElem_or, BitVec.getElem_not]
      cases psrMask[k] <;> cases bytes[k] <;> simp

theorem setEndian (e : Bool) : Stays I E (setEndian e) :=
  .bind (.update fun s hs => S.frame (s.setCpsr_same _)
    (S.status s _ hs rfl (fun _ => ⟨rfl, rfl, rfl, rfl⟩) (.inr id))) fun _ => S.advance

theorem changeState (disable change a i f : Bool) (mode : Option (BitVec 5)) :
    Stays I E (changeState disable change a i f mode) := by
  have hq : ((if change then bitAt a 8 ||| bitAt i 7 ||| bitAt f 6 else 0) |||
      (if mode.isSome then 0x1F#32 else 0)).getLsbD 27 = false := by
    cases change <;> cases a <;> cases i <;> cases f <;> cases mode.isSome <;> rfl
  exact .bind (.look _) fun _ => .ite (.bind (S.cpsrWriteByInstr _ _ (.inr hq)) fun _ => S.advance) S.advance

theorem supervisorCall : Stays I E supervisorCall := by
  intro s hs
  unfold Machine.supervisorCall
  cases hh : s.halted
  · exact S.enter s .svc hs hh trivial
  · exact hs

theorem debugPrefetchAbort {s : State} (hs : I s) (hh : s.halted = false) : E s.debugPrefetchAbort := by
  have h : SameView s (s.setBankOf (s.faultWorld false) fun b => { b with ifsr := 0x2 }) := s.setBankOf_same _ fun _ => rfl
  exact S.enter _ _ (S.frame h hs) (h.halted.trans hh) trivial

theorem softwareBreakpoint : Stays I E softwareBreakpoint := by
  intro s hs
  unfold Machine.softwareBreakpoint
  cases hh : s.halted
  · rw [if_neg Bool.false_ne_true]
    split
    · show E (s.instructionEvent .bkpt)
      unfold State.instructionEvent
      split
      · exact S.halt s _ hs hh
      · exact S.debugPrefetchAbort (S.frame (s.setEntry_same _) hs) ((s.setEntry_same _).halted.trans hh)
    · exact S.debugPrefetchAbort hs hh
  · exact hs

/-- The body of SMC: Undefined in User mode. -/
theorem monitorCall : Stays I E (do
    let halted ← look State.halted
    let priv ← look State.privileged
    if halted then Machine.advance
    else if priv then endWith (enterException .smc)
    else Machine.takeUndefined) := by
  intro s hs
  show Post I E ((if s.halted then Machine.advance
    else if s.privileged then endWith (enterException .smc) else Machine.takeUndefined) s)
  cases hh : s.halted
  · cases hp : s.privileged
    · exact S.undefined hs
    · exact S.enter s .smc hs hh hp
  · exact S.advance s hs

end Stable

end

/-! The debug coprocessor -/

/-- Debug registers but bit 0 of the DSCR and the watchpoint that has been hit. -/
theorem State.setDebug_same (s : State) {f : Debug → Debug} (h : (f s.dbg).dscr.getLsbD 0 = s.dbg.dscr.getLsbD 0)
    (hw : (f s.dbg).watchHit = s.dbg.watchHit) : SameView s (s.setDebug f) :=
  .of_mem (congrArg₂ (fun b w => { s.view with halted := b, watch := w }) h hw) rfl

theorem State.tookRdtr_same (s : State) : SameView s s.tookRdtr := s.setDebug_same (by simp) rfl

theorem State.putWdtr_same (s : State) (v : Word) : SameView s (s.putWdtr v) := s.setDebug_same (by simp) rfl

theorem Cp14.afterRead_same (r : Cp14) (s : State) : SameView s (r.afterRead s) := .ite s.tookRdtr_same (.refl s)

theorem Cp14.put_same (r : Cp14) (v : Word) (s : State) : SameView s (r.put v s) := by
  unfold Cp14.put
  cases r
  case didr => exact .refl s
  case dscr => exact s.setDebug_same (by simp) rfl
  case dtr => exact s.putWdtr_same v
  all_goals exact s.setDebug_same rfl rfl

section

variable {strict restores : Prop} {I E : State → Prop} (S : Stable strict restores I E)
include S

namespace Stable

theorem cp14Read (op1 : BitVec 3) (crn crm : BitVec 4) (op2 : BitVec 3) (rd : RegNo) :
    Stays I E (cp14Read op1 crn crm op2 rd) := by
  have open_ : Stays I E (do Machine.openFlags; Machine.advance) := .bind S.openFlags fun _ => S.advance
  unfold Machine.cp14Read
  cases Cp14Space.of? op1 crn crm op2 with
  | none => exact S.takeUndefined
  | some space =>
    cases space with
    | trace => exact .bind (.look _) fun _ => .ite S.takeUndefined (.ite open_ (S.finishReg _ _))
    | debug r =>
      refine .bind (.look _) fun _ => .ite S.takeUndefined (.bind (.look _) fun _ =>
        .bind (S.frame.update r.afterRead_same) fun _ => .ite (.ite ?_ open_) (S.finishReg _ _))
      exact .bind (.update fun _ hs => S.setFlags hs (Psr.setNZCV_control _ _)) fun _ => S.advance

theorem cp14Write (op1 : BitVec 3) (crn crm : BitVec 4) (op2 : BitVec 3) (rd : RegNo) :
    Stays I E (cp14Write op1 crn crm op2 rd) := by
  unfold Machine.cp14Write
  cases Cp14Space.of? op1 crn crm op2 with
  | none => exact S.takeUndefined
  | some space =>
    cases space with
    | trace => exact .bind (.look _) fun _ => .ite S.takeUndefined (.ite (.refuse _) S.advance)
    | debug r =>
      exact .bind (.look _) fun _ => .ite S.takeUndefined (.bind (.look _) fun _ =>
        .ite (.refuse _) (.bind (S.frame.update (r.put_same _)) fun _ => S.advance))

theorem debugTransfer (nBit : Bool) (crd : BitVec 4) (rn : RegNo) (m : Mode5) (w : Bool) :
    Stays I E (debugTransfer nBit crd rn m w) :=
  .bind (.look _) fun _ => .ite S.takeUndefined (.bind (.look _) fun _ => .bind (refuseIf_stays _) fun _ => .pure _)

theorem debugLoad (nBit : Bool) (crd : BitVec 4) (rn : RegNo) (m : Mode5) : Stays I E (debugLoad nBit crd rn m) :=
  .bind (S.debugTransfer _ _ _ _ _) fun _ => .bind (.look _) fun _ => .bind (S.alignData _ _) fun _ =>
    .bind (S.readWordAt _ _) fun _ => .bind (S.frame.writeBase _ _) fun _ =>
      .bind (S.frame.update fun s => s.putWdtr_same _) fun _ => S.advance

theorem debugStore (nBit : Bool) (crd : BitVec 4) (rn : RegNo) (m : Mode5) : Stays I E (debugStore nBit crd rn m) :=
  .bind (S.debugTransfer _ _ _ _ _) fun _ => .bind (.look _) fun _ => .bind (S.alignData _ _) fun _ =>
    .bind (.look _) fun _ => .bind (S.writeWordAt _ _ _) fun _ => .bind (S.frame.writeBase _ _) fun _ =>
      .bind (S.frame.update fun s => s.tookRdtr_same) fun _ => S.advance

end Stable

end

/-! Maintenance operations -/

section

variable (s : State)

theorem State.setCommon_same {f : Cp15Common → Cp15Common} (hs : (f s.cp15).scr = s.cp15.scr)
    (hm : (f s.cp15).mvbar = s.cp15.mvbar) : SameView s (s.setCommon f) :=
  .of_mem (congrArg₂ (fun a b => { s.view with scr := a, mvbar := b }) hs hm) rfl

theorem State.setCopy_same {f : Cp15Banked → Cp15Banked} (h : ∀ b, (f b).view = b.view) : SameView s (s.setCopy f) :=
  s.setBankOf_same _ h

theorem State.barrierHalted_same : SameView s s.barrierHalted := by
  unfold State.barrierHalted
  exact .ite (s.stickDscr_same rfl) (.refl s)

theorem State.dataSync_same : SameView s s.dataSync := (s.passCode_same _ _ _).trans (State.barrierHalted_same _)

theorem State.flushBranches_same : SameView s s.flushBranches := s.passCode_same _ _ _

theorem State.flushPrefetch_same : SameView s s.flushPrefetch := .of_mem rfl rfl

theorem State.clearMasterValid_same (data : Bool) : SameView s (s.clearMasterValid data) := by
  cases data <;> exact .of_mem rfl rfl

theorem State.dropCode_same : SameView s s.dropCode :=
  ((s.passCode_same _ _ _).trans (State.flushBranches_same _)).trans (State.clearMasterValid_same _ _)

theorem State.invalidateCode_same : SameView s s.invalidateCode := s.dropCode_same.trans (State.flushPrefetch_same _)

theorem State.cleanInPlace_same (l : CacheLine) (a : Word) : SameView s (s.cleanInPlace l a) :=
  .ite ((s.cleanLine_same l a).trans (State.putLine_same _ _)) (.refl s)

theorem State.cleanLines_same (l : Lines) : SameView s (s.cleanLines l) :=
  .foldl (fun t c => t.cleanInPlace_same c _) _ s

theorem State.dropLines_same (p : CacheLine → Bool) : SameView s { s with dcache := s.dcache.filter p } := .of_mem rfl rfl

theorem State.invalidateLines_same (l : Lines) : SameView s (s.invalidateLines l) := by
  unfold State.invalidateLines
  exact .ite ((s.dropLines_same _).trans (State.clearMasterValid_same _ _)) (s.dropLines_same _)

theorem State.clearDirtyStatus_same : SameView s s.clearDirtyStatus := by
  unfold State.clearDirtyStatus
  exact .ite (.of_mem rfl rfl) (.of_mem rfl rfl)

theorem CacheOp.run_same (op : CacheOp) (l : Lines) : SameView s (op.run l s) := by
  cases op with
  | clean => exact s.cleanLines_same l
  | invalidate => exact s.invalidateLines_same l
  | cleanInvalidate => exact (s.cleanLines_same l).trans (State.invalidateLines_same _ l)

theorem State.dmaStop_same (c : Bool) : SameView s (s.dmaStop c) := by
  unfold State.dmaStop
  exact .ite (s.dmaComplete_same c) (.ite ((s.setChannel_same _ _).trans (State.promote_same _ _)) (.refl s))

theorem State.dmaStart_same (c : Bool) : SameView s (s.dmaStart c) := .ite (.refl s) (s.setChannel_same _ _)

theorem State.dmaClear_same (c : Bool) : SameView s (s.dmaClear c) :=
  .ite (.refl s) ((s.setChannel_same _ _).trans (State.promote_same _ _))

theorem State.tlbOperation_same (by_ : By) (v : Word) : SameView s (s.tlbOperation by_ v) := by
  cases by_ <;> exact .of_mem rfl rfl

theorem State.setPar_same (v : Word) : SameView s (s.setPar v) := s.setBankOf_same _ fun _ => rfl

theorem State.recolour_same : SameView s s.recolour := .of_mem rfl rfl

theorem State.writeAuxiliary_same (v : Word) : SameView s (s.writeAuxiliary v) := by
  have h : SameView s (s.setCommon fun c => { c with actlr := v &&& 0xF000007F#32 }) := s.setCommon_same rfl rfl
  exact .ite h (h.trans (State.recolour_same _))

theorem State.setTcm_same (data : Bool) (t : Tcm) : SameView s (s.setTcm data t) := by
  unfold State.setTcm
  cases data <;> exact s.setCommon_same rfl rfl

theorem State.writeTcmAccess_same (data : Bool) (v : Word) : SameView s (s.writeTcmAccess data v) :=
  .ite (s.setTcm_same _ _) (.refl s)

theorem State.writeTcmSelect_same (v : Word) : SameView s (s.writeTcmSelect v) :=
  .ite (.refl s) (s.setCopy_same fun _ => rfl)

theorem State.writeChannel_same (f : DmaChannel → DmaChannel) : SameView s (s.writeChannel f) :=
  .ite (.refl s) (s.setChannel_same _ _)

theorem State.writeMasterValid_same (data : Bool) (n : Nat) (v : Word) : SameView s (s.writeMasterValid data n v) := by
  unfold State.writeMasterValid
  cases data <;> exact s.setCommon_same rfl rfl

end

theorem onRange_stays {I E : State → Prop} {f : Word → Exec Unit} (h : ∀ a, Stays I E (f a)) (first last : Word) : Stays I E (onRange f first last) := by
  have lines (n : Nat) : ∀ va, Stays I E (eachLine f va n) := by
    induction n with
    | zero => exact fun _ => .pure _
    | succ n ih => exact fun _ => .bind (.look _) fun _ => .bind (h _) fun _ => ih _
  exact .ite (.pure _) (lines _ _)

/-- A change that the DMA engine may forbid. -/
theorem Post.guarded {I E : State → Prop} {g : State → Bool} {f : State → State} {s : State} (h : I (f s)) :
    Post I E ((do dmaGuard (← look g); Machine.update f) s) := by
  show Post I E ((dmaGuard (g s) >>= fun _ => Machine.update f) s)
  exact Post.bind (dmaGuard_stays (I := (· = s)) _ s rfl) fun _ t ht => ht ▸ h

section

variable {I E : State → Prop} (S : Accesses I E)
include S

namespace Accesses

/-- An abort of a maintenance operation writes fault registers of its own. -/
theorem maintenanceAbort (instr : Bool) (f : MmuFault) (mva : Word) : Stays I E (maintenanceAbort instr f mva) := by
  refine .bind S.frame.draw fun w => .endWith fun s hs => ?_
  have h (b : Cp15Banked → Cp15Banked) (hb : ∀ x, (b x).view = x.view) :
      E ((s.setBankOf (s.abortWorld f.error.isSome) b).dataAbort f mva (w.getLsbD 0)) :=
    S.dataAbort f mva _ (S.frame (s.setBankOf_same _ hb) hs)
  dsimp only
  split
  · exact S.frameE (State.setBankOf_same _ _ fun _ => rfl) (h _ fun _ => rfl)
  · exact h _ fun _ => rfl

theorem locate (instr : Bool) (mva : Word) : Stays I E (locate instr mva) := by
  intro s hs
  have h := s.lookup_same (!s.isSecure) (s.asidOf !s.isSecure) mva
  unfold Machine.locate
  dsimp only
  split
  · exact hs
  · split
    · rename_i e; rw [e] at h; exact S.frame h hs
    · rename_i e; rw [e] at h
      exact Stays.bind (S.maintenanceAbort _ _ _) (fun _ => .pure _) _ (S.frame h hs)
    · trivial

theorem cacheOperation (op : CacheOp) (l : Lines) : Stays I E (op.apply l) :=
  S.frame.update fun s => .ite ((CacheOp.run_same s op l).trans (State.clearDirtyStatus_same _)) (CacheOp.run_same s op l)

theorem cacheAtMva (op : CacheOp) (mva : Word) : Stays I E (op.atMva mva) :=
  .bind (S.locate _ _) fun _ => S.cacheOperation _ _

theorem cacheOn (op : CacheOp) (by_ : By) (v : Word) : Stays I E (op.on by_ v) := by
  cases by_ with
  | all => exact S.cacheOperation _ _
  | mva => exact S.cacheAtMva _ _
  | index => exact .bind (.look _) fun _ => S.cacheOperation _ _

theorem invalidateCodeMva (mva : Word) : Stays I E (invalidateCodeMva mva) :=
  .bind (S.locate _ _) fun _ => S.frame.update fun s => s.passCode_same _ _ _

theorem prefetchCode (mva : Word) : Stays I E (prefetchCode mva) := .bind (S.locate _ _) fun _ => .pure _

theorem codeOperation (by_ : By) (v : Word) : Stays I E (codeOperation by_ v) := by
  cases by_ with
  | all => exact S.frame.update fun s => s.invalidateCode_same
  | mva => exact S.invalidateCodeMva _
  | index => exact S.frame.update fun s => .of_mem rfl rfl

theorem translateVa (k : BitVec 3) (va : Word) : Stays I E (translateVa k va) := by
  intro s hs
  unfold Machine.translateVa
  dsimp only
  have h := s.translate_same (k.getLsbD 2 || !s.isSecure) (s.asidOf (k.getLsbD 2 || !s.isSecure))
    (s.fcse (k.getLsbD 2 || !s.isSecure) va) (if k.getLsbD 0 then .write else .read) (!k.getLsbD 1) .data
  split
  · rename_i e; rw [e] at h; exact S.frame (h.trans (State.setPar_same _ _)) hs
  · rename_i f t e
    rw [e] at h
    have hu := S.frame (SameView.trans h (t.setPar_same (parOfFault (f.shown (s.bankOf (k.getLsbD 2 || !s.isSecure))
      (s.fcse (k.getLsbD 2 || !s.isSecure) va))))) hs
    split
    · exact S.takeDataAbort _ _ _ _ hu
    · exact hu
  · trivial

end Accesses

end

/-! The registers that choose the world and place the vectors -/

namespace ControlOnly

variable {s t u : State}

theorem trans (h : ControlOnly s t) (k : ControlOnly t u) : ControlOnly s u where
  pc := k.pc.trans h.pc
  cpsr := k.cpsr.trans h.cpsr
  spsr := k.spsr.trans h.spsr
  halted := k.halted.trans h.halted
  mem := k.mem.trans h.mem
  bases := k.bases ∘ h.bases

end ControlOnly

/-- The vector base and the process ID of a world in their form. -/
def Cp15Banked.inForm (b : Cp15Banked) : Bool := b.vbar.extractLsb' 0 5 == 0 && b.fcse.extractLsb' 0 25 == 0

theorem State.basesAligned_iff (s : State) : s.basesAligned = true ↔
    s.secure.inForm = true ∧ s.nonSecure.inForm = true ∧ s.cp15.mvbar.extractLsb' 0 5 = 0 := by
  simp only [State.basesAligned, Cp15Banked.inForm, Bool.and_eq_true, beq_iff_eq]
  tauto

theorem State.setCopy_control (s : State) {f : Cp15Banked → Cp15Banked}
    (h : ∀ b : Cp15Banked, b.inForm = true → (f b).inForm = true) : ControlOnly s (s.setCopy f) := by
  unfold State.setCopy State.setBankOf
  cases s.copyNs
  · exact ⟨rfl, rfl, rfl, rfl, rfl, by simp only [State.basesAligned_iff]; exact And.imp_left (h _)⟩
  · exact ⟨rfl, rfl, rfl, rfl, rfl, by simp only [State.basesAligned_iff]; exact And.imp_right (And.imp_left (h _))⟩

theorem State.setCommon_control (s : State) {f : Cp15Common → Cp15Common}
    (h : s.cp15.mvbar.extractLsb' 0 5 = 0 → (f s.cp15).mvbar.extractLsb' 0 5 = 0) : ControlOnly s (s.setCommon f) :=
  ⟨rfl, rfl, rfl, rfl, rfl, by simp only [State.basesAligned_iff]; exact And.imp_right (And.imp_right h)⟩

theorem State.withControl_control (s : State) (v : Word) : ControlOnly s (s.withControl v) := by
  have hc : ControlOnly s (s.setCopy fun b => { b with sctlr := v &&& bankedControl }) := s.setCopy_control fun _ => id
  unfold State.withControl
  dsimp only
  split
  · exact hc.trans (State.setCommon_control _ id)
  · exact hc

theorem extractLsb'_and_of_clear {n : Nat} {v m : Word} (h : m.extractLsb' 0 n = 0) : (v &&& m).extractLsb' 0 n = 0 := by
  rw [BitVec.extractLsb'_and, h]
  exact BitVec.and_zero

theorem Cp15Banked.inForm_vbar {b : Cp15Banked} (h : b.inForm = true) (v : Word) :
    Cp15Banked.inForm { b with vbar := v &&& 0xFFFFFFE0#32 } = true := by
  unfold Cp15Banked.inForm at h ⊢
  rw [extractLsb'_and_of_clear (by decide)]
  exact (Bool.and_eq_true_iff.mp h).2

theorem Cp15Banked.inForm_fcse {b : Cp15Banked} (h : b.inForm = true) (v : Word) :
    Cp15Banked.inForm { b with fcse := v &&& 0xFE000000#32 } = true := by
  unfold Cp15Banked.inForm at h ⊢
  rw [extractLsb'_and_of_clear (by decide)]
  exact Bool.and_eq_true_iff.mpr ⟨(Bool.and_eq_true_iff.mp h).1, rfl⟩

/-- The registers that a claim looks at. -/
def Cp15.placesVectors : Cp15 → Bool
  | .sctlr | .scr | .vbar | .mvbar | .fcse => true
  | _ => false

/-- Only a privileged instruction, or one in Debug state, may write them. -/
theorem Cp15.privileged_of_writable {r : Cp15} {s : State} (hr : r.placesVectors = true) (hw : r.writable s = true) :
    s.privileged = true ∨ s.halted = true := by
  have h : s.cp15Privileged = true := by
    cases r <;> cases hr <;> simp_all [Cp15.writable, Cp15.readable]
  unfold State.cp15Privileged at h
  rcases Bool.or_eq_true_iff.mp h with h | h
  · exact .inl h
  · exact .inr (Bool.and_eq_true_iff.mp h).1

section

variable {strict restores : Prop} {I E : State → Prop} (S : Stable strict restores I E)
include S

namespace Stable

theorem changeTables {f : Cp15Banked → Cp15Banked} (h : ∀ b, (f b).view = b.view) : Stays I E (changeTables f) :=
  fun s hs => Post.guarded (S.frame (s.setCopy_same h) hs)

theorem replaceLock (f : State → TlbEntry) : Stays I E (replaceLock f) :=
  fun s hs => Post.guarded (S.frame (s.setCommon_same rfl rfl) hs)

theorem cp15Common {f : State → Cp15Common → Cp15Common} (hs : ∀ s c, (f s c).scr = c.scr) (hm : ∀ s c, (f s c).mvbar = c.mvbar) :
    Stays I E (update fun s => s.setCommon (f s)) := S.frame.update fun s => s.setCommon_same (hs s _) (hm s _)

theorem cp15Copy {f : Cp15Banked → Cp15Banked} (h : ∀ b, (f b).view = b.view) : Stays I E (update fun s => s.setCopy f) :=
  S.frame.update fun s => s.setCopy_same h

/-- A write of a register that no claim looks at. -/
theorem writeOther {r : Cp15} (hr : r.placesVectors = false) (v : Word) : Stays I E (r.write v) := by
  unfold Cp15.write
  refine .bind (.look _) fun shared => ?_
  cases r
  case sctlr | scr | vbar | mvbar | fcse => cases hr
  case ident | cacheType | tcmStatus | cacheDirty | dmaIdent | dmaStatus | interruptStatus | noOp | valCounter
    | valOperation => exact .pure _
  case ttbr0 | ttbr1 | ttbcr | dacr => exact S.changeTables fun _ => rfl
  case dfsr | ifsr | far | ifar | par | tidUserRw | tidUserRo | tidPriv | ppmr => exact S.cp15Copy fun _ => rfl
  case cpacr | sder | dLock | iLock | cbor | tlbLockdown | dmaUser | dmaChannel | savc | ccnt | count | lockIndex
    | pmnc => exact S.cp15Common (fun _ _ => rfl) fun _ _ => rfl
  case actlr => exact S.frame.update fun s => s.writeAuxiliary_same v
  case nsacr => exact fun s hs => Post.guarded (S.frame (s.setCommon_same rfl rfl) hs)
  case wfar => exact S.frame.update fun s => .of_mem rfl rfl
  case wfi | dsb => exact S.frame.update State.dataSync_same
  case dmb => exact S.frame.update State.barrierHalted_same
  case flushPrefetch => exact S.frame.update State.flushPrefetch_same
  case flushBranches => exact S.frame.update State.flushBranches_same
  case flushBranchEntry => exact S.frame.update fun s => .of_mem rfl rfl
  case invalidateCode by_ => exact S.codeOperation by_ v
  case prefetchCode => exact S.prefetchCode v
  case dataCache op by_ => exact S.cacheOn op by_ v
  case invalidateBoth => exact .bind (S.frame.update State.dropCode_same) fun _ => S.cacheOperation _ _
  case vaToPa k => exact S.translateVa k v
  case tlb by_ => exact .bind (dmaGuard_stays _) fun _ => S.frame.update fun s => s.tlbOperation_same by_ v
  case tcmRegion data => exact fun s hs => Post.guarded (S.frame (s.setTcm_same _ _) hs)
  case tcmAccess data => exact S.frame.update fun s => s.writeTcmAccess_same data v
  case tcmSelect => exact S.frame.update fun s => s.writeTcmSelect_same v
  case prrr | nmrr => exact .bind (dmaGuard_stays _) fun _ => S.cp15Copy fun _ => rfl
  case dmaCommand k =>
    exact S.frame.update fun s => .ite (s.dmaStop_same _) (.ite (s.dmaStart_same _) (s.dmaClear_same _))
  case dmaControl | dmaIntStart | dmaExtStart | dmaIntEnd | dmaContext =>
    exact S.frame.update fun s => s.writeChannel_same _
  case contextId =>
    refine S.frame.update fun s => ?_
    have h : SameView s (s.setCopy fun b => { b with contextId := v }) := s.setCopy_same fun _ => rfl
    exact h.trans (State.flushBranches_same _)
  case cacheSizeMask => exact .ite (.refuse _) (.pure _)
  case masterValid data n => exact S.frame.update fun s => s.writeMasterValid_same data n v
  case lockVa | lockPa | lockAttr => exact S.replaceLock _

/-- A write of a register that chooses the world or places the vectors. -/
theorem writeControl {r : Cp15} (hr : r.placesVectors = true) (v : Word) {s : State} (hs : I s)
    (hp : s.privileged = true ∨ s.halted = true) : Post I E (r.write v s) := by
  have put {t : State} (h : ControlOnly s t) : I t := S.control s t hs hp h
  unfold Cp15.write
  rw [exec_bind_ok (look_run _ s)]
  cases r <;> cases hr
  case sctlr => exact Post.guarded (f := fun s => s.withControl v) (put (s.withControl_control v))
  case scr => exact Post.update (put (s.setCommon_control id))
  case vbar => exact Post.update (put (s.setCopy_control fun b h => b.inForm_vbar h v))
  case mvbar => exact Post.update (put (s.setCommon_control fun _ => extractLsb'_and_of_clear (by decide)))
  case fcse =>
    have h : Post I E (Machine.changeTables (fun b => { b with fcse := v &&& 0xFE000000#32 }) s) :=
      Post.guarded (put (s.setCopy_control fun b h => b.inForm_fcse h v))
    exact Post.bind (J := I) h fun _ t ht => S.frame t.flushBranches_same ht

theorem writeRegister {r : Cp15} (v : Word) {s : State} (hs : I s) (hw : r.writable s = true) :
    Post I E (r.write v s) := by
  cases hr : r.placesVectors
  · exact S.writeOther hr v s hs
  · exact S.writeControl hr v hs (Cp15.privileged_of_writable hr hw)

theorem cp15Read (crn : BitVec 4) (op1 : BitVec 3) (crm : BitVec 4) (op2 : BitVec 3) (rd : RegNo) :
    Stays I E (cp15Read crn op1 crm op2 rd) := by
  unfold Machine.cp15Read
  cases Cp15.of? crn op1 crm op2 with
  | none => exact S.takeUndefined
  | some r =>
    refine .bind (.look _) fun _ => .ite S.takeUndefined (.bind (.look _) fun v => ?_)
    cases v with
    | some v => exact .ite (.bind S.openFlags fun _ => S.advance) (S.finishReg _ _)
    | none => exact S.advance

theorem cp15Write (crn : BitVec 4) (op1 : BitVec 3) (crm : BitVec 4) (op2 : BitVec 3) (rd : RegNo) :
    Stays I E (cp15Write crn op1 crm op2 rd) := by
  unfold Machine.cp15Write
  cases Cp15.of? crn op1 crm op2 with
  | none => exact S.takeUndefined
  | some r =>
    intro s hs
    dsimp only
    rw [exec_bind_ok (look_run _ s)]
    cases hw : r.writable s
    · exact S.takeUndefined s hs
    · rw [if_neg (by decide)]
      split
      · trivial
      · rw [exec_bind_ok (look_run _ s)]
        exact Post.bind (J := I) (S.writeRegister (s.reg rd) hs hw) fun _ t ht => S.advance t ht

theorem cp15Range (op1 crm : BitVec 4) (rd rn : RegNo) : Stays I E (cp15Range op1 crm rd rn) := by
  unfold Machine.cp15Range
  cases RangeOp.of? op1 crm with
  | none => exact S.takeUndefined
  | some r =>
    refine .bind (.look _) fun _ => .ite S.takeUndefined (.ite (.refuse _) (.bind (.look _) fun _ => .bind (.look _) fun _ =>
      .bind (onRange_stays ?_ _ _) fun _ => S.advance))
    cases r with
    | invalidateCode => exact S.invalidateCodeMva
    | dataCache op => exact S.cacheAtMva op

end Stable

end

/-! The VFP11 -/

theorem State.setFp_same (s : State) (p : Prec) (n : BitVec 5) (v : DWord) : SameView s (s.setFp p n v) := by
  cases p with
  | single => exact s.setSingle_same _ _
  | double => exact (s.setSingle_same _ _).trans (State.setSingle_same _ _ _)

theorem State.setFpscr_same (s : State) (v : Word) : SameView s (s.setFpscr v) := .of_mem rfl rfl

theorem State.writeFpReg_same (s : State) (r : FpReg) (v : Word) : SameView s (s.writeFpReg r v) := by
  cases r <;> exact .of_mem rfl rfl

theorem checkCount_stays {I E : State → Prop} (p : Prec) (d : BitVec 5) (n : Nat) (wb : Bool) (rn : RegNo) :
    Stays I E (checkCount p d n wb rn) := .ite (.refuse _) (.ite (.refuse _) (.pure _))

theorem checkPair_stays {I E : State → Prop} (rd rn : RegNo) (toCore last : Bool) :
    Stays I E (checkPair rd rn toCore last) := .ite (.refuse _) (.pure _)

section

variable {I E : State → Prop}

/-- The iterations of a short vector do what one iteration does. -/
theorem vectorFrom_stays {body : BitVec 5 → BitVec 5 → BitVec 5 → Nat → Exec Bool}
    (h : ∀ d n m k, Stays I E (body d n m k)) (p : Prec) (stride : Nat) (d n m : BitVec 5) (i k : Nat) :
    Stays I E (vectorFrom p stride d n m body i k) := by
  induction k generalizing i with
  | zero => exact .pure _
  | succ k ih => exact .bind (h _ _ _ _) fun _ => .ite (ih _) (.pure _)

theorem shortVector_stays {body : BitVec 5 → BitVec 5 → BitVec 5 → Nat → Exec Bool}
    (h : ∀ d n m k, Stays I E (body d n m k)) (p : Prec) (d n m : BitVec 5) (useN : Bool) :
    Stays I E (shortVector p d n m useN body) := by
  intro s hs
  unfold shortVector
  split
  · exact Stays.bind (h _ _ _ _) (fun _ => .pure _) s hs
  · dsimp only
    generalize (if m.toNat < p.bank then [] else p.sequence s.vectorStride s.vectorLength m) = ms
    split
    · trivial
    · split
      · trivial
      · exact vectorFrom_stays h _ _ _ _ _ _ _ s hs

theorem Framed.settle (F : Framed I) {put : DWord → State → State} (h : ∀ r s, SameView s (put r s)) (word : Word) (n : Nat)
    (v : Verdict) : Stays I E (settle word n put v) := by
  cases v with
  | bounce f => exact .bind (F.update fun s => .of_mem rfl rfl) fun _ => .pure _
  | done r => exact .bind (F.update fun s => (h _ s).trans (State.setFpscr_same _ _)) fun _ => .pure _

theorem Framed.iterate (F : Framed I) (p : Prec) (op : FpOp) (base : Word) (d n m : BitVec 5) (k : Nat) :
    Stays I E (iterate p op base d n m k) :=
  .bind (.look _) fun _ => F.settle (fun _ s => s.setFp_same _ _ _) _ _ _

theorem Framed.moveOne (F : Framed I) (p : Prec) (f : DWord → DWord) (d n m : BitVec 5) (k : Nat) :
    Stays I E (moveOne p f d n m k) := .bind (F.update fun s => s.setFp_same _ _ _) fun _ => .pure _

theorem Framed.readFpReg (F : Framed I) (r : FpReg) : Stays I E (readFpReg r) := by
  cases r
  case fpinst2 => exact .bind (.look _) fun _ => .ite (.look _) F.draw
  all_goals exact .look _

end

section

variable {strict restores : Prop} {I E : State → Prop} (S : Stable strict restores I E)
include S

namespace Stable

theorem vfpAccess (cp11 sys : Bool) : Stays I E (vfpAccess cp11 sys) :=
  .branch S.takeUndefined (.branch S.takeUndefined (.branch (.refuse _) (.branch S.takeUndefined (.pure _))))

theorem vfpReady (cp11 : Bool) : Stays I E (vfpReady cp11) :=
  .bind (S.vfpAccess _ _) fun _ => .bind (.look _) fun _ => .ite S.takeUndefined (.pure _)

theorem inexactBounce : Stays I E inexactBounce := by
  intro s hs
  unfold Machine.inexactBounce
  split
  · exact S.undefined (S.frame (s := s) (.of_mem rfl rfl) hs)
  · exact hs

theorem vectorArithmetic (p : Prec) (op : FpOp) (base : Word) (d n m : BitVec 5) :
    Stays I E (vectorArithmetic p op base d n m) :=
  .bind (S.vfpReady _) fun _ => .bind S.inexactBounce fun _ => .bind (.look _) fun _ => .ite (.refuse _)
    (.bind (shortVector_stays (S.frame.iterate p op base) _ _ _ _ _) fun _ => S.advance)

theorem vectorMove (p : Prec) (f : DWord → DWord) (d m : BitVec 5) : Stays I E (vectorMove p f d m) :=
  .bind (S.vfpReady _) fun _ => .bind (shortVector_stays (S.frame.moveOne p f) _ _ _ _ _) fun _ => S.advance

theorem scalarOnly (cp11 : Bool) (word : Word) (v : State → Verdict) {put : DWord → State → State}
    (h : ∀ r s, SameView s (put r s)) : Stays I E (scalarOnly cp11 word v put) :=
  .bind (S.vfpReady _) fun _ => .bind S.inexactBounce fun _ => .bind (.look _) fun _ =>
    .bind (S.frame.settle h _ _ _) fun _ => S.advance

theorem fpCompare (p : Prec) (signal : Bool) (base : Word) (d : BitVec 5) (m : Option (BitVec 5)) :
    Stays I E (fpCompare p signal base d m) := S.scalarOnly _ _ _ fun _ s => s.setFpscr_same _

theorem fpFromInt (p : Prec) (value : Word → Int) (base : Word) (d m : BitVec 5) : Stays I E (fpFromInt p value base d m) :=
  S.scalarOnly _ _ _ fun _ s => s.setFp_same _ _ _

theorem fpToInt (p : Prec) (signed zero : Bool) (base : Word) (d m : BitVec 5) : Stays I E (fpToInt p signed zero base d m) :=
  S.scalarOnly _ _ _ fun _ s => s.setFp_same _ _ _

theorem fpLoad (many : Option Prec) (rn : RegNo) (start : Word) (back : Option Word) (rs : List (BitVec 5)) :
    Stays I E (fpLoad many rn start back rs) :=
  .bind (.look _) fun _ => .bind (S.alignData _ _) fun _ => .bind (S.readSingles _ _ _ _ _) fun _ =>
    .bind (S.frame.update fun s => s.putSingles_same _) fun _ => .bind (S.frame.writeBase _ _) fun _ => S.advance

theorem fpStore (rn : RegNo) (start : Word) (back : Option Word) (rs : List (BitVec 5)) :
    Stays I E (fpStore rn start back rs) :=
  .bind (.look _) fun _ => .bind (S.storeBlock _ _) fun _ => .bind (S.frame.writeBase _ _) fun _ => S.advance

theorem fpLoadOne (p : Prec) (u : Bool) (rn : RegNo) (d : BitVec 5) (imm : BitVec 8) : Stays I E (fpLoadOne p u rn d imm) :=
  .bind (S.vfpReady _) fun _ => .bind (.look _) fun _ => .bind (.look _) fun _ => S.fpLoad _ _ _ _ _

theorem fpStoreOne (p : Prec) (u : Bool) (rn : RegNo) (d : BitVec 5) (imm : BitVec 8) : Stays I E (fpStoreOne p u rn d imm) :=
  .bind (S.vfpReady _) fun _ => .bind (.look _) fun _ => .bind (.look _) fun _ => S.fpStore _ _ _ _

theorem fpLoadMany (p : Prec) (up wb : Bool) (rn : RegNo) (d : BitVec 5) (count words : Nat) :
    Stays I E (fpLoadMany p up wb rn d count words) :=
  .bind (S.vfpReady _) fun _ => .bind (checkCount_stays _ _ _ _ _) fun _ => .bind (.look _) fun _ => .bind (.look _) fun _ =>
    S.fpLoad _ _ _ _ _

theorem fpStoreMany (p : Prec) (up wb : Bool) (rn : RegNo) (d : BitVec 5) (count words : Nat) :
    Stays I E (fpStoreMany p up wb rn d count words) :=
  .bind (S.vfpReady _) fun _ => .bind (checkCount_stays _ _ _ _ _) fun _ => .bind (.look _) fun _ => .bind (.look _) fun _ =>
    S.fpStore _ _ _ _

theorem fpFromCore (cp11 : Bool) (sources : List RegNo) {f : State → State} (h : ∀ s, SameView s (f s)) :
    Stays I E (fpFromCore cp11 sources f) :=
  .bind (S.vfpReady _) fun _ => .bind (noPc_stays _) fun _ => .bind (S.frame.update h) fun _ => S.advance

theorem fpToCore (cp11 : Bool) (rd : RegNo) (value : State → Word) : Stays I E (fpToCore cp11 rd value) :=
  .bind (S.vfpReady _) fun _ => .bind (noPc_stays _) fun _ => .bind (.look _) fun _ => S.finishReg _ _

theorem fpFromPair (cp11 last : Bool) (rd rn : RegNo) (a b : BitVec 5) : Stays I E (fpFromPair cp11 last rd rn a b) :=
  .bind (S.vfpReady _) fun _ => .bind (checkPair_stays _ _ _ _) fun _ =>
    .bind (S.frame.update fun s => (s.setSingle_same _ _).trans (State.setSingle_same _ _ _)) fun _ => S.advance

theorem fpToPair (cp11 last : Bool) (rd rn : RegNo) (a b : BitVec 5) : Stays I E (fpToPair cp11 last rd rn a b) :=
  .bind (S.vfpReady _) fun _ => .bind (checkPair_stays _ _ _ _) fun _ => .bind (.look _) fun _ => .bind (.look _) fun _ =>
    .bind (.update fun _ hs => S.setReg _ _ hs) fun _ => S.finishReg _ _

theorem fpSystem (sysReg : BitVec 4) : Stays I E (fpSystem sysReg) := by
  refine .bind (S.vfpAccess _ _) fun _ => .bind (.look _) fun _ => .ite S.takeUndefined (.bind (.look _) fun _ => ?_)
  cases FpReg.of? sysReg with
  | none => exact S.takeUndefined
  | some r => exact .ite S.takeUndefined (.pure _)

/-! Coprocessor instructions -/

theorem noCoprocessor (cp : BitVec 4) : Stays I E (noCoprocessor cp) := by
  have absent (cp11 : Bool) {m : Exec Unit} (h : Stays I E m) : Stays I E (do Machine.vfpAccess cp11 false; m) :=
    .bind (S.vfpAccess _ _) fun _ => h
  have second := Stays.ite (c := cp = 11) (absent true S.takeUndefined) S.takeUndefined
  exact .ite (absent false second) second

theorem coprocWrite (cp : BitVec 4) (op1 : BitVec 3) (crn crm : BitVec 4) (op2 : BitVec 3) (rd : RegNo) :
    Stays I E (coprocWrite cp op1 crn crm op2 rd) :=
  .ite (S.cp15Write _ _ _ _ _) (.ite (S.cp14Write _ _ _ _ _) (S.noCoprocessor _))

theorem coprocRead (cp : BitVec 4) (op1 : BitVec 3) (crn crm : BitVec 4) (op2 : BitVec 3) (rd : RegNo) :
    Stays I E (coprocRead cp op1 crn crm op2 rd) :=
  .ite (S.cp15Read _ _ _ _ _) (.ite (S.cp14Read _ _ _ _ _) (S.noCoprocessor _))

theorem coprocLoad (cp : BitVec 4) (nBit : Bool) (crd : BitVec 4) (rn : RegNo) (m : Mode5) :
    Stays I E (coprocLoad cp nBit crd rn m) := .ite (S.debugLoad _ _ _ _) (S.noCoprocessor _)

theorem coprocStore (cp : BitVec 4) (nBit : Bool) (crd : BitVec 4) (rn : RegNo) (m : Mode5) :
    Stays I E (coprocStore cp nBit crd rn m) := .ite (S.debugStore _ _ _ _) (S.noCoprocessor _)

end Stable

end

/-- The branches of Thumb state, whose targets are halfwords. -/
def branchesByHalfwords : Instr → Bool
  | .tB1 _ _ | .tB2 _ | .tBlSuffix _ => true
  | _ => false

theorem no_return_of_ne {restores : Prop} {sf : Bool} {rd : RegNo} (h : rd ≠ 15) :
    (sf && rd == 15) = true → restores := fun hp =>
  absurd (beq_iff_eq.mp (Bool.and_eq_true_iff.mp hp).2) h

theorem bitAt_one_mod (b : Bool) : (bitAt b 1).toNat % 2 = 0 := by cases b <;> rfl

section

variable {strict restores : Prop} {I E : State → Prop} (S : Stable strict restores I E)
include S

namespace Stable

theorem sound {m : Exec Unit} {s : State} (hs : I s) (h : Stays I E m) : Sound E (outcome m s) := (h s hs).sound S.done

/-! Branches -/

theorem branchByWords (off : Word) (h : off.toNat % 4 = 0) : Stays I E (update fun s => s.branchBy (s.readPc + off)) :=
  .update fun _ hs => S.branchBy _ hs fun h' => fitsPc_add (S.fitsReadPc h' hs) h

theorem branchByHalfwords (off : Word) (h : off.toNat % 2 = 0) {s : State} (hs : I s) (ht : strict → s.cpsr.t = true) :
    I (s.branchBy (s.readPc + off)) := by
  refine S.branchBy _ hs fun h' => ?_
  have hr := S.fitsReadPc h' hs
  rw [ht h'] at hr ⊢
  exact fitsPc_true_add hr h

theorem branchWithLink (off : Word) (h : off.toNat % 4 = 0) : Stays I E (do
    let target ← look fun s => s.readPc + off
    Machine.link 4 0
    update fun s => s.branchBy target) := fun s hs =>
  S.branchBy (s := s.setReg 14 _) _ (S.setReg _ _ hs) fun h' => fitsPc_add (S.fitsReadPc (s := s) h' hs) h

/-- A branch to Thumb state. -/
theorem linkToThumb (h : Bool) (off : Word) (hoff : off.toNat % 4 = 0) : Stays I E (do
    let target ← look fun s => s.readPc + off + bitAt h 1
    Machine.linkToThumb target) := by
  intro s hs
  have branch (u : State) (a : Word) (hv : u.view = { s.view with cpsr := { s.cpsr with t := true } }) (hm : u.mem = s.mem)
      (ha : strict → fitsPc true a = true) : I (u.branchBy a) := by
    have ht : u.cpsr.t = true := by rw [show u.cpsr = _ from congrArg View.cpsr hv]
    have hb (a : Word) : (u.branchTo a).view = { s.view with pc := a, cpsr := { s.cpsr with t := true } } :=
      congrArg (fun v : View => { v with pc := a }) hv
    cases hh : u.halted
    · rw [State.branchBy_of_running a hh]
      exact S.moveTo hs (hb _) hm ha
    · rw [State.branchBy_of_halted a hh, State.branchKeep, if_pos ht]
      exact S.moveTo hs (hb _) hm fun _ => fitsPc_true_of_masked a
  exact branch _ _ rfl rfl fun h' =>
    fitsPc_true_add (fitsPc_true_of_fits (fitsPc_add (S.fitsReadPc h' hs) hoff)) (bitAt_one_mod h)

theorem clearExclusive : Stays I E (do update fun s => { s with exclLocal := false }; Machine.advance) :=
  .bind (S.frame.update fun _ => .of_mem rfl rfl) fun _ => S.advance

/-- The branch of Thumb state that has a condition. -/
theorem branchIf (c : Cond) (imm : BitVec 8) {s : State} (ht : strict → s.cpsr.t = true) (hs : I s) :
    Sound E (execTB1 c imm s) := by
  refine Post.sound (I := I) S.done ?_
  unfold Machine.conditionalBranch
  split
  · exact S.branchByHalfwords _ (shiftLeft_one_mod _) hs ht
  · split
    · exact Stays.bind S.frame.draw (fun v => .update fun _ hs => S.branchKeep v hs) s hs
    · exact S.advance s hs

/-- The second halfword of BL. -/
theorem branchLinked (imm : BitVec 11) {s : State} (ht : strict → s.cpsr.t = true) (hs : I s) :
    Sound E (execTBlSuffix imm s) := by
  refine Post.sound (I := I) S.done ?_
  refine S.move (S.setReg _ _ hs) rfl rfl fun h => ?_
  rw [show (s.setReg 14 _).cpsr.t = true from ht h]
  exact fitsPc_true_of_masked _

/-- The second halfword of BLX, which goes on in ARM state. -/
theorem branchToArm (imm : BitVec 10) {s : State} (hs : I s) : Sound E (execTBlx1Suffix imm s) :=
  Post.sound (I := I) S.done (S.moveTo (S.setReg _ _ hs) rfl rfl fun _ => fitsPc_false_of_masked _)

theorem lookThenReg {f : State → Word} {n : RegNo} : Stays I E (do let v ← look f; Machine.finishReg n v) :=
  .bind (.look _) fun _ => S.finishReg _ _

theorem finishHigh (rd : RegNo) (v : Word) : Stays I E (finishHigh rd v) :=
  .ite (.update fun _ hs => S.branchKeep v hs) (S.finishReg _ _)

/-! Status and exception returns -/

theorem loadMultipleReturn (hr : restores) (p u wb : Bool) (rn : RegNo) (regs : BitVec 15) : Stays I E (do
    exceptionModeOnly
    let rs := listed (regs.setWidth 16) ++ [15]
    checkLoadList wb rn rs
    let before ← look id
    let k ← look fun s => block p u (s.reg rn) rs.length
    let ws ← Machine.loadBlock true (← look fun s => s.cpsr.mode) rn rs k.start
    writeBase rn (if wb then some k.back else none)
    update fun s => s.putRegs s.cpsr.mode ws
    let v ← currentSpsr
    Machine.exceptionReturn before v (pcWord ws)) := by
  refine .bind exceptionModeOnly_stays fun _ => .bind (checkLoadList_stays _ _ _) fun _ => .bind (.look _) fun before =>
    .bind (.look _) fun _ => .bind (.look _) fun _ => .bind (S.loadBlock _ _ _ _ _) fun ws =>
      .bind (S.frame.writeBase _ _) fun _ => .bind (S.frame.update fun s => s.putRegs_same _ _) fun _ s hs => ?_
  cases hp : s.spsr.get? s.cpsr.mode with
  | none => rw [exec_bind_error (currentSpsr_none hp)]; trivial
  | some v =>
    rw [exec_bind_ok (currentSpsr_run hp)]
    exact S.exceptionReturn hr before v _ hs (State.privileged_of_spsr hp)

/-- RFE, which User mode does not have. -/
theorem returnFrom (hr : restores) (p u wb : Bool) (rn : RegNo) {s : State} (hs : I s) :
    Sound E (execRfe p u wb rn s) := by
  refine Post.sound (I := I) S.done ?_
  rw [exec_bind_ok (look_run _ s)]
  cases hp : s.privileged
  · trivial
  · have T : Accesses (fun s => I s ∧ s.privileged = true) E :=
      S.toAccesses.and (fun s t h hp => by rw [← hp, State.privileged, State.privileged, h.cpsr]) fun _ _ => id
    split
    · trivial
    · rw [exec_bind_ok (look_run _ s), exec_bind_ok (look_run _ s)]
      refine Post.bind (T.alignData _ _ s ⟨hs, hp⟩) fun _ s hs => Post.bind (T.readWordAt _ _ s hs) fun _ s hs =>
        Post.bind (T.frame.dmaInterval s hs) fun _ s hs => Post.bind (T.readWordAt _ _ s hs) fun _ s hs =>
          Post.bind (T.frame.writeBase _ _ s hs) fun _ s hs => ?_
      exact S.exceptionReturn hr _ _ _ hs.1 hs.2

theorem storeReturn (p u wb : Bool) (mode : BitVec 5) {s : State} (hs : I s) : Sound E (execSrs p u wb mode s) := by
  refine S.sound hs (.bind currentSpsr_stays fun _ => .bind (.look _) fun _ => .ite S.takeUndefined ?_)
  cases Mode.ofBits? mode with
  | none => exact .refuse _
  | some m =>
    exact .bind (.look _) fun _ => .bind (.look _) fun _ => .bind (S.storeBlock _ _) fun _ =>
      .bind (S.frame.update fun s => .ite (s.setRegOf_same _ _ _) (.refl s)) fun _ => S.advance

/-- Every instruction, begun where `I` holds, ends where `E` holds, or is refused; none has a fault. -/
theorem exec (i : Instr) (hr : restoresStatus i = true → restores) {s : State}
    (ht : strict → branchesByHalfwords i = true → s.cpsr.t = true) (hs : I s) : Sound E (exec i s) := by
  have low {P : Prop} {sf : Bool} (r : LowReg) : (sf && low r == 15) = true → P := no_return_of_ne (low_ne_pc r)
  cases i
  case cps | tCps => exact S.sound hs (.ite (.refuse _) (S.changeState _ _ _ _ _ _))
  case setend | tSetend => exact S.sound hs (S.setEndian _)
  case clrex => exact S.sound hs S.clearExclusive
  case pldImm | nop | yield | nopReservedHint => exact S.sound hs S.advance
  case pldReg => exact S.sound hs (.bind (noPc_stays _) fun _ => S.advance)
  case srs => exact S.storeReturn _ _ _ _ hs
  case rfe => exact S.returnFrom (hr rfl) _ _ _ _ hs
  case bkpt | tBkpt => exact S.sound hs S.softwareBreakpoint
  case smc => exact S.sound hs (S.conditional _ S.monitorCall)
  case svc => exact S.sound hs (S.conditional _ S.supervisorCall)
  case tSvc => exact S.sound hs S.supervisorCall
  case mrs =>
    exact S.sound hs (S.conditional _ (.bind (noPc_stays _) fun _ => .bind (.look _) fun _ =>
      .ite (.bind currentSpsr_stays fun _ => S.finishReg _ _) (.bind (.pure _) fun _ => S.finishReg _ _)))
  case msrReg r _ _ =>
    exact S.sound hs (S.conditional _ (.bind (noPc_stays _) fun _ => .bind (.look _) fun _ =>
      S.writeStatus _ (fun h => hr (by rw [h]; rfl)) _ _))
  case msrImm r _ _ _ => exact S.sound hs (S.conditional _ (S.writeStatus _ (fun h => hr (by rw [h]; rfl)) _ _))
  -- branches
  case blxImm => exact S.sound hs (S.linkToThumb _ _ (shiftLeft_two_mod _))
  case b => exact S.sound hs (S.conditionalBranch _ (S.branchByWords _ (shiftLeft_two_mod _)))
  case bl => exact S.sound hs (S.conditionalBranch _ (S.branchWithLink _ (shiftLeft_two_mod _)))
  case bx => exact S.sound hs (S.conditionalBranch _ (.bind (.look _) fun _ => S.bxWritePc _))
  case bxj =>
    exact S.sound hs (S.conditionalBranch _ (.bind (noPc_stays _) fun _ => .bind (.look _) fun _ => S.bxWritePc _))
  case blxReg =>
    exact S.sound hs (S.conditionalBranch _ (.bind (noPc_stays _) fun _ => .bind (.look _) fun _ =>
      .bind (S.link _ _) fun _ => S.bxWritePc _))
  case tBx => exact S.sound hs (.bind (.look _) fun _ => S.bxWritePc _)
  case tBlx2 =>
    exact S.sound hs (.bind (noPc_stays _) fun _ => .bind (.look _) fun _ => .bind (S.link _ _) fun _ => S.bxWritePc _)
  case tB1 => exact S.branchIf _ _ (fun h => ht h rfl) hs
  case tB2 =>
    show Sound E (execTB2 _ s)
    exact Post.sound S.done (S.branchByHalfwords _ (shiftLeft_one_mod _) hs fun h => ht h rfl)
  case tBlSuffix => exact S.branchLinked _ (fun h => ht h rfl) hs
  case tBlx1Suffix => exact S.branchToArm _ hs
  -- data processing
  case andImm | andShift | eorImm | eorShift | orrImm | orrShift | bicImm | bicShift =>
    exact S.sound hs (S.conditional _ (S.dpLogical hr _ _ _))
  case andRegShift | eorRegShift | orrRegShift | bicRegShift =>
    exact S.sound hs (S.conditional _ (noPc_then fun h => S.dpLogical (no_return_of_ne (List.ne_of_not_mem_cons h).symm) _ _ _))
  case subImm | subShift | rsbImm | rsbShift | addImm | addShift | adcImm | adcShift | sbcImm | sbcShift | rscImm
    | rscShift => exact S.sound hs (S.conditional _ (S.dpArithmetic hr _ _ _))
  case subRegShift | rsbRegShift | addRegShift | adcRegShift | sbcRegShift | rscRegShift =>
    exact S.sound hs (S.conditional _ (noPc_then fun h => S.dpArithmetic (no_return_of_ne (List.ne_of_not_mem_cons h).symm) _ _ _))
  case movImm | movShift | mvnImm | mvnShift => exact S.sound hs (S.conditional _ (S.dpMove hr _ _))
  case movRegShift | mvnRegShift =>
    exact S.sound hs (S.conditional _ (noPc_then fun h => S.dpMove (no_return_of_ne (List.ne_of_not_mem_cons h).symm) _ _))
  case cpy => exact S.sound hs (S.conditional _ (S.dpMove Bool.noConfusion _ _))
  case tstImm | tstShift | teqImm | teqShift => exact S.sound hs (S.conditional _ (S.dpTest _ _ _))
  case tstRegShift | teqRegShift => exact S.sound hs (S.conditional _ (.bind (noPc_stays _) fun _ => S.dpTest _ _ _))
  case cmpImm | cmpShift | cmnImm | cmnShift => exact S.sound hs (S.conditional _ (S.dpCompare _ _ _))
  case cmpRegShift | cmnRegShift => exact S.sound hs (S.conditional _ (.bind (noPc_stays _) fun _ => S.dpCompare _ _ _))
  case tMov2 | tAdd3 | tSub3 | tAdd1 | tSub1 | tAdd2 | tSub2 | tAdc | tSbc | tNeg =>
    exact S.sound hs (S.dpArithmetic (low _) _ _ _)
  case tLsl1 | tLsr1 | tAsr1 | tMov1 | tLsl2 | tLsr2 | tAsr2 | tRor | tMvn => exact S.sound hs (S.dpMove (low _) _ _)
  case tAnd | tEor | tOrr | tBic => exact S.sound hs (S.dpLogical (low _) _ _ _)
  case tCmp1 | tCmp2 | tCmn => unfold Machine.exec; exact S.sound hs (S.dpCompare _ _ _)
  case tCmp3 => exact S.sound hs (.bind (refuseIf_stays _) fun _ => S.dpCompare _ _ _)
  case tTst => exact S.sound hs (S.dpTest _ _ _)
  case tAdd4 => exact S.sound hs (.bind (refuseIf_stays _) fun _ => .bind (.look _) fun _ => S.finishHigh _ _)
  case tMov3 => exact S.sound hs (.bind (.look _) fun _ => S.finishHigh _ _)
  case tCpy | tAdd5 | tAdd6 | tAdd7 | tSub4 | tSxth | tSxtb | tUxth | tUxtb | tRev | tRev16 | tRevsh | tBlBlxPrefix =>
    unfold Machine.exec
    exact S.sound hs S.lookThenReg
  -- multiplies and media
  case clz | sel | rev | rev16 | revsh | smusd | smmul | usad8 | usada8 =>
    exact S.sound hs (S.conditional _ (.bind (noPc_stays _) fun _ => .bind (.look _) fun _ => S.finishReg _ _))
  case pkhbt | pkhtb | smmla | smmls =>
    exact S.sound hs (S.conditional _ (.bind (noPc_stays _) fun _ => .bind (.look _) fun _ => .bind (.look _) fun _ =>
      S.finishReg _ _))
  case qadd | qsub | qdadd | qdsub => exact S.sound hs (S.conditional _ (S.saturating _ _ _ _ _))
  case smlaXY | smlawY | ssat16 | usat16 | ssat | usat | smuad =>
    exact S.sound hs (S.conditional _ (.bind (noPc_stays _) fun _ => .bind (.look _) fun _ => S.finishQ _ _ _))
  case smlad | smlsd =>
    exact S.sound hs (S.conditional _ (.bind (noPc_stays _) fun _ => .bind (.look _) fun _ => .bind (.look _) fun _ =>
      S.finishQ _ _ _))
  case smulwY | smulXY | mul | mla =>
    exact S.sound hs (S.conditional _ (.bind (noPc_stays _) fun _ => .bind (.look _) fun _ => S.finishMul _ _ _))
  case tMul => unfold Machine.exec; exact S.sound hs (.bind (.look _) fun _ => S.finishMul _ _ _)
  case smlalXY | umaal | umull | umlal | smull | smlal =>
    exact S.sound hs (S.conditional _ (.bind (noPc_stays _) fun _ => .bind (distinct_stays _ _) fun _ => .bind (.look _) fun _ =>
      S.finishLong _ _ _ _))
  case smlald | smlsld =>
    exact S.sound hs (S.conditional _ (.bind (noPc_stays _) fun _ => .bind (distinct_stays _ _) fun _ => .bind (.look _) fun _ =>
      .bind (.look _) fun _ => S.finishLong _ _ _ _))
  case sadd16 | qadd16 | shadd16 | uadd16 | uqadd16 | uhadd16 | saddsubx | qaddsubx | shaddsubx | uaddsubx | uqaddsubx
    | uhaddsubx | ssubaddx | qsubaddx | shsubaddx | usubaddx | uqsubaddx | uhsubaddx | ssub16 | qsub16 | shsub16 | usub16
    | uqsub16 | uhsub16 | sadd8 | qadd8 | shadd8 | uadd8 | uqadd8 | uhadd8 | ssub8 | qsub8 | shsub8 | usub8 | uqsub8
    | uhsub8 => exact S.sound hs (S.conditional _ (S.parallel _ _ _ _ _))
  case sxtb16 | sxtb | sxth | uxtb16 | uxtb | uxth => exact S.sound hs (S.conditional _ (S.extend _ _ _ _))
  case sxtab16 | sxtab | sxtah | uxtab16 | uxtab | uxtah => exact S.sound hs (S.conditional _ (S.extendAdd _ _ _ _ _))
  -- loads and stores
  case ldrImm | ldrReg =>
    exact S.sound hs (S.conditional _ (.bind (checkSingle_stays _ _ _ _ _) fun _ => .bind (.look _) fun _ => S.loadWord _ _ _))
  case ldrtImm | ldrtReg | ldrbtImm | ldrbtReg | ldrbImm | ldrbReg =>
    exact S.sound hs (S.conditional _ (.bind (checkSingle_stays _ _ _ _ _) fun _ => .bind (.look _) fun _ =>
      S.loadSingle _ _ _ _ _ _ _))
  case strtImm | strtReg | strbtImm | strbtReg | strImm | strReg | strbImm | strbReg =>
    exact S.sound hs (S.conditional _ (.bind (checkSingle_stays _ _ _ _ _) fun _ => .bind (.look _) fun _ =>
      S.storeSingle _ _ _ _ _ _))
  case ldrhImm | ldrhReg | ldrsbImm | ldrsbReg | ldrshImm | ldrshReg =>
    exact S.sound hs (S.conditional _ (.bind (checkMode3_stays _ _) fun _ => .bind (checkSingle_stays _ _ _ _ _) fun _ =>
      .bind (.look _) fun _ => S.loadSingle _ _ _ _ _ _ _))
  case strhImm | strhReg =>
    exact S.sound hs (S.conditional _ (.bind (checkMode3_stays _ _) fun _ => .bind (checkSingle_stays _ _ _ _ _) fun _ =>
      .bind (.look _) fun _ => S.storeSingle _ _ _ _ _ _))
  case ldrdImm | ldrdReg =>
    exact S.sound hs (S.conditional _ (.bind (checkMode3_stays _ _) fun _ => .bind (checkDouble_stays _ _ _ _ _) fun _ =>
      .bind (.look _) fun _ => S.loadDouble _ _ _))
  case strdImm | strdReg =>
    exact S.sound hs (S.conditional _ (.bind (checkMode3_stays _ _) fun _ => .bind (checkDouble_stays _ _ _ _ _) fun _ =>
      .bind (.look _) fun _ => S.storeDouble _ _ _))
  case tLdr3 | tLdrsb | tLdr2 | tLdrh2 | tLdrb2 | tLdrsh | tLdr1 | tLdrb1 | tLdrh1 | tLdr4 =>
    exact S.sound hs (.bind (.look _) fun _ => S.loadSingle _ _ _ _ _ _ _)
  case tStr2 | tStrh2 | tStrb2 | tStr1 | tStrb1 | tStrh1 | tStr3 =>
    exact S.sound hs (.bind (.look _) fun _ => S.storeSingle _ _ _ _ _ _)
  case swp | swpb => exact S.sound hs (S.conditional _ (S.swap _ _ _ _))
  case ldrex | ldrexb | ldrexh => exact S.sound hs (S.conditional _ (S.loadExclusiveReg _ _ _ _))
  case strex | strexb | strexh => exact S.sound hs (S.conditional _ (S.storeExclusiveReg _ _ _ _ _))
  case ldrexd =>
    exact S.sound hs (S.conditional _ (.bind (noPc_stays _) fun _ => .bind (refuseIf_stays _) fun _ =>
      .bind (S.loadExclusive _ _ _) fun _ => .bind (.look _) fun _ => .bind (.update fun _ hs => S.setReg _ _ hs) fun _ =>
        S.finishReg _ _))
  case strexd =>
    exact S.sound hs (S.conditional _ (.bind (noPc_stays _) fun _ => .bind (refuseIf_stays _) fun _ => S.storeExclusive _ _ _ _))
  case ldm1 => exact S.sound hs (S.conditional _ (S.loadMultiple _ _ _ _ _))
  case tPop => exact S.sound hs (S.loadMultiple _ _ _ _ _)
  case stm1 => exact S.sound hs (S.conditional _ (S.storeMultiple _ _ _ _ _))
  case tPush | tStmia => exact S.sound hs (S.storeMultiple _ _ _ _ _)
  case ldm3 => exact S.sound hs (S.conditional _ (S.loadMultipleReturn (hr rfl) _ _ _ _ _))
  case ldm2 =>
    exact S.sound hs (S.conditional _ (.bind exceptionModeOnly_stays fun _ => .bind (checkLoadList_stays _ _ _) fun _ =>
      .bind (.look _) fun _ => .bind (S.loadBlock _ _ _ _ _) fun _ => .bind (S.frame.update fun s => s.putRegs_same _ _) fun _ =>
        S.advance))
  case stm2 =>
    exact S.sound hs (S.conditional _ (.bind exceptionModeOnly_stays fun _ => .bind (checkStoreList_stays _ _ _) fun _ =>
      .bind (.look _) fun _ => .bind (.look _) fun _ => .bind (S.storeBlock _ _) fun _ => S.advance))
  case tLdmia =>
    exact S.sound hs (.bind (.ite (.refuse _) (.pure _)) fun _ => .bind (.look _) fun _ => .bind (.look _) fun _ =>
      .bind (S.loadBlock _ _ _ _ _) fun _ => .bind (S.frame.writeBase _ _) fun _ =>
        .bind (S.frame.update fun s => s.putRegs_same _ _) fun _ => S.advance)
  -- coprocessors
  case mcrr2 => exact S.sound hs (.ite (S.cp15Range _ _ _ _) S.takeUndefined)
  case mrrc2 | stc2Offset | stc2Post | stc2Unindexed | ldc2Offset | ldc2Post | ldc2Unindexed | cdp2 | mcr2 | mrc2
    | undefinedArm | tUndefined => exact S.sound hs S.takeUndefined
  case mcrr => exact S.sound hs (S.conditional _ (.ite (S.cp15Range _ _ _ _) (S.noCoprocessor _)))
  case mrrc | cdp => exact S.sound hs (S.conditional _ (S.noCoprocessor _))
  case stcOffset | stcPost | stcUnindexed => exact S.sound hs (S.conditional _ (S.coprocStore _ _ _ _ _))
  case ldcOffset | ldcPost | ldcUnindexed => exact S.sound hs (S.conditional _ (S.coprocLoad _ _ _ _ _))
  case mcr => exact S.sound hs (S.conditional _ (S.coprocWrite _ _ _ _ _ _))
  case mrc => exact S.sound hs (S.conditional _ (S.coprocRead _ _ _ _ _ _))
  -- the VFP11
  case fmacs | fmacd | fnmacs | fnmacd | fmscs | fmscd | fnmscs | fnmscd | fmuls | fmuld | fnmuls | fnmuld | fadds | faddd
    | fsubs | fsubd | fdivs | fdivd | fsqrts | fsqrtd =>
    exact S.sound hs (S.conditional _ (S.vectorArithmetic _ _ _ _ _ _))
  case fcpys | fcpyd | fabss | fabsd | fnegs | fnegd => exact S.sound hs (S.conditional _ (S.vectorMove _ _ _ _))
  case fcmps | fcmpd | fcmpes | fcmped | fcmpzs | fcmpzd | fcmpezs | fcmpezd =>
    exact S.sound hs (S.conditional _ (S.fpCompare _ _ _ _ _))
  case fcvtds | fcvtsd => exact S.sound hs (S.conditional _ (S.scalarOnly _ _ _ fun _ s => s.setFp_same _ _ _))
  case fuitos | fuitod | fsitos | fsitod => exact S.sound hs (S.conditional _ (S.fpFromInt _ _ _ _ _))
  case ftouis | ftouid | ftouizs | ftouizd | ftosis | ftosid | ftosizs | ftosizd =>
    exact S.sound hs (S.conditional _ (S.fpToInt _ _ _ _ _ _))
  case flds | fldd => exact S.sound hs (S.conditional _ (S.fpLoadOne _ _ _ _ _))
  case fsts | fstd => exact S.sound hs (S.conditional _ (S.fpStoreOne _ _ _ _ _))
  case fldmsIa | fldmsDb | fldmdIa | fldmdDb | fldmxIa | fldmxDb =>
    exact S.sound hs (S.conditional _ (S.fpLoadMany _ _ _ _ _ _ _))
  case fstmsIa | fstmsDb | fstmdIa | fstmdDb | fstmxIa | fstmxDb =>
    exact S.sound hs (S.conditional _ (S.fpStoreMany _ _ _ _ _ _ _))
  case fmsr | fmdlr | fmdhr => exact S.sound hs (S.conditional _ (S.fpFromCore _ _ fun s => s.setSingle_same _ _))
  case fmrs | fmrdl | fmrdh => exact S.sound hs (S.conditional _ (S.fpToCore _ _ _))
  case fmdrr | fmsrr => exact S.sound hs (S.conditional _ (S.fpFromPair _ _ _ _ _ _))
  case fmrrd | fmrrs => exact S.sound hs (S.conditional _ (S.fpToPair _ _ _ _ _ _))
  case fmxr =>
    exact S.sound hs (S.conditional _ (.bind (S.fpSystem _) fun _ => .bind (noPc_stays _) fun _ =>
      .bind (S.frame.update fun s => s.writeFpReg_same _ _) fun _ => S.advance))
  case fmrx =>
    exact S.sound hs (S.conditional _ (.bind (S.fpSystem _) fun _ => .bind (S.frame.readFpReg _) fun _ =>
      .ite (.bind S.openFlags fun _ => S.advance) (S.finishReg _ _)))
  case fmstat =>
    exact S.sound hs (S.conditional _ (.bind (S.fpSystem _) fun _ =>
      .bind (.update fun _ hs => S.setFlags hs (Psr.setNZCV_control _ _)) fun _ => S.advance))

end Stable

end

/-! What an exception changes of what the claims look at (R1544) -/

theorem enterException_cpsr (x : Exc) (s : State) : ∃ setsF setsA ee,
    (enterException x s).cpsr = x.entryPsr s.cpsr (x.toMonitor s.cp15.scr) setsF setsA ee := by
  unfold enterException
  exact ⟨_, _, _, State.switchedFrom_cpsr _ _⟩

theorem enterException_mode (x : Exc) (s : State) :
    (enterException x s).cpsr.mode = if x.toMonitor s.cp15.scr then .mon else x.mode := by
  obtain ⟨_, _, _, h⟩ := enterException_cpsr x s
  rw [h]
  rfl

theorem enterException_t (x : Exc) (s : State) : (enterException x s).cpsr.t = false := by
  obtain ⟨_, _, _, h⟩ := enterException_cpsr x s
  rw [h]
  rfl

theorem enterException_i (x : Exc) (s : State) : (enterException x s).cpsr.i = true := by
  obtain ⟨_, _, _, h⟩ := enterException_cpsr x s
  rw [h]
  rfl

theorem enterException_q (x : Exc) (s : State) : (enterException x s).cpsr.q = s.cpsr.q := by
  obtain ⟨_, _, _, h⟩ := enterException_cpsr x s
  rw [h]
  rfl

theorem enterException_spsr (x : Exc) (s : State) :
    (enterException x s).spsr = s.spsr.put (if x.toMonitor s.cp15.scr then .mon else x.mode) s.cpsr.toWord :=
  State.switchedFrom_spsr _ _

theorem enterException_pc (x : Exc) (s : State) : (enterException x s).pc =
    x.vector s (x.toMonitor s.cp15.scr) (!x.toMonitor s.cp15.scr &&
      (if s.cpsr.mode = .mon then s.cp15.scr &&& ~~~1#32 else s.cp15.scr).getLsbD 0) :=
  State.switchedFrom_pc _ _

/-! Q -/

theorem qFlag_framed : Framed fun s => s.cpsr.q = true := fun _ _ h hs =>
  (congrArg Psr.q h.cpsr).trans hs

theorem qFlag_stable : Stable False False (fun s => s.cpsr.q = true) fun s => s.cpsr.q = true where
  frame := qFlag_framed
  frameE := qFlag_framed
  done := fun _ h => h
  watched := fun _ _ h => h
  abort := fun s _ h _ => (enterException_q _ s).trans h
  enter := fun s x h _ _ => (enterException_q x s).trans h
  halt := fun _ _ h _ => h
  running := fun h => h.elim False.elim False.elim
  aligned := False.elim
  jump := fun _ _ _ h _ => h
  status := fun _ _ h _ _ hq => hq.elim False.elim fun k => k h
  restore := False.elim
  saved := fun _ _ _ h _ _ => h
  control := fun _ _ h _ c => (congrArg Psr.q c.cpsr).trans h

/-- Settles O29: no part of an instruction clears Q but those that restore a status register. -/
theorem qFlagIsSticky : Obligations.QFlagIsSticky := by
  unfold Obligations.QFlagIsSticky
  intro i s t hi hs e
  have h := qFlag_stable.exec i (fun h => Bool.noConfusion (hi.symm.trans h)) False.elim hs
  rw [e] at h
  exact h

/-! User mode -/

theorem State.vectorBase_same {s t : State} (hs : t.secure.view = s.secure.view) (hn : t.nonSecure.view = s.nonSecure.view)
    (ns : Bool) : t.vectorBase ns = s.vectorBase ns := by
  have h : (t.bankOf ns).view = (s.bankOf ns).view := by cases ns <;> assumption
  have hc : (t.bankOf ns).sctlr = (s.bankOf ns).sctlr := congrArg WorldView.sctlr h
  have hb : (t.bankOf ns).vbar = (s.bankOf ns).vbar := congrArg WorldView.vbar h
  rw [State.vectorBase, State.vectorBase, hc, hb]

theorem Psr.toWord_mode (p : Psr) : p.toWord.extractLsb' 0 5 = p.mode.toBits := by
  have flag (b : Bool) {k : Nat} (h : 5 ≤ k) (h' : k < 32) : (bitAt b k).extractLsb' 0 5 = 0#5 := by
    ext j hj
    cases b <;> simp [bitAt]
    omega
  have ge (v : BitVec 4) : (v.setWidth 32 <<< 16).extractLsb' 0 5 = 0#5 := by
    ext j hj
    simp
    omega
  have mode (v : BitVec 5) : (v.setWidth 32).extractLsb' 0 5 = v := by
    ext j hj
    simp only [BitVec.getElem_extractLsb', BitVec.getLsbD_setWidth, Nat.zero_add]
    rw [BitVec.getLsbD_eq_getElem hj, decide_eq_true (by omega), Bool.true_and]
  simp [Psr.toWord, BitVec.extractLsb'_or, flag, ge, mode]

theorem Spsrs.get_put (r : Spsrs) {m : Mode} (w : Word) (hu : m ≠ .usr) (hs : m ≠ .sys) : (r.put m w).get? m = some w := by
  cases m <;> first | rfl | contradiction

/-- An instruction that began in state `o`, in User mode, has not left it: the mode and the masks are as they were, and so
is what places the vectors. -/
structure InUser (o s : State) : Prop where
  userBegan : o.cpsr.mode = .usr
  mode : s.cpsr.mode = .usr
  a : s.cpsr.a = o.cpsr.a
  i : s.cpsr.i = o.cpsr.i
  f : s.cpsr.f = o.cpsr.f
  halted : s.halted = false
  scr : s.cp15.scr = o.cp15.scr
  mvbar : s.cp15.mvbar = o.cp15.mvbar
  secure : s.secure.view = o.secure.view
  nonSecure : s.nonSecure.view = o.nonSecure.view

/-- How an instruction that began in User mode, in state `o`, may end. -/
def UserOutcome (o s : State) : Prop :=
  (s.cpsr.mode = .usr ∧ s.cpsr.a = o.cpsr.a ∧ s.cpsr.i = o.cpsr.i ∧ s.cpsr.f = o.cpsr.f) ∨
    (s.cpsr.mode ≠ .usr ∧ s.cpsr.i = true ∧ o.isVector s.pc = true ∧
      ∃ w, s.spsr.get? s.cpsr.mode = some w ∧ w.extractLsb' 0 5 = Mode.usr.toBits)

theorem InUser.framed (o : State) : Framed (InUser o) := fun s t h k =>
  { userBegan := k.userBegan
    mode := by rw [h.cpsr, k.mode]
    a := by rw [h.cpsr, k.a]
    i := by rw [h.cpsr, k.i]
    f := by rw [h.cpsr, k.f]
    halted := h.halted.trans k.halted
    scr := h.scr.trans k.scr
    mvbar := h.mvbar.trans k.mvbar
    secure := h.secure.trans k.secure
    nonSecure := h.nonSecure.trans k.nonSecure }

theorem UserOutcome.framed (o : State) : Framed (UserOutcome o) := fun s t h k => by
  unfold UserOutcome
  rw [h.cpsr, h.pc, h.spsr]
  exact k

theorem InUser.outcome {o s : State} (h : InUser o s) : UserOutcome o s := .inl ⟨h.mode, h.a, h.i, h.f⟩

theorem InUser.not_privileged {o s : State} (h : InUser o s) : s.privileged = false := by
  rw [State.privileged, h.mode]; rfl

/-- The modes of the exceptions that an instruction raises. -/
theorem Exc.raisedIn.mode_ne {x : Exc} {s : State} (h : x.raisedIn s) : x.mode ≠ .usr ∧ x.mode ≠ .sys ∧ x ≠ .irq := by
  cases x with
  | irq | fiq => exact False.elim h
  | _ => exact ⟨nofun, nofun, nofun⟩

/-- An exception that an instruction raises in User mode goes to a vector of the current world, or of Secure Monitor mode. -/
theorem InUser.vector {o s : State} (h : InUser o s) {x : Exc} (hx : x.raisedIn s) :
    o.isVector (enterException x s).pc = true := by
  have hn := hx.mode_ne.2.2
  have hsec : (!o.isSecure) = s.cp15.scr.getLsbD 0 := by
    rw [State.isSecure, h.userBegan, h.scr]
    cases o.cp15.scr.getLsbD 0 <;> rfl
  have hoff : x.offset ∈ [0x04#32, 0x08, 0x0C, 0x10] := by
    cases x with
    | irq | fiq => exact False.elim hx
    | _ => simp [Exc.offset]
  refine List.any_eq_true.mpr ⟨x.offset, hoff, ?_⟩
  rw [enterException_pc, Exc.vector]
  cases x.toMonitor s.cp15.scr
  · simp [hn, h.mode, hsec, State.vectorBase_same h.secure h.nonSecure]
  · simp [h.mvbar]

theorem InUser.enter {o s : State} (h : InUser o s) {x : Exc} (hx : x.raisedIn s) : UserOutcome o (enterException x s) := by
  obtain ⟨hu, hsys, _⟩ := hx.mode_ne
  refine .inr ⟨?_, enterException_i x s, h.vector hx, s.cpsr.toWord, ?_, by rw [Psr.toWord_mode, h.mode]⟩
  · rw [enterException_mode]
    split <;> [exact nofun; exact hu]
  · rw [enterException_mode, enterException_spsr]
    split
    · exact Spsrs.get_put _ _ nofun nofun
    · exact Spsrs.get_put _ _ hu hsys

theorem userMode_stable (o : State) : Stable False True (InUser o) (UserOutcome o) where
  frame := .framed o
  frameE := .framed o
  done := fun _ h => h.outcome
  watched := fun _ _ h => { h with }
  abort := fun _ _ h _ => h.enter trivial
  enter := fun _ _ h _ hx => h.enter hx
  halt := fun _ _ h _ => .inl ⟨h.mode, h.a, h.i, h.f⟩
  running := fun _ _ h => h.halted
  aligned := False.elim
  jump := fun _ _ _ h _ => { h with }
  status := fun s p h _ hk _ => by
    obtain ⟨hm, ha, hi, hf⟩ := hk h.not_privileged
    exact { h with mode := hm.trans h.mode, a := ha.trans h.a, i := hi.trans h.i, f := hf.trans h.f }
  restore := fun _ _ _ _ h hp => absurd hp (by simp [h.not_privileged])
  saved := fun _ _ _ h _ _ => { h with }
  control := fun _ _ h hp => by simp [h.not_privileged, h.halted] at hp

/-- Settles O13: in User mode only an exception changes the mode or the masks. -/
theorem userModeConfined : Obligations.UserModeConfined := by
  unfold Obligations.UserModeConfined
  intro i s t hm hh e
  have hs : InUser s s := ⟨hm, hm, rfl, rfl, rfl, hh, rfl, rfl, rfl, rfl⟩
  have h := (userMode_stable s).exec i (fun _ => trivial) False.elim hs
  rw [e] at h
  exact h

/-! The branches of Thumb state are decoded in Thumb state -/

/-- The instruction that was decoded, if any, is one of the branches of Thumb state. -/
def decodesHalfwordBranch : Decoded → Bool
  | .instr i => branchesByHalfwords i
  | _ => false

theorem wordBranch_ite {c : Prop} [Decidable c] {a b : Decoded} (ha : decodesHalfwordBranch a = false)
    (hb : decodesHalfwordBranch b = false) : decodesHalfwordBranch (if c then a else b) = false := by
  split <;> assumption

theorem decodeUncond_wordBranch (w : Word) : decodesHalfwordBranch (decodeUncond w) = false := by
  unfold decodeUncond
  repeat' apply wordBranch_ite
  all_goals rfl

theorem decodeCond_wordBranch (c : Cond) (w : Word) : decodesHalfwordBranch (decodeCond c w) = false := by
  unfold decodeCond decodeClass000 decodeClass001 decodeClass010 decodeClass011 decodeClass100 decodeClass101 decodeVfp110
    decodeVfp111 decodeClass110 decodeClass111
  split
  all_goals repeat' apply wordBranch_ite
  all_goals rfl

/-- No word of ARM state is one of them. -/
theorem decodeArm_wordBranch (w : Word) : decodesHalfwordBranch (decodeArm w) = false := by
  unfold decodeArm
  split
  · exact decodeCond_wordBranch _ w
  · exact decodeUncond_wordBranch w

/-- So that a branch of Thumb state has been decoded in Thumb state. -/
theorem thumb_of_decoded {thumb : Bool} {w : Word}
    (h : decodesHalfwordBranch (decodeFor (if thumb then .thumb else .arm) w) = true) : thumb = true := by
  cases thumb
  · exact absurd h (Bool.eq_false_iff.mp (decodeArm_wordBranch w))
  · rfl

/-! The invariant, by the part of the step -/

/-- What holds between any two parts of a step, and is all that an exception needs. -/
structure Formed (s : State) : Prop where
  memory : s.memWf
  bases : s.basesAligned = true
  saved : s.spsr.reservedZero = true

/-- What holds where an instruction ends. It may have hit a watchpoint. -/
structure Kept (s : State) : Prop extends Formed s where
  pc : s.halted = true ∨ s.pcAligned = true

/-- What holds while an instruction runs. -/
structure Running (s : State) : Prop extends Formed s where
  running : s.halted = false
  aligned : s.pcAligned = true

theorem SameView.pcAligned {s t : State} (h : SameView s t) : t.pcAligned = s.pcAligned := by
  rw [State.pcAligned, State.pcAligned, h.cpsr, h.pc]

theorem Cp15Banked.inForm_of_view {b c : Cp15Banked} (h : c.view = b.view) : c.inForm = b.inForm := by
  have hv : c.vbar = b.vbar := congrArg WorldView.vbar h
  have hf : c.fcse = b.fcse := congrArg WorldView.fcse h
  rw [Cp15Banked.inForm, Cp15Banked.inForm, hv, hf]

theorem SameView.basesAligned {s t : State} (h : SameView s t) (k : s.basesAligned = true) : t.basesAligned = true := by
  rw [State.basesAligned_iff] at k ⊢
  rwa [Cp15Banked.inForm_of_view h.secure, Cp15Banked.inForm_of_view h.nonSecure, h.mvbar]

theorem Formed.framed : Framed Formed := fun _ _ h k => ⟨h.mem k.memory, h.basesAligned k.bases, by rw [h.spsr]; exact k.saved⟩

theorem Kept.framed : Framed Kept := fun _ _ h k => ⟨.framed h k.toFormed, by rw [h.halted, h.pcAligned]; exact k.pc⟩

theorem Running.framed : Framed Running := fun _ _ h k =>
  ⟨.framed h k.toFormed, h.halted.trans k.running, h.pcAligned.trans k.aligned⟩

theorem Running.kept {s : State} (h : Running s) : Kept s := ⟨h.toFormed, .inr h.aligned⟩

/-! The saved status registers -/

theorem Spsrs.reservedZero_iff (r : Spsrs) :
    r.reservedZero = true ↔ ∀ m w, r.get? m = some w → w &&& ~~~psrMask = 0 := by
  constructor
  · intro h m w hw
    simp only [Spsrs.reservedZero, List.all_cons, List.all_nil, Bool.and_eq_true, beq_iff_eq] at h
    obtain ⟨hf, hi, hs, hm, ha, hu, -⟩ := h
    cases m <;> cases hw <;> assumption
  · intro h
    simp [Spsrs.reservedZero, h .fiq _ rfl, h .irq _ rfl, h .svc _ rfl, h .mon _ rfl, h .abt _ rfl, h .und _ rfl]

theorem Spsrs.get_put_cases {r : Spsrs} {m n : Mode} {v w : Word} (h : (r.put m v).get? n = some w) :
    w = v ∨ r.get? n = some w := by
  cases m <;> cases n <;> first | exact .inr h | exact .inl (Option.some.inj h).symm

theorem Spsrs.reservedZero_put {r : Spsrs} {m : Mode} {v : Word} (h : r.reservedZero = true) (hv : v &&& ~~~psrMask = 0) :
    (r.put m v).reservedZero = true := by
  rw [Spsrs.reservedZero_iff] at h ⊢
  intro n w hw
  rcases Spsrs.get_put_cases hw with rfl | hw
  · exact hv
  · exact h n w hw

theorem Psr.toWord_reserved (p : Psr) : p.toWord &&& ~~~psrMask = 0 := by
  have flag (b : Bool) {k : Nat} (h : (1#32 <<< k) &&& ~~~psrMask = 0) : bitAt b k &&& ~~~psrMask = 0 := by
    cases b
    · exact BitVec.zero_and
    · exact h
  have ge (v : BitVec 4) : (v.setWidth 32 <<< 16) &&& ~~~psrMask = 0 := by revert v; decide
  have mode (m : Mode) : m.toBits.setWidth 32 &&& ~~~psrMask = 0 := by cases m <;> rfl
  simp only [Psr.toWord, BitVec.and_or_distrib_right]
  simp (disch := decide) [flag, ge, mode]

/-! Exceptions and Debug state -/

theorem enterException_mvbar (x : Exc) (s : State) : (enterException x s).cp15.mvbar = s.cp15.mvbar :=
  (State.switchedFrom_same _ s).mvbar

theorem fitsPc_of_extract {a : Word} (h : a.extractLsb' 0 5 = 0) : fitsPc false a = true := by
  have ht : a.toNat % 32 = 0 := by simpa using congrArg BitVec.toNat h
  rw [fitsPc_iff]
  simp only [Bool.false_eq_true, if_false]
  omega

theorem Formed.vectorBase {s : State} (h : Formed s) (ns : Bool) : fitsPc false (s.vectorBase ns) = true := by
  obtain ⟨hs, hn, -⟩ := s.basesAligned_iff.mp h.bases
  have hb : (s.bankOf ns).inForm = true := by cases ns <;> assumption
  unfold State.vectorBase
  split
  · decide
  · simp only [Cp15Banked.inForm, Bool.and_eq_true, beq_iff_eq] at hb
    exact fitsPc_of_extract hb.1

theorem enterException_watch (x : Exc) (s : State) : (enterException x s).dbg.watchHit = s.dbg.watchHit :=
  (State.switchedFrom_same _ s).watch

/-- A vector is a whole number of words. -/
theorem Formed.vector {s : State} (h : Formed s) (x : Exc) (monitor ns : Bool) :
    fitsPc false (x.vector s monitor ns) = true := by
  have hoff : x.offset.toNat % 4 = 0 := by cases x <;> simp [Exc.offset]
  unfold Exc.vector
  split
  · exact fitsPc_add (fitsPc_of_extract (s.basesAligned_iff.mp h.bases).2.2) hoff
  · split
    · exact (fitsPc_iff _ _).mpr (shiftLeft_two_mod _)
    · exact fitsPc_add (h.vectorBase ns) hoff

theorem Formed.enter {s : State} (h : Formed s) (x : Exc) : Kept (enterException x s) := by
  refine ⟨⟨?_, ?_, ?_⟩, .inr ?_⟩
  · rw [State.memWf, enterException_mem]; exact h.memory
  · rw [State.basesAligned_iff, enterException_secure, enterException_nonSecure, enterException_mvbar]
    exact s.basesAligned_iff.mp h.bases
  · rw [enterException_spsr]
    exact Spsrs.reservedZero_put h.saved (Psr.toWord_reserved _)
  · rw [State.pcAligned_eq, enterException_t, enterException_pc]
    exact h.vector _ _ _

theorem State.enterDebug_halted (s : State) (e : Entry) : (s.enterDebug e).halted = true := by
  simp [State.enterDebug, State.halted]

theorem Formed.halt {s : State} (h : Formed s) (e : Entry) : Kept (s.enterDebug e) :=
  ⟨⟨h.memory, h.bases, h.saved⟩, .inl (s.enterDebug_halted e)⟩

/-! The instruction -/

theorem invariant_stable : Stable True True Running Kept where
  frame := Running.framed
  frameE := Kept.framed
  done := fun _ h => h.kept
  watched := fun _ _ h => { h with }
  abort := fun _ _ h _ => h.toFormed.enter _
  enter := fun _ x h _ _ => h.toFormed.enter x
  halt := fun _ e h _ => h.toFormed.halt e
  running := fun _ _ h => h.running
  aligned := fun _ _ h => h.aligned
  jump := fun s t a h ha => { h with aligned := (State.pcAligned_eq _).trans (ha trivial) }
  status := fun s p h ht _ _ => { h with
    aligned := by
      rw [State.pcAligned_eq, ht]
      exact h.aligned }
  restore := fun _ s p a h _ ha => { h with aligned := (State.pcAligned_eq _).trans ha }
  saved := fun s old w h ho hw => { h with
    saved := Spsrs.reservedZero_put h.saved (hw.trans ((Spsrs.reservedZero_iff _).mp h.saved _ _ ho)) }
  control := fun s t h _ c =>
    { memory := by rw [State.memWf, c.mem]; exact h.memory
      bases := c.bases h.bases
      saved := by rw [c.spsr]; exact h.saved
      running := c.halted.trans h.running
      aligned := by rw [State.pcAligned_eq, c.cpsr, c.pc]; exact h.aligned }

/-- What has been decoded may be run in this state. -/
def RunsIn (d : Decoded) (s : State) : Prop := decodesHalfwordBranch d = true → s.cpsr.t = true

theorem execDecoded_sound {d : Decoded} {s : State} (hd : RunsIn d s) (hs : Running s) : Sound Kept (execDecoded d s) := by
  have S := invariant_stable
  cases d with
  | instr i => exact S.exec i (fun _ => trivial) (fun _ => hd) hs
  | shouldBe i => trivial
  | bkptCond => trivial
  | unallocated c => exact S.sound hs (S.conditional c S.takeUndefined)
  | unallocatedThumb => exact S.sound hs S.takeUndefined

/-! The invariant between steps -/

theorem State.inv_iff (s : State) : s.Inv ↔ Kept s ∧ s.dbg.watchHit = none :=
  ⟨fun h => ⟨⟨⟨h.memory, h.bases, h.saved⟩, h.pc⟩, h.watch⟩, fun ⟨h, hw⟩ => ⟨h.memory, h.bases, h.saved, hw, h.pc⟩⟩

theorem inv_framed : Framed State.Inv := fun s t h k => by
  rw [State.inv_iff] at k ⊢
  exact ⟨.framed h k.1, h.watch.trans k.2⟩

/-- An exception that is entered after updates which the claims do not see. -/
theorem Formed.enterAfter {s u : State} (h : Formed s) (hw : s.dbg.watchHit = none) (hu : SameView s u) (x : Exc) :
    (enterException x u).Inv := by
  rw [State.inv_iff]
  exact ⟨(Formed.framed hu h).enter x, (enterException_watch x u).trans (hu.watch.trans hw)⟩

theorem Formed.haltAfter {s u : State} (h : Formed s) (hu : SameView s u) (e : Entry) : (u.enterDebug e).Inv := by
  rw [State.inv_iff]
  exact ⟨(Formed.framed hu h).halt e, rfl⟩

theorem Kept.dropWatch {s : State} (h : Kept s) : Kept { s with dbg := { s.dbg with watchHit := none } } := { h with }

/-- A watchpoint is dropped with the instruction that hit it. -/
theorem Kept.watchpointEvent {s : State} (h : Kept s) (before : State) : (before.watchpointEvent s).Inv := by
  have hd := h.dropWatch
  unfold State.watchpointEvent
  split
  · exact s.inv_iff.mpr ⟨h, ‹_›⟩
  · have marked : SameView { s with dbg := { s.dbg with watchHit := none } }
        { s with dbg := { s.dbg with watchHit := none, wfar := before.watchedInstruction } } := .of_mem rfl rfl
    dsimp only
    split
    · exact hd.toFormed.haltAfter marked _
    · split
      · refine hd.toFormed.enterAfter rfl ((marked.trans (State.setEntry_same _ _)).trans (State.setBankOf_same _ _ ?_)) _
        exact fun _ => rfl
      · exact (State.inv_iff _).mpr ⟨hd, rfl⟩

theorem State.counted_same (t s : State) (i : Option Instr) (c a b : Nat) : SameView t (t.counted s i c a b) := .of_mem rfl rfl

theorem State.count_same (t s : State) (i : Option Instr) : SameView t (t.count s i) := by
  unfold State.count
  split
  · have drawn : SameView t { t with draws := t.draws + 3 } := .of_mem rfl rfl
    exact drawn.trans (State.counted_same _ _ _ _ _ _)
  · exact .refl t

theorem runDecoded_sound (s : State) {t : State} {d : Decoded} (hd : RunsIn d t) (ht : Running t) :
    Sound State.Inv (runDecoded s t d) := by
  have h := execDecoded_sound hd ht
  unfold runDecoded
  cases e : execDecoded d t with
  | next u =>
    rw [e] at h
    dsimp only
    split
    · trivial
    · exact inv_framed (State.count_same _ _ _) (h.watchpointEvent t)
  | refused r => trivial
  | fault f => rw [e] at h; exact h

/-! The boundary -/

/-- What holds from the boundary to the instruction, which is in the instruction set in force there. -/
structure Ready (thumb : Bool) (s : State) : Prop extends Running s where
  watch : s.dbg.watchHit = none
  isa : s.cpsr.t = thumb

theorem Ready.framed (thumb : Bool) : Framed (Ready thumb) := fun _ _ h k =>
  { Running.framed h k.toRunning with
    watch := h.watch.trans k.watch
    isa := (congrArg Psr.t h.cpsr).trans k.isa }

theorem State.Inv.ready {s : State} (h : s.Inv) (hh : s.halted = false) : Ready s.cpsr.t s :=
  ⟨⟨⟨h.memory, h.bases, h.saved⟩, hh, h.pc.resolve_left (by simp [hh])⟩, h.watch, rfl⟩

namespace Ready

variable {thumb : Bool} {s : State} (h : Ready thumb s)
include h

theorem enter {u : State} (hu : SameView s u) (x : Exc) : (enterException x u).Inv := h.toFormed.enterAfter h.watch hu x

theorem prefetchAbort (f : MmuFault) : (s.prefetchAbort f).Inv := by
  refine h.enter (State.setBankOf_same _ _ ?_) _
  exact fun _ => rfl

theorem instructionEvent (e : Entry) : (s.instructionEvent e).Inv := by
  unfold State.instructionEvent
  split
  · exact h.toFormed.haltAfter (.refl s) e
  · refine h.enter ((s.setEntry_same e).trans (State.setBankOf_same _ _ ?_)) _
    exact fun _ => rfl

theorem takeImprecise (p : PendingAbort) : (s.takeImprecise p).Inv := by
  have dropped (u : State) : SameView u { u with pendingAbort := none } := .of_mem rfl rfl
  refine h.enter ((State.setBankOf_same _ _ ?_).trans (dropped _)) _
  exact fun _ => rfl

theorem acceptRequest (e : Entry) : (s.acceptRequest e).Inv := by
  have done (u : State) (b : Bool) : SameView u { u with dbg := { u.dbg with haltRequest := b } } := .of_mem rfl rfl
  exact inv_framed (done _ _) (h.toFormed.haltAfter (.refl s) e)

theorem undefined : s.undefined.Inv := by
  rw [State.undefined, h.running]
  exact h.enter (.refl s) _

end Ready

theorem fetch_stays (thumb : Bool) (n : Nat) : Stays (Ready thumb) State.Inv (fetch n) := by
  intro s hs
  have ht := s.translate_same (!s.isSecure) (s.asidOf (!s.isSecure)) (s.fcse (!s.isSecure) s.pc) .execute s.privileged .fetch
  unfold fetch
  dsimp only
  split
  · trivial
  · rename_i f t e
    rw [e] at ht
    exact (Ready.framed _ ht hs).prefetchAbort f
  · rename_i x t e
    rw [e] at ht
    have hr := Ready.framed _ ht hs
    split
    · exact hr.prefetchAbort _
    · split
      · trivial
      · split
        · exact Framed.draw (Ready.framed _) t hr
        · exact hr

/-- Where a part of a meaning completes its value and its state are related, where it ends the step the invariant holds,
and it has no fault. -/
def Ends {α : Type} (P : α → State → Prop) : Except Stop (α × State) → Prop
  | .ok r => P r.1 r.2
  | .error (.took t) => t.Inv
  | .error (.refused _) => True
  | .error (.fault _) => False

theorem Post.ends {α : Type} {I : State → Prop} {r : Except Stop (α × State)} (h : Post I State.Inv r) :
    Ends (fun _ => I) r := by
  match r, h with
  | .ok _, h => exact h
  | .error (.took _), h => exact h
  | .error (.refused _), _ => trivial

/-- The end of a step that runs no instruction. -/
theorem stopped_sound (s : State) {α : Type} {P : α → State → Prop} {e : Stop} (h : Ends P (.error e)) :
    Sound State.Inv (stopped s e) := by
  cases e with
  | took t => exact inv_framed (State.count_same _ _ _) h
  | refused r => trivial
  | fault f => exact h

theorem Ends.bind {α β : Type} {J : State → Prop} {P : β → State → Prop} {m : Exec α} {f : α → Exec β} {s : State}
    (hm : Post J State.Inv (m s)) (hf : ∀ a t, J t → Ends P (f a t)) : Ends P ((m >>= f) s) := by
  rw [exec_bind]
  cases e : m s with
  | error x => rw [e] at hm; cases x <;> exact hm
  | ok r => rw [e] at hm; exact hf r.1 r.2 hm

theorem Ends.ite {α : Type} {P : α → State → Prop} {c : Prop} [Decidable c] {a b : Exec α} {s : State}
    (ha : c → Ends P (a s)) (hb : ¬ c → Ends P (b s)) : Ends P ((if c then a else b) s) := by
  split
  · exact ha ‹_›
  · exact hb ‹_›

theorem State.commit_same (s : State) : SameView s s.commit := .of_mem rfl rfl

/-- What is decoded at the boundary may be run there. -/
theorem nextInstruction_ends {s : State} (hs : Ready s.cpsr.t s) :
    Ends (fun d u => RunsIn d u ∧ Running u) (nextInstruction s) := by
  unfold nextInstruction
  simp only [exec_bind_ok (look_run _ s)]
  cases s.debugRequest with
  | some e => exact hs.acceptRequest e
  | none =>
    cases s.interrupt with
    | some x => exact hs.enter (.refl s) x
    | none =>
      refine Ends.ite (fun _ => trivial) fun _ => Ends.ite (fun hp => ?_) fun _ =>
        Ends.bind (fetch_stays _ _ s hs) fun w u hu => ?_
      · rw [hs.aligned] at hp
        exact absurd hp Bool.false_ne_true
      · simp only [exec_bind_ok (look_run _ u)]
        cases u.fetchEvent with
        | some e => exact hu.instructionEvent e
        | none =>
          cases u.abortBefore (decodeFor (if s.cpsr.t then .thumb else .arm) w) with
          | some p => exact hu.takeImprecise p
          | none =>
            refine Ends.ite (fun _ => hu.undefined) fun _ => ⟨fun hd => ?_, Running.framed u.commit_same hu.toRunning⟩
            exact hu.isa.trans (thumb_of_decoded hd)

/-! The step -/

theorem coreStep_sound (s : State) {t : State} (ht : t.Inv) : Sound State.Inv (coreStep s t) := by
  unfold coreStep
  cases hh : t.halted
  · have h := nextInstruction_ends (ht.ready hh)
    rw [if_neg Bool.false_ne_true]
    split
    · rename_i e he
      rw [he] at h
      exact stopped_sound s h
    · rename_i d u he
      rw [he] at h
      exact runDecoded_sound s h.1 h.2
  · exact inv_framed (State.count_same _ _ _) ht

theorem step_sound {s : State} (hs : s.Inv) : Sound State.Inv (step s) := by
  have h := (inv_framed.dmaInterval (E := State.Inv) s hs).ends
  unfold step machineStep
  split
  · rename_i e he
    rw [he] at h
    exact stopped_sound s h
  · rename_i t he
    rw [he] at h
    exact coreStep_sound s h

/-- Settles O4: the engine, the boundary, the instruction and the watchpoint each keep what the next part needs. -/
theorem stepKeepsInv : Obligations.StepKeepsInv := by
  unfold Obligations.StepKeepsInv
  intro s hs
  have h := step_sound hs
  refine ⟨fun t e => ?_, fun f e => ?_⟩
  · rw [e] at h; exact h
  · rw [e] at h; exact h

end Sys2Proof.Machine

namespace Sys2Proof.Machine

/-! The Secure configuration. What the Non-secure world must not change is one part of the state
(`State.secureView`); an instruction that runs there leaves this part alone, or ends in an exception. A Data Abort
writes the Secure fault registers only where it goes to Secure Monitor mode (`SecureView.Aborted`). -/

/-- The fault registers of a world. -/
structure FaultRegs where
  dfsr : Word
  ifsr : Word
  far : Word
  ifar : Word

def Cp15Banked.faults (b : Cp15Banked) : FaultRegs := ⟨b.dfsr, b.ifsr, b.far, b.ifar⟩

/-- The registers of a world with a fixed Cache Dirty Status and fixed fault registers. -/
def Cp15Banked.settled (b : Cp15Banked) : Cp15Banked :=
  { b with cacheDirty := false, dfsr := 0, ifsr := 0, far := 0, ifar := 0 }

/-- What no Non-secure instruction changes at all. -/
structure SecureConfig where
  scr : Word
  sder : Word
  nsacr : Word
  actlr : Word
  mvbar : Word
  sctlr : Word
  savc : Bool
  dtcm : Vector Bool 2
  itcm : Vector Bool 2
  bank : Cp15Banked

/-- The configuration, the Secure fault registers, and what says that the Non-secure world runs. -/
structure SecureView where
  config : SecureConfig
  faults : FaultRegs
  monitor : Bool
  halted : Bool

def State.secureView (s : State) : SecureView where
  config :=
    { scr := s.cp15.scr, sder := s.cp15.sder, nsacr := s.cp15.nsacr, actlr := s.cp15.actlr, mvbar := s.cp15.mvbar
      sctlr := s.cp15.sctlr, savc := s.cp15.savc, dtcm := s.cp15.dtcm.map (·.nsAccess)
      itcm := s.cp15.itcm.map (·.nsAccess), bank := s.secure.settled }
  faults := s.secure.faults
  monitor := s.cpsr.mode == .mon
  halted := s.halted

/-- The Non-secure world runs, outside Debug state. -/
structure SecureView.Live (c : SecureView) : Prop where
  world : c.config.scr.getLsbD 0 = true
  monitor : c.monitor = false
  halted : c.halted = false

/-- How an instruction may end that began with the view `c`. -/
structure SecureView.Ended (c : SecureView) (t : State) : Prop where
  config : t.secureView.config = c.config
  faults : t.secureView.monitor = true ∨ t.secureView.faults = c.faults

theorem SecureView.Live.isSecure {s : State} (h : s.secureView.Live) : s.isSecure = false := by
  obtain ⟨hw, hm, -⟩ := h
  have hw : s.cp15.scr.getLsbD 0 = true := hw
  have hm : (s.cpsr.mode == .mon) = false := hm
  rw [State.isSecure, hw, hm]
  rfl

theorem State.live_iff (s : State) : s.secureView.Live ↔ s.isSecure = false ∧ s.halted = false := by
  refine ⟨fun h => ⟨h.isSecure, h.halted⟩, fun ⟨hs, hh⟩ => ?_⟩
  rw [State.isSecure, Bool.or_eq_false_iff, Bool.not_eq_false'] at hs
  exact ⟨hs.2, hs.1, hh⟩

theorem SecureView.Ended.refl (s : State) : s.secureView.Ended s := ⟨rfl, .inr rfl⟩

theorem SecureView.Ended.of_view {c : SecureView} {s : State} (h : s.secureView = c) : c.Ended s := h ▸ .refl s

/-- An end depends on the view only. -/
theorem SecureView.Ended.trans {c : SecureView} {s t : State} (h : c.Ended s) (k : t.secureView = s.secureView) :
    c.Ended t := ⟨k ▸ h.config, k ▸ h.faults⟩

/-! Updates that leave the view -/

section

variable (s : State)

@[simp] theorem State.setReg_secureView (n : RegNo) (v : Word) : (s.setReg n v).secureView = s.secureView := rfl
@[simp] theorem State.setSingle_secureView (n : BitVec 5) (v : Word) :
    (s.setSingle n v).secureView = s.secureView := rfl
@[simp] theorem State.touch_secureView (k : Nat) : (s.touch k).secureView = s.secureView := rfl
@[simp] theorem State.storeByte_secureView (k : Nat) (v : Byte) : (s.storeByte k v).secureView = s.secureView := rfl
@[simp] theorem State.noteTransfer_secureView (q : Request) (d : List Host.Cell) (e : Option BusError) :
    (s.noteTransfer q d e).secureView = s.secureView := rfl
@[simp] theorem State.dropLine_secureView (w : BitVec 2) (k : Nat) : (s.dropLine w k).secureView = s.secureView := rfl
@[simp] theorem State.putLine_secureView (l : CacheLine) : (s.putLine l).secureView = s.secureView := rfl
@[simp] theorem State.markDirty_secureView (ns : Bool) : (s.markDirty ns).secureView = s.secureView := rfl
@[simp] theorem State.notePast_secureView (p : Acc) (va : Word) : (s.notePast p va).secureView = s.secureView := rfl
@[simp] theorem State.drawWalk_secureView : s.drawWalk.secureView = s.secureView := rfl
@[simp] theorem State.openMonitor_secureView : s.openMonitor.secureView = s.secureView := rfl
@[simp] theorem State.setFpscr_secureView (v : Word) : (s.setFpscr v).secureView = s.secureView := rfl

@[simp] theorem State.next_secureView : s.next.secureView = s.secureView := by
  unfold State.next
  split <;> rfl

@[simp] theorem State.validate_secureView (w : BitVec 2) (k : Nat) : (s.validate w k).secureView = s.secureView := by
  unfold State.validate
  exact ite_field _ _ _ _ rfl rfl

@[simp] theorem State.switchedFrom_secureView (t : State) : (s.switchedFrom t).secureView = s.secureView :=
  ite_field _ _ _ _ rfl rfl

@[simp] theorem State.addRecord_secureView (r : WalkRecord) : (s.addRecord r).secureView = s.secureView :=
  ite_field _ _ _ _ rfl rfl

@[simp] theorem State.recordWalk_secureView (ns : Bool) (asid : BitVec 8) (mva : Word) (m : Mapping) (w : Walk) :
    (s.recordWalk ns asid mva m w).secureView = s.secureView := s.addRecord_secureView _

@[simp] theorem State.recordFault_secureView (ns : Bool) (mva : Word) (w : Walk) :
    (s.recordFault ns mva w).secureView = s.secureView := s.addRecord_secureView _

@[simp] theorem State.lockWalk_secureView (ns : Bool) (asid : BitVec 8) (mva : Word) (m : Mapping) (l2 : Word) :
    (s.lockWalk ns asid mva m l2).secureView = s.secureView := ite_field _ _ _ _ rfl rfl

@[simp] theorem State.writeExternal_secureView (q : Request) (pa : Word) (v : Byte) :
    (s.writeExternal q pa v).secureView = s.secureView := ite_field _ _ _ _ rfl rfl

@[simp] theorem State.clearGlobal_secureView (pa : Word) : (s.clearGlobal pa).secureView = s.secureView := by
  unfold State.clearGlobal
  split
  · exact ite_field _ _ _ _ rfl rfl
  · rfl

/-- Debug registers but bit 0 of the DSCR. -/
theorem State.setDebug_secureView {f : Debug → Debug} (h : (f s.dbg).dscr.getLsbD 0 = s.dbg.dscr.getLsbD 0) :
    (s.setDebug f).secureView = s.secureView := congrArg (fun b => { s.secureView with halted := b }) h

theorem State.stickDscr_secureView {w : Word} (h : w.getLsbD 0 = false) :
    ({ s with dbg := { s.dbg with dscr := s.dbg.dscr ||| w } } : State).secureView = s.secureView :=
  s.setDebug_secureView (f := fun d => { d with dscr := d.dscr ||| w }) (by rw [BitVec.getLsbD_or, h, Bool.or_false])

@[simp] theorem State.hitWatch_secureView (mva : Word) (w : Bool) : (s.hitWatch mva w).secureView = s.secureView := by
  unfold State.hitWatch
  split <;> rfl

@[simp] theorem State.noteWatch_secureView (p : Acc) (va : Word) (n : Nat) :
    (s.noteWatch p va n).secureView = s.secureView := by
  induction n with
  | zero => rfl
  | succ n ih =>
    unfold State.noteWatch
    dsimp only
    split
    · rw [State.hitWatch_secureView, ih]
    · exact ih

@[simp] theorem State.impreciseAbort_secureView (e : BusError) (w : Bool) :
    (s.impreciseAbort e w).secureView = s.secureView := by
  have h : (if s.halted then { s with dbg := { s.dbg with dscr := s.dbg.dscr ||| 0x80 } } else s).secureView =
      s.secureView := ite_field _ _ _ _ (s.stickDscr_secureView rfl) rfl
  unfold State.impreciseAbort
  exact ite_field _ _ _ _ h h

theorem State.foldl_secureView {α : Type} {f : State → α → State} (h : ∀ s a, (f s a).secureView = s.secureView)
    (l : List α) (s : State) : (l.foldl f s).secureView = s.secureView := by
  induction l generalizing s with
  | nil => rfl
  | cons a l ih => rw [List.foldl_cons, ih, h]

@[simp] theorem State.writeBytes_secureView (q : Request) (pa : Word) (bs : List Byte) :
    (s.writeBytes q pa bs).secureView = s.secureView := by
  induction bs generalizing s pa with
  | nil => rfl
  | cons b bs ih => exact (ih _ _).trans (ite_field _ _ _ _ rfl (s.writeExternal_secureView q pa b))

@[simp] theorem State.cleanLine_secureView (l : CacheLine) (a : Word) :
    (s.cleanLine l a).secureView = s.secureView := by
  unfold State.cleanLine
  dsimp only
  split
  · split <;> simp
  · rfl

@[simp] theorem State.evictLine_secureView (l : CacheLine) (a : Word) :
    (s.evictLine l a).secureView = s.secureView := by simp [State.evictLine]

@[simp] theorem State.promote_secureView (c : Bool) : (s.promote c).secureView = s.secureView :=
  ite_field _ _ _ _ rfl rfl

@[simp] theorem State.dmaComplete_secureView (c : Bool) : (s.dmaComplete c).secureView = s.secureView :=
  State.promote_secureView _ _


@[simp] theorem State.storeTcm_secureView (data : Bool) (x : Translation) (i : Nat) (bs : List Byte) :
    (s.storeTcm data x i bs).secureView = s.secureView := by
  induction bs generalizing s i with
  | nil => rfl
  | cons b bs ih => exact ih _ _

@[simp] theorem State.storeBytes_secureView (q : Request) (x : Translation) (i : Nat) (bs : List Byte) :
    (s.storeBytes q x i bs).secureView = s.secureView := by
  induction bs generalizing s i with
  | nil => rfl
  | cons b bs ih => exact (ih _ _).trans (s.writeExternal_secureView _ _ _)

@[simp] theorem State.storeHit_secureView (l : CacheLine) (x : Translation) (bs : List Byte) :
    (s.storeHit l x bs).secureView = s.secureView := by
  unfold State.storeHit
  dsimp only
  split
  · simp only [State.markDirty_secureView, State.putLine_secureView]
    exact State.foldl_secureView (fun t _ => t.touch_secureView _) _ s
  · rfl

@[simp] theorem State.setCpsr_secureView (p : Psr) :
    (s.setCpsr p).secureView = { s.secureView with monitor := p.mode == .mon } := by
  rw [State.setCpsr, State.switchedFrom_secureView]
  rfl

end

/-! Parts of a meaning that leave the view -/

/-- Begun with a view `c` of which `L` holds, a part of a meaning completes with the same view, or ends the instruction in
a state that `E c` allows. -/
def Passes {α : Type} (L : SecureView → Prop) (E : SecureView → State → Prop) (m : Exec α) : Prop :=
  ∀ c, L c → Stays (fun s => s.secureView = c) (E c) m

/-- A part that an instruction of the Non-secure world may have. -/
abbrev Confined {α : Type} (m : Exec α) : Prop := Passes SecureView.Live SecureView.Ended m

/-- A part that leaves the view however it ends. -/
abbrev Still {α : Type} (m : Exec α) : Prop := Passes (fun _ => True) (fun c s => s.secureView = c) m

section

variable {α β : Type} {L : SecureView → Prop} {E : SecureView → State → Prop}

namespace Passes

theorem bind {m : Exec α} {f : α → Exec β} (hm : Passes L E m) (hf : ∀ a, Passes L E (f a)) : Passes L E (m >>= f) :=
  fun c hc => (hm c hc).bind fun a => hf a c hc

theorem map {m : Exec α} (f : α → β) (hm : Passes L E m) : Passes L E (f <$> m) := fun c hc => (hm c hc).map f
theorem pure (a : α) : Passes L E (Pure.pure a) := fun _ _ => Stays.pure a
theorem look (f : State → α) : Passes L E (look f) := fun _ _ => Stays.look f
theorem refuse (r : Refusal) : Passes L E (refuse r : Exec α) := fun _ _ => Stays.refuse r

theorem update {f : State → State} (h : ∀ s, (f s).secureView = s.secureView) : Passes L E (update f) :=
  fun _ _ => Stays.update fun s hs => (h s).trans hs

theorem endWith {f : State → State} (h : ∀ s, L s.secureView → E s.secureView (f s)) :
    Passes L E (endWith f : Exec α) := fun _ hc => Stays.endWith fun s hs => hs ▸ h s (hs ▸ hc)

theorem ite {p : Prop} [Decidable p] {a b : Exec α} (ha : Passes L E a) (hb : Passes L E b) :
    Passes L E (if p then a else b) := fun c hc => (ha c hc).ite (hb c hc)

theorem branch {p : State → Prop} [DecidablePred p] {a b : Exec α} (ha : Passes L E a) (hb : Passes L E b) :
    Passes L E (fun s => if p s then a s else b s) := fun c hc => (ha c hc).branch (hb c hc)

/-- A part of which it is known what it does in each state. -/
theorem of_run {m : Exec α} (h : ∀ s, L s.secureView → Post (fun t => t.secureView = s.secureView) (E s.secureView) (m s)) :
    Passes L E m := by
  rintro _ hc s rfl
  exact h s hc

theorem run {m : Exec α} (h : Passes L E m) (s : State) (hs : L s.secureView) :
    Post (fun t => t.secureView = s.secureView) (E s.secureView) (m s) := h _ hs s rfl

end Passes

end

section

variable {L : SecureView → Prop} {E : SecureView → State → Prop}

theorem checkEndianness_passes (n : Nat) : Passes L E (checkEndianness n) := fun _ _ => checkEndianness_stays n
theorem dmaGuard_passes (b : Bool) : Passes L E (dmaGuard b) := fun _ _ => dmaGuard_stays b
theorem noPc_passes (l : List RegNo) : Passes L E (noPc l) := fun _ _ => noPc_stays l
theorem refuseIf_passes (b : Bool) : Passes L E (refuseIf b) := fun _ _ => refuseIf_stays b
theorem distinct_passes (a b : RegNo) : Passes L E (distinct a b) := fun _ _ => distinct_stays a b
theorem currentSpsr_passes : Passes L E currentSpsr := fun _ _ => currentSpsr_stays
theorem exceptionModeOnly_passes : Passes L E exceptionModeOnly := fun _ _ => exceptionModeOnly_stays
theorem draw_passes : Passes L E draw := .of_run fun _ _ => rfl
theorem advance_passes : Passes L E advance := .update State.next_secureView
theorem finishReg_passes (n : RegNo) (v : Word) : Passes L E (finishReg n v) := .update fun s => by simp

/-! Lines and transfers -/

theorem readExternal_passes (q : Request) (pa : Word) : Passes L E (readExternal q pa) :=
  .branch (.bind draw_passes fun _ => .pure _) (.look _)

theorem readLine_passes (q : Request) (pa : Word) (n : Nat) : Passes L E (readLine q pa n) := by
  induction n with
  | zero => exact .pure _
  | succ n ih => exact .bind ih fun _ => .bind (readExternal_passes _ _) fun _ => .pure _

theorem chooseWay_passes (set : Nat) : Passes L E (chooseWay set) := by
  refine .of_run fun s hs => ?_
  unfold chooseWay
  split
  · rfl
  · exact (Passes.bind draw_passes fun _ => .pure _).run s hs

theorem fillLine_passes (x : Translation) (mva pa : Word) (priv : Bool) : Passes L E (fillLine x mva pa priv) := by
  refine .bind (.look _) fun set => .bind (chooseWay_passes set) fun way => .bind (.update fun s => ?_) fun _ =>
    .bind (readLine_passes _ _ _) fun data => .bind (.update fun s => by simp) fun _ => .pure _
  split
  · exact s.evictLine_secureView _ _
  · rfl

theorem lookupLine_passes (mva pa : Word) (ns : Bool) : Passes L E (lookupLine mva pa ns) := by
  refine .of_run fun s hs => ?_
  unfold lookupLine
  split
  · rfl
  · split
    · exact (Passes.bind draw_passes fun w => .ite (.bind (.update fun s => s.evictLine_secureView _ _) fun _ => .pure _)
        (.pure _)).run s hs
    · rfl

theorem cachedLine_passes (p : Acc) (mva : Word) (x : Translation) : Passes L E (cachedLine p mva x) := by
  unfold cachedLine
  exact .branch (.pure _) (.branch (p := fun _ => _) (.look _) (lookupLine_passes _ _ _))

theorem heldLine_passes (p : Acc) (x : Translation) (hit : Option CacheLine) : Passes L E (heldLine p x hit) := by
  refine .of_run fun s _ => ?_
  unfold heldLine
  split
  · rfl
  · split
    · rfl
    · exact s.evictLine_secureView _ _

theorem notePiece_passes (p : Acc) (va : Word) (x : Translation) (q : Request) (bs : List Byte) :
    Passes L E (notePiece p va x q bs) := by
  have note (w : Word) := Passes.update (L := L) (E := E) (f := fun s : State =>
    (List.range (w.extractLsb' 0 8).toNat).foldl
      (fun t _ => t.noteTransfer (t.singleRequest p x bs.length) (t.pieceCells x bs) none)
      (s.notePiece p va x q bs none))
    fun s => State.foldl_secureView (fun t _ => t.noteTransfer_secureView _ _ _) _ _
  unfold notePiece
  exact .ite (.bind draw_passes note) (.bind (.pure _) note)

theorem readBytes_passes (q : Request) (x : Translation) (n : Nat) : Passes L E (readBytes q x n) := by
  induction n with
  | zero => exact .pure _
  | succ n ih => exact .bind ih fun _ => .bind (.look _) fun _ => .bind (readExternal_passes _ _) fun _ => .pure _

theorem openBytes_passes (n : Nat) : Passes L E (openBytes n) := by
  induction n with
  | zero => exact .pure _
  | succ n ih => exact .bind draw_passes fun _ => .bind ih fun _ => .pure _

end

/-! Translation -/

theorem State.lookup_secureView (s : State) (ns : Bool) (asid : BitVec 8) (mva : Word) :
    (s.lookup ns asid mva).Leaves (fun t => t.secureView = s.secureView) := by
  unfold State.lookup
  dsimp only
  split
  · trivial
  · split
    · trivial
    · split
      · exact State.recordFault_secureView _ _ _ _
      · split
        · exact State.recordWalk_secureView _ _ _ _ _ _
        · exact (State.lockWalk_secureView _ _ _ _ _ _).trans (State.recordWalk_secureView _ _ _ _ _ _)
      · split
        · exact s.drawWalk_secureView
        · trivial
      · split
        · exact s.drawWalk_secureView
        · trivial

theorem State.translate_secureView (s : State) (ns : Bool) (asid : BitVec 8) (mva : Word) (acc : Access) (priv : Bool)
    (who : Client) : (s.translate ns asid mva acc priv who).Leaves (fun t => t.secureView = s.secureView) := by
  unfold State.translate
  dsimp only
  split
  · rfl
  · have hl := s.lookup_secureView ns asid mva
    revert hl
    cases s.lookup ns asid mva with
    | found m t =>
      intro (hl : t.secureView = s.secureView)
      have h := t.checkMapping_leaves ns m acc priv who
      dsimp only
      revert h
      cases t.checkMapping ns m acc priv who with
      | ok x u => intro (h : u = t); exact h ▸ hl
      | abort f u => intro (h : u = t); exact h ▸ hl
      | refused r => exact id
    | abort f t => exact id
    | refused r => exact id

/-! The DMA engine -/

theorem dmaTranslate_still (c : Bool) (va : Word) (acc : Access) (bits : MmuFault → Word) :
    Still (dmaTranslate c va acc bits) := by
  refine .of_run fun s _ => ?_
  have h := s.translate_secureView s.dmaNs ((s.channel c).context.extractLsb' 0 8) (s.fcse s.dmaNs va) acc
    (!(s.channel c).userTransfer) .dma
  unfold dmaTranslate
  dsimp only
  revert h
  cases s.translate s.dmaNs ((s.channel c).context.extractLsb' 0 8) (s.fcse s.dmaNs va) acc
    (!(s.channel c).userTransfer) .dma with
  | ok x t => exact id
  | abort f t => exact id
  | refused r => exact id

section

variable {L : SecureView → Prop} {E : SecureView → State → Prop}

theorem dmaRead_passes (q : Request) (pa : Word) : Passes L E (dmaRead q pa) := by
  refine .bind (.look _) fun k => .bind (.look _) fun held => ?_
  cases held with
  | none => exact readExternal_passes q pa
  | some l => exact .bind draw_passes fun w => .ite (.pure _) (readExternal_passes q pa)

theorem dmaIn_passes (q : Request) (data second : Bool) (off n : Nat) : Passes L E (dmaIn q data second off n) := by
  induction n with
  | zero => exact .pure _
  | succ n ih =>
    exact .bind ih fun _ => .bind (dmaRead_passes _ _) fun b => .bind (.update fun s => s.storeByte_secureView _ _) fun _ =>
      .pure _

theorem dmaOut_passes (q : Request) (data second : Bool) (off n : Nat) : Passes L E (dmaOut q data second off n) := by
  induction n with
  | zero => exact .pure _
  | succ n ih =>
    exact .bind ih fun _ => .bind (.look _) fun b => .bind (.update fun s => by simp) fun _ => .pure _

end

theorem dmaTransfer_still (c : Bool) : Still (dmaTransfer c) := by
  have ends {f : State → State} (h : ∀ s, (f s).secureView = s.secureView) : Still (endWith f : Exec Unit) :=
    .endWith fun s _ => h s
  refine .bind (.look _) fun d => .ite (ends fun s => s.dmaComplete_secureView c) ?_
  refine .bind (.look _) fun ns => .bind (.look _) fun device => .bind (dmaTranslate_still _ _ _ _) fun i =>
    .bind (.look _) fun tcm => ?_
  cases tcm with
  | none => exact ends fun _ => rfl
  | some second =>
    refine .ite (.refuse _) (.bind (dmaTranslate_still _ _ _ _) fun e => .bind (.look _) fun region =>
      .ite (ends fun _ => rfl) (.bind (.look _) fun pa => .bind (.look _) fun err => ?_))
    cases err with
    | some x => exact .bind draw_passes fun v => .bind draw_passes fun w => ends fun _ => rfl
    | none =>
      exact .bind (.look _) fun off => .ite (.bind (dmaOut_passes _ _ _ _ _) fun _ => .update fun _ => rfl)
        (.bind (dmaIn_passes _ _ _ _ _) fun _ => .update fun _ => rfl)

section

variable {L : SecureView → Prop} {E : SecureView → State → Prop}

/-- One step of the engine completes, whatever the transfer ends with. -/
theorem dmaStep_passes : Passes L E dmaStep := by
  refine .of_run fun s _ => ?_
  unfold dmaStep
  split
  · rfl
  · rename_i c _
    have h := (dmaTransfer_still c).run s trivial
    match dmaTransfer c s, h with
    | .ok _, h => exact h
    | .error (.took _), h => exact h
    | .error (.refused _), _ => trivial

theorem dmaSteps_passes (n : Nat) : Passes L E (dmaSteps n) := by
  induction n with
  | zero => exact .pure _
  | succ n ih => exact .bind dmaStep_passes fun _ => ih

theorem dmaInterval_passes : Passes L E dmaInterval := by
  refine .of_run fun s hs => ?_
  unfold dmaInterval
  split
  · rfl
  · exact (Passes.bind draw_passes fun _ => dmaSteps_passes _).run s hs

end

/-! How an instruction ends early -/

/-- A precise external abort goes to Secure Monitor mode. -/
def SecureView.routed (c : SecureView) (external : Bool) : Bool := external && c.config.scr.getLsbD 3

/-- A Data Abort has been taken: fault registers of the Secure world are written where it goes to Secure Monitor mode. -/
def SecureView.Aborted (c : SecureView) (external : Bool) (t : State) : Prop :=
  ∃ r, t.secureView = { c with faults := r, monitor := c.routed external } ∧ (c.routed external = false → r = c.faults)

theorem SecureView.Aborted.ended {c : SecureView} {external : Bool} {t : State} (h : c.Aborted external t) :
    c.Ended t := by
  obtain ⟨r, ht, hr⟩ := h
  cases hm : c.routed external
  · exact ⟨by rw [ht], .inr (by rw [ht]; exact hr hm)⟩
  · exact ⟨by rw [ht], .inl (by rw [ht]; exact hm)⟩

theorem enterException_secureView {s : State} (h : s.secureView.Live) (x : Exc) :
    (enterException x s).secureView =
      { s.secureView with monitor := (if x.toMonitor s.cp15.scr then Mode.mon else x.mode) == .mon } := by
  have hm : ¬ s.cpsr.mode = .mon := beq_eq_false_iff_ne.mp h.monitor
  unfold enterException
  simp only [State.switchedFrom_secureView, if_neg hm]
  rfl

theorem SecureView.Live.enter {s : State} (h : s.secureView.Live) (x : Exc) :
    s.secureView.Ended (enterException x s) := by
  have e := enterException_secureView h x
  exact ⟨by rw [e], .inr (by rw [e])⟩

/-- Fault registers of a world are written: the view sees those of the Secure world. -/
theorem State.setBankOf_secureView (s : State) (ns : Bool) {f : Cp15Banked → Cp15Banked}
    (h : ∀ b, (f b).settled = b.settled) :
    ∃ r, (s.setBankOf ns f).secureView = { s.secureView with faults := r } ∧ (ns = true → r = s.secureView.faults) := by
  cases ns
  · exact ⟨(f s.secure).faults, congrArg (fun b => { s.secureView with
      config := { s.secureView.config with bank := b }, faults := (f s.secure).faults }) (h s.secure), nofun⟩
  · exact ⟨_, rfl, fun _ => rfl⟩

theorem State.faultWorld_of_live {s : State} (h : s.secureView.Live) (external : Bool) :
    s.faultWorld external = !s.secureView.routed external := by
  rw [State.faultWorld, h.isSecure]
  rfl

theorem State.abortWorld_of_live {s : State} (h : s.secureView.Live) (external : Bool) :
    s.abortWorld external = !s.secureView.routed external :=
  (if_neg (Bool.eq_false_iff.mp h.halted)).trans (s.faultWorld_of_live h external)

theorem SecureView.Live.withFaults {c : SecureView} (h : c.Live) (r : FaultRegs) : { c with faults := r }.Live :=
  ⟨h.world, h.monitor, h.halted⟩

theorem SecureView.Live.enterDataAbort {c : SecureView} (h : c.Live) {s : State} (hs : s.secureView = c) (external : Bool) :
    (enterException (.dataAbort external) s).secureView = { c with monitor := c.routed external } := by
  subst hs
  rw [enterException_secureView h]
  have e : (Exc.dataAbort external).toMonitor s.cp15.scr = s.secureView.routed external := rfl
  rw [e]
  cases s.secureView.routed external <;> rfl

/-- A Data Abort outside Debug state enters the exception. -/
theorem State.dataAbort_of_running {s : State} (h : s.halted = false) (f : MmuFault) (far : Word) (w : Bool) :
    ∃ u, (s.setBankOf (s.abortWorld f.error.isSome) fun b => { b with far := far, dfsr := dfsrOf f w }).secureView =
        u.secureView ∧ s.dataAbort f far w = enterException (.dataAbort f.error.isSome) u :=
  let t := s.setBankOf (s.abortWorld f.error.isSome) fun b => { b with far := far, dfsr := dfsrOf f w }
  ⟨{ t with dbg := { t.dbg with watchHit := none } }, rfl, if_neg (Bool.eq_false_iff.mp h)⟩

theorem State.dataAbort_aborted {s : State} (h : s.secureView.Live) (f : MmuFault) (far : Word) (w : Bool) :
    s.secureView.Aborted f.error.isSome (s.dataAbort f far w) := by
  obtain ⟨u, hu, e⟩ := State.dataAbort_of_running h.halted f far w
  obtain ⟨r, hv, hr⟩ := s.setBankOf_secureView (s.abortWorld f.error.isSome)
    (f := fun b => { b with far := far, dfsr := dfsrOf f w }) fun _ => rfl
  rw [State.abortWorld_of_live h, Bool.not_eq_true'] at hr
  exact ⟨r, e ▸ (h.withFaults r).enterDataAbort (hu.symm.trans hv) _, hr⟩

theorem State.undefined_ended {s : State} (h : s.secureView.Live) : s.secureView.Ended s.undefined := by
  rw [State.undefined_of_running h.halted]
  exact h.enter _

theorem State.debugPrefetchAbort_ended {s : State} (h : s.secureView.Live) : s.secureView.Ended s.debugPrefetchAbort := by
  obtain ⟨r, hv, hr⟩ := s.setBankOf_secureView (s.faultWorld false) (f := fun b => { b with ifsr := 0x2 }) fun _ => rfl
  have e := enterException_secureView (hv ▸ h.withFaults r) (.prefetchAbort false)
  unfold State.debugPrefetchAbort
  exact ⟨by rw [e, hv], .inr (by rw [e, hv]; exact hr (s.faultWorld_of_live h false))⟩

theorem takeUndefined_confined {α : Type} : Confined (takeUndefined : Exec α) := .endWith fun _ h => State.undefined_ended h

theorem takeDataAbort_confined {α : Type} (f : MmuFault) (far : Word) (w : Bool) :
    Confined (takeDataAbort f far w : Exec α) := .endWith fun _ h => (State.dataAbort_aborted h f far w).ended

theorem takeAlignmentFault_confined {α : Type} (va : Word) (w : Bool) :
    Confined (takeAlignmentFault va w : Exec α) := .endWith fun _ h => (State.dataAbort_aborted h _ _ w).ended

/-! The data access path -/

theorem alignData_confined (p : Acc) (a : Word) : Confined (alignData p a) := by
  refine .of_run fun s hs => ?_
  unfold alignData
  split
  · rfl
  · exact (takeAlignmentFault_confined _ _).run s hs
  · trivial

/-- What ends with the abort of a state with the same view ends so itself. -/
theorem Post.of_view {α : Type} {E : SecureView → State → Prop} {s t : State} (h : t.secureView = s.secureView)
    {r : Except Stop (α × State)} (k : Post (fun u => u.secureView = t.secureView) (E t.secureView) r) :
    Post (fun u => u.secureView = s.secureView) (E s.secureView) r := h ▸ k

theorem translateData_confined (p : Acc) (va : Word) (u : Bool) : Confined (translateData p va u) := by
  refine .of_run fun s hs => ?_
  have h := s.translate_secureView (!s.isSecure) (s.asidOf !s.isSecure) (s.fcse (!s.isSecure) va)
    (if p.write then .write else .read) p.priv .data
  unfold translateData
  dsimp only
  revert h
  cases s.translate (!s.isSecure) (s.asidOf !s.isSecure) (s.fcse (!s.isSecure) va) (if p.write then .write else .read)
    p.priv .data with
  | refused r => intro _; trivial
  | abort f t =>
    intro (h : t.secureView = s.secureView)
    exact Post.of_view h ((takeDataAbort_confined _ _ _).run t (h ▸ hs))
  | ok x t =>
    intro (h : t.secureView = s.secureView)
    dsimp only
    split
    · split
      · exact Post.of_view h ((takeAlignmentFault_confined _ _).run t (h ▸ hs))
      · trivial
    · split
      · trivial
      · exact h

theorem reportError_confined (p : Acc) (va : Word) (x : Translation) (e : BusError) : Confined (reportError p va x e) := by
  refine .of_run fun s hs => ?_
  unfold reportError
  split
  · exact (takeDataAbort_confined _ _ _).run s hs
  · exact s.impreciseAbort_secureView _ _

/-! Loads -/

theorem readBus_confined (p : Acc) (va : Word) (x : Translation) (n : Nat) : Confined (readBus p va x n) := by
  refine .bind (.look _) fun q => .bind (.look _) fun e => ?_
  cases e with
  | none => exact .bind (readBytes_passes _ _ _) fun bs => .bind (notePiece_passes _ _ _ _ _) fun _ => .pure _
  | some e =>
    exact .bind (.update fun _ => rfl) fun _ =>
      .ite (.bind (.update fun _ => rfl) fun _ => .bind (reportError_confined _ _ _ _) fun _ => .pure _)
        (.bind (reportError_confined _ _ _ _) fun _ => .pure _)

theorem readFill_confined (p : Acc) (va mva : Word) (x : Translation) (n : Nat) : Confined (readFill p va mva x n) := by
  refine .bind (.look _) fun e => ?_
  cases e with
  | none => exact .bind (fillLine_passes _ _ _ _) fun l => .map _ (.look _)
  | some e => exact .bind (.update fun _ => rfl) fun _ => .bind (reportError_confined _ _ _ _) fun _ => .pure _

theorem readRouted_confined (p : Acc) (va : Word) (x : Translation) (n : Nat) : Confined (readRouted p va x n) := by
  refine .bind (.look _) fun mva => .bind (.look _) fun data => .ite (.map _ (.look _)) ?_
  refine .bind (cachedLine_passes _ _ _) fun hit => .bind (heldLine_passes _ _ _) fun held => ?_
  cases held with
  | some l => exact .map _ (.look _)
  | none =>
    exact .bind (.look _) fun instr => .ite (.map _ (.look _))
      (.bind (.look _) fun fills => .ite (readFill_confined _ _ _ _ _) (readBus_confined _ _ _ _))

theorem readPiece_confined (p : Acc) (va : Word) (n : Nat) (u : Bool) : Confined (readPiece p va n u) := by
  refine .bind (.update fun s => by simp) fun _ => .bind (translateData_confined _ _ _) fun x =>
    .bind (checkEndianness_passes _) fun _ => .bind (readRouted_confined _ _ _ _) fun r => ?_
  cases r with
  | some bs => exact .bind (.pure _) fun _ => .pure _
  | none => exact .bind (openBytes_passes _) fun _ => .pure _

theorem readSplit_confined (p : Acc) (va : Word) (n : Nat) : Confined (readSplit p va n) := by
  induction n generalizing va with
  | zero => exact .pure _
  | succ n ih =>
    exact .bind (readPiece_confined _ _ _ _) fun r => .bind dmaInterval_passes fun _ => .bind (ih _) fun _ => .pure _

theorem memRead_confined (p : Acc) (a : Word) (n : Nat) : Confined (memRead p a n) :=
  .bind (alignData_confined _ _) fun _ => .ite
    (.bind (checkEndianness_passes _) fun _ => .bind (readSplit_confined _ _ _) fun _ => .bind (.look _) fun _ => .pure _)
    (.bind (readPiece_confined _ _ _ _) fun _ => .bind (.look _) fun _ => .pure _)

theorem readWordAt_confined (p : Acc) (a : Word) : Confined (readWordAt p a) :=
  .bind (readPiece_confined _ _ _ _) fun _ => .bind (.look _) fun _ => .pure _

/-! Stores -/

theorem writeBus_confined (p : Acc) (va : Word) (x : Translation) (bs : List Byte) : Confined (writeBus p va x bs) := by
  refine .bind (.look _) fun q => .bind (.look _) fun e => ?_
  cases e with
  | none => exact .bind (.update fun s => s.storeBytes_secureView _ _ _ _) fun _ => notePiece_passes _ _ _ _ _
  | some e => exact .bind (.update fun _ => rfl) fun _ => reportError_confined _ _ _ _

theorem writeRouted_confined (p : Acc) (va : Word) (x : Translation) (bs : List Byte) :
    Confined (writeRouted p va x bs) := by
  have store (data : Bool) : Confined (update fun s => s.storeTcm data x 0 bs) :=
    .update fun s => s.storeTcm_secureView _ _ _ _
  refine .bind (.look _) fun mva => .bind (.look _) fun data => .ite (store true) ?_
  refine .bind (cachedLine_passes _ _ _) fun hit => .bind (.look _) fun kept => ?_
  have rest : Confined (if kept then pure () else do
      let instr ← look fun s => (s.tcmOf false x.ns x.pa).isSome
      if instr then update fun s => s.storeTcm false x 0 bs else writeBus p va x bs) :=
    .ite (.pure _) (.bind (.look _) fun _ => .ite (store false) (writeBus_confined _ _ _ _))
  cases hit with
  | some l => exact .bind (.update fun s => s.storeHit_secureView _ _ _) fun _ => rest
  | none => exact rest

theorem writePiece_confined (p : Acc) (va : Word) (bs : List Byte) (u : Bool) : Confined (writePiece p va bs u) :=
  .bind (.update fun s => by simp) fun _ => .bind (translateData_confined _ _ _) fun _ =>
    .bind (checkEndianness_passes _) fun _ => .bind (writeRouted_confined _ _ _ _) fun _ => .pure _

theorem writeSplit_confined (p : Acc) (va : Word) (bs : List Byte) : Confined (writeSplit p va bs) := by
  induction bs generalizing va with
  | nil => exact .pure _
  | cons b bs ih => exact .bind (writePiece_confined _ _ _ _) fun _ => .bind dmaInterval_passes fun _ => ih _

theorem memWrite_confined (p : Acc) (a : Word) (n : Nat) (v : Word) : Confined (memWrite p a n v) :=
  .bind (alignData_confined _ _) fun _ => .bind (.look _) fun _ => .ite
    (.bind (checkEndianness_passes _) fun _ => writeSplit_confined _ _ _)
    (.bind (writePiece_confined _ _ _ _) fun _ => .pure _)

theorem writeWordAt_confined (p : Acc) (a v : Word) : Confined (writeWordAt p a v) :=
  .bind (.look _) fun _ => .bind (writePiece_confined _ _ _ _) fun _ => .pure _

theorem writeWords_confined (p : Acc) (a : Word) (vs : List Word) : Confined (writeWords p a vs) := by
  induction vs generalizing a with
  | nil => exact .pure _
  | cons v vs ih => exact .bind (writeWordAt_confined _ _ _) fun _ => .bind dmaInterval_passes fun _ => ih _

/-! Transfers of lists, which an abort leaves in any part -/

@[simp] theorem State.putRegs_secureView (s : State) (m : Mode) (l : List (RegNo × Word)) :
    (s.putRegs m l).secureView = s.secureView := by
  induction l generalizing s with
  | nil => rfl
  | cons x l ih =>
    unfold State.putRegs
    exact ite_field _ _ _ _ (ih s) (ih _)

@[simp] theorem State.putSingles_secureView (s : State) (l : List (BitVec 5 × Word)) :
    (s.putSingles l).secureView = s.secureView := by
  induction l generalizing s with
  | nil => rfl
  | cons x l ih => exact ih _

section

variable {L : SecureView → Prop} {E : SecureView → State → Prop}

theorem writeBase_passes (rn : RegNo) (v : Option Word) : Passes L E (writeBase rn v) := by
  cases v with
  | none => exact .pure _
  | some v => exact .update fun _ => rfl

theorem openLoaded_passes (m : Mode) (base : Fin 32) (l : List (RegNo × Word)) : Passes L E (openLoaded m base l) := by
  induction l with
  | nil => exact .pure _
  | cons x l ih =>
    exact .bind draw_passes fun d => .bind (.update fun _ => ite_field _ _ _ _ rfl rfl) fun _ => ih

theorem openSingles_passes (p : Prec) (l : List (BitVec 5 × Word)) : Passes L E (openSingles p l) := by
  have put (b : Bool) (l : List (BitVec 5 × Word)) : Passes L E (update fun s => if b then s.putSingles l else s) :=
    .update fun s => ite_field _ _ _ _ (s.putSingles_secureView l) rfl
  induction l using openSingles.induct with
  | case1 => exact .pure _
  | case2 x => exact .bind draw_passes fun d => .update fun s => ite_field _ _ _ _ (s.putSingles_secureView _) rfl
  | case3 x y rest h1 h2 =>
    exact .bind draw_passes fun d => .ite (.bind (put _ _) fun _ => h1) (.bind (put _ _) fun _ => h2)

end

/-- What leaves the view may follow an end. -/
theorem Still.ended {α : Type} {m : Exec α} (h : Still m) (c : SecureView) : Stays c.Ended c.Ended m := by
  intro s hs
  have k := h.run s trivial
  match m s, k with
  | .ok _, k => exact hs.trans k
  | .error (.took _), k => exact hs.trans k
  | .error (.refused _), _ => trivial

theorem listedWord_confined (p : Acc) (a : Word) : Confined (do let w ← readWordAt p a; dmaInterval; pure w) :=
  .bind (readWordAt_confined p a) fun _ => .bind dmaInterval_passes fun _ => .pure _

theorem readListed_confined (p : Acc) (m : Mode) (base : Fin 32) (done l : List (RegNo × Word)) :
    Confined (readListed p m base done l) := by
  induction l generalizing done with
  | nil => exact .pure _
  | cons x l ih =>
    obtain ⟨r, a⟩ := x
    refine .of_run fun s hs => ?_
    have h := (listedWord_confined { p with loadsPc := p.loadsPc || r = 15 } a).run s hs
    unfold readListed
    split
    · rename_i w t e
      rw [e] at h
      have h : t.secureView = s.secureView := h
      exact Post.of_view h ((ih _).run t (h ▸ hs))
    · rename_i t e
      rw [e] at h
      exact Post.afterTook (Still.ended (openLoaded_passes _ _ _) _) h
    · rename_i x hx e
      rw [e] at h
      cases x with
      | took t => exact absurd rfl (hx t)
      | refused r => trivial
      | fault f => exact h

theorem readSingles_confined (p : Acc) (many : Option Prec) (a : Word) (done : List (BitVec 5 × Word))
    (l : List (BitVec 5)) : Confined (readSingles p many a done l) := by
  induction l generalizing a done with
  | nil => exact .pure _
  | cons r l ih =>
    refine .of_run fun s hs => ?_
    have h := (listedWord_confined p a).run s hs
    unfold readSingles
    split
    · rename_i w t e
      rw [e] at h
      have h : t.secureView = s.secureView := h
      exact Post.of_view h ((ih _ _).run t (h ▸ hs))
    · rename_i t e
      rw [e] at h
      cases many with
      | some k => exact Post.afterTook (Still.ended (openSingles_passes _ _) _) h
      | none => exact Post.afterTook (.pure ()) h
    · rename_i x hx e
      rw [e] at h
      cases x with
      | took t => exact absurd rfl (hx t)
      | refused r => trivial
      | fault f => exact h

theorem loadBlock_confined (precise : Bool) (m : Mode) (rn : RegNo) (rs : List RegNo) (start : Word) :
    Confined (loadBlock precise m rn rs start) :=
  .bind (.look _) fun _ => .bind (.look _) fun _ => .bind (alignData_confined _ _) fun _ => readListed_confined _ _ _ _ _

theorem storeBlock_confined (start : Word) (ws : List Word) : Confined (storeBlock start ws) :=
  .bind (.look _) fun _ => .bind (alignData_confined _ _) fun _ => writeWords_confined _ _ _

/-! Exclusive accesses -/

theorem readExclusive_confined (p : Acc) (a : Word) (x : Translation) (n : Nat) : Confined (readExclusive p a x n) := by
  refine .of_run fun s hs => ?_
  have h := (readRouted_confined p a x n).run s hs
  unfold readExclusive
  match readRouted p a x n s, h with
  | .ok (some bs, t), h => exact h
  | .ok (none, t), h =>
    have h : t.openMonitor.secureView = s.secureView := h
    exact Post.of_view h ((openBytes_passes n).run _ (h ▸ hs))
  | .error (.took t), h => exact h.trans t.openMonitor_secureView
  | .error (.refused _), _ => trivial

theorem loadExclusive_confined (ty : AccType) (n : Nat) (rn : RegNo) : Confined (loadExclusive ty n rn) :=
  .bind (.look _) fun _ => .bind (.look _) fun _ => .bind (alignData_confined _ _) fun _ =>
    .bind (.update fun s => s.noteWatch_secureView _ _ _) fun _ => .bind (translateData_confined _ _ _) fun _ =>
      .bind (checkEndianness_passes _) fun _ => readExclusive_confined _ _ _ _

theorem monitorPasses_passes {L : SecureView → Prop} {E : SecureView → State → Prop} (p : Acc) (x : Translation) (n : Nat) :
    Passes L E (monitorPasses p x n) :=
  .ite (.bind (.look _) fun _ => .ite
    (.bind draw_passes fun _ => .bind (.update fun _ => ite_field _ _ _ _ rfl rfl) fun _ => .pure _)
    (.pure _)) (.pure _)

theorem writeExclusive_confined (p : Acc) (a : Word) (x : Translation) (bs : List Byte) :
    Confined (writeExclusive p a x bs) :=
  .bind (writeRouted_confined _ _ _ _) fun _ => .bind (.update fun _ => ite_field _ _ _ _ rfl rfl) fun _ => .pure _

theorem refusedExclusive_confined (p : Acc) (a : Word) (x : Translation) (bs : List Byte) :
    Confined (refusedExclusive p a x bs) := by
  refine .bind (.look _) fun q => .bind (.look _) fun e => .bind (.update fun _ => rfl) fun _ => ?_
  cases e with
  | some e => exact .bind (reportError_confined _ _ _ _) fun _ => .pure _
  | none => exact .pure _

/-! Writing the CPSR: the Non-secure world enters Secure Monitor mode by an exception only (R905, R1261) -/

theorem Mode.eq_of_ofBits_mon {b : BitVec 5} (h : Mode.ofBits? b = some .mon) : b = 0b10110#5 := by
  revert b
  decide

theorem Psr.merge_mode_ne_mon {p p' : Psr} {v mask : Word} (h : p.merge v mask = some p') (hp : p.mode ≠ .mon)
    (hv : v.extractLsb' 0 5 = 0b10110#5 → mask.getLsbD 0 = false) : p'.mode ≠ .mon := by
  cases hm : mask.getLsbD 0
  · rw [(Psr.merge_fields h).1 hm]
    exact hp
  · unfold Psr.merge at h
    dsimp only at h
    rw [if_pos hm] at h
    obtain ⟨m, hb, rfl⟩ := Option.map_eq_some_iff.mp h
    rintro rfl
    exact Bool.noConfusion (hm.symm.trans (hv (Mode.eq_of_ofBits_mon hb)))

/-- The masks of the Non-secure world leave the mode out where it would be Secure Monitor mode. -/
theorem getLsbD_clearMonitor {b : BitVec 5} (x : Word) (h : b = 0b10110#5) :
    (x &&& ~~~(if b = 0b10110#5 then 0x1F#32 else 0)).getLsbD 0 = false := by
  rw [if_pos h, BitVec.getLsbD_and]
  simp

theorem State.returnMask_monitor {s : State} (h : s.isSecure = false) (v : Word) (hv : v.extractLsb' 0 5 = 0b10110#5) :
    (s.returnMask v).getLsbD 0 = false := by
  rw [State.returnMask, if_neg (Bool.eq_false_iff.mp h)]
  exact getLsbD_clearMonitor _ hv

theorem State.instrMask_monitor {s : State} (h : s.isSecure = false) (v bytes : Word)
    (hv : v.extractLsb' 0 5 = 0b10110#5) : (s.instrMask v bytes).getLsbD 0 = false := by
  rw [State.instrMask, if_neg (Bool.eq_false_iff.mp h)]
  exact getLsbD_clearMonitor _ hv

theorem SecureView.Live.setCpsr {s : State} (h : s.secureView.Live) {v mask : Word} {p : Psr}
    (hm : s.cpsr.merge v mask = some p) (hv : v.extractLsb' 0 5 = 0b10110#5 → mask.getLsbD 0 = false) :
    (s.setCpsr p).secureView = s.secureView := by
  have hp : p.mode ≠ .mon := Psr.merge_mode_ne_mon hm (beq_eq_false_iff_ne.mp h.monitor) hv
  rw [State.setCpsr_secureView, beq_eq_false_iff_ne.mpr hp, ← h.monitor]

theorem cpsrWriteByInstr_confined (v bytes : Word) : Confined (cpsrWriteByInstr v bytes) := by
  refine .of_run fun s hs => ?_
  unfold cpsrWriteByInstr
  cases hm : s.cpsr.merge v (s.instrMask v bytes) with
  | none => trivial
  | some p =>
    dsimp only
    split
    · rfl
    · exact hs.setCpsr hm (s.instrMask_monitor hs.isSecure v bytes)

theorem exceptionReturn_confined (before : State) (v target : Word) : Confined (exceptionReturn before v target) := by
  refine .bind (.of_run fun s hs => ?_) fun _ => .update fun _ => rfl
  have hh : s.halted = false := hs.halted
  unfold cpsrWriteByReturn
  split
  · trivial
  · cases hm : s.cpsr.merge v (s.returnMask v) with
    | none => trivial
    | some p =>
      simp only [hh, Bool.false_and]
      exact hs.setCpsr hm (State.returnMask_monitor hs.isSecure v)

/-- Only the instruction set and bits that say nothing of the world change. -/
theorem State.withCpsr_secureView (s : State) {p : Psr} (h : p.mode = s.cpsr.mode) :
    ({ s with cpsr := p } : State).secureView = s.secureView :=
  congrArg (fun m => { s.secureView with monitor := m == Mode.mon }) h

theorem State.setFlags_secureView (s : State) {p : Psr} (h : p.mode = s.cpsr.mode) :
    (s.setFlags p).secureView = s.secureView := s.withCpsr_secureView h

section

variable {L : SecureView → Prop} {E : SecureView → State → Prop}

/-! The end of an instruction -/

/-- The last update of an instruction that goes on to the next one. -/
theorem updateNext_passes {f : State → State} (h : ∀ s, (f s).secureView = s.secureView) :
    Passes L E (update fun s => (f s).next) := .update fun s => (f s).next_secureView.trans (h s)

theorem setFlagsIf_secureView (b : Bool) {s : State} {p : Psr} (h : p.mode = s.cpsr.mode) :
    (if b then s.setFlags p else s).secureView = s.secureView := ite_field _ _ _ _ (s.setFlags_secureView h) rfl

theorem openFlags_passes : Passes L E openFlags := .bind draw_passes fun _ => .update fun s => s.setFlags_secureView rfl

theorem bxWritePc_passes (v : Word) : Passes L E (bxWritePc v) :=
  .ite (.update fun _ => rfl) (.ite (.refuse _) (.update fun _ => rfl))

theorem loadPc_passes (v : Word) : Passes L E (loadPc v) :=
  .bind (.look _) fun _ => .ite (.update fun _ => rfl) (bxWritePc_passes v)

theorem link_passes (back bits : Word) : Passes L E (link back bits) := .update fun _ => rfl

theorem conditional_passes (c : Cond) {m : Exec Unit} (h : Passes L E m) : Passes L E (conditional c m) :=
  .branch (p := fun s => Cond.passes c s.cpsr = true) h advance_passes

theorem conditionalBranch_passes (c : Cond) {m : Exec Unit} (h : Passes L E m) : Passes L E (conditionalBranch c m) :=
  .branch (p := fun s => Cond.passes c s.cpsr = true) h
    (.branch (.bind draw_passes fun _ => .update fun _ => rfl) advance_passes)

theorem finishHigh_passes (rd : RegNo) (v : Word) : Passes L E (finishHigh rd v) :=
  .ite (.update fun _ => rfl) (finishReg_passes _ _)

theorem setEndian_passes (e : Bool) : Passes L E (setEndian e) :=
  .bind (.update fun s => s.setCpsr_secureView _) fun _ => advance_passes

theorem checkSingle_passes (w : Bool) (rn rd : RegNo) (rm : Option RegNo) (pc : Bool) :
    Passes L E (checkSingle w rn rd rm pc) := .ite (.refuse _) (.pure _)

theorem checkDouble_passes (w l : Bool) (rn rd : RegNo) (rm : Option RegNo) : Passes L E (checkDouble w l rn rd rm) :=
  .ite (.refuse _) (.pure _)

theorem checkMode3_passes (p w : Bool) : Passes L E (checkMode3 p w) := .ite (.refuse _) (.pure _)

theorem checkLoadList_passes (wb : Bool) (rn : RegNo) (rs : List RegNo) : Passes L E (checkLoadList wb rn rs) :=
  .ite (.refuse _) (.pure _)

theorem checkStoreList_passes (wb : Bool) (rn : RegNo) (rs : List RegNo) : Passes L E (checkStoreList wb rn rs) :=
  .ite (.refuse _) (.pure _)

theorem checkCount_passes (p : Prec) (d : BitVec 5) (n : Nat) (wb : Bool) (rn : RegNo) :
    Passes L E (checkCount p d n wb rn) := .ite (.refuse _) (.ite (.refuse _) (.pure _))

theorem checkPair_passes (rd rn : RegNo) (toCore last : Bool) : Passes L E (checkPair rd rn toCore last) :=
  .ite (.refuse _) (.pure _)

/-! Data processing, multiplies and media -/

theorem dpTest_passes (rn : RegNo) (f : Word → Word → Word) (o : Operand) : Passes L E (dpTest rn f o) :=
  .bind (.look _) fun _ => updateNext_passes fun s => s.setFlags_secureView rfl

theorem dpCompare_passes (rn : RegNo) (f : Word → Word → Sum) (o : Operand) : Passes L E (dpCompare rn f o) :=
  .bind (.look _) fun _ => updateNext_passes fun s => s.setFlags_secureView rfl

theorem finishMul_passes (sf : Bool) (rd : RegNo) (r : Word) : Passes L E (finishMul sf rd r) :=
  updateNext_passes fun _ => setFlagsIf_secureView sf rfl

theorem finishLong_passes (sf : Bool) (hi lo : RegNo) (r : DWord) : Passes L E (finishLong sf hi lo r) :=
  updateNext_passes fun _ => setFlagsIf_secureView sf rfl

theorem finishQ_passes (rd : RegNo) (r : Word) (q : Bool) : Passes L E (finishQ rd r q) :=
  updateNext_passes fun s => (s.setReg rd r).setFlags_secureView rfl

theorem saturating_passes (double : Bool) (rn rd rm : RegNo) (f : Int → Int → Int) :
    Passes L E (saturating double rn rd rm f) :=
  .bind (noPc_passes _) fun _ => .bind (.look _) fun _ => .bind (.look _) fun _ => finishQ_passes _ _ _

theorem parallel_passes (p : LanePrefix) (o : LaneOp) (rn rd rm : RegNo) : Passes L E (parallel p o rn rd rm) :=
  .bind (noPc_passes _) fun _ => .bind (.look _) fun _ => updateNext_passes fun _ => setFlagsIf_secureView _ rfl

theorem extend_passes (rd rm : RegNo) (rot : BitVec 2) (f : Word → Word) : Passes L E (extend rd rm rot f) :=
  .bind (noPc_passes _) fun _ => .bind (.look _) fun _ => finishReg_passes _ _

theorem extendAdd_passes (rn rd rm : RegNo) (rot : BitVec 2) (f : Word → Word → Word) :
    Passes L E (extendAdd rn rd rm rot f) :=
  .bind (noPc_passes _) fun _ => .bind (.look _) fun _ => finishReg_passes _ _

end

theorem finishDp_confined (sf : Bool) (rd : RegNo) (r : Word) {flags : Psr → Psr} (h : ∀ p : Psr, (flags p).mode = p.mode) :
    Confined (finishDp sf rd r flags) :=
  .ite (.ite (.bind currentSpsr_passes fun _ => .bind (.look _) fun _ => exceptionReturn_confined _ _ _)
    (.update fun _ => rfl)) (updateNext_passes fun _ => setFlagsIf_secureView sf (h _))

theorem dpLogical_confined (sf : Bool) (rd rn : RegNo) (f : Word → Word → Word) (o : Operand) :
    Confined (dpLogical sf rd rn f o) :=
  .bind (.look _) fun _ => .bind (.look _) fun _ => finishDp_confined _ _ _ fun _ => rfl

theorem dpMove_confined (sf : Bool) (rd : RegNo) (f : Word → Word) (o : Operand) : Confined (dpMove sf rd f o) :=
  .bind (.look _) fun _ => finishDp_confined _ _ _ fun _ => rfl

theorem dpArithmetic_confined (sf : Bool) (rd rn : RegNo) (f : Word → Word → Bool → Sum) (o : Operand) :
    Confined (dpArithmetic sf rd rn f o) :=
  .bind (.look _) fun _ => .bind (.look _) fun _ => finishDp_confined _ _ _ fun _ => rfl

/-! Loads and stores -/

theorem loadSingle_confined (ty : AccType) (n : Nat) (user : Bool) (f : Word → Word) (rn rd : RegNo) (a : Indexed) :
    Confined (loadSingle ty n user f rn rd a) :=
  .bind (.look _) fun _ => .bind (memRead_confined _ _ _) fun _ => .bind (writeBase_passes _ _) fun _ =>
    finishReg_passes _ _

theorem loadWord_confined (rn rd : RegNo) (a : Indexed) : Confined (loadWord rn rd a) :=
  .ite (.bind (.look _) fun _ => .bind (memRead_confined _ _ _) fun _ => .bind (writeBase_passes _ _) fun _ =>
    loadPc_passes _) (loadSingle_confined _ _ _ _ _ _ _)

theorem storeSingle_confined (ty : AccType) (n : Nat) (user : Bool) (rn rd : RegNo) (a : Indexed) :
    Confined (storeSingle ty n user rn rd a) :=
  .bind (.look _) fun _ => .bind (.look _) fun _ => .bind (memWrite_confined _ _ _ _) fun _ =>
    .bind (writeBase_passes _ _) fun _ => advance_passes

theorem loadDouble_confined (rn rd : RegNo) (a : Indexed) : Confined (loadDouble rn rd a) :=
  .bind (.look _) fun _ => .bind (alignData_confined _ _) fun _ => .bind (readWordAt_confined _ _) fun _ =>
    .bind dmaInterval_passes fun _ => .bind (readWordAt_confined _ _) fun _ => .bind (writeBase_passes _ _) fun _ =>
      .bind (.update fun _ => rfl) fun _ => finishReg_passes _ _

theorem storeDouble_confined (rn rd : RegNo) (a : Indexed) : Confined (storeDouble rn rd a) :=
  .bind (.look _) fun _ => .bind (.look _) fun _ => .bind (.look _) fun _ => .bind (alignData_confined _ _) fun _ =>
    .bind (writeWords_confined _ _ _) fun _ => .bind (writeBase_passes _ _) fun _ => advance_passes

theorem loadMultiple_confined (p u wb : Bool) (rn : RegNo) (rs : List RegNo) :
    Confined (loadMultiple p u wb rn rs) :=
  .bind (checkLoadList_passes _ _ _) fun _ => .bind (.look _) fun _ => .bind (.look _) fun _ =>
    .bind (loadBlock_confined _ _ _ _ _) fun _ => .bind (writeBase_passes _ _) fun _ =>
      .bind (.update fun s => s.putRegs_secureView _ _) fun _ => .ite (loadPc_passes _) advance_passes

theorem storeMultiple_confined (p u wb : Bool) (rn : RegNo) (rs : List RegNo) :
    Confined (storeMultiple p u wb rn rs) :=
  .bind (checkStoreList_passes _ _ _) fun _ => .bind (.look _) fun _ => .bind (.look _) fun _ =>
    .bind (storeBlock_confined _ _) fun _ => .bind (writeBase_passes _ _) fun _ => advance_passes

theorem storeExclusive_confined (ty : AccType) (rn rd : RegNo) (value : State → List Byte) :
    Confined (storeExclusive ty rn rd value) := by
  have finish (w : Word) : Confined (do update fun s => { s with exclLocal := false }; finishReg rd w) :=
    .bind (.update fun _ => rfl) fun _ => finishReg_passes _ _
  refine .bind (.look _) fun _ => .bind (.look _) fun _ => .bind (.look _) fun _ => .bind (alignData_confined _ _) fun _ =>
    .bind (.update fun s => s.noteWatch_secureView _ _ _) fun _ => .bind (.look _) fun _ => .ite ?_ (.bind (.pure _) finish)
  exact .bind (translateData_confined _ _ _) fun _ => .bind (checkEndianness_passes _) fun _ =>
    .bind (monitorPasses_passes _ _ _) fun _ =>
      .ite (.bind (writeExclusive_confined _ _ _ _) finish) (.bind (refusedExclusive_confined _ _ _ _) finish)

theorem loadExclusiveReg_confined (ty : AccType) (n : Nat) (rn rd : RegNo) : Confined (loadExclusiveReg ty n rn rd) :=
  .bind (noPc_passes _) fun _ => .bind (loadExclusive_confined _ _ _) fun _ => .bind (.look _) fun _ =>
    finishReg_passes _ _

theorem storeExclusiveReg_confined (ty : AccType) (n : Nat) (rn rd rm : RegNo) :
    Confined (storeExclusiveReg ty n rn rd rm) :=
  .bind (noPc_passes _) fun _ => .bind (refuseIf_passes _) fun _ => storeExclusive_confined _ _ _ _

theorem swap_confined (byte : Bool) (rn rd rm : RegNo) : Confined (swap byte rn rd rm) :=
  .bind (noPc_passes _) fun _ => .bind (refuseIf_passes _) fun _ => .bind (.look _) fun _ => .bind (.look _) fun _ =>
    .bind (.look _) fun _ => .bind (.look _) fun _ => .bind (alignData_confined _ _) fun _ =>
      .bind (translateData_confined _ _ _) fun _ => .bind (translateData_confined _ _ _) fun _ =>
        .bind (memRead_confined _ _ _) fun _ => .bind (memWrite_confined _ _ _ _) fun _ => finishReg_passes _ _

/-! Status and exceptions -/

theorem writeStatus_confined (spsr : Bool) (bytes v : Word) : Confined (writeStatus spsr bytes v) := by
  cases spsr
  · refine .of_run fun s hs => ?_
    have hh : s.halted = false := hs.halted
    unfold writeStatus
    simp only [Bool.false_eq_true, if_false]
    rw [exec_bind_ok (look_run _ s), hh]
    exact (Passes.bind (cpsrWriteByInstr_confined v bytes) fun _ => advance_passes).run s hs
  · exact .bind currentSpsr_passes fun _ => .bind (.update fun _ => rfl) fun _ => advance_passes

theorem changeState_confined (disable change a i f : Bool) (mode : Option (BitVec 5)) :
    Confined (changeState disable change a i f mode) :=
  .bind (.look _) fun _ => .ite (.bind (cpsrWriteByInstr_confined _ _) fun _ => advance_passes) advance_passes

theorem supervisorCall_confined : Confined supervisorCall := by
  refine .of_run fun s hs => ?_
  have hh : s.halted = false := hs.halted
  unfold supervisorCall
  rw [if_neg (Bool.eq_false_iff.mp hh)]
  exact hs.enter .svc

theorem State.setEntry_secureView (s : State) (e : Entry) : (s.setEntry e).secureView = s.secureView :=
  congrArg (fun b => { s.secureView with halted := b }) (s.setEntry_same e).halted

theorem State.instructionEvent_ended {s : State} (h : s.secureView.Live) (e : Entry) :
    s.secureView.Ended (s.instructionEvent e) := by
  unfold State.instructionEvent
  split
  · exact ⟨rfl, .inr rfl⟩
  · have hv := s.setEntry_secureView e
    exact hv ▸ State.debugPrefetchAbort_ended (hv ▸ h)

theorem softwareBreakpoint_confined : Confined softwareBreakpoint := by
  refine .of_run fun s hs => ?_
  unfold softwareBreakpoint
  split
  · rfl
  · split
    · exact State.instructionEvent_ended hs .bkpt
    · exact State.debugPrefetchAbort_ended hs

/-! The debug coprocessor -/

@[simp] theorem State.tookRdtr_secureView (s : State) : s.tookRdtr.secureView = s.secureView :=
  congrArg (fun b => { s.secureView with halted := b }) s.tookRdtr_same.halted

@[simp] theorem State.putWdtr_secureView (s : State) (v : Word) : (s.putWdtr v).secureView = s.secureView :=
  congrArg (fun b => { s.secureView with halted := b }) (s.putWdtr_same v).halted

theorem Cp14.afterRead_secureView (r : Cp14) (s : State) : (r.afterRead s).secureView = s.secureView :=
  ite_field _ _ _ _ s.tookRdtr_secureView rfl

theorem Cp14.put_secureView (r : Cp14) (v : Word) (s : State) : (r.put v s).secureView = s.secureView := by
  have h := congrArg (fun b => { s.secureView with halted := b }) (r.put_same v s).halted
  cases r <;> exact h

theorem cp14Read_confined (op1 : BitVec 3) (crn crm : BitVec 4) (op2 : BitVec 3) (rd : RegNo) :
    Confined (cp14Read op1 crn crm op2 rd) := by
  have open_ : Confined (do openFlags; advance) := .bind openFlags_passes fun _ => advance_passes
  unfold cp14Read
  cases Cp14Space.of? op1 crn crm op2 with
  | none => exact takeUndefined_confined
  | some space =>
    cases space with
    | trace =>
      exact .bind (.look _) fun _ => .ite takeUndefined_confined (.ite open_ (finishReg_passes _ _))
    | debug r =>
      refine .bind (.look _) fun _ => .ite takeUndefined_confined (.bind (.look _) fun _ =>
        .bind (.update r.afterRead_secureView) fun _ => .ite (.ite ?_ open_) (finishReg_passes _ _))
      exact .bind (.update fun s => s.setFlags_secureView rfl) fun _ => advance_passes

theorem cp14Write_confined (op1 : BitVec 3) (crn crm : BitVec 4) (op2 : BitVec 3) (rd : RegNo) :
    Confined (cp14Write op1 crn crm op2 rd) := by
  unfold cp14Write
  cases Cp14Space.of? op1 crn crm op2 with
  | none => exact takeUndefined_confined
  | some space =>
    cases space with
    | trace => exact .bind (.look _) fun _ => .ite takeUndefined_confined (.ite (.refuse _) advance_passes)
    | debug r =>
      exact .bind (.look _) fun _ => .ite takeUndefined_confined (.bind (.look _) fun _ =>
        .ite (.refuse _) (.bind (.update (r.put_secureView _)) fun _ => advance_passes))

theorem debugTransfer_confined (nBit : Bool) (crd : BitVec 4) (rn : RegNo) (m : Mode5) (w : Bool) :
    Confined (debugTransfer nBit crd rn m w) :=
  .bind (.look _) fun _ => .ite takeUndefined_confined (.bind (.look _) fun _ => .bind (refuseIf_passes _) fun _ => .pure _)

theorem debugLoad_confined (nBit : Bool) (crd : BitVec 4) (rn : RegNo) (m : Mode5) :
    Confined (debugLoad nBit crd rn m) :=
  .bind (debugTransfer_confined _ _ _ _ _) fun _ => .bind (.look _) fun _ => .bind (alignData_confined _ _) fun _ =>
    .bind (readWordAt_confined _ _) fun _ => .bind (writeBase_passes _ _) fun _ =>
      .bind (.update fun s => s.putWdtr_secureView _) fun _ => advance_passes

theorem debugStore_confined (nBit : Bool) (crd : BitVec 4) (rn : RegNo) (m : Mode5) :
    Confined (debugStore nBit crd rn m) :=
  .bind (debugTransfer_confined _ _ _ _ _) fun _ => .bind (.look _) fun _ => .bind (alignData_confined _ _) fun _ =>
    .bind (.look _) fun _ => .bind (writeWordAt_confined _ _ _) fun _ => .bind (writeBase_passes _ _) fun _ =>
      .bind (.update fun s => s.tookRdtr_secureView) fun _ => advance_passes

/-! Maintenance operations -/

section

variable (s : State)

theorem State.dataSync_secureView : s.dataSync.secureView = s.secureView :=
  ite_field _ _ _ _ (State.stickDscr_secureView _ rfl) rfl

theorem State.barrierHalted_secureView : s.barrierHalted.secureView = s.secureView :=
  ite_field _ _ _ _ (s.stickDscr_secureView rfl) rfl

@[simp] theorem State.clearMasterValid_secureView (data : Bool) : (s.clearMasterValid data).secureView = s.secureView := by
  cases data <;> rfl

@[simp] theorem State.dropCode_secureView : s.dropCode.secureView = s.secureView := State.clearMasterValid_secureView _ _

@[simp] theorem State.cleanInPlace_secureView (l : CacheLine) (a : Word) :
    (s.cleanInPlace l a).secureView = s.secureView := ite_field _ _ _ _ (s.cleanLine_secureView l a) rfl

@[simp] theorem State.cleanLines_secureView (l : Lines) : (s.cleanLines l).secureView = s.secureView :=
  State.foldl_secureView (fun t c => t.cleanInPlace_secureView c _) _ s

@[simp] theorem State.invalidateLines_secureView (l : Lines) : (s.invalidateLines l).secureView = s.secureView :=
  ite_field _ _ _ _ (State.clearMasterValid_secureView _ _) rfl

@[simp] theorem State.clearDirtyStatus_secureView : s.clearDirtyStatus.secureView = s.secureView :=
  ite_field _ _ _ _ rfl rfl

@[simp] theorem CacheOp.run_secureView (op : CacheOp) (l : Lines) : (op.run l s).secureView = s.secureView := by
  cases op with
  | clean => exact s.cleanLines_secureView l
  | invalidate => exact s.invalidateLines_secureView l
  | cleanInvalidate => exact (State.invalidateLines_secureView _ l).trans (s.cleanLines_secureView l)

theorem State.dmaStop_secureView (c : Bool) : (s.dmaStop c).secureView = s.secureView :=
  ite_field _ _ _ _ (s.dmaComplete_secureView c) (ite_field _ _ _ _ (State.promote_secureView _ _) rfl)

theorem State.dmaStart_secureView (c : Bool) : (s.dmaStart c).secureView = s.secureView := ite_field _ _ _ _ rfl rfl

theorem State.dmaClear_secureView (c : Bool) : (s.dmaClear c).secureView = s.secureView :=
  ite_field _ _ _ _ rfl (State.promote_secureView _ _)

theorem State.tlbOperation_secureView (by_ : By) (v : Word) : (s.tlbOperation by_ v).secureView = s.secureView := by
  cases by_ <;> rfl

theorem State.writeMasterValid_secureView (data : Bool) (n : Nat) (v : Word) :
    (s.writeMasterValid data n v).secureView = s.secureView := by
  cases data <;> rfl

end

theorem onRange_confined {f : Word → Exec Unit} (h : ∀ a, Confined (f a)) (first last : Word) :
    Confined (onRange f first last) := fun c hc => onRange_stays (fun a => h a c hc) first last

/-- The Non-secure copy of a register changes. -/
theorem State.setBank_secureView {s : State} (h : s.isSecure = false) (f : Cp15Banked → Cp15Banked) :
    (s.setBankOf (!s.isSecure) f).secureView = s.secureView := by
  rw [h]
  rfl

theorem SecureView.Live.setCopy {s : State} (h : s.secureView.Live) (f : Cp15Banked → Cp15Banked) :
    (s.setCopy f).secureView = s.secureView := by
  have hw : s.copyNs = true := h.world
  rw [State.setCopy, hw]
  rfl

/-- Fault registers of the world of the abort may have been written before it, -/
theorem SecureView.Aborted.of_faults {c : SecureView} {external : Bool} {r : FaultRegs} {t : State}
    (h : { c with faults := r }.Aborted external t) (hr : c.routed external = false → r = c.faults) :
    c.Aborted external t := by
  obtain ⟨q, ht, hq⟩ := h
  exact ⟨q, ht, fun hc => (hq hc).trans (hr hc)⟩

/-- and may be written after it. -/
theorem SecureView.Aborted.setBankOf {c : SecureView} {external : Bool} {t : State} (h : c.Aborted external t)
    {f : Cp15Banked → Cp15Banked} (hf : ∀ b, (f b).settled = b.settled) :
    c.Aborted external (t.setBankOf (!c.routed external) f) := by
  obtain ⟨r, ht, hr⟩ := h
  obtain ⟨q, hv, hq⟩ := t.setBankOf_secureView (!c.routed external) hf
  rw [Bool.not_eq_true'] at hq
  exact ⟨q, by rw [hv, ht], fun hc => by rw [hq hc, ht]; exact hr hc⟩

theorem maintenanceAbort_confined (instr : Bool) (f : MmuFault) (mva : Word) :
    Confined (maintenanceAbort instr f mva) := by
  refine .bind draw_passes fun w => .endWith fun s hs => ?_
  have aborted (g : Cp15Banked → Cp15Banked) (hg : ∀ b, (g b).settled = b.settled) :
      s.secureView.Aborted f.error.isSome
        ((s.setBankOf (!s.secureView.routed f.error.isSome) g).dataAbort f mva (w.getLsbD 0)) := by
    obtain ⟨r, hv, hr⟩ := s.setBankOf_secureView (!s.secureView.routed f.error.isSome) hg
    rw [Bool.not_eq_true'] at hr
    exact .of_faults (hv ▸ State.dataAbort_aborted (hv ▸ hs.withFaults r) f mva (w.getLsbD 0)) hr
  rw [State.abortWorld_of_live hs]
  dsimp only
  split
  · refine ((aborted _ ?_).setBankOf ?_).ended
    · exact fun _ => rfl
    · exact fun _ => rfl
  · refine (aborted _ ?_).ended
    exact fun _ => rfl

theorem locate_confined (instr : Bool) (mva : Word) : Confined (locate instr mva) := by
  refine .of_run fun s hs => ?_
  have h := s.lookup_secureView (!s.isSecure) (s.asidOf !s.isSecure) mva
  unfold locate
  dsimp only
  split
  · rfl
  · split
    · rename_i e
      rw [e] at h
      exact h
    · rename_i e
      rw [e] at h
      exact Post.of_view h ((Passes.bind (maintenanceAbort_confined _ _ _) fun _ => .pure _).run _ (h ▸ hs))
    · trivial

theorem cacheOperation_passes {L : SecureView → Prop} {E : SecureView → State → Prop} (op : CacheOp) (l : Lines) :
    Passes L E (op.apply l) := .update fun s => ite_field _ _ _ _ (by simp) (by simp)

theorem cacheAtMva_confined (op : CacheOp) (mva : Word) : Confined (op.atMva mva) :=
  .bind (locate_confined _ _) fun _ => cacheOperation_passes _ _

theorem cacheOn_confined (op : CacheOp) (by_ : By) (v : Word) : Confined (op.on by_ v) := by
  cases by_ with
  | all => exact cacheOperation_passes _ _
  | mva => exact cacheAtMva_confined _ _
  | index => exact .bind (.look _) fun _ => cacheOperation_passes _ _

theorem invalidateCodeMva_confined (mva : Word) : Confined (invalidateCodeMva mva) :=
  .bind (locate_confined _ _) fun _ => .update fun _ => rfl

theorem codeOperation_confined (by_ : By) (v : Word) : Confined (codeOperation by_ v) := by
  cases by_ with
  | all => exact .update fun s => s.dropCode_secureView
  | mva => exact invalidateCodeMva_confined _
  | index => exact .update fun _ => rfl

/-- The result of a translation that the PA Register of the Non-secure world shows. -/
theorem SecureView.Live.setPar {s : State} (h : s.secureView.Live) (v : Word) : (s.setPar v).secureView = s.secureView :=
  State.setBank_secureView h.isSecure _

theorem translateVa_confined (k : BitVec 3) (va : Word) : Confined (translateVa k va) := by
  refine .of_run fun s hs => ?_
  have h := s.translate_secureView (k.getLsbD 2 || !s.isSecure) (s.asidOf (k.getLsbD 2 || !s.isSecure))
    (s.fcse (k.getLsbD 2 || !s.isSecure) va) (if k.getLsbD 0 then .write else .read) (!k.getLsbD 1) .data
  unfold translateVa
  dsimp only
  split
  · rename_i t e
    rw [e] at h
    have h : t.secureView = s.secureView := h
    exact (SecureView.Live.setPar (h ▸ hs) _).trans h
  · rename_i f t e
    rw [e] at h
    have h : t.secureView = s.secureView := h
    have hp (v : Word) : (t.setPar v).secureView = s.secureView := (SecureView.Live.setPar (h ▸ hs) v).trans h
    split
    · exact Post.of_view (hp _) ((takeDataAbort_confined _ _ _).run _ (hp _ ▸ hs))
    · exact hp _
  · trivial

/-! Writes of CP15 -/

/-- A change of the Non-secure copy. -/
theorem updateCopy_confined (f : Cp15Banked → Cp15Banked) : Confined (update fun s => s.setCopy f) :=
  .of_run fun _ hs => hs.setCopy f

/-- A change that the DMA engine may forbid. -/
theorem guarded_confined {g : State → Bool} {f : State → State}
    (h : ∀ s, s.secureView.Live → (f s).secureView = s.secureView) :
    Confined (do dmaGuard (← look g); update f) :=
  .bind (.look _) fun _ => .bind (dmaGuard_passes _) fun _ => .of_run h

theorem changeTables_confined (f : Cp15Banked → Cp15Banked) : Confined (changeTables f) :=
  guarded_confined fun _ hs => hs.setCopy f

theorem replaceLock_confined (f : State → TlbEntry) : Confined (replaceLock f) := guarded_confined fun _ _ => rfl

theorem SecureView.Live.withControl {s : State} (h : s.secureView.Live) (v : Word) :
    (s.withControl v).secureView = s.secureView := by
  rw [State.withControl, if_neg (Bool.eq_false_iff.mp h.isSecure)]
  exact h.setCopy _

theorem map_set_of_eq {α β : Type} {n k : Nat} (f : α → β) (v : Vector α n) {a : α} (hk : k < n) (h : f a = f v[k]) :
    (v.set k a).map f = v.map f := by
  rw [Vector.map_set, h, ← Vector.getElem_map f (by simpa using hk), Vector.set_getElem_self]

/-- A TCM Region Register keeps the access bit beside it. -/
theorem State.setTcm_secureView (s : State) (data : Bool) {t : Tcm} (h : t.nsAccess = (s.selectedTcm data).nsAccess) :
    (s.setTcm data t).secureView = s.secureView := by
  have put (v : Vector Tcm 2) (ht : t.nsAccess = (if s.bank.tcmSelect then v[1] else v[0]).nsAccess) :
      (if s.bank.tcmSelect then v.set 1 t else v.set 0 t).map (·.nsAccess) = v.map (·.nsAccess) := by
    cases hc : s.bank.tcmSelect <;> rw [hc] at ht <;> exact map_set_of_eq _ v _ ht
  cases data
  · exact congrArg (fun d => { s.secureView with config := { s.secureView.config with itcm := d } }) (put s.cp15.itcm h)
  · exact congrArg (fun d => { s.secureView with config := { s.secureView.config with dtcm := d } }) (put s.cp15.dtcm h)

/-- The registers that the Secure world alone writes. -/
def Cp15.secureOnly : Cp15 → Bool
  | .scr | .sder | .nsacr | .actlr | .mvbar | .savc | .tcmAccess _ => true
  | _ => false

theorem Cp15.not_secureOnly_of_writable {r : Cp15} {s : State} (h : s.isSecure = false) (hw : r.writable s = true) :
    r.secureOnly = false := by
  cases r
  case scr | sder | nsacr | actlr | mvbar | savc | tcmAccess => simp [Cp15.writable, Cp15.readable, h] at hw
  all_goals rfl

/-- A write of a register that the Non-secure world may write. -/
theorem write_confined {r : Cp15} (hr : r.secureOnly = false) (v : Word) : Confined (r.write v) := by
  unfold Cp15.write
  refine .bind (.look _) fun shared => ?_
  cases r
  case scr | sder | nsacr | actlr | mvbar | savc | tcmAccess => cases hr
  case ident | cacheType | tcmStatus | cacheDirty | dmaIdent | dmaStatus | interruptStatus | noOp | valCounter
    | valOperation => exact .pure _
  case sctlr => exact guarded_confined fun _ hs => hs.withControl v
  case ttbr0 | ttbr1 | ttbcr | dacr => exact changeTables_confined _
  case dfsr | ifsr | far | ifar | par | vbar | tidUserRw | tidUserRo | tidPriv | ppmr => exact updateCopy_confined _
  case cpacr | dLock | iLock | cbor | tlbLockdown | dmaUser | dmaChannel | ccnt | count | lockIndex | pmnc | wfar =>
    exact .update fun _ => rfl
  case wfi | dsb => exact .update State.dataSync_secureView
  case dmb => exact .update State.barrierHalted_secureView
  case flushPrefetch | flushBranches | flushBranchEntry => exact .update fun _ => rfl
  case invalidateCode by_ => exact codeOperation_confined by_ v
  case prefetchCode => exact .bind (locate_confined _ _) fun _ => .pure _
  case dataCache op by_ => exact cacheOn_confined op by_ v
  case invalidateBoth => exact .bind (.update State.dropCode_secureView) fun _ => cacheOperation_passes _ _
  case vaToPa k => exact translateVa_confined k v
  case tlb by_ => exact .bind (dmaGuard_passes _) fun _ => .update fun s => s.tlbOperation_secureView by_ v
  case tcmRegion data => exact guarded_confined fun s _ => s.setTcm_secureView data rfl
  case tcmSelect =>
    refine .of_run fun s hs => ?_
    exact ite_field _ _ _ _ rfl (hs.setCopy _)
  case prrr | nmrr => exact .bind (dmaGuard_passes _) fun _ => updateCopy_confined _
  case dmaCommand k =>
    exact .update fun s => ite_field _ _ _ _ (s.dmaStop_secureView _)
      (ite_field _ _ _ _ (s.dmaStart_secureView _) (s.dmaClear_secureView _))
  case dmaControl | dmaIntStart | dmaExtStart | dmaIntEnd | dmaContext =>
    exact .update fun _ => ite_field _ _ _ _ rfl rfl
  case fcse => exact .bind (changeTables_confined _) fun _ => .update fun _ => rfl
  case contextId => exact .of_run fun s hs => hs.setCopy fun b => { b with contextId := v }
  case cacheSizeMask => exact .ite (.refuse _) (.pure _)
  case masterValid data n => exact .update fun s => s.writeMasterValid_secureView data n v
  case lockVa | lockPa | lockAttr => exact replaceLock_confined _

theorem cp15Read_confined (crn : BitVec 4) (op1 : BitVec 3) (crm : BitVec 4) (op2 : BitVec 3) (rd : RegNo) :
    Confined (cp15Read crn op1 crm op2 rd) := by
  unfold cp15Read
  cases Cp15.of? crn op1 crm op2 with
  | none => exact takeUndefined_confined
  | some r =>
    refine .bind (.look _) fun _ => .ite takeUndefined_confined (.bind (.look _) fun v => ?_)
    cases v with
    | some v => exact .ite (.bind openFlags_passes fun _ => advance_passes) (finishReg_passes _ _)
    | none => exact advance_passes

theorem cp15Write_confined (crn : BitVec 4) (op1 : BitVec 3) (crm : BitVec 4) (op2 : BitVec 3) (rd : RegNo) :
    Confined (cp15Write crn op1 crm op2 rd) := by
  unfold cp15Write
  cases Cp15.of? crn op1 crm op2 with
  | none => exact takeUndefined_confined
  | some r =>
    refine .of_run fun s hs => ?_
    dsimp only
    rw [exec_bind_ok (look_run _ s)]
    cases hw : r.writable s
    · exact takeUndefined_confined.run s hs
    · have hr := Cp15.not_secureOnly_of_writable hs.isSecure hw
      exact (Passes.ite (.refuse _) (.bind (.look _) fun v => .bind (write_confined hr v) fun _ => advance_passes)).run s hs

theorem cp15Range_confined (op1 crm : BitVec 4) (rd rn : RegNo) : Confined (cp15Range op1 crm rd rn) := by
  unfold cp15Range
  cases RangeOp.of? op1 crm with
  | none => exact takeUndefined_confined
  | some r =>
    refine .bind (.look _) fun _ => .ite takeUndefined_confined (.ite (.refuse _) (.bind (.look _) fun _ =>
      .bind (.look _) fun _ => .bind (onRange_confined ?_ _ _) fun _ => advance_passes))
    cases r with
    | invalidateCode => exact invalidateCodeMva_confined
    | dataCache op => exact cacheAtMva_confined op

/-! The VFP11 -/

section

variable {L : SecureView → Prop} {E : SecureView → State → Prop}

theorem State.setFp_secureView (s : State) (p : Prec) (n : BitVec 5) (v : DWord) :
    (s.setFp p n v).secureView = s.secureView := by
  cases p <;> rfl

theorem State.writeFpReg_secureView (s : State) (r : FpReg) (v : Word) : (s.writeFpReg r v).secureView = s.secureView := by
  cases r <;> rfl

theorem settle_passes {put : DWord → State → State} (h : ∀ r s, (put r s).secureView = s.secureView) (word : Word)
    (n : Nat) (v : Verdict) : Passes L E (settle word n put v) := by
  cases v with
  | bounce f => exact .bind (.update fun _ => rfl) fun _ => .pure _
  | done r => exact .bind (.update fun s => h _ s) fun _ => .pure _

theorem iterate_passes (p : Prec) (op : FpOp) (base : Word) (d n m : BitVec 5) (k : Nat) :
    Passes L E (iterate p op base d n m k) :=
  .bind (.look _) fun _ => settle_passes (fun _ s => s.setFp_secureView _ _ _) _ _ _

theorem moveOne_passes (p : Prec) (f : DWord → DWord) (d n m : BitVec 5) (k : Nat) : Passes L E (moveOne p f d n m k) :=
  .bind (.update fun s => s.setFp_secureView _ _ _) fun _ => .pure _

theorem shortVector_passes {body : BitVec 5 → BitVec 5 → BitVec 5 → Nat → Exec Bool}
    (h : ∀ d n m k, Passes L E (body d n m k)) (p : Prec) (d n m : BitVec 5) (useN : Bool) :
    Passes L E (shortVector p d n m useN body) := fun c hc =>
  shortVector_stays (fun d n m k => h d n m k c hc) _ _ _ _ _

theorem readFpReg_passes (r : FpReg) : Passes L E (readFpReg r) := by
  cases r
  case fpinst2 => exact .bind (.look _) fun _ => .ite (.look _) draw_passes
  all_goals exact .look _

end

theorem vfpAccess_confined (cp11 sys : Bool) : Confined (vfpAccess cp11 sys) :=
  .branch takeUndefined_confined (.branch takeUndefined_confined (.branch (.refuse _)
    (.branch takeUndefined_confined (.pure _))))

theorem vfpReady_confined (cp11 : Bool) : Confined (vfpReady cp11) :=
  .bind (vfpAccess_confined _ _) fun _ => .bind (.look _) fun _ => .ite takeUndefined_confined (.pure _)

theorem inexactBounce_confined : Confined inexactBounce := by
  refine .of_run fun s hs => ?_
  unfold inexactBounce
  split
  · exact State.undefined_ended (s := { s with vfp := { s.vfp with fpexc := s.vfp.fpexc ||| 0x80000000#32 } }) hs
  · rfl

theorem vectorArithmetic_confined (p : Prec) (op : FpOp) (base : Word) (d n m : BitVec 5) :
    Confined (vectorArithmetic p op base d n m) :=
  .bind (vfpReady_confined _) fun _ => .bind inexactBounce_confined fun _ => .bind (.look _) fun _ => .ite (.refuse _)
    (.bind (shortVector_passes (iterate_passes p op base) _ _ _ _ _) fun _ => advance_passes)

theorem vectorMove_confined (p : Prec) (f : DWord → DWord) (d m : BitVec 5) : Confined (vectorMove p f d m) :=
  .bind (vfpReady_confined _) fun _ => .bind (shortVector_passes (moveOne_passes p f) _ _ _ _ _) fun _ => advance_passes

theorem scalarOnly_confined (cp11 : Bool) (word : Word) (v : State → Verdict) {put : DWord → State → State}
    (h : ∀ r s, (put r s).secureView = s.secureView) : Confined (scalarOnly cp11 word v put) :=
  .bind (vfpReady_confined _) fun _ => .bind inexactBounce_confined fun _ => .bind (.look _) fun _ =>
    .bind (settle_passes h _ _ _) fun _ => advance_passes

theorem fpCompare_confined (p : Prec) (signal : Bool) (base : Word) (d : BitVec 5) (m : Option (BitVec 5)) :
    Confined (fpCompare p signal base d m) := scalarOnly_confined _ _ _ fun _ s => s.setFpscr_secureView _

theorem fpFromInt_confined (p : Prec) (value : Word → Int) (base : Word) (d m : BitVec 5) :
    Confined (fpFromInt p value base d m) := scalarOnly_confined _ _ _ fun _ s => s.setFp_secureView _ _ _

theorem fpToInt_confined (p : Prec) (signed zero : Bool) (base : Word) (d m : BitVec 5) :
    Confined (fpToInt p signed zero base d m) := scalarOnly_confined _ _ _ fun _ s => s.setFp_secureView _ _ _

theorem fpLoad_confined (many : Option Prec) (rn : RegNo) (start : Word) (back : Option Word) (rs : List (BitVec 5)) :
    Confined (fpLoad many rn start back rs) :=
  .bind (.look _) fun _ => .bind (alignData_confined _ _) fun _ => .bind (readSingles_confined _ _ _ _ _) fun _ =>
    .bind (.update fun s => s.putSingles_secureView _) fun _ => .bind (writeBase_passes _ _) fun _ => advance_passes

theorem fpStore_confined (rn : RegNo) (start : Word) (back : Option Word) (rs : List (BitVec 5)) :
    Confined (fpStore rn start back rs) :=
  .bind (.look _) fun _ => .bind (storeBlock_confined _ _) fun _ => .bind (writeBase_passes _ _) fun _ => advance_passes

theorem fpLoadOne_confined (p : Prec) (u : Bool) (rn : RegNo) (d : BitVec 5) (imm : BitVec 8) :
    Confined (fpLoadOne p u rn d imm) :=
  .bind (vfpReady_confined _) fun _ => .bind (.look _) fun _ => .bind (.look _) fun _ => fpLoad_confined _ _ _ _ _

theorem fpStoreOne_confined (p : Prec) (u : Bool) (rn : RegNo) (d : BitVec 5) (imm : BitVec 8) :
    Confined (fpStoreOne p u rn d imm) :=
  .bind (vfpReady_confined _) fun _ => .bind (.look _) fun _ => .bind (.look _) fun _ => fpStore_confined _ _ _ _

theorem fpLoadMany_confined (p : Prec) (up wb : Bool) (rn : RegNo) (d : BitVec 5) (count words : Nat) :
    Confined (fpLoadMany p up wb rn d count words) :=
  .bind (vfpReady_confined _) fun _ => .bind (checkCount_passes _ _ _ _ _) fun _ => .bind (.look _) fun _ =>
    .bind (.look _) fun _ => fpLoad_confined _ _ _ _ _

theorem fpStoreMany_confined (p : Prec) (up wb : Bool) (rn : RegNo) (d : BitVec 5) (count words : Nat) :
    Confined (fpStoreMany p up wb rn d count words) :=
  .bind (vfpReady_confined _) fun _ => .bind (checkCount_passes _ _ _ _ _) fun _ => .bind (.look _) fun _ =>
    .bind (.look _) fun _ => fpStore_confined _ _ _ _

theorem fpFromCore_confined (cp11 : Bool) (sources : List RegNo) {f : State → State}
    (h : ∀ s, (f s).secureView = s.secureView) : Confined (fpFromCore cp11 sources f) :=
  .bind (vfpReady_confined _) fun _ => .bind (noPc_passes _) fun _ => .bind (.update h) fun _ => advance_passes

theorem fpToCore_confined (cp11 : Bool) (rd : RegNo) (value : State → Word) : Confined (fpToCore cp11 rd value) :=
  .bind (vfpReady_confined _) fun _ => .bind (noPc_passes _) fun _ => .bind (.look _) fun _ => finishReg_passes _ _

theorem fpFromPair_confined (cp11 last : Bool) (rd rn : RegNo) (a b : BitVec 5) :
    Confined (fpFromPair cp11 last rd rn a b) :=
  .bind (vfpReady_confined _) fun _ => .bind (checkPair_passes _ _ _ _) fun _ => .bind (.update fun _ => rfl) fun _ =>
    advance_passes

theorem fpToPair_confined (cp11 last : Bool) (rd rn : RegNo) (a b : BitVec 5) :
    Confined (fpToPair cp11 last rd rn a b) :=
  .bind (vfpReady_confined _) fun _ => .bind (checkPair_passes _ _ _ _) fun _ => .bind (.look _) fun _ =>
    .bind (.look _) fun _ => .bind (.update fun _ => rfl) fun _ => finishReg_passes _ _

theorem fpSystem_confined (sysReg : BitVec 4) : Confined (fpSystem sysReg) := by
  refine .bind (vfpAccess_confined _ _) fun _ => .bind (.look _) fun _ => .ite takeUndefined_confined
    (.bind (.look _) fun _ => ?_)
  cases FpReg.of? sysReg with
  | none => exact takeUndefined_confined
  | some r => exact .ite takeUndefined_confined (.pure _)

/-! Coprocessor instructions -/

theorem noCoprocessor_confined (cp : BitVec 4) : Confined (noCoprocessor cp) := by
  have absent (cp11 : Bool) {m : Exec Unit} (h : Confined m) : Confined (do vfpAccess cp11 false; m) :=
    .bind (vfpAccess_confined _ _) fun _ => h
  have second := Passes.ite (p := cp = 11) (absent true takeUndefined_confined) takeUndefined_confined
  exact .ite (absent false second) second

theorem coprocWrite_confined (cp : BitVec 4) (op1 : BitVec 3) (crn crm : BitVec 4) (op2 : BitVec 3) (rd : RegNo) :
    Confined (coprocWrite cp op1 crn crm op2 rd) :=
  .ite (cp15Write_confined _ _ _ _ _) (.ite (cp14Write_confined _ _ _ _ _) (noCoprocessor_confined _))

theorem coprocRead_confined (cp : BitVec 4) (op1 : BitVec 3) (crn crm : BitVec 4) (op2 : BitVec 3) (rd : RegNo) :
    Confined (coprocRead cp op1 crn crm op2 rd) :=
  .ite (cp15Read_confined _ _ _ _ _) (.ite (cp14Read_confined _ _ _ _ _) (noCoprocessor_confined _))

theorem coprocLoad_confined (cp : BitVec 4) (nBit : Bool) (crd : BitVec 4) (rn : RegNo) (m : Mode5) :
    Confined (coprocLoad cp nBit crd rn m) := .ite (debugLoad_confined _ _ _ _) (noCoprocessor_confined _)

theorem coprocStore_confined (cp : BitVec 4) (nBit : Bool) (crd : BitVec 4) (rn : RegNo) (m : Mode5) :
    Confined (coprocStore cp nBit crd rn m) := .ite (debugStore_confined _ _ _ _) (noCoprocessor_confined _)

theorem Confined.sound {m : Exec Unit} {s : State} (hs : s.secureView.Live) (h : Confined m) :
    Sound s.secureView.Ended (outcome m s) := (h.run s hs).sound fun _ => .of_view

theorem execSrs_ended (p u wb : Bool) (mode : BitVec 5) {s : State} (hs : s.secureView.Live) :
    Sound s.secureView.Ended (execSrs p u wb mode s) := by
  refine Confined.sound hs (.bind currentSpsr_passes fun _ => .bind (.look _) fun _ => .ite takeUndefined_confined ?_)
  cases Mode.ofBits? mode with
  | none => exact .refuse _
  | some m =>
    exact .bind (.look _) fun _ => .bind (.look _) fun _ => .bind (storeBlock_confined _ _) fun _ =>
      .bind (.update fun _ => ite_field _ _ _ _ rfl rfl) fun _ => advance_passes

theorem execRfe_ended (p u wb : Bool) (rn : RegNo) {s : State} (hs : s.secureView.Live) :
    Sound s.secureView.Ended (execRfe p u wb rn s) :=
  Confined.sound hs (.bind (.look _) fun _ => .ite (.refuse _) (.bind (.look _) fun _ => .bind (.look _) fun _ =>
    .bind (alignData_confined _ _) fun _ => .bind (readWordAt_confined _ _) fun _ => .bind dmaInterval_passes fun _ =>
      .bind (readWordAt_confined _ _) fun _ => .bind (writeBase_passes _ _) fun _ => exceptionReturn_confined _ _ _))

theorem execSmc_ended (c : Cond) (imm : BitVec 16) {s : State} (hs : s.secureView.Live) :
    Sound s.secureView.Ended (execSmc c imm s) :=
  Confined.sound hs (conditional_passes c (.bind (.look _) fun _ => .bind (.look _) fun _ => .ite advance_passes
    (.ite (.endWith fun _ hs => hs.enter .smc) takeUndefined_confined)))

theorem execLdm3_ended (c : Cond) (p u wb : Bool) (rn : RegNo) (regs : BitVec 15) {s : State} (hs : s.secureView.Live) :
    Sound s.secureView.Ended (execLdm3 c p u wb rn regs s) :=
  Confined.sound hs (conditional_passes c (.bind exceptionModeOnly_passes fun _ => .bind (checkLoadList_passes _ _ _) fun _ =>
    .bind (.look _) fun _ => .bind (.look _) fun _ => .bind (.look _) fun _ => .bind (loadBlock_confined _ _ _ _ _) fun _ =>
      .bind (writeBase_passes _ _) fun _ => .bind (.update fun s => s.putRegs_secureView _ _) fun _ =>
        .bind currentSpsr_passes fun _ => exceptionReturn_confined _ _ _))

/-- Every instruction that the Non-secure world runs outside Debug state ends with the Secure configuration as it was. -/
theorem exec_ended (i : Instr) {s : State} (hs : s.secureView.Live) : Sound s.secureView.Ended (exec i s) := by
  have run {m : Exec Unit} (h : Confined m) : Sound s.secureView.Ended (outcome m s) := h.sound hs
  have runIf {c : Cond} {m : Exec Unit} (h : Confined m) : Sound s.secureView.Ended (outcome (conditional c m) s) :=
    run (conditional_passes c h)
  cases i
  case cps | tCps => exact run (.ite (.refuse _) (changeState_confined _ _ _ _ _ _))
  case setend | tSetend => exact run (setEndian_passes _)
  case clrex =>
    unfold exec
    refine run ?_
    exact .bind (.update fun _ => rfl) fun _ => advance_passes
  case pldImm | nop | yield | nopReservedHint => exact run advance_passes
  case pldReg => exact run (.bind (noPc_passes _) fun _ => advance_passes)
  case srs => exact execSrs_ended _ _ _ _ hs
  case rfe => exact execRfe_ended _ _ _ _ hs
  case bkpt | tBkpt => exact run softwareBreakpoint_confined
  case smc c imm => exact execSmc_ended c imm hs
  case svc => exact runIf supervisorCall_confined
  case tSvc => exact run supervisorCall_confined
  case mrs =>
    exact runIf (.bind (noPc_passes _) fun _ => .bind (.look _) fun _ =>
      .ite (.bind currentSpsr_passes fun _ => finishReg_passes _ _) (.bind (.pure _) fun _ => finishReg_passes _ _))
  case msrReg =>
    exact runIf (.bind (noPc_passes _) fun _ => .bind (.look _) fun _ =>
      writeStatus_confined _ _ _)
  case msrImm => exact runIf (writeStatus_confined _ _ _)
  -- branches
  case blxImm =>
    unfold exec
    refine run ?_
    exact .bind (.look _) fun _ => .update fun _ => rfl
  case b => exact run (conditionalBranch_passes _ (.update fun _ => rfl))
  case bl =>
    exact run (conditionalBranch_passes _ (.bind (.look _) fun _ => .bind (link_passes _ _) fun _ => .update fun _ => rfl))
  case bx => exact run (conditionalBranch_passes _ (.bind (.look _) fun _ => bxWritePc_passes _))
  case bxj =>
    exact run (conditionalBranch_passes _ (.bind (noPc_passes _) fun _ => .bind (.look _) fun _ => bxWritePc_passes _))
  case blxReg =>
    exact run (conditionalBranch_passes _ (.bind (noPc_passes _) fun _ => .bind (.look _) fun _ =>
      .bind (link_passes _ _) fun _ => bxWritePc_passes _))
  case tBx => exact run (.bind (.look _) fun _ => bxWritePc_passes _)
  case tBlx2 =>
    exact run (.bind (noPc_passes _) fun _ => .bind (.look _) fun _ => .bind (link_passes _ _) fun _ => bxWritePc_passes _)
  case tB1 => exact run (conditionalBranch_passes _ (.update fun _ => rfl))
  case tB2 | tBlSuffix | tBlx1Suffix =>
    unfold exec
    refine run ?_
    exact .update fun _ => rfl
  -- data processing
  case andImm | andShift | eorImm | eorShift | orrImm | orrShift | bicImm | bicShift =>
    exact runIf (dpLogical_confined _ _ _ _ _)
  case andRegShift | eorRegShift | orrRegShift | bicRegShift =>
    exact runIf (.bind (noPc_passes _) fun _ => dpLogical_confined _ _ _ _ _)
  case subImm | subShift | rsbImm | rsbShift | addImm | addShift | adcImm | adcShift | sbcImm | sbcShift | rscImm
    | rscShift => exact runIf (dpArithmetic_confined _ _ _ _ _)
  case subRegShift | rsbRegShift | addRegShift | adcRegShift | sbcRegShift | rscRegShift =>
    exact runIf (.bind (noPc_passes _) fun _ => dpArithmetic_confined _ _ _ _ _)
  case movImm | movShift | mvnImm | mvnShift => exact runIf (dpMove_confined _ _ _ _)
  case movRegShift | mvnRegShift =>
    exact runIf (.bind (noPc_passes _) fun _ => dpMove_confined _ _ _ _)
  case cpy => exact runIf (dpMove_confined _ _ _ _)
  case tstImm | tstShift | teqImm | teqShift => exact runIf (dpTest_passes _ _ _)
  case tstRegShift | teqRegShift => exact runIf (.bind (noPc_passes _) fun _ => dpTest_passes _ _ _)
  case cmpImm | cmpShift | cmnImm | cmnShift => exact runIf (dpCompare_passes _ _ _)
  case cmpRegShift | cmnRegShift => exact runIf (.bind (noPc_passes _) fun _ => dpCompare_passes _ _ _)
  case tMov2 | tAdd3 | tSub3 | tAdd1 | tSub1 | tAdd2 | tSub2 | tAdc | tSbc | tNeg =>
    exact run (dpArithmetic_confined _ _ _ _ _)
  case tLsl1 | tLsr1 | tAsr1 | tMov1 | tLsl2 | tLsr2 | tAsr2 | tRor | tMvn => exact run (dpMove_confined _ _ _ _)
  case tAnd | tEor | tOrr | tBic => exact run (dpLogical_confined _ _ _ _ _)
  case tCmp1 | tCmp2 | tCmn => unfold exec; exact run (dpCompare_passes _ _ _)
  case tCmp3 => exact run (.bind (refuseIf_passes _) fun _ => dpCompare_passes _ _ _)
  case tTst => exact run (dpTest_passes _ _ _)
  case tAdd4 => exact run (.bind (refuseIf_passes _) fun _ => .bind (.look _) fun _ => finishHigh_passes _ _)
  case tMov3 => exact run (.bind (.look _) fun _ => finishHigh_passes _ _)
  case tCpy | tAdd5 | tAdd6 | tAdd7 | tSub4 | tSxth | tSxtb | tUxth | tUxtb | tRev | tRev16 | tRevsh | tBlBlxPrefix =>
    unfold exec
    exact run (.bind (.look _) fun _ => finishReg_passes _ _)
  -- multiplies and media
  case clz | sel | rev | rev16 | revsh | smusd | smmul | usad8 | usada8 =>
    exact runIf (.bind (noPc_passes _) fun _ => .bind (.look _) fun _ => finishReg_passes _ _)
  case pkhbt | pkhtb | smmla | smmls =>
    exact runIf (.bind (noPc_passes _) fun _ => .bind (.look _) fun _ => .bind (.look _) fun _ =>
      finishReg_passes _ _)
  case qadd | qsub | qdadd | qdsub => exact runIf (saturating_passes _ _ _ _ _)
  case smlaXY | smlawY | ssat16 | usat16 | ssat | usat | smuad =>
    exact runIf (.bind (noPc_passes _) fun _ => .bind (.look _) fun _ => finishQ_passes _ _ _)
  case smlad | smlsd =>
    exact runIf (.bind (noPc_passes _) fun _ => .bind (.look _) fun _ => .bind (.look _) fun _ =>
      finishQ_passes _ _ _)
  case smulwY | smulXY | mul | mla =>
    exact runIf (.bind (noPc_passes _) fun _ => .bind (.look _) fun _ => finishMul_passes _ _ _)
  case tMul => unfold exec; exact run (.bind (.look _) fun _ => finishMul_passes _ _ _)
  case smlalXY | umaal | umull | umlal | smull | smlal =>
    exact runIf (.bind (noPc_passes _) fun _ => .bind (distinct_passes _ _) fun _ => .bind (.look _) fun _ =>
      finishLong_passes _ _ _ _)
  case smlald | smlsld =>
    exact runIf (.bind (noPc_passes _) fun _ => .bind (distinct_passes _ _) fun _ => .bind (.look _) fun _ =>
      .bind (.look _) fun _ => finishLong_passes _ _ _ _)
  case sadd16 | qadd16 | shadd16 | uadd16 | uqadd16 | uhadd16 | saddsubx | qaddsubx | shaddsubx | uaddsubx | uqaddsubx
    | uhaddsubx | ssubaddx | qsubaddx | shsubaddx | usubaddx | uqsubaddx | uhsubaddx | ssub16 | qsub16 | shsub16 | usub16
    | uqsub16 | uhsub16 | sadd8 | qadd8 | shadd8 | uadd8 | uqadd8 | uhadd8 | ssub8 | qsub8 | shsub8 | usub8 | uqsub8
    | uhsub8 => exact runIf (parallel_passes _ _ _ _ _)
  case sxtb16 | sxtb | sxth | uxtb16 | uxtb | uxth => exact runIf (extend_passes _ _ _ _)
  case sxtab16 | sxtab | sxtah | uxtab16 | uxtab | uxtah => exact runIf (extendAdd_passes _ _ _ _ _)
  -- loads and stores
  case ldrImm | ldrReg =>
    exact runIf (.bind (checkSingle_passes _ _ _ _ _) fun _ => .bind (.look _) fun _ => loadWord_confined _ _ _)
  case ldrtImm | ldrtReg | ldrbtImm | ldrbtReg | ldrbImm | ldrbReg =>
    exact runIf (.bind (checkSingle_passes _ _ _ _ _) fun _ => .bind (.look _) fun _ =>
      loadSingle_confined _ _ _ _ _ _ _)
  case strtImm | strtReg | strbtImm | strbtReg | strImm | strReg | strbImm | strbReg =>
    exact runIf (.bind (checkSingle_passes _ _ _ _ _) fun _ => .bind (.look _) fun _ =>
      storeSingle_confined _ _ _ _ _ _)
  case ldrhImm | ldrhReg | ldrsbImm | ldrsbReg | ldrshImm | ldrshReg =>
    exact runIf (.bind (checkMode3_passes _ _) fun _ => .bind (checkSingle_passes _ _ _ _ _) fun _ =>
      .bind (.look _) fun _ => loadSingle_confined _ _ _ _ _ _ _)
  case strhImm | strhReg =>
    exact runIf (.bind (checkMode3_passes _ _) fun _ => .bind (checkSingle_passes _ _ _ _ _) fun _ =>
      .bind (.look _) fun _ => storeSingle_confined _ _ _ _ _ _)
  case ldrdImm | ldrdReg =>
    exact runIf (.bind (checkMode3_passes _ _) fun _ => .bind (checkDouble_passes _ _ _ _ _) fun _ =>
      .bind (.look _) fun _ => loadDouble_confined _ _ _)
  case strdImm | strdReg =>
    exact runIf (.bind (checkMode3_passes _ _) fun _ => .bind (checkDouble_passes _ _ _ _ _) fun _ =>
      .bind (.look _) fun _ => storeDouble_confined _ _ _)
  case tLdr3 | tLdrsb | tLdr2 | tLdrh2 | tLdrb2 | tLdrsh | tLdr1 | tLdrb1 | tLdrh1 | tLdr4 =>
    exact run (.bind (.look _) fun _ => loadSingle_confined _ _ _ _ _ _ _)
  case tStr2 | tStrh2 | tStrb2 | tStr1 | tStrb1 | tStrh1 | tStr3 =>
    exact run (.bind (.look _) fun _ => storeSingle_confined _ _ _ _ _ _)
  case swp | swpb => exact runIf (swap_confined _ _ _ _)
  case ldrex | ldrexb | ldrexh => exact runIf (loadExclusiveReg_confined _ _ _ _)
  case strex | strexb | strexh => exact runIf (storeExclusiveReg_confined _ _ _ _ _)
  case ldrexd =>
    exact runIf (.bind (noPc_passes _) fun _ => .bind (refuseIf_passes _) fun _ =>
      .bind (loadExclusive_confined _ _ _) fun _ => .bind (.look _) fun _ => .bind (.update fun _ => rfl) fun _ =>
        finishReg_passes _ _)
  case strexd =>
    exact runIf (.bind (noPc_passes _) fun _ => .bind (refuseIf_passes _) fun _ => storeExclusive_confined _ _ _ _)
  case ldm1 => exact runIf (loadMultiple_confined _ _ _ _ _)
  case tPop => exact run (loadMultiple_confined _ _ _ _ _)
  case stm1 => exact runIf (storeMultiple_confined _ _ _ _ _)
  case tPush | tStmia => exact run (storeMultiple_confined _ _ _ _ _)
  case ldm3 => exact execLdm3_ended _ _ _ _ _ _ hs
  case ldm2 =>
    exact runIf (.bind exceptionModeOnly_passes fun _ => .bind (checkLoadList_passes _ _ _) fun _ =>
      .bind (.look _) fun _ => .bind (loadBlock_confined _ _ _ _ _) fun _ =>
        .bind (.update fun s => s.putRegs_secureView _ _) fun _ => advance_passes)
  case stm2 =>
    exact runIf (.bind exceptionModeOnly_passes fun _ => .bind (checkStoreList_passes _ _ _) fun _ =>
      .bind (.look _) fun _ => .bind (.look _) fun _ => .bind (storeBlock_confined _ _) fun _ => advance_passes)
  case tLdmia =>
    exact run (.bind (.ite (.refuse _) (.pure _)) fun _ => .bind (.look _) fun _ => .bind (.look _) fun _ =>
      .bind (loadBlock_confined _ _ _ _ _) fun _ => .bind (writeBase_passes _ _) fun _ =>
        .bind (.update fun s => s.putRegs_secureView _ _) fun _ => advance_passes)
  -- coprocessors
  case mcrr2 => exact run (.ite (cp15Range_confined _ _ _ _) takeUndefined_confined)
  case mrrc2 | stc2Offset | stc2Post | stc2Unindexed | ldc2Offset | ldc2Post | ldc2Unindexed | cdp2 | mcr2 | mrc2
    | undefinedArm | tUndefined => exact run takeUndefined_confined
  case mcrr => exact runIf (.ite (cp15Range_confined _ _ _ _) (noCoprocessor_confined _))
  case mrrc | cdp => exact runIf (noCoprocessor_confined _)
  case stcOffset | stcPost | stcUnindexed => exact runIf (coprocStore_confined _ _ _ _ _)
  case ldcOffset | ldcPost | ldcUnindexed => exact runIf (coprocLoad_confined _ _ _ _ _)
  case mcr => exact runIf (coprocWrite_confined _ _ _ _ _ _)
  case mrc => exact runIf (coprocRead_confined _ _ _ _ _ _)
  -- the VFP11
  case fmacs | fmacd | fnmacs | fnmacd | fmscs | fmscd | fnmscs | fnmscd | fmuls | fmuld | fnmuls | fnmuld | fadds | faddd
    | fsubs | fsubd | fdivs | fdivd | fsqrts | fsqrtd =>
    exact runIf (vectorArithmetic_confined _ _ _ _ _ _)
  case fcpys | fcpyd | fabss | fabsd | fnegs | fnegd => exact runIf (vectorMove_confined _ _ _ _)
  case fcmps | fcmpd | fcmpes | fcmped | fcmpzs | fcmpzd | fcmpezs | fcmpezd =>
    exact runIf (fpCompare_confined _ _ _ _ _)
  case fcvtds | fcvtsd => exact runIf (scalarOnly_confined _ _ _ fun _ s => s.setFp_secureView _ _ _)
  case fuitos | fuitod | fsitos | fsitod => exact runIf (fpFromInt_confined _ _ _ _ _)
  case ftouis | ftouid | ftouizs | ftouizd | ftosis | ftosid | ftosizs | ftosizd =>
    exact runIf (fpToInt_confined _ _ _ _ _ _)
  case flds | fldd => exact runIf (fpLoadOne_confined _ _ _ _ _)
  case fsts | fstd => exact runIf (fpStoreOne_confined _ _ _ _ _)
  case fldmsIa | fldmsDb | fldmdIa | fldmdDb | fldmxIa | fldmxDb =>
    exact runIf (fpLoadMany_confined _ _ _ _ _ _ _)
  case fstmsIa | fstmsDb | fstmdIa | fstmdDb | fstmxIa | fstmxDb =>
    exact runIf (fpStoreMany_confined _ _ _ _ _ _ _)
  case fmsr | fmdlr | fmdhr => exact runIf (fpFromCore_confined _ _ fun s => s.setSingle_secureView _ _)
  case fmrs | fmrdl | fmrdh => exact runIf (fpToCore_confined _ _ _)
  case fmdrr | fmsrr => exact runIf (fpFromPair_confined _ _ _ _ _ _)
  case fmrrd | fmrrs => exact runIf (fpToPair_confined _ _ _ _ _ _)
  case fmxr =>
    exact runIf (.bind (fpSystem_confined _) fun _ => .bind (noPc_passes _) fun _ =>
      .bind (.update fun s => s.writeFpReg_secureView _ _) fun _ => advance_passes)
  case fmrx =>
    exact runIf (.bind (fpSystem_confined _) fun _ => .bind (readFpReg_passes _) fun _ =>
      .ite (.bind openFlags_passes fun _ => advance_passes) (finishReg_passes _ _))
  case fmstat =>
    exact runIf (.bind (fpSystem_confined _) fun _ =>
      .bind (.update fun s => s.setFlags_secureView rfl) fun _ => advance_passes)

/-- The Secure copy of a world's registers, but for its Cache Dirty Status and its fault registers. -/
theorem Cp15Banked.eq_of_settled {a b : Cp15Banked} (h : b.settled = a.settled) :
    { b with cacheDirty := a.cacheDirty, dfsr := a.dfsr, ifsr := a.ifsr, far := a.far, ifar := a.ifar } = a :=
  congrArg (fun c : Cp15Banked =>
    { c with cacheDirty := a.cacheDirty, dfsr := a.dfsr, ifsr := a.ifsr, far := a.far, ifar := a.ifar }) h

/-- Settles O14: each part of an instruction leaves the Secure view as it was (`Confined`), and a Data Abort that writes
the Secure fault registers ends in Secure Monitor mode (`State.dataAbort_aborted`). -/
theorem nonSecureConfined : Obligations.NonSecureConfined := by
  unfold Obligations.NonSecureConfined
  intro i s t hs hh e
  have h := exec_ended i ((State.live_iff s).mpr ⟨hs, hh⟩)
  rw [e] at h
  obtain ⟨hc, hf⟩ := h
  refine ⟨congrArg (·.scr) hc, congrArg (·.sder) hc, congrArg (·.nsacr) hc, congrArg (·.actlr) hc, congrArg (·.mvbar) hc,
    congrArg (·.savc) hc, congrArg (·.sctlr) hc, congrArg (·.dtcm) hc, congrArg (·.itcm) hc,
    Cp15Banked.eq_of_settled (congrArg (·.bank) hc), fun hm => ?_⟩
  have hr : t.secure.faults = s.secure.faults := hf.resolve_left fun h => hm (beq_iff_eq.mp h)
  exact ⟨congrArg (·.dfsr) hr, congrArg (·.ifsr) hr, congrArg (·.far) hr, congrArg (·.ifar) hr⟩

/-! The reset values of the system registers -/

theorem resetWith_bankOf (p : Pins) (ns : Bool) : (State.resetWith p).bankOf ns = Cp15Banked.reset p := by
  cases ns <;> rfl

theorem resetWith_channel (p : Pins) (c : Bool) : (State.resetWith p).channel c = DmaChannel.reset := by
  cases c <;> rfl

theorem resetWith_tlbLock (p : Pins) (k : Fin 8) :
    (State.resetWith p).cp15.tlbLock[k] = { va := 0, pa := 0, attr := 0 } :=
  Vector.getElem_replicate k.isLt

/-- Settles O2: every register it names is reset to a constant, in both worlds, channels and all lockdown entries. -/
theorem resetRegisters : Obligations.ResetRegisters := by
  intro p
  refine ⟨fun ns => ?_, rfl, rfl, rfl, rfl, rfl, rfl, rfl, rfl, fun c => ?_, fun k => ?_, rfl, rfl, rfl, rfl, rfl, rfl, rfl,
    rfl, (by decide : (2#32).getLsbD 0 = false)⟩
  · rw [resetWith_bankOf]
    exact ⟨rfl, rfl, rfl, rfl, rfl, rfl, rfl, rfl, rfl, rfl, rfl, rfl, rfl⟩
  · rw [resetWith_channel]
    exact ⟨rfl, rfl⟩
  · rw [resetWith_tlbLock]
    rfl

/-! The coprocessor transfers of CP15 -/

section

variable {crn crm : BitVec 4} {o1 o2 : BitVec 3} {rd rn : RegNo} {s t : State} {r : Cp15}

theorem cp15Read_run {v : Word} (hr : Cp15.of? crn o1 crm o2 = some r) (ha : r.readable s = true)
    (hv : r.value s = some v) (hd : rd ≠ 15) : cp15Read crn o1 crm o2 rd s = .ok ((), s.wrote rd v) := by
  unfold cp15Read
  simp only [hr, exec_bind_ok (look_run _ s), ha, hv, if_neg hd, Bool.not_true, Bool.false_eq_true, if_false]
  exact finishReg_run rd v s

/-- A register without a value is read without effect (R360). -/
theorem cp15Read_valueless (hr : Cp15.of? crn o1 crm o2 = some r) (ha : r.readable s = true) (hv : r.value s = none) :
    cp15Read crn o1 crm o2 rd s = .ok ((), s.next) := by
  unfold cp15Read
  simp only [hr, exec_bind_ok (look_run _ s), ha, hv, Bool.not_true, Bool.false_eq_true, if_false]
  exact advance_run s

theorem cp15Read_undefined (h : ∀ r, Cp15.of? crn o1 crm o2 = some r → r.readable s = false) :
    cp15Read crn o1 crm o2 rd s = .error (.took s.undefined) := by
  unfold cp15Read
  cases hr : Cp15.of? crn o1 crm o2 with
  | none => exact takeUndefined_run s
  | some r =>
    simp only [exec_bind_ok (look_run _ s), h r hr, Bool.not_false, if_true]
    exact takeUndefined_run s

theorem cp15Write_run (hr : Cp15.of? crn o1 crm o2 = some r) (ha : r.writable s = true)
    (hw : r.write (s.reg rd) s = .ok ((), t)) (hd : rd ≠ 15) : cp15Write crn o1 crm o2 rd s = .ok ((), t.next) := by
  unfold cp15Write
  simp only [hr, exec_bind_ok (look_run _ s), ha, if_neg hd, Bool.not_true, Bool.false_eq_true, if_false]
  rw [exec_bind_ok hw, advance_run]

theorem cp15Write_undefined (h : ∀ r, Cp15.of? crn o1 crm o2 = some r → r.writable s = false) :
    cp15Write crn o1 crm o2 rd s = .error (.took s.undefined) := by
  unfold cp15Write
  cases hr : Cp15.of? crn o1 crm o2 with
  | none => exact takeUndefined_run s
  | some r =>
    simp only [exec_bind_ok (look_run _ s), h r hr, Bool.not_false, if_true]
    exact takeUndefined_run s

/-- What a range operation does to each line of the range. -/
def RangeOp.onLine : RangeOp → Word → Exec Unit
  | .invalidateCode => invalidateCodeMva
  | .dataCache op => op.atMva

theorem cp15Range_run {op : BitVec 4} {r : RangeOp} (hr : RangeOp.of? op crm = some r) (ha : r.allowed s = true)
    (hw : onRange r.onLine (s.reg rn) (s.reg rd) s = .ok ((), t)) (hd : rd ≠ 15) (hn : rn ≠ 15) :
    cp15Range op crm rd rn s = .ok ((), t.next) := by
  have hp : ¬(decide (rd = 15) || decide (rn = 15)) = true := by simpa using ⟨hd, hn⟩
  unfold cp15Range
  simp only [hr, exec_bind_ok (look_run _ s), ha, if_neg hp, Bool.not_true, Bool.false_eq_true, if_false]
  cases r <;> exact (exec_bind_ok hw).trans (advance_run t)

theorem cp15Range_undefined {op : BitVec 4} (h : ∀ r, RangeOp.of? op crm = some r → r.allowed s = false) :
    cp15Range op crm rd rn s = .error (.took s.undefined) := by
  unfold cp15Range
  cases hr : RangeOp.of? op crm with
  | none => exact takeUndefined_run s
  | some r =>
    simp only [exec_bind_ok (look_run _ s), h r hr, Bool.not_false, if_true]
    exact takeUndefined_run s

theorem noCoprocessor_run {cp : BitVec 4} (h10 : cp ≠ 10) (h11 : cp ≠ 11) (s : State) :
    noCoprocessor cp s = .error (.took s.undefined) := by
  unfold noCoprocessor
  rw [if_neg h10, if_neg h11]
  rfl

end

/-- Settles O43: what each transfer answers is what its body does (`cp15Read_run`, `cp15Write_run`, `cp15Range_run`), or
the Undefined exception. -/
theorem cp15Results : Obligations.Cp15Results := by
  intro s t c o1 o2 crn crm cp op rd rn hc hd hn
  have run {m : Exec Unit} {u : State} : m s = .ok ((), u) → outcome (conditional c m) s = .next u :=
    outcome_conditional_of_ok hc
  have undef {m : Exec Unit} (h : m s = .error (.took s.undefined)) : outcome (conditional c m) s = .next s.undefined :=
    outcome_of_took ((conditional_pass m hc).trans h)
  refine ⟨fun r v hr ha hv => run (cp15Read_run hr ha hv hd), fun r hr ha hv => run (cp15Read_valueless hr ha hv),
    fun h => undef (cp15Read_undefined h), fun r hr ha hw => run (cp15Write_run hr ha hw hd),
    fun h => undef (cp15Write_undefined h), ?_, fun hcp => ?_⟩
  · rintro i (rfl | rfl)
    · refine ⟨fun r hr ha hw => run (cp15Range_run hr ha ?_ hd hn), fun h => undef (cp15Range_undefined h)⟩
      cases r <;> exact hw
    · refine ⟨fun r hr ha hw => outcome_of_ok (cp15Range_run hr ha ?_ hd hn), fun h => outcome_of_took (cp15Range_undefined h)⟩
      cases r <;> exact hw
  · obtain ⟨h10, h11, h14, h15⟩ : cp ≠ 10 ∧ cp ≠ 11 ∧ cp ≠ 14 ∧ cp ≠ 15 := by
      simpa only [List.mem_cons, List.not_mem_nil, or_false, not_or] using hcp
    have absent := noCoprocessor_run h10 h11 s
    simp only [List.forall_mem_cons, List.not_mem_nil, false_implies, implies_true, and_true]
    refine ⟨undef ?_, undef ?_, undef ?_, ?_⟩
    · rw [coprocRead, if_neg h15, if_neg h14]; exact absent
    · rw [coprocWrite, if_neg h15, if_neg h14]; exact absent
    · rw [if_neg h15]; exact absent
    · refine outcome_of_took ?_
      rw [if_neg h15]
      exact takeUndefined_run s

/-! The banked registers of CP15 that read back what was written -/

/-- A register but R15 is a part of the register file, by the mode. -/
theorem State.reg_of_same {s t : State} {n : RegNo} (hn : n ≠ 15) (hg : t.gpr = s.gpr) (hc : t.cpsr = s.cpsr) :
    t.reg n = s.reg n := by
  rw [State.reg, State.reg, State.regOf, State.regOf, if_neg hn, if_neg hn, hg, hc]

theorem State.wrote_reg_same {s : State} {n : RegNo} (hn : n ≠ 15) (v : Word) : (s.wrote n v).reg n = v :=
  (State.reg_of_same hn (State.next_gpr _) (State.next_cpsr _)).trans (s.reg_setReg_same n v hn)

theorem State.wrote_reg_other {s : State} {n k : RegNo} (hn : n ≠ 15) (hk : k ≠ 15) (h : k ≠ n) (v : Word) :
    (s.wrote n v).reg k = s.reg k :=
  (State.reg_of_same hk (State.next_gpr _) (State.next_cpsr _)).trans (s.reg_setReg_other n k v hn h)

/-- Going on to the next instruction with a register written changes the registers and the PC. -/
theorem State.wrote_frame (s : State) (n : RegNo) (v : Word) :
    { s.wrote n v with gpr := s.gpr, pc := s.pc, wrapped := s.wrapped } = s := by
  unfold State.wrote State.next
  split <;> rfl

theorem State.next_bankOf (s : State) (ns : Bool) : s.next.bankOf ns = s.bankOf ns := by
  cases ns <;> simp [State.bankOf]

theorem State.setCopy_bankOf (s : State) (f : Cp15Banked → Cp15Banked) :
    (s.setCopy f).bankOf s.copyNs = f (s.bankOf s.copyNs) := by
  unfold State.setCopy
  cases s.copyNs <;> rfl

theorem State.setCopy_bankOf_other (s : State) (f : Cp15Banked → Cp15Banked) :
    (s.setCopy f).bankOf (!s.copyNs) = s.bankOf (!s.copyNs) := by
  unfold State.setCopy
  cases s.copyNs <;> rfl

/-- A register of which each world has its own copy: its bits, and its place among the banked registers. -/
structure CopyField where
  mask : Word
  get : Cp15Banked → Word
  put : Cp15Banked → Word → Cp15Banked

/-- The banked registers that read back what a privileged MCR of the Secure world writes. -/
def Cp15.copy? : Cp15 → Option CopyField
  | .ttbr0 => some ⟨0xFFFFFF9B, (·.ttbr0), fun b w => { b with ttbr0 := w }⟩
  | .ttbr1 => some ⟨0xFFFFC01B, (·.ttbr1), fun b w => { b with ttbr1 := w }⟩
  | .ttbcr => some ⟨0x37, (·.ttbcr), fun b w => { b with ttbcr := w }⟩
  | .dacr => some ⟨0xFFFFFFFF, (·.dacr), fun b w => { b with dacr := w }⟩
  | .dfsr => some ⟨0x1CFF, (·.dfsr), fun b w => { b with dfsr := w }⟩
  | .ifsr => some ⟨0x100F, (·.ifsr), fun b w => { b with ifsr := w }⟩
  | .far => some ⟨0xFFFFFFFF, (·.far), fun b w => { b with far := w }⟩
  | .ifar => some ⟨0xFFFFFFFF, (·.ifar), fun b w => { b with ifar := w }⟩
  | .par => some ⟨0xFFFFFEFF, (·.par), fun b w => { b with par := w }⟩
  | .prrr => some ⟨0x000FFFFF, (·.prrr), fun b w => { b with prrr := w }⟩
  | .nmrr => some ⟨0xFFFFFFFF, (·.nmrr), fun b w => { b with nmrr := w }⟩
  | .vbar => some ⟨0xFFFFFFE0, (·.vbar), fun b w => { b with vbar := w }⟩
  | .fcse => some ⟨0xFE000000, (·.fcse), fun b w => { b with fcse := w }⟩
  | .contextId => some ⟨0xFFFFFFFF, (·.contextId), fun b w => { b with contextId := w }⟩
  | .tidUserRw => some ⟨0xFFFFFFFF, (·.tidUserRw), fun b w => { b with tidUserRw := w }⟩
  | .tidUserRo => some ⟨0xFFFFFFFF, (·.tidUserRo), fun b w => { b with tidUserRo := w }⟩
  | .tidPriv => some ⟨0xFFFFFFFF, (·.tidPriv), fun b w => { b with tidPriv := w }⟩
  | .ppmr => some ⟨0xFFFFF01F, (·.ppmr), fun b w => { b with ppmr := w }⟩
  | _ => none

section

variable {r : Cp15} {c : CopyField} (h : r.copy? = some c)
include h

theorem Cp15.copy_get_put (b : Cp15Banked) (w : Word) : c.get (c.put b w) = w := by
  cases r <;> cases h <;> rfl

theorem Cp15.copy_value (s : State) : r.value s = some (c.get (s.bankOf s.copyNs)) := by
  cases r <;> cases h <;> rfl

theorem Cp15.copy_readable {s : State} (hp : s.privileged = true) : r.readable s = true := by
  have hp : s.cp15Privileged = true := by rw [State.cp15Privileged, hp, Bool.true_or]
  cases r <;> cases h
  case tidUserRw | tidUserRo => rfl
  all_goals exact hp

theorem Cp15.copy_writable {s : State} (hp : s.privileged = true) (hd : s.pins.cp15sdisable = false) :
    r.writable s = true := by
  have hr := Cp15.copy_readable h hp
  have hp : s.cp15Privileged = true := by rw [State.cp15Privileged, hp, Bool.true_or]
  have hd : r.disabled s = false := by unfold Cp15.disabled; rw [hd, Bool.false_and]
  unfold Cp15.writable
  dsimp only
  rw [hd, Bool.not_false, Bool.true_and]
  cases r <;> cases h
  case tidUserRo => exact hp
  all_goals exact hr

/-- What a write leaves, while no channel is Running or Queued: a change of the FCSE PID or of the Context ID flushes the
branch target cache besides. -/
theorem Cp15.copy_write {s : State} (v : Word) (hb : s.dmaBusy = false) :
    ∃ code, r.write v s = .ok ((), { s.setCopy (c.put · (v &&& c.mask)) with codeStale := code }) := by
  have full : v &&& (0xFFFFFFFF : Word) = v := BitVec.and_allOnes
  unfold Cp15.write
  rw [exec_bind_ok (look_run _ s)]
  cases r <;> cases h
  case ttbr0 | ttbr1 | ttbcr => exact ⟨_, changeTables_run (.inl hb)⟩
  case dacr => simp only [full]; exact ⟨_, changeTables_run (.inl hb)⟩
  case prrr => exact ⟨_, exec_bind_ok (dmaGuard_run (.inr hb))⟩
  case nmrr => simp only [full]; exact ⟨_, exec_bind_ok (dmaGuard_run (.inr hb))⟩
  case fcse => exact ⟨_, exec_bind_ok (changeTables_run (.inl hb))⟩
  case dfsr | ifsr | par | vbar | ppmr => exact ⟨_, update_run _ s⟩
  case far | ifar | contextId | tidUserRw | tidUserRo | tidPriv => simp only [full]; exact ⟨_, update_run _ s⟩

end

theorem State.secureAdmin_iff (s : State) : s.secureAdmin = true ↔
    s.privileged = true ∧ s.isSecure = true ∧ s.pins.cp15sdisable = false ∧ s.dmaBusy = false := by
  simp only [State.secureAdmin, Bool.and_eq_true, Bool.not_eq_true', and_assoc]

theorem readBack_of_copy {r : Cp15} {c : CopyField} (h : r.copy? = some c) {crn crm : BitVec 4} {op2 : BitVec 3}
    (hr : Cp15.of? crn 0 crm op2 = some r) {s : State} {rd rn : RegNo} (hs : s.secureAdmin = true) (hd : rd ≠ 15)
    (hn : rn ≠ 15) :
    ∃ t u, exec (.mcr .al 0 crn rd 15 op2 crm) s = .next t ∧ exec (.mrc .al 0 crn rn 15 op2 crm) t = .next u ∧
      u.reg rn = s.reg rd &&& c.mask ∧ t.bankOf (!s.copyNs) = s.bankOf (!s.copyNs) ∧ t.mem = s.mem ∧ t.gpr = s.gpr ∧
      t.cpsr = s.cpsr ∧ { u with gpr := t.gpr, pc := t.pc, wrapped := t.wrapped } = t ∧
      ∀ n, n ≠ 15 → n ≠ rn → u.reg n = s.reg n := by
  obtain ⟨hp, -, hpin, hb⟩ := s.secureAdmin_iff.mp hs
  obtain ⟨code, hw⟩ := Cp15.copy_write h (s.reg rd) hb
  generalize ht : { s.setCopy (c.put · (s.reg rd &&& c.mask)) with codeStale := code } = w at hw
  have hg : w.next.gpr = s.gpr := by simp [← ht, State.setCopy]
  have hc : w.next.cpsr = s.cpsr := by simp [← ht, State.setCopy]
  have hm : w.next.mem = s.mem := by simp [← ht, State.setCopy]
  have hns : w.next.copyNs = s.copyNs := by simp [← ht, State.setCopy, State.copyNs]
  have hbank (ns : Bool) : w.next.bankOf ns = (s.setCopy (c.put · (s.reg rd &&& c.mask))).bankOf ns := by
    rw [State.next_bankOf, ← ht]; rfl
  have hv : r.value w.next = some (s.reg rd &&& c.mask) := by
    rw [Cp15.copy_value h, hns, hbank, State.setCopy_bankOf, Cp15.copy_get_put h]
  have hwrite : exec (.mcr .al 0 crn rd 15 op2 crm) s = .next w.next :=
    outcome_conditional_of_ok rfl (cp15Write_run hr (Cp15.copy_writable h hp hpin) hw hd)
  have hread : exec (.mrc .al 0 crn rn 15 op2 crm) w.next = .next (w.next.wrote rn (s.reg rd &&& c.mask)) :=
    outcome_conditional_of_ok rfl (cp15Read_run hr (Cp15.copy_readable h (by rwa [State.privileged, hc])) hv hn)
  exact ⟨w.next, _, hwrite, hread, State.wrote_reg_same hn _, (hbank _).trans (s.setCopy_bankOf_other _), hm, hg, hc,
    w.next.wrote_frame _ _, fun n hn' hne =>
      (State.wrote_reg_other hn hn' hne _).trans (State.reg_of_same hn' hg hc)⟩

/-- Settles O44: the eighteen registers are those of `Cp15.copy?`, and each reads back its copy. -/
theorem cp15ReadBack : Obligations.Cp15ReadBack := by
  intro s rd rn hs _ hd hn
  have back {r : Cp15} {c : CopyField} {crn crm : BitVec 4} {op2 : BitVec 3} (hr : Cp15.of? crn 0 crm op2 = some r)
      (h : r.copy? = some c) := readBack_of_copy h hr hs hd hn
  simp only [List.forall_mem_cons, List.not_mem_nil, false_implies, implies_true, and_true]
  exact ⟨back (r := .ttbr0) rfl rfl, back (r := .ttbr1) rfl rfl, back (r := .ttbcr) rfl rfl, back (r := .dacr) rfl rfl,
    back (r := .dfsr) rfl rfl, back (r := .ifsr) rfl rfl, back (r := .far) rfl rfl, back (r := .ifar) rfl rfl,
    back (r := .par) rfl rfl, back (r := .prrr) rfl rfl, back (r := .nmrr) rfl rfl, back (r := .vbar) rfl rfl,
    back (r := .fcse) rfl rfl, back (r := .contextId) rfl rfl, back (r := .tidUserRw) rfl rfl,
    back (r := .tidUserRo) rfl rfl, back (r := .tidPriv) rfl rfl, back (r := .ppmr) rfl rfl⟩

end Sys2Proof.Machine

namespace Sys2Proof.Machine

/-! Translation: flat, and through a section. A translation is a walk, a lookup that remembers it, and the checks on the
mapping found; each has its equations here, and the checks do not see what the lookup remembers (`Remembers`). -/

/-- `t` is `s` but for what a translation remembers: the walks, the draws and the lockdown entries of the TLB. -/
structure Remembers (s t : State) : Prop where
  secure : t.secure = s.secure
  nonSecure : t.nonSecure = s.nonSecure
  mem : t.mem = s.mem
  pins : t.pins = s.pins
  dtcm : t.cp15.dtcm = s.cp15.dtcm
  itcm : t.cp15.itcm = s.cp15.itcm

namespace Remembers

variable {s t u : State}

theorem trans (h : Remembers s t) (k : Remembers t u) : Remembers s u :=
  ⟨k.secure.trans h.secure, k.nonSecure.trans h.nonSecure, k.mem.trans h.mem, k.pins.trans h.pins,
    k.dtcm.trans h.dtcm, k.itcm.trans h.itcm⟩

theorem bankOf (h : Remembers s t) (ns : Bool) : t.bankOf ns = s.bankOf ns := by
  rw [State.bankOf, State.bankOf, h.secure, h.nonSecure]

theorem tcmOf (h : Remembers s t) (data ns : Bool) (pa : Word) : t.tcmOf data ns pa = s.tcmOf data ns pa := by
  cases data <;> simp [State.tcmOf, State.tcmConfig, h.pins, h.dtcm, h.itcm]

theorem tcmByteOf (h : Remembers s t) (data ns : Bool) (pa : Word) :
    t.tcmByteOf data ns pa = s.tcmByteOf data ns pa := by
  rw [State.tcmByteOf, State.tcmByteOf, h.tcmOf, State.tcmConfig, State.tcmConfig, h.pins]

theorem tcmByte (h : Remembers s t) (instr ns : Bool) (pa : Word) : t.tcmByte instr ns pa = s.tcmByte instr ns pa := by
  simp only [State.tcmByte, h.tcmByteOf]

/-- Noting a walk, found or faulted. -/
theorem addRecord (s : State) (r : WalkRecord) : Remembers s (s.drawWalk.addRecord r) := by
  constructor <;> simp

theorem lockWalk (s : State) (ns : Bool) (asid : BitVec 8) (mva : Word) (m : Mapping) (l2 : Word) :
    Remembers s (s.lockWalk ns asid mva m l2) := by
  unfold State.lockWalk
  split <;> exact ⟨rfl, rfl, rfl, rfl, rfl, rfl⟩

end Remembers

/-! The walk through TTBR0 with N = 0 (R204, R653) -/

theorem usesTtbr1_of_ttbcr_zero {b : Cp15Banked} (h : b.ttbcr = 0) (mva : Word) : usesTtbr1 b mva = false := by
  simp [usesTtbr1, h]

theorem walkDisabled_of_ttbcr_zero {b : Cp15Banked} (h : b.ttbcr = 0) (mva : Word) : walkDisabled b mva = false := by
  simp [walkDisabled, usesTtbr1_of_ttbcr_zero h, h]

/-- The twelve bits that index the first-level table lie below its base. -/
theorem firstLevelIndex_masked (mva : Word) : (mva >>> 20 <<< 2) &&& 0x3FFF#32 = mva >>> 20 <<< 2 := by
  have hlow : (mva >>> 20 <<< 2).toNat < 2 ^ 14 := by bv_omega
  refine BitVec.eq_of_toNat_eq ?_
  rw [BitVec.toNat_and]
  exact (Nat.and_two_pow_sub_one_eq_mod _ 14).trans (Nat.mod_eq_of_lt hlow)

theorem firstLevelAddress_of_ttbcr_zero {b : Cp15Banked} (h : b.ttbcr = 0) (mva : Word) :
    firstLevelAddress b mva = (b.ttbr0 &&& 0xFFFFC000#32) ||| (mva >>> 20 <<< 2) := by
  have hmask : 0xFFFFFFFF#32 <<< 14 = 0xFFFFC000#32 := by decide
  simp [firstLevelAddress, usesTtbr1_of_ttbcr_zero h, h, hmask, firstLevelIndex_masked]

/-- The walk of an address through TTBR0 with N = 0 reads its first-level descriptor, the word `d` under `key`, from
memory and without an error. -/
structure State.ReadsFirst (s : State) (ns : Bool) (mva : Word) (key : Nat) (d : Word) : Prop where
  enabled : walkDisabled (s.bankOf ns) mva = false
  noError : s.walkError ns mva (firstLevelAddress (s.bankOf ns) mva) = none
  atKey : s.walkKey ns mva (firstLevelAddress (s.bankOf ns) mva) = some key
  word : s.walkWord ns mva (firstLevelAddress (s.bankOf ns) mva) 0 = d

theorem State.readsFirst_of_ttbr0 {s : State} {ns : Bool} {mva a : Word} (h : (s.bankOf ns).ttbcr = 0)
    (ha : ((s.bankOf ns).ttbr0 &&& 0xFFFFC000#32) ||| (mva >>> 20 <<< 2) = a)
    (he : s.walkError ns mva a = none) (hd : s.walksDevice ns mva a = false) :
    s.ReadsFirst ns mva (s.extKey ns a) (s.descriptor ns (s.extKey ns a)) := by
  have hf := (firstLevelAddress_of_ttbcr_zero h mva).trans ha
  refine ⟨walkDisabled_of_ttbcr_zero h mva, ?_, ?_, ?_⟩ <;> rw [hf]
  · exact he
  · rw [State.walkKey, hd]; rfl
  · rw [State.walkWord, hd]; rfl

section

variable {s : State} {ns : Bool} {mva d : Word} {key : Nat} {asid : BitVec 8}

theorem State.ReadsFirst.walk_section (h : s.ReadsFirst ns mva key d) (ht : d.extractLsb' 0 2 = 0b10#2) :
    s.walk ns mva = { found := .mapping ((sectionMapping ((s.bankOf ns).sctlr.getLsbD 23) d mva).forWorld ns) 0,
                      key1 := some key } := by
  unfold State.walk
  simp [h.enabled, h.noError, h.atKey, h.word, ht]

theorem State.ReadsFirst.walk_invalid (h : s.ReadsFirst ns mva key d) (ht : d.extractLsb' 0 2 = 0b00#2) :
    s.walk ns mva = MmuFault.walk { status := 0b00101, domain := none, error := none } (some key) none false := by
  unfold State.walk
  simp [h.enabled, h.noError, h.atKey, h.word, ht]

/-! The lookup (R661, R705, R706) -/

theorem State.isStaleWalk_of_no_walks (h : s.walks = []) (w : Walk) : s.isStaleWalk ns w = false := by
  simp [State.isStaleWalk, h]

theorem State.copiesAgree_of_none {repeated : Word → Bool}
    (h : ∀ i, i < 16 → repeated (s.descriptor ns (key / 64 * 64 + 4 * i)) = false) :
    s.copiesAgree ns repeated key = true := by
  have : ((List.range 16).any fun i => repeated (s.descriptor ns (key / 64 * 64 + 4 * i))) = false := by
    simpa using h
  simp [State.copiesAgree, this]

theorem isSupersection_eq_false_iff :
    isSupersection d = false ↔ ¬(d.extractLsb' 0 2 = 0b10#2 ∧ d.getLsbD 18 = true) := by
  simp [isSupersection]

/-- A walk that found a mapping, with nothing stale, the copies repeated and no lockdown entry in the way. -/
theorem State.lookup_of_mapping {m : Mapping} {l2 : Word} (hl : s.lockMatches ns asid mva = [])
    (hs : s.isStaleWalk ns (s.walk ns mva) = false) (hc : s.copiesOk ns (s.walk ns mva) = true)
    (hw : (s.walk ns mva).found = .mapping m l2) : ∃ t, s.lookup ns asid mva = .found m t ∧ Remembers s t := by
  have hu : Remembers s (s.drawWalk.recordWalk ns asid mva m (s.walk ns mva)) := .addRecord s _
  simp only [State.lookup, hs, hc, hl, hw, Bool.false_eq_true, Bool.not_true, if_false]
  split
  · exact ⟨_, rfl, hu⟩
  · exact ⟨_, rfl, hu.trans (.lockWalk _ ns asid mva m l2)⟩

theorem State.lookup_of_fault {f : MmuFault} (hl : s.lockMatches ns asid mva = [])
    (hs : s.isStaleWalk ns (s.walk ns mva) = false) (hc : s.copiesOk ns (s.walk ns mva) = true)
    (hw : (s.walk ns mva).found = .fault f) : ∃ t, s.lookup ns asid mva = .abort f t := by
  simp only [State.lookup, hs, hc, hl, hw, Bool.false_eq_true, Bool.not_true, if_false]
  exact ⟨_, rfl⟩

end

/-! Sections (R656, R674) -/

/-- The base of a section and the offset in it, put together. -/
theorem sectionBase_or_offset (d mva : Word) :
    (d &&& 0xFFF00000#32) ||| (mva &&& 0x000FFFFF#32) = d.extractLsb' 20 12 ++ mva.extractLsb' 0 20 := by
  have halves (w : Word) : w = w.extractLsb' 20 12 ++ w.extractLsb' 0 20 :=
    (BitVec.extractLsb'_append_extractLsb' (w := 12) (len := 20)).symm
  calc (d &&& 0xFFF00000#32) ||| (mva &&& 0x000FFFFF#32)
      = ((d.extractLsb' 20 12 ++ d.extractLsb' 0 20) &&& (BitVec.allOnes 12 ++ 0#20)) |||
          ((mva.extractLsb' 20 12 ++ mva.extractLsb' 0 20) &&& (0#12 ++ BitVec.allOnes 20)) := by
        rw [← halves d, ← halves mva]; rfl
    _ = d.extractLsb' 20 12 ++ mva.extractLsb' 0 20 := by
        simp only [BitVec.and_append, BitVec.or_append, BitVec.and_allOnes, BitVec.and_zero, BitVec.or_zero,
          BitVec.zero_or]

theorem sectionMapping_pa {d : Word} (h : d.getLsbD 18 = false) (xp : Bool) (mva : Word) :
    (sectionMapping xp d mva).pa = d.extractLsb' 20 12 ++ mva.extractLsb' 0 20 := by
  rw [← sectionBase_or_offset]
  simp only [sectionMapping, h, Bool.false_eq_true, if_false]

theorem sectionMapping_domain {d : Word} (h : d.getLsbD 18 = false) (xp : Bool) (mva : Word) :
    (sectionMapping xp d mva).domain = d.extractLsb' 5 4 := by
  simp only [sectionMapping, h, Bool.false_eq_true, if_false]

/-! The checks on a mapping (R650, R665, R666, R668) -/

theorem Cp15Banked.accessFault_eq_false {b : Cp15Banked} (h : b.sctlr.getLsbD 29 = false) (m : Mapping) :
    b.accessFault m = false := by
  simp only [Cp15Banked.accessFault, h, Bool.and_false, Bool.false_and]

section

variable {s : State} {ns : Bool} {b : Cp15Banked} {m : Mapping} {acc : Access} {priv : Bool} {who : Client}

theorem State.checkMapping_no_access (hb : s.bankOf ns = b) (ha : b.accessFault m = false)
    (hd : b.dacr.extractLsb' (2 * m.domain.toNat) 2 = 0b00#2) :
    s.checkMapping ns m acc priv who =
      .abort { status := if m.page then 0b01011 else 0b01001, domain := some m.domain, error := none } s := by
  simp [State.checkMapping, hb, ha, hd]

theorem State.checkMapping_not_permitted (hb : s.bankOf ns = b) (ha : b.accessFault m = false)
    (hd : b.dacr.extractLsb' (2 * m.domain.toNat) 2 = 0b01#2) (hp : m.permits b acc priv = false) :
    s.checkMapping ns m acc priv who =
      .abort { status := if m.page then 0b01111 else 0b01101, domain := some m.domain, error := none } s := by
  simp [State.checkMapping, hb, ha, hd, hp]

theorem State.checkMapping_permitted {a : Attrs} (hb : s.bankOf ns = b) (ha : b.accessFault m = false)
    (hd : b.dacr.extractLsb' (2 * m.domain.toNat) 2 = 0b01#2) (hp : m.permits b acc priv = true)
    (hm : m.attrs? b = some a) :
    s.checkMapping ns m acc priv who =
      .ok { pa := m.pa, attrs := s.finalAttrs ns who m.ns m.pa a, marked := s.cacheAttrs ns m.pa a, ns := m.ns,
            domain := m.domain } s := by
  simp [State.checkMapping, hb, ha, hd, hp, hm]

/-- Neither a TCM nor the peripheral port takes a data access from the memory type of its page (R350, R766). -/
theorem State.finalAttrs_of_page {nsattr : Bool} {pa : Word} (hb : s.bankOf ns = b)
    (ht : s.tcmByte false nsattr pa = none) (hp : inPeripheralPort b.ppmr pa = false) (a : Attrs) :
    s.finalAttrs ns .data nsattr pa a = a := by
  simp [State.finalAttrs, hb, ht, hp]

end

/-! The translation (R578, R650) -/

section

variable {s : State} {ns : Bool} {asid : BitVec 8} {mva : Word}

theorem State.translate_off (h : (s.bankOf ns).sctlr.getLsbD 0 = false) (acc : Access) (priv : Bool) (who : Client) :
    s.translate ns asid mva acc priv who =
      .ok { pa := mva, attrs := s.finalAttrs ns who ns mva (flatAttrs (s.bankOf ns) (who = .fetch)),
            marked := s.cacheAttrs ns mva (flatAttrs (s.bankOf ns) (who = .fetch)), ns := ns, domain := 0 } s := by
  simp only [State.translate, h, Bool.not_false, if_true]

theorem State.translate_of_found {m : Mapping} {t : State} (h : (s.bankOf ns).sctlr.getLsbD 0 = true)
    (hl : s.lookup ns asid mva = .found m t) (acc : Access) (priv : Bool) (who : Client) :
    s.translate ns asid mva acc priv who = t.checkMapping ns m acc priv who := by
  simp only [State.translate, h, hl, Bool.not_true, Bool.false_eq_true, if_false]

theorem State.translate_of_abort {f : MmuFault} {t : State} (h : (s.bankOf ns).sctlr.getLsbD 0 = true)
    (hl : s.lookup ns asid mva = .abort f t) (acc : Access) (priv : Bool) (who : Client) :
    s.translate ns asid mva acc priv who = .abort f t := by
  simp only [State.translate, h, hl, Bool.not_true, Bool.false_eq_true, if_false]

/-- Flat data is Strongly Ordered, and Outer Noncacheable on the bus (R578, R677). -/
theorem flatAttrs_data {b : Cp15Banked} (h : b.sctlr.getLsbD 28 = false) :
    flatAttrs b false = { ty := .stronglyOrdered, shared := true, inner := 0, outer := 0, flat := true } := by
  simp only [flatAttrs, h, Bool.false_eq_true, Bool.false_and, if_false]

variable {d : Word} {key : Nat}

/-- Through a section descriptor what is left of the translation is the checks on the section. -/
theorem State.ReadsFirst.translate_section (h : s.ReadsFirst ns mva key d) (hon : (s.bankOf ns).sctlr.getLsbD 0 = true)
    (hl : s.lockMatches ns asid mva = []) (hw : s.walks = []) (hc : s.copiesAgree ns isSupersection key = true)
    (ht : d.extractLsb' 0 2 = 0b10#2) :
    ∃ t, Remembers s t ∧ ∀ acc priv who, s.translate ns asid mva acc priv who =
      t.checkMapping ns ((sectionMapping ((s.bankOf ns).sctlr.getLsbD 23) d mva).forWorld ns) acc priv who := by
  have hwalk := h.walk_section ht
  have hcopies : s.copiesOk ns (s.walk ns mva) = true := by
    rw [hwalk]; simp [State.copiesOk, hc]
  obtain ⟨t, hfound, hrem⟩ := State.lookup_of_mapping hl (State.isStaleWalk_of_no_walks hw _) hcopies
    (congrArg Walk.found hwalk)
  exact ⟨t, hrem, State.translate_of_found hon hfound⟩

theorem State.ReadsFirst.translate_invalid (h : s.ReadsFirst ns mva key d) (hon : (s.bankOf ns).sctlr.getLsbD 0 = true)
    (hl : s.lockMatches ns asid mva = []) (hw : s.walks = []) (hc : s.copiesAgree ns isSupersection key = true)
    (ht : d.extractLsb' 0 2 = 0b00#2) (acc : Access) (priv : Bool) (who : Client) :
    ∃ t, s.translate ns asid mva acc priv who = .abort { status := 0b00101, domain := none, error := none } t := by
  have hwalk := h.walk_invalid ht
  have hcopies : s.copiesOk ns (s.walk ns mva) = true := by
    rw [hwalk]; simp [State.copiesOk, MmuFault.walk, hc]
  obtain ⟨t, hfault⟩ := State.lookup_of_fault hl (State.isStaleWalk_of_no_walks hw _) hcopies
    (congrArg Walk.found hwalk)
  exact ⟨t, State.translate_of_abort hon hfault acc priv who⟩

end

/-- Settles O59: with the MMU off the answer is one equation; with it on, the descriptor that the walk reads is a
section, and the checks on its mapping decide (`translate_section`), or it is invalid (`translate_invalid`). -/
theorem sectionTranslates : Obligations.SectionTranslates := by
  intro s ns priv asid mva acc b
  refine ⟨fun hoff => ?_, ?_⟩
  · exact ⟨_, State.translate_off hoff acc priv .data, rfl, rfl, fun hremap hport htcm =>
      (State.finalAttrs_of_page rfl htcm hport _).trans (flatAttrs_data hremap)⟩
  intro hon hxp hafe hn hl hw a1 he hdev hsuper d m domain
  have hread : s.ReadsFirst ns mva (s.extKey ns a1) d := State.readsFirst_of_ttbr0 hn rfl he hdev
  have hcopies : s.copiesAgree ns isSupersection (s.extKey ns a1) = true :=
    State.copiesAgree_of_none fun i hi => isSupersection_eq_false_iff.mpr (hsuper i hi)
  refine ⟨fun htype h18 => ?_, fun htype => hread.translate_invalid hon hl hw hcopies htype acc priv .data⟩
  obtain ⟨t, ht, htr⟩ := hread.translate_section hon hl hw hcopies htype
  rw [show (s.bankOf ns).sctlr.getLsbD 23 = true from hxp] at htr
  have hb : t.bankOf ns = b := ht.bankOf ns
  have ha : b.accessFault (m.forWorld ns) = false := Cp15Banked.accessFault_eq_false hafe _
  have hdom : m.domain = d.extractLsb' 5 4 := sectionMapping_domain h18 true mva
  rw [← hdom]
  refine ⟨fun hclient hperm at' hat => ?permitted, fun hclient hperm => ?denied, fun hnone => ?noAccess⟩
  case permitted =>
    exact ⟨_, t, (htr acc priv .data).trans (State.checkMapping_permitted hb ha hclient hperm hat),
      sectionMapping_pa h18 true mva, rfl, rfl, ht.mem, fun hport htcm =>
        State.finalAttrs_of_page hb ((ht.tcmByte _ _ _).trans htcm) hport _⟩
  case denied => exact ⟨t, (htr acc priv .data).trans (State.checkMapping_not_permitted hb ha hclient hperm)⟩
  case noAccess => exact ⟨t, (htr acc priv .data).trans (State.checkMapping_no_access hb ha hnone)⟩

end Sys2Proof.Machine

namespace Sys2Proof.Machine

/-! The DMA channels: what each command leaves in its own channel and in the other one (R323, R781, R784) -/

section

variable {s : State} {c : Bool}

@[simp] theorem State.setChannel_channel_same (s : State) (c : Bool) (f : DmaChannel → DmaChannel) :
    (s.setChannel c f).channel c = f (s.channel c) := by
  cases c <;> simp [State.setChannel, State.channel]

@[simp] theorem State.setChannel_channel_not (s : State) (c : Bool) (f : DmaChannel → DmaChannel) :
    (s.setChannel c f).channel (!c) = s.channel (!c) := by
  cases c <;> simp [State.setChannel, State.channel]

theorem DmaChannel.inOperation_of_idle {d : DmaChannel} (h : d.state = 0) : d.inOperation = false := by
  simp [DmaChannel.inOperation, DmaChannel.busy, h]

/-! The other channel, when one leaves operation (`State.promote`) -/

/-- To promote the other channel does not change this one. -/
@[simp] theorem State.promote_not_channel (s : State) (c : Bool) : (s.promote (!c)).channel c = s.channel c :=
  ite_field (fun t => State.channel t c) _ _ _ (by simpa using s.setChannel_channel_not (!c) DmaChannel.run) rfl

theorem State.promote_channel_of_queued (hq : (s.channel c).state = 1) (ho : (s.channel (!c)).inOperation = false) :
    (s.promote c).channel c = (s.channel c).run := by
  simp [State.promote, hq, ho]

/-! Start -/

theorem State.dmaStart_of_no_tcm (h : s.pins.params.hasTcm = false) : s.dmaStart c = s :=
  if_pos (by rw [h]; exact Bool.or_true _)

theorem State.dmaStart_of_busy (h : (s.channel c).busy = true) : s.dmaStart c = s :=
  if_pos (Bool.or_eq_true_iff.mpr (.inl h))

/-- The channel with the privilege of the process that starts it (R324). -/
def DmaChannel.startedBy (d : DmaChannel) (user : Bool) : DmaChannel := { d with startedFromUser := user }

/-- A Start that is not ignored decides by the parameters, then by the other channel. -/
theorem State.dmaStart_channel (hdma : s.pins.params.hasTcm = true) (hidle : (s.channel c).busy = false) :
    (s.dmaStart c).channel c =
      if (s.channel c).badParameters then { (s.channel c).startedBy (!s.privileged) with status := 0x1003#32 }
      else if (s.channel (!c)).inOperation then { (s.channel c).startedBy (!s.privileged) with status := 1 }
      else ((s.channel c).startedBy (!s.privileged)).run := by
  have hacts : ¬ ((s.channel c).busy || !s.pins.params.hasTcm) = true := by simp [hidle, hdma]
  rw [show s.dmaStart c = s.setChannel c _ from if_neg hacts, State.setChannel_channel_same]
  rfl

theorem State.dmaStart_channel_not (s : State) (c : Bool) : (s.dmaStart c).channel (!c) = s.channel (!c) :=
  ite_field (fun t => State.channel t (!c)) _ _ _ rfl (s.setChannel_channel_not c _)

theorem State.dmaStart_mem (s : State) (c : Bool) : (s.dmaStart c).mem = s.mem :=
  ite_field State.mem _ _ _ rfl (s.setChannel_mem c _)

/-! Clear and Stop -/

theorem State.dmaClear_of_busy (h : (s.channel c).busy = true) : s.dmaClear c = s := if_pos h

theorem State.dmaStop_of_running (h : (s.channel c).state = 2) : s.dmaStop c = s.dmaComplete c := if_pos h

theorem State.dmaStop_of_queued (h : (s.channel c).state = 1) :
    s.dmaStop c = (s.setChannel c fun d => { d with status := 0 }).promote (!c) := by
  simp [State.dmaStop, h]

/-- A Queued channel that is stopped is Idle, and the other one, where it was Queued too, runs. -/
theorem State.dmaStop_channel_not_of_queued (h : (s.channel c).state = 1) (ho : (s.channel (!c)).state = 1) :
    (s.dmaStop c).channel (!c) = (s.channel (!c)).run := by
  rw [State.dmaStop_of_queued h, State.promote_channel_of_queued]
  · rw [State.setChannel_channel_not]
  · rw [State.setChannel_channel_not, ho]
  · rw [Bool.not_not, State.setChannel_channel_same]
    exact DmaChannel.inOperation_of_idle rfl

/-! The end of a transfer -/

theorem State.dmaComplete_channel (s : State) (c : Bool) :
    (s.dmaComplete c).channel c = (s.channel c).finish s.dmaNs 0 ((s.channel c).control.getLsbD 29) := by
  rw [State.dmaComplete, State.promote_not_channel, State.setChannel_channel_same]

theorem dmaTransfer_of_atEnd (h : (s.channel c).curInt = (s.channel c).intEnd) :
    dmaTransfer c s = .error (.took (s.dmaComplete c)) := by
  rw [dmaTransfer, exec_bind_ok (look_run _ s), if_pos h, endWith_run]

theorem dmaStep_of_atEnd (hrun : s.running = some c) (h : (s.channel c).curInt = (s.channel c).intEnd) :
    dmaStep s = .ok ((), s.dmaComplete c) := by
  simp only [dmaStep, hrun, dmaTransfer_of_atEnd h]

end

/-- Settles O60: each command by its equation for the state the channel is in; Start leaves the other channel alone in
every case. -/
theorem dmaCommands : Obligations.DmaCommands := by
  intro s c d other dma
  refine ⟨State.dmaStart_of_no_tcm, fun hdma hidle hgood hfree => ?runs, fun hdma hidle hgood hother => ?queued,
    fun hdma hidle hbad => ?rejected, fun hbusy => ⟨State.dmaStart_of_busy hbusy, State.dmaClear_of_busy hbusy⟩,
    fun hqueued => ⟨?stopsQueued, fun hother => ?promotes⟩, fun hrunning => ?stopsRunning, dmaStep_of_atEnd,
    fun o => ?frame, s.dmaStart_mem c⟩
  case runs =>
    rw [State.dmaStart_channel hdma hidle, if_neg (Bool.eq_false_iff.mp hgood), if_neg (Bool.eq_false_iff.mp hfree)]
    exact ⟨rfl, rfl, rfl, rfl⟩
  case queued =>
    rw [State.dmaStart_channel hdma hidle, if_neg (Bool.eq_false_iff.mp hgood), if_pos hother]
    rfl
  case rejected => rw [State.dmaStart_channel hdma hidle, if_pos hbad]
  case stopsQueued =>
    rw [State.dmaStop_of_queued hqueued, State.promote_not_channel, State.setChannel_channel_same]
    rfl
  case promotes =>
    rw [State.dmaStop_channel_not_of_queued hqueued hother]
    rfl
  case stopsRunning =>
    rw [State.dmaStop_of_running hrunning, State.dmaComplete_channel]
    exact ⟨rfl, rfl, rfl⟩
  case frame =>
    by_cases ho : o = c
    · exact .inl (ho ▸ s.dmaStart_channel_not c)
    · exact .inr (Bool.eq_not_of_ne ho)

end Sys2Proof.Machine

namespace Sys2Proof.Machine

/-! The debug coprocessor: transfers of its registers, and its loads and stores of one word (R410, R415, R427) -/

section

variable {o2 : BitVec 3} {crm : BitVec 4} {rd rn : RegNo} {s t : State} {r : Cp14}

/-- The debug registers have Opcode_1 = 0 and CRn = 0 (R427). -/
theorem Cp14Space.of?_debug (h : Cp14.of? o2 crm = some r) : Cp14Space.of? 0 0 crm o2 = some (.debug r) := by
  simp [Cp14Space.of?, h]

theorem cp14Read_run (hr : Cp14.of? o2 crm = some r) (hp : r.permitted false s = true) (hd : rd ≠ 15) :
    cp14Read 0 0 crm o2 rd s = .ok ((), (r.afterRead s).wrote rd (r.value s)) := by
  unfold cp14Read
  simp only [Cp14Space.of?_debug hr, exec_bind_ok (look_run _ s), hp, exec_bind_ok (update_run _ s), if_neg hd,
    Bool.not_true, Bool.false_eq_true, if_false]
  exact finishReg_run rd _ _

/-- Z and C of bits 30 and 29, the other two flags clear (R414). -/
theorem Psr.setNZCV_transferFull (p : Psr) (v : Word) :
    p.setNZCV (0b0110#4 &&& v.extractLsb' 28 4) =
      { p with n := false, z := v.getLsbD 30, c := v.getLsbD 29, v := false } := by
  simp [Psr.setNZCV]

/-- A read of the DSCR to R15 moves the bits that say whether the DTR is full to the flags (R414). -/
theorem cp14Read_dscr_flags (hr : Cp14.of? o2 crm = some .dscr) (hp : Cp14.dscr.permitted false s = true) :
    cp14Read 0 0 crm o2 15 s = .ok ((), s.flagged
      { s.cpsr with n := false, z := s.readDscr.getLsbD 30, c := s.readDscr.getLsbD 29, v := false }) := by
  have kept : Cp14.dscr.afterRead s = s := if_neg (by decide)
  unfold cp14Read
  simp only [Cp14Space.of?_debug hr, exec_bind_ok (look_run _ s), hp, exec_bind_ok (update_run _ s), kept,
    Bool.not_true, Bool.false_eq_true, if_false, if_true]
  rw [Psr.setNZCV_transferFull]
  exact advance_run _

theorem cp14Read_undefined (hr : Cp14.of? o2 crm = some r) (hp : r.permitted false s = false) :
    cp14Read 0 0 crm o2 rd s = .error (.took s.undefined) := by
  unfold cp14Read
  simp only [Cp14Space.of?_debug hr, exec_bind_ok (look_run _ s), hp, Bool.not_false, if_true]
  exact takeUndefined_run s

theorem cp14Write_run (hr : Cp14.of? o2 crm = some r) (hp : r.permitted true s = true) (hi : r ≠ .didr)
    (hb : r.reservedBreakpoint (s.reg rd) = false) (hd : rd ≠ 15) :
    cp14Write 0 0 crm o2 rd s = .ok ((), (r.put (s.reg rd) s).next) := by
  have listed : ¬(!true || decide (r = .didr) || decide (rd = 15)) = true := by simpa using ⟨hi, hd⟩
  unfold cp14Write
  simp only [Cp14Space.of?_debug hr, exec_bind_ok (look_run _ s), hp, if_neg listed, hb, Bool.false_eq_true, if_false,
    exec_bind_ok (update_run _ s)]
  exact advance_run _

/-- A write without permission, and a write of the DIDR (R427). -/
theorem cp14Write_undefined (hr : Cp14.of? o2 crm = some r) (h : r.permitted true s = false ∨ r = .didr) :
    cp14Write 0 0 crm o2 rd s = .error (.took s.undefined) := by
  have barred : (!r.permitted true s || decide (r = .didr) || decide (rd = 15)) = true := by
    rcases h with h | h <;> simp [h]
  unfold cp14Write
  simp only [Cp14Space.of?_debug hr, exec_bind_ok (look_run _ s), if_pos barred]
  exact takeUndefined_run s

theorem writeBase_run (rn : RegNo) (v : Option Word) (s : State) : writeBase rn v s = .ok ((), s.based rn v) := by
  cases v <;> rfl

variable (m : Mode5) {b v : Word} {k : Bool}

/-- The checks of a transfer of c5 in the short form pass (R427). -/
theorem debugTransfer_run {write : Bool} (hp : Cp14.dtr.permitted write s = true) (hn : rn ≠ 15) :
    debugTransfer false 5 rn m write s = .ok (m.at rn s, s) := by
  simp only [debugTransfer, exec_bind_ok (look_run _ s), hp, bne_self_eq_false, Bool.not_true, Bool.or_self,
    Bool.false_eq_true, if_false, decide_eq_false hn, Bool.false_and]
  rfl

/-- LDC: the word goes to the wDTR after the base register has been written (R1308). -/
theorem debugLoad_run (hp : Cp14.dtr.permitted true s = true) (hn : rn ≠ 15)
    (ha : alignData (loadOf .multi s.privileged) (m.at rn s).addr s = .ok ((b, k), s))
    (hw : readWordAt (loadOf .multi s.privileged) b s = .ok (v, t)) :
    debugLoad false 5 rn m s = .ok ((), ((t.based rn (m.at rn s).back).putWdtr v).next) := by
  rw [loadOf] at ha hw
  rw [debugLoad, exec_bind_ok (debugTransfer_run m hp hn), exec_bind_ok (look_run _ s), exec_bind_ok ha]
  dsimp only
  rw [exec_bind_ok hw, exec_bind_ok (writeBase_run rn _ t), exec_bind_ok (update_run _ _), advance_run]

/-- STC: the rDTR, as it is before the transfer, goes to memory (R1309). -/
theorem debugStore_run (hp : Cp14.dtr.permitted false s = true) (hn : rn ≠ 15)
    (ha : alignData (storeOf .multi s.privileged) (m.at rn s).addr s = .ok ((b, k), s))
    (hw : writeWordAt (storeOf .multi s.privileged) b s.dbg.rdtr s = .ok ((), t)) :
    debugStore false 5 rn m s = .ok ((), (t.based rn (m.at rn s).back).tookRdtr.next) := by
  rw [storeOf] at ha hw
  rw [debugStore, exec_bind_ok (debugTransfer_run m hp hn), exec_bind_ok (look_run _ s), exec_bind_ok ha]
  dsimp only
  rw [exec_bind_ok (look_run _ s), exec_bind_ok hw, exec_bind_ok (writeBase_run rn _ t), exec_bind_ok (update_run _ _),
    advance_run]

end

/-- Settles O45: each transfer of a debug register by what its body does (`cp14Read_run`, `cp14Write_run`) or the
Undefined exception; LDC and STC for every addressing form at once (`debugLoad_run`, `debugStore_run`), and those of an
absent coprocessor by `noCoprocessor_run`. -/
theorem cp14Results : Obligations.Cp14Results := by
  intro s t c o2 crd crm cp rd rn r u wb n k imm b v hc hd hn
  have run {m : Exec Unit} {w : State} : m s = .ok ((), w) → outcome (conditional c m) s = .next w :=
    outcome_conditional_of_ok hc
  have undef {m : Exec Unit} (h : m s = .error (.took s.undefined)) : outcome (conditional c m) s = .next s.undefined :=
    outcome_of_took ((conditional_pass m hc).trans h)
  refine ⟨fun hr => ⟨fun hp => run (cp14Read_run hr hp hd), ?_, fun hp => undef (cp14Read_undefined hr hp),
    fun hp hi hb => run (cp14Write_run hr hp hi hb hd), fun h => undef (cp14Write_undefined hr h)⟩, ⟨?_, ?_⟩,
    fun hcp => ?_⟩
  · rintro rfl hp
    exact run (cp14Read_dscr_flags hr hp)
  · simp only [List.forall_mem_cons, List.not_mem_nil, false_implies, implies_true, and_true]
    exact ⟨fun hp ha hw => run (debugLoad_run (.offset u wb imm) hp hn ha hw),
      fun hp ha hw => run (debugLoad_run (.post u imm) hp hn ha hw),
      fun hp ha hw => run (debugLoad_run .unindexed hp hn ha hw)⟩
  · simp only [List.forall_mem_cons, List.not_mem_nil, false_implies, implies_true, and_true]
    exact ⟨fun hp ha hw => run (debugStore_run (.offset u wb imm) hp hn ha hw),
      fun hp ha hw => run (debugStore_run (.post u imm) hp hn ha hw),
      fun hp ha hw => run (debugStore_run .unindexed hp hn ha hw)⟩
  · obtain ⟨h10, h11, h14⟩ : cp ≠ 10 ∧ cp ≠ 11 ∧ cp ≠ 14 := by
      simpa only [List.mem_cons, List.not_mem_nil, or_false, not_or] using hcp
    have load (m : Mode5) : outcome (conditional c (coprocLoad cp n crd rn m)) s = .next s.undefined :=
      undef ((congrFun (if_neg h14) s).trans (noCoprocessor_run h10 h11 s))
    have store (m : Mode5) : outcome (conditional c (coprocStore cp n crd rn m)) s = .next s.undefined :=
      undef ((congrFun (if_neg h14) s).trans (noCoprocessor_run h10 h11 s))
    simp only [List.forall_mem_cons, List.not_mem_nil, false_implies, implies_true, and_true]
    exact ⟨load (.offset u wb imm), load (.post u imm), load .unindexed, store (.offset u wb imm), store (.post u imm),
      store .unindexed⟩

end Sys2Proof.Machine

namespace Sys2Proof.Machine

/-! The access checks of the VFP11: where each answer comes from (R499, R528) -/

/-- The world may use the VFP11 (R499). -/
def State.vfpWorld (s : State) : Prop :=
  s.isSecure = true ∨ (s.cp15.nsacr.getLsbD 10 = true ∧ s.cp15.nsacr.getLsbD 11 = true)

/-- The access field gives the use of the VFP11 to the mode (R499). -/
def State.vfpField (s : State) (cp11 : Bool) : Prop :=
  s.cpAccess cp11 = 0b11#2 ∨ (s.cpAccess cp11 = 0b01#2 ∧ s.privileged = true)

section

variable {s : State} {cp11 sys : Bool}

theorem State.vfpUsable_iff : s.vfpUsable cp11 = true ↔
    s.vfpWorld ∧ s.vfpField cp11 ∧ s.vfp.fpexc.getLsbD 30 = true ∧ s.vfp.fpexc.getLsbD 31 = false := by
  simp [State.vfpUsable, State.vfpWorld, State.vfpField, and_assoc]

/-- The test of the world at the head of the access check. -/
theorem State.vfpWorld_iff : s.vfpWorld ↔
    ¬(!s.isSecure && !(s.cp15.nsacr.getLsbD 10 && s.cp15.nsacr.getLsbD 11)) = true := by
  cases h : s.isSecure <;> simp [State.vfpWorld, h]

theorem State.vfpField_ne_reserved (h : s.vfpField cp11) : s.cpAccess cp11 ≠ 0b10#2 := by
  rcases h with h | ⟨h, -⟩ <;> simp [h]

/-- The four values of an access field. -/
theorem access_cases (a : BitVec 2) : a = 0b00#2 ∨ a = 0b01#2 ∨ a = 0b10#2 ∨ a = 0b11#2 := by
  revert a; decide

/-- The test of the access field, where the field does not hold the reserved value. -/
theorem State.vfpField_iff (h : s.cpAccess cp11 ≠ 0b10#2) : s.vfpField cp11 ↔
    ¬(s.cpAccess cp11 = 0b00#2 || (s.cpAccess cp11 = 0b01#2 && !s.privileged)) = true := by
  rcases access_cases (s.cpAccess cp11) with ha | ha | ha | ha <;> simp_all [State.vfpField]

theorem vfpAccess_of_world (h : ¬s.vfpWorld) : vfpAccess cp11 sys s = .error (.took s.undefined) := by
  rw [vfpAccess, if_pos (by rwa [State.vfpWorld_iff, not_not] at h), takeUndefined_run]

theorem vfpAccess_of_field (h : ¬s.vfpField cp11) (hr : s.cpAccess cp11 ≠ 0b10#2) :
    vfpAccess cp11 sys s = .error (.took s.undefined) := by
  by_cases hw : s.vfpWorld
  · rw [vfpAccess, if_neg (State.vfpWorld_iff.mp hw), if_pos (by rwa [State.vfpField_iff hr, not_not] at h),
      takeUndefined_run]
  · exact vfpAccess_of_world hw

theorem vfpAccess_reserved (hw : s.vfpWorld) (hr : s.cpAccess cp11 = 0b10#2) :
    vfpAccess cp11 sys s = .error (.refused .reservedAccess) := by
  rw [vfpAccess, if_neg (State.vfpWorld_iff.mp hw), if_neg (by simp [hr]), if_pos hr]

/-- Where the world and the field allow the use, the enable bit decides, or its place is taken by privilege. -/
theorem vfpAccess_allowed (hw : s.vfpWorld) (hf : s.vfpField cp11) :
    vfpAccess cp11 sys s = if s.vfp.fpexc.getLsbD 30 = true ∨ (sys = true ∧ s.privileged = true) then .ok ((), s)
      else .error (.took s.undefined) := by
  have hr := State.vfpField_ne_reserved hf
  rw [vfpAccess, if_neg (State.vfpWorld_iff.mp hw), if_neg ((State.vfpField_iff hr).mp hf), if_neg hr]
  by_cases he : s.vfp.fpexc.getLsbD 30 = true ∨ (sys = true ∧ s.privileged = true)
  · rw [if_pos he, if_neg]
    simp only [Bool.and_eq_true, Bool.not_eq_true']
    rcases he with he | ⟨h1, h2⟩ <;> simp_all
  · rw [if_neg he, if_pos, takeUndefined_run]
    rw [not_or, not_and_or] at he
    simpa using he

theorem vfpReady_reserved (hw : s.vfpWorld) (hr : s.cpAccess cp11 = 0b10#2) :
    vfpReady cp11 s = .error (.refused .reservedAccess) := exec_bind_error (vfpAccess_reserved hw hr)

/-- An exception pending makes a trigger Undefined (R528), as everything does that the access check stops. -/
theorem vfpReady_undefined (hu : s.vfpUsable cp11 = false) (h : ¬s.vfpWorld ∨ s.cpAccess cp11 ≠ 0b10#2) :
    vfpReady cp11 s = .error (.took s.undefined) := by
  by_cases hw : s.vfpWorld
  · have hr := h.resolve_left (not_not.mpr hw)
    by_cases hf : s.vfpField cp11
    · cases he : s.vfp.fpexc.getLsbD 30
      · exact exec_bind_error (by rw [vfpAccess_allowed hw hf, if_neg]; simp_all)
      · have hx : s.vfp.fpexc.getLsbD 31 = true := by
          by_contra hx
          exact Bool.eq_false_iff.mp hu (State.vfpUsable_iff.mpr ⟨hw, hf, he, Bool.eq_false_iff.mpr hx⟩)
        have ready : vfpAccess cp11 false s = .ok ((), s) := by rw [vfpAccess_allowed hw hf, if_pos (.inl he)]
        rw [vfpReady, exec_bind_ok ready, exec_bind_ok (look_run _ s), if_pos hx, takeUndefined_run]
    · exact exec_bind_error (vfpAccess_of_field hf hr)
  · exact exec_bind_error (vfpAccess_of_world hw)

end

section

variable {n4 : BitVec 4} {r : FpReg} {s t : State}

/-- Only the FPSCR needs the enable bit of a privileged mode too. -/
theorem FpReg.needsNoEnable_iff (r : FpReg) : (!(decide (some r = some FpReg.fpscr) || decide (some r = none))) =
    (r != .fpscr) := by cases r <;> rfl

theorem fpSystem_of_error {e : Stop} (hr : FpReg.of? n4 = some r) (h : vfpAccess false (r != .fpscr) s = .error e) :
    fpSystem n4 s = .error e := by
  unfold fpSystem
  simp only [hr, r.needsNoEnable_iff, exec_bind_error h]

/-- After the access check an FMXR or FMRX is Undefined where it is a trigger and an exception is pending (R528), and where
the register is a privileged one in User mode (R491). -/
theorem fpSystem_of_ok (hr : FpReg.of? n4 = some r) (h : vfpAccess false (r != .fpscr) s = .ok ((), t)) :
    fpSystem n4 s =
      if (r = .fpscr ∧ t.vfp.fpexc.getLsbD 31 = true) ∨ (r.privileged = true ∧ t.privileged = false) then
        .error (.took t.undefined)
      else .ok (r, t) := by
  unfold fpSystem
  simp only [hr, r.needsNoEnable_iff, exec_bind_ok h, exec_bind_ok (look_run _ t)]
  by_cases hx : r = .fpscr ∧ t.vfp.fpexc.getLsbD 31 = true
  · rw [if_pos (by simp [hx]), if_pos (.inl hx), takeUndefined_run]
  · rw [if_neg (by simpa using hx), exec_bind_ok (look_run _ t)]
    by_cases hp : r.privileged = true ∧ t.privileged = false
    · rw [if_pos (by simp [hp]), if_pos (.inr hp), takeUndefined_run]
    · rw [if_neg (by simpa using hp), if_neg (not_or.mpr ⟨hx, hp⟩), exec_pure]

/-- FMSTAT makes the check of the other triggers (R1498). -/
theorem fpSystem_fpscr_of_error {e : Stop} (h : vfpReady false s = .error e) : fpSystem 1 s = .error e := by
  cases access : vfpAccess false false s with
  | error e' =>
    rw [vfpReady, exec_bind_error access] at h
    cases h
    exact fpSystem_of_error (r := .fpscr) rfl access
  | ok p =>
    rw [fpSystem_of_ok (r := .fpscr) (t := p.2) rfl access]
    rw [vfpReady, exec_bind_ok (t := p.2) access, exec_bind_ok (look_run _ p.2)] at h
    cases hx : p.2.vfp.fpexc.getLsbD 31
    · rw [hx] at h
      cases h
    · rw [if_pos hx, takeUndefined_run] at h
      cases h
      rw [if_pos (.inl ⟨rfl, rfl⟩)]

end

/-- An instruction of the VFP11 other than FMXR and FMRX ends as its access check does, where that does not pass. -/
theorem exec_of_unready {i : Instr} {c : Cond} {s : State} {side : Bool} {e : Stop} (hi : vfpSide i = some side)
    (hcond : condOf? i = some c) (hc : Cond.passes c s.cpsr = true) (h : vfpReady side s = .error e) :
    exec i s = outcome (fun _ => .error e) s := by
  have ends {m : Exec Unit} (hm : m s = .error e) :
      outcome (conditional c m) s = outcome (fun _ => .error e) s := by
    simp only [outcome, conditional_pass _ hc, hm]
  have stops (f : Unit → Exec Unit) :
      outcome (conditional c (vfpReady side >>= f)) s = outcome (fun _ => .error e) s :=
    ends (exec_bind_error h)
  cases i <;> cases hi <;> cases hcond
  case fmstat =>
    exact ends (exec_bind_error (fpSystem_fpscr_of_error h))
  all_goals exact stops _

/-- Settles O54: the instruction ends as its access check does (`exec_of_unready`), which names the reserved field, and is
Undefined in every other case (`vfpReady_reserved`, `vfpReady_undefined`). -/
theorem vfpUnusable : Obligations.VfpUnusable := by
  intro i c s side hi hcond hc hh hu
  refine ⟨fun h => ?_, fun hw hr => exec_of_unready hi hcond hc (vfpReady_reserved hw hr)⟩
  have stopped : ¬s.vfpWorld ∨ s.cpAccess side ≠ 0b10#2 := by
    refine h.imp_left ?_
    rintro ⟨hs, hn⟩ (hw | ⟨h10, h11⟩)
    · exact Bool.false_ne_true (hs.symm.trans hw)
    · exact hn.elim (fun hn => Bool.false_ne_true (hn.symm.trans h10)) fun hn => Bool.false_ne_true (hn.symm.trans h11)
  rw [exec_of_unready hi hcond hc (vfpReady_undefined hu stopped), ← State.undefined_of_running hh]
  rfl

end Sys2Proof.Machine

namespace Sys2Proof.Machine

/-! Register transfers and system registers (R490, R491, R1490 to R1502) -/

/-- FMXR and FMRX reach a register, where the world and the access field let the VFP11 be used (R491, R528). -/
def State.mayAccess (s : State) (r : FpReg) : Prop :=
  (r = .fpscr → s.vfp.fpexc.getLsbD 30 = true ∧ s.vfp.fpexc.getLsbD 31 = false) ∧
    (s.privileged = true ∨ (s.vfp.fpexc.getLsbD 30 = true ∧ r ≠ .fpexc ∧ r ≠ .fpinst ∧ r ≠ .fpinst2))

section

variable {s : State} {n4 : BitVec 4} {r : FpReg}

theorem FpReg.privileged_eq_false_iff : r.privileged = false ↔ r ≠ .fpexc ∧ r ≠ .fpinst ∧ r ≠ .fpinst2 := by
  cases r <;> decide

/-- A register is reached where the access check passes and neither test after it stops the transfer. -/
theorem State.mayAccess_iff : s.mayAccess r ↔
    (s.vfp.fpexc.getLsbD 30 = true ∨ ((r != .fpscr) = true ∧ s.privileged = true)) ∧
      ¬((r = .fpscr ∧ s.vfp.fpexc.getLsbD 31 = true) ∨ (r.privileged = true ∧ s.privileged = false)) := by
  rw [State.mayAccess, ← FpReg.privileged_eq_false_iff]
  by_cases hr : r = .fpscr
  · subst hr
    simp [FpReg.privileged]
    tauto
  · simp [hr]
    cases s.privileged <;> simp

theorem fpSystem_allowed [Decidable (s.mayAccess r)] (hr : FpReg.of? n4 = some r) (hw : s.vfpWorld) (hf : s.vfpField false) :
    fpSystem n4 s = if s.mayAccess r then .ok (r, s) else .error (.took s.undefined) := by
  have access := vfpAccess_allowed (sys := r != .fpscr) hw hf
  by_cases he : s.vfp.fpexc.getLsbD 30 = true ∨ ((r != .fpscr) = true ∧ s.privileged = true)
  · rw [if_pos he] at access
    rw [fpSystem_of_ok hr access]
    by_cases h : s.mayAccess r
    · rw [if_pos h, if_neg (State.mayAccess_iff.mp h).2]
    · rw [if_neg h, if_pos (not_not.mp fun hx => h (State.mayAccess_iff.mpr ⟨he, hx⟩))]
  · rw [if_neg he] at access
    rw [fpSystem_of_error hr access, if_neg fun h => he (State.mayAccess_iff.mp h).1]

theorem fpSystem_run (hr : FpReg.of? n4 = some r) (hw : s.vfpWorld) (hf : s.vfpField false) (hm : s.mayAccess r) :
    fpSystem n4 s = .ok (r, s) := by
  classical rw [fpSystem_allowed hr hw hf, if_pos hm]

theorem fpSystem_undefined (hr : FpReg.of? n4 = some r)
    (h : ¬s.vfpWorld ∨ (¬s.vfpField false ∧ s.cpAccess false ≠ 0b10#2) ∨ (s.vfpField false ∧ ¬s.mayAccess r)) :
    fpSystem n4 s = .error (.took s.undefined) := by
  by_cases hw : s.vfpWorld
  · rcases h.resolve_left (not_not.mpr hw) with ⟨hf, ha⟩ | ⟨hf, hm⟩
    · exact fpSystem_of_error hr (vfpAccess_of_field hf ha)
    · classical rw [fpSystem_allowed hr hw hf, if_neg hm]
  · exact fpSystem_of_error hr (vfpAccess_of_world hw)

theorem fpSystem_reserved (hr : FpReg.of? n4 = some r) (hw : s.vfpWorld) (ha : s.cpAccess false = 0b10#2) :
    fpSystem n4 s = .error (.refused .reservedAccess) := fpSystem_of_error hr (vfpAccess_reserved hw ha)

/-- The FPSCR can be read where the VFP11 can be used. -/
theorem fpSystem_fpscr_run (h : s.vfpUsable false = true) : fpSystem 1 s = .ok (.fpscr, s) := by
  obtain ⟨hw, hf, he, hx⟩ := State.vfpUsable_iff.mp h
  exact fpSystem_run rfl hw hf ⟨fun _ => ⟨he, hx⟩, .inr ⟨he, by decide, by decide, by decide⟩⟩

variable {cp11 : Bool} {rd rn : RegNo}

theorem fpFromCore_run {sources : List RegNo} (f : State → State) (hu : s.vfpUsable cp11 = true) (h : 15 ∉ sources) :
    fpFromCore cp11 sources f s = .ok ((), (f s).next) := by
  rw [fpFromCore, exec_bind_ok (vfpReady_run hu), exec_bind_ok (noPc_run h s), exec_bind_ok (update_run f s), advance_run]

theorem fpToCore_run (value : State → Word) (hu : s.vfpUsable cp11 = true) (h : rd ≠ 15) :
    fpToCore cp11 rd value s = .ok ((), s.wrote rd (value s)) := by
  rw [fpToCore, exec_bind_ok (vfpReady_run hu), exec_bind_ok (noPc_run (by simpa using h.symm) s),
    exec_bind_ok (look_run _ s), finishReg_run]

/-- The pairs that the architecture defines (R531). -/
theorem checkPair_run {toCore : Bool} (hd : rd ≠ 15) (hn : rn ≠ 15) (hp : toCore = true → rd ≠ rn) (s : State) :
    checkPair rd rn toCore false s = .ok ((), s) :=
  congrFun (if_neg (by cases toCore <;> simp_all)) s

theorem fpFromPair_run (hu : s.vfpUsable cp11 = true) (hd : rd ≠ 15) (hn : rn ≠ 15) (first second : BitVec 5) :
    fpFromPair cp11 false rd rn first second s =
      .ok ((), ((s.setSingle first (s.reg rd)).setSingle second (s.reg rn)).next) := by
  rw [fpFromPair, exec_bind_ok (vfpReady_run hu), exec_bind_ok (checkPair_run hd hn (by simp) s),
    exec_bind_ok (update_run _ s), advance_run]

theorem fpToPair_run (hu : s.vfpUsable cp11 = true) (hd : rd ≠ 15) (hn : rn ≠ 15) (hp : rd ≠ rn) (first second : BitVec 5) :
    fpToPair cp11 false rd rn first second s = .ok ((), (s.setReg rd (s.single first)).wrote rn (s.single second)) := by
  rw [fpToPair, exec_bind_ok (vfpReady_run hu), exec_bind_ok (checkPair_run hd hn (fun _ => hp) s),
    exec_bind_ok (look_run _ s), exec_bind_ok (look_run _ s), exec_bind_ok (update_run _ s), finishReg_run]

end

/-- Settles O53: each kind of transfer by what it does where it is let through; FMXR and FMRX by the answers of their checks
(`fpSystem_run`, `fpSystem_undefined`, `fpSystem_reserved`). -/
theorem vfpTransferResults : Obligations.VfpTransferResults := by
  intro s c rd rn fn fm n4 nB hc hd hn n m lo hi
  have run {m : Exec Unit} {t : State} (h : m s = .ok ((), t)) : outcome (conditional c m) s = .next t :=
    outcome_conditional_of_ok hc h
  have hl : 15 ∉ [rd] := by simpa using hd.symm
  refine ⟨fun hu => ⟨run (fpFromCore_run _ hu hl), run (fpToCore_run _ hu hd), fun hm => ?singles, ?fmstat⟩,
    fun r hr => ?system,
    fun hu => ⟨run (fpFromCore_run _ hu hl), run (fpFromCore_run _ hu hl), run (fpToCore_run _ hu hd),
      run (fpToCore_run _ hu hd), run (fpFromPair_run hu hd hn _ _), fun hp => run (fpToPair_run hu hd hn hp _ _)⟩⟩
  case singles =>
    have last : decide (singleNo fm nB = 31) = false := decide_eq_false hm
    refine ⟨?_, fun hp => ?_⟩
    · show outcome (conditional c (fpFromPair false (decide (singleNo fm nB = 31)) rd rn _ _)) s = _
      rw [last]
      exact run (fpFromPair_run hu hd hn _ _)
    · show outcome (conditional c (fpToPair false (decide (singleNo fm nB = 31)) rd rn _ _)) s = _
      rw [last]
      exact run (fpToPair_run hu hd hn hp _ _)
  case fmstat => exact run (exec_bind_ok (fpSystem_fpscr_run hu))
  case system =>
    intro enabled world field may
    refine ⟨fun hw hf hm => ?reached, fun i hi => ?stopped⟩
    case reached =>
      have reaches := fpSystem_run hr hw hf hm
      exact ⟨run ((exec_bind_ok reaches).trans (exec_bind_ok (noPc_run hl s))), fun v t hv =>
        run ((exec_bind_ok reaches).trans ((exec_bind_ok hv).trans (congrFun (if_neg hd) t)))⟩
    case stopped =>
      obtain ⟨f, hf⟩ : ∃ f, exec i s = outcome (conditional c (fpSystem n4 >>= f)) s := by
        rcases hi with rfl | rfl <;> exact ⟨_, rfl⟩
      rw [hf]
      exact ⟨fun h => outcome_of_took ((conditional_pass _ hc).trans (exec_bind_error (fpSystem_undefined hr h))),
        fun hw ha => outcome_of_refused ((conditional_pass _ hc).trans (exec_bind_error (fpSystem_reserved hr hw ha)))⟩

end Sys2Proof.Machine

namespace Sys2Proof.Machine

/-! Loads and stores of the VFP11 (R1475 to R1484) -/

section

variable {s t : State} {a start : Word} {k : Bool} {ws : List (BitVec 5 × Word)} {rs : List (BitVec 5)} {rn : RegNo}
  {p : Prec} {d : BitVec 5} {count : Nat} {wb : Bool}

theorem fpLoad_run (many : Option Prec) (back : Option Word)
    (ha : alignData (loadOf .multi s.privileged) start s = .ok ((a, k), s))
    (hr : readSingles ((loadOf .multi s.privileged).block a rs.length) many a [] rs s = .ok (ws, t)) :
    fpLoad many rn start back rs s = .ok ((), ((t.putSingles ws).based rn back).next) := by
  rw [loadOf] at ha hr
  rw [fpLoad, exec_bind_ok (look_run _ s), exec_bind_ok ha]
  dsimp only
  rw [exec_bind_ok hr, exec_bind_ok (update_run _ t), exec_bind_ok (writeBase_run rn back _), advance_run]

theorem fpStore_run (back : Option Word) (h : storeBlock start (rs.map s.single) s = .ok ((), t)) :
    fpStore rn start back rs s = .ok ((), (t.based rn back).next) := by
  rw [fpStore, exec_bind_ok (look_run _ s), exec_bind_ok h, exec_bind_ok (writeBase_run rn back t), advance_run]

theorem fpLoadOne_run (u : Bool) (imm : BitVec 8) (hu : s.vfpUsable p.isDouble = true)
    (ha : alignData (loadOf .multi s.privileged) (fpAddress u rn imm s) s = .ok ((a, k), s))
    (hr : readSingles ((loadOf .multi s.privileged).block a (consecutive p s.bigEndian d 1).length) none a []
      (consecutive p s.bigEndian d 1) s = .ok (ws, t)) :
    fpLoadOne p u rn d imm s = .ok ((), ((t.putSingles ws).based rn none).next) := by
  rw [fpLoadOne, exec_bind_ok (vfpReady_run hu), exec_bind_ok (look_run _ s), exec_bind_ok (look_run _ s)]
  exact fpLoad_run none none ha hr

theorem fpStoreOne_run (u : Bool) (imm : BitVec 8) (hu : s.vfpUsable p.isDouble = true)
    (h : storeBlock (fpAddress u rn imm s) ((consecutive p s.bigEndian d 1).map s.single) s = .ok ((), t)) :
    fpStoreOne p u rn d imm s = .ok ((), (t.based rn none).next) := by
  rw [fpStoreOne, exec_bind_ok (vfpReady_run hu), exec_bind_ok (look_run _ s), exec_bind_ok (look_run _ s)]
  exact fpStore_run none h

/-- The counts that the architecture defines, and a base register that can be written back (R531). -/
def Prec.countDefined (p : Prec) (d : BitVec 5) (count : Nat) (wb : Bool) (rn : RegNo) : Prop :=
  0 < count ∧ d.toNat + count ≤ (match p with | .single => 32 | .double => 16) ∧ (wb = true → rn ≠ 15)

theorem checkCount_run (h : p.countDefined d count wb rn) (s : State) : checkCount p d count wb rn s = .ok ((), s) := by
  obtain ⟨hpos, hlast, hbase⟩ := h
  unfold checkCount
  rw [if_neg (by simpa using hbase), if_neg]
  · rfl
  · simpa using ⟨by omega, hlast⟩

theorem fpLoadMany_run (up : Bool) {words : Nat} (hu : s.vfpUsable p.isDouble = true)
    (hc : p.countDefined d count wb rn)
    (ha : alignData (loadOf .multi s.privileged) (fpBlock up words (s.reg rn)).1 s = .ok ((a, k), s))
    (hr : readSingles ((loadOf .multi s.privileged).block a (consecutive p s.bigEndian d count).length) (some p) a []
      (consecutive p s.bigEndian d count) s = .ok (ws, t)) :
    fpLoadMany p up wb rn d count words s =
      .ok ((), ((t.putSingles ws).based rn (if wb then some (fpBlock up words (s.reg rn)).2 else none)).next) := by
  rw [fpLoadMany, exec_bind_ok (vfpReady_run hu), exec_bind_ok (checkCount_run hc s), exec_bind_ok (look_run _ s),
    exec_bind_ok (look_run _ s)]
  exact fpLoad_run _ _ ha hr

theorem fpStoreMany_run (up : Bool) {words : Nat} (hu : s.vfpUsable p.isDouble = true)
    (hc : p.countDefined d count wb rn)
    (h : storeBlock (fpBlock up words (s.reg rn)).1 ((consecutive p s.bigEndian d count).map s.single) s = .ok ((), t)) :
    fpStoreMany p up wb rn d count words s =
      .ok ((), (t.based rn (if wb then some (fpBlock up words (s.reg rn)).2 else none)).next) := by
  rw [fpStoreMany, exec_bind_ok (vfpReady_run hu), exec_bind_ok (checkCount_run hc s), exec_bind_ok (look_run _ s),
    exec_bind_ok (look_run _ s)]
  exact fpStore_run _ h

/-- The decrementing forms always write the base back. -/
theorem Prec.countDefined_writeBack {bound : Nat} (hb : bound = match p with | .single => 32 | .double => 16)
    (h : 0 < count ∧ d.toNat + count ≤ bound ∧ rn ≠ 15) : p.countDefined d count true rn := by
  obtain ⟨hpos, hlast, hbase⟩ := h
  exact ⟨hpos, hb ▸ hlast, fun _ => hbase⟩

end

/-- Settles O52: the single transfers by `fpLoadOne_run` and `fpStoreOne_run`, the multiples of either precision and direction
by `fpLoadMany_run` and `fpStoreMany_run`. -/
theorem vfpMemoryResults : Obligations.VfpMemoryResults := by
  intro s t c u dB wb k rn fd imm half a ws hc d e base off near n h regs up down ld
  have run {m : Exec Unit} {w : State} (hm : m s = .ok ((), w)) : outcome (conditional c m) s = .next w :=
    outcome_conditional_of_ok hc hm
  simp only [List.forall_mem_cons, List.not_mem_nil, false_implies, implies_true, and_true]
  exact ⟨⟨fun hu _ ha hr => run (fpLoadOne_run (p := .single) u imm hu ha hr),
      fun hu _ ha hr => run (fpLoadOne_run (p := .double) u imm hu ha hr),
      fun hu hx ha hr => run (fpLoadMany_run (p := .single) true hu hx ha hr),
      fun hu hx ha hr => run (fpLoadMany_run (p := .single) false hu (Prec.countDefined_writeBack rfl hx) ha hr),
      fun hu hx ha hr => run (fpLoadMany_run (p := .double) true hu hx ha hr),
      fun hu hx ha hr => run (fpLoadMany_run (p := .double) false hu (Prec.countDefined_writeBack rfl hx) ha hr),
      fun hu hx ha hr => run (fpLoadMany_run (p := .double) true hu hx ha hr),
      fun hu hx ha hr => run (fpLoadMany_run (p := .double) false hu (Prec.countDefined_writeBack rfl hx) ha hr)⟩,
    ⟨fun hu _ hs => run (fpStoreOne_run (p := .single) u imm hu hs),
      fun hu _ hs => run (fpStoreOne_run (p := .double) u imm hu hs),
      fun hu hx hs => run (fpStoreMany_run (p := .single) true hu hx hs),
      fun hu hx hs => run (fpStoreMany_run (p := .single) false hu (Prec.countDefined_writeBack rfl hx) hs),
      fun hu hx hs => run (fpStoreMany_run (p := .double) true hu hx hs),
      fun hu hx hs => run (fpStoreMany_run (p := .double) false hu (Prec.countDefined_writeBack rfl hx) hs),
      fun hu hx hs => run (fpStoreMany_run (p := .double) true hu hx hs),
      fun hu hx hs => run (fpStoreMany_run (p := .double) false hu (Prec.countDefined_writeBack rfl hx) hs)⟩⟩

end Sys2Proof.Machine

namespace Sys2Proof.Machine

/-! Values of the VFP11: their parts, their classes, and what a change of sign and a flush leave (R484, R485, R1443) -/

section

variable {p : Prec} {v : DWord} {neg : Bool} {e f : Nat}

theorem Prec.exponent_le (p : Prec) (v : DWord) : p.exponent v ≤ p.top :=
  Nat.le_of_lt_succ (Nat.mod_lt _ (Nat.succ_pos _))

theorem Prec.fraction_lt (p : Prec) (v : DWord) : p.fraction v < 2 ^ p.frac := Nat.mod_lt _ (Nat.two_pow_pos _)

theorem Prec.negative_eq (p : Prec) (v : DWord) : p.negative v = decide (v.toNat / 2 ^ p.sign % 2 = 1) := by
  rw [Prec.negative, BitVec.getLsbD, Nat.testBit_eq_decide_div_mod_eq]

/-- A bit pattern made of a sign, an exponent and a fraction that fit their places. -/
theorem Prec.toNat_pack (he : e ≤ p.top) (hf : f < 2 ^ p.frac) :
    (p.pack neg e f).toNat = (if neg then 2 ^ p.sign else 0) + e * 2 ^ p.frac + f := by
  rw [Prec.pack, BitVec.toNat_ofNat]
  apply Nat.mod_eq_of_lt
  cases p <;> simp only [Prec.top, Prec.frac, Prec.sign] at * <;> split <;> omega

theorem Prec.exponent_pack (he : e ≤ p.top) (hf : f < 2 ^ p.frac) : p.exponent (p.pack neg e f) = e := by
  rw [Prec.exponent, Prec.toNat_pack he hf]
  cases p <;> simp only [Prec.top, Prec.frac, Prec.sign] at * <;> split <;> omega

theorem Prec.fraction_pack (he : e ≤ p.top) (hf : f < 2 ^ p.frac) : p.fraction (p.pack neg e f) = f := by
  rw [Prec.fraction, Prec.toNat_pack he hf]
  cases p <;> simp only [Prec.top, Prec.frac, Prec.sign] at * <;> split <;> omega

theorem Prec.negative_pack (he : e ≤ p.top) (hf : f < 2 ^ p.frac) : p.negative (p.pack neg e f) = neg := by
  rw [Prec.negative_eq, Prec.toNat_pack he hf]
  cases p <;> cases neg <;> simp [Prec.top, Prec.frac, Prec.sign] at * <;> omega

/-! Classes -/

theorem Prec.isNormal_iff : p.isNormal v = true ↔ p.exponent v ≠ 0 ∧ p.exponent v ≠ p.top := by
  unfold Prec.isNormal Prec.classOf
  split
  · split <;> [skip; split] <;> simp_all
  · split <;> [split; skip] <;> simp_all

theorem Prec.classOf_of_normal (h : p.isNormal v = true) : p.classOf v = .normal := by simpa [Prec.isNormal] using h

theorem Prec.sig_of_normal (h : p.isNormal v = true) : p.sig v = 2 ^ p.frac + p.fraction v :=
  if_neg (Prec.isNormal_iff.mp h).1

theorem Prec.sig_pos (h : p.isNormal v = true) : 0 < p.sig v := by
  rw [Prec.sig_of_normal h]
  exact Nat.add_pos_left (Nat.two_pow_pos _) _

theorem Prec.classOf_zero (p : Prec) (neg : Bool) : p.classOf (p.zero neg) = .zero := by
  have he := Prec.exponent_pack (p := p) (neg := neg) (Nat.zero_le _) (Nat.two_pow_pos _)
  have hf := Prec.fraction_pack (p := p) (neg := neg) (Nat.zero_le _) (Nat.two_pow_pos _)
  rw [Prec.zero, Prec.classOf, he, hf]
  cases p <;> rfl

theorem Prec.zero_false (p : Prec) : p.zero false = 0 := by cases p <;> rfl

theorem Prec.classOf_nan (p : Prec) : p.classOf p.nan = .qnan := by cases p <;> rfl

/-! The sign changed -/

theorem Prec.exponent_neg (p : Prec) (v : DWord) : p.exponent (p.neg v) = p.exponent v := by
  rw [Prec.exponent, Prec.neg, BitVec.toNat_xor, Nat.xor_div_two_pow]
  cases p
  · exact (Nat.xor_mod_two_pow (n := 8)).trans (Nat.xor_zero _)
  · exact (Nat.xor_mod_two_pow (n := 11)).trans (Nat.xor_zero _)

theorem Prec.fraction_neg (p : Prec) (v : DWord) : p.fraction (p.neg v) = p.fraction v := by
  rw [Prec.fraction, Prec.neg, BitVec.toNat_xor, Nat.xor_mod_two_pow]
  cases p <;> exact Nat.xor_zero _

theorem Prec.neg_neg (p : Prec) (v : DWord) : p.neg (p.neg v) = v := by
  rw [Prec.neg, Prec.neg, BitVec.xor_assoc, BitVec.xor_self, BitVec.xor_zero]

theorem Prec.classOf_neg (p : Prec) (v : DWord) : p.classOf (p.neg v) = p.classOf v := by
  have quiet : (p.neg v).getLsbD (p.frac - 1) = v.getLsbD (p.frac - 1) := by
    cases p <;> simp [Prec.neg, Prec.sign, Prec.frac]
  rw [Prec.classOf, Prec.exponent_neg, Prec.fraction_neg, quiet, ← Prec.classOf]

theorem Prec.isNormal_neg (p : Prec) (v : DWord) : p.isNormal (p.neg v) = p.isNormal v := by
  rw [Prec.isNormal, Prec.classOf_neg, ← Prec.isNormal]

/-! A subnormal flushed -/

theorem Prec.flush_of_not_subnormal (scr : Word) (h : p.isSubnormal v = false) : p.flush scr v = v := by
  simp [Prec.flush, h]

theorem Prec.flush_of_normal (scr : Word) (h : p.isNormal v = true) : p.flush scr v = v :=
  Prec.flush_of_not_subnormal scr (by rw [Prec.isSubnormal, Prec.classOf_of_normal h]; rfl)

theorem Prec.flush_of_subnormal {scr : Word} (hz : flushMode scr = true) (h : p.isSubnormal v = true) :
    p.flush scr v = p.zero false := by simp [Prec.flush, hz, h]

end

/-! The exponent of a ratio, and its rounding (R1443) -/

section

variable {num den : Nat}

theorem pow_toNat_div (k : Int) : ((2 ^ k.toNat : Nat) : ℚ) / ((2 ^ (-k).toNat : Nat) : ℚ) = (2 : ℚ) ^ k := by
  rcases Int.le_total 0 k with h | h
  · obtain ⟨n, rfl⟩ := Int.eq_ofNat_of_zero_le h
    simp
  · obtain ⟨n, rfl⟩ := Int.exists_eq_neg_ofNat h
    simp

/-- Numerator and denominator scaled by a power of two. -/
theorem scaled_ratio (num den : Nat) (k : Int) :
    ((num * 2 ^ k.toNat : Nat) : ℚ) / ((den * 2 ^ (-k).toNat : Nat) : ℚ) = num / den * 2 ^ k := by
  rw [← pow_toNat_div, Nat.cast_mul, Nat.cast_mul, mul_div_mul_comm]

/-- A scaled comparison of numerator and denominator compares the ratio with a power of two. -/
theorem le_ratio_iff (hd : 0 < den) (k : Int) :
    den * 2 ^ k.toNat ≤ num * 2 ^ (-k).toNat ↔ (2 : ℚ) ^ k ≤ num / den := by
  have hd' : (0 : ℚ) < den := by exact_mod_cast hd
  have hk : (0 : ℚ) < ((2 ^ (-k).toNat : Nat) : ℚ) := by positivity
  rw [← pow_toNat_div, div_le_div_iff₀ hk hd', mul_comm (_ : ℚ) (den : ℚ), ← Nat.cast_mul, ← Nat.cast_mul, Nat.cast_le]

theorem log2_bounds (hn : num ≠ 0) : (2 : ℚ) ^ num.log2 ≤ num ∧ (num : ℚ) < 2 ^ (num.log2 + 1) :=
  ⟨by exact_mod_cast Nat.log2_self_le hn, by exact_mod_cast Nat.lt_log2_self⟩

/-- The exponent of a ratio is the power of two that it reaches. -/
theorem ratioExponent_spec (hn : 0 < num) (hd : 0 < den) :
    (2 : ℚ) ^ ratioExponent num den ≤ num / den ∧ (num : ℚ) / den < 2 ^ (ratioExponent num den + 1) := by
  obtain ⟨n1, n2⟩ := log2_bounds hn.ne'
  obtain ⟨d1, d2⟩ := log2_bounds hd.ne'
  have hd' : (0 : ℚ) < den := by exact_mod_cast hd
  have above : (num : ℚ) / den < 2 ^ ((num.log2 : Int) - den.log2 + 1) := by
    rw [div_lt_iff₀ hd']
    calc (num : ℚ) < 2 ^ (num.log2 + 1) := n2
      _ = 2 ^ ((num.log2 : Int) - den.log2 + 1) * 2 ^ den.log2 := by
        rw [← zpow_natCast, ← zpow_natCast, ← zpow_add₀ two_ne_zero]; congr 1; push_cast; ring
      _ ≤ _ := by gcongr
  have below : (2 : ℚ) ^ ((num.log2 : Int) - den.log2 - 1) ≤ num / den := by
    rw [le_div_iff₀ hd']
    calc (2 : ℚ) ^ ((num.log2 : Int) - den.log2 - 1) * den ≤ 2 ^ ((num.log2 : Int) - den.log2 - 1) * 2 ^ (den.log2 + 1) := by
          gcongr
      _ = 2 ^ num.log2 := by
        rw [← zpow_natCast, ← zpow_natCast, ← zpow_add₀ two_ne_zero]; congr 1; push_cast; ring
      _ ≤ num := n1
  simp only [ratioExponent, ge_iff_le]
  split
  · next h => exact ⟨(le_ratio_iff hd _).mp h, above⟩
  · next h => 
    rw [le_ratio_iff hd, not_le] at h
    rw [sub_add_cancel]
    exact ⟨below, h⟩

end

end Sys2Proof.Machine

namespace Sys2Proof.Machine

/-! Rounding (R1443) -/

/-- What `Prec.nearby` says of a significand `q`, of which one unit is `unit`, and of the magnitude `x` on the same scale. -/
def closeTo (mode : Rounding) (frac : Nat) (neg : Bool) (q unit x : Nat) : Bool :=
  let err := (x - q * unit) + (q * unit - x)
  let ulp := if x < 2 ^ frac * unit then unit else 2 * unit
  match mode with
  | .nearest => decide (4 * err < ulp) || (decide (4 * err = ulp) && q % 2 == 0)
  | .zero => decide (q * unit ≤ x) && decide (2 * err < ulp)
  | .plus => decide (if neg then q * unit ≤ x else x ≤ q * unit) && decide (2 * err < ulp)
  | .minus => decide (if neg then x ≤ q * unit else q * unit ≤ x) && decide (2 * err < ulp)

theorem Prec.nearby_eq (p : Prec) (mode : Rounding) (neg : Bool) (num den : Nat) (v : DWord) :
    p.nearby mode neg num den v = (p.isNormal v && p.negative v == neg &&
      closeTo mode p.frac neg (p.sig v) (2 ^ (p.exp v).toNat * den) (num * 2 ^ (-(p.exp v)).toNat)) := by
  cases mode <;> rfl

section

variable {mode : Rounding} {neg : Bool} {frac q r d unit x : Nat}

/-- The scale does not matter. -/
theorem closeTo_double : closeTo mode frac neg q (2 * unit) (2 * x) = closeTo mode frac neg q unit x := by
  have hq : q * (2 * unit) = 2 * (q * unit) := Nat.mul_left_comm _ _ _
  have hp : 2 ^ frac * (2 * unit) = 2 * (2 ^ frac * unit) := Nat.mul_left_comm _ _ _
  have hlt : (2 * x < 2 * (2 ^ frac * unit)) = (x < 2 ^ frac * unit) := by simp
  simp only [closeTo, hq, hp, hlt]
  generalize q * unit = y
  rw [Bool.eq_iff_iff]
  by_cases hx : x < 2 ^ frac * unit <;> cases mode <;> cases neg <;> simp [hx] <;> omega

theorem closeTo_truncated (hr : r < d) (lo : 2 ^ frac * d ≤ q * d + r) (h : roundsUp mode neg q r d = false) :
    closeTo mode frac neg q d (q * d + r) = true := by
  simp only [closeTo, if_neg (Nat.not_lt.mpr lo)]
  cases mode <;> cases neg <;> simp [roundsUp] at h ⊢ <;> omega

theorem closeTo_up (hr : r < d) (lo : 2 ^ frac * d ≤ q * d + r) (h : roundsUp mode neg q r d = true) :
    closeTo mode frac neg (q + 1) d (q * d + r) = true := by
  simp only [closeTo, if_neg (Nat.not_lt.mpr lo), Nat.succ_mul]
  cases mode <;> cases neg <;> simp [roundsUp] at h ⊢ <;> omega

/-- A magnitude that rounds up to the next power of two. -/
theorem closeTo_carry (hr : r < d) (hq : q + 1 = 2 ^ (frac + 1)) (hf : 0 < frac) (h : roundsUp mode neg q r d = true) :
    closeTo mode frac neg (2 ^ frac) (2 * d) (q * d + r) = true := by
  have top : 2 ^ frac * (2 * d) = q * d + d := by rw [← Nat.succ_mul, ← Nat.add_one, hq]; ring
  have even : 2 ^ frac % 2 = 0 := Nat.mod_eq_zero_of_dvd (dvd_pow_self 2 hf.ne')
  simp only [closeTo, top, if_pos (Nat.add_lt_add_left hr (q * d))]
  cases mode <;> cases neg <;> simp [roundsUp] at h ⊢ <;> omega

end

end Sys2Proof.Machine

namespace Sys2Proof.Machine

/-- What a rounded magnitude is: a significand of `p.frac + 1` bits, close to the magnitude on the scale of its own units. -/
structure Rounded.Rounds (r : Rounded) (p : Prec) (mode : Rounding) (neg : Bool) (num den : Nat) : Prop where
  sig_ge : 2 ^ p.frac ≤ r.sig
  sig_lt : r.sig < 2 ^ (p.frac + 1)
  exp_ge : ratioExponent num den ≤ r.exp
  exp_le : r.exp ≤ ratioExponent num den + 1
  close : closeTo mode p.frac neg r.sig (2 ^ (r.exp - p.frac).toNat * den) (num * 2 ^ (-(r.exp - p.frac)).toNat) = true
  inexact_iff : r.inexact = true ↔
    r.sig * (2 ^ (r.exp - p.frac).toNat * den) ≠ num * 2 ^ (-(r.exp - p.frac)).toNat

/-- Numerator and denominator of a ratio on the scale on which its integer part has `p.frac + 1` bits. -/
def Prec.scaledNum (p : Prec) (num den : Nat) : Nat := num * 2 ^ ((p.frac : Int) - ratioExponent num den).toNat
def Prec.scaledDen (p : Prec) (num den : Nat) : Nat := den * 2 ^ (-((p.frac : Int) - ratioExponent num den)).toNat

section

variable {p : Prec} {mode : Rounding} {neg : Bool} {num den : Nat}

/-- A magnitude that is rounded away is no multiple of the unit. -/
theorem remainder_pos_of_roundsUp {q r d : Nat} (h : roundsUp mode neg q r d = true) (hd : 0 < d) : 0 < r := by
  cases mode <;> simp [roundsUp] at h <;> omega

theorem Prec.scaledDen_pos (p : Prec) (num : Nat) (hd : 0 < den) : 0 < p.scaledDen num den :=
  Nat.mul_pos hd (Nat.two_pow_pos _)

theorem Prec.scaled_bounds (p : Prec) (hn : 0 < num) (hd : 0 < den) :
    2 ^ p.frac * p.scaledDen num den ≤ p.scaledNum num den ∧
      p.scaledNum num den < 2 ^ (p.frac + 1) * p.scaledDen num den := by
  obtain ⟨lo, hi⟩ := ratioExponent_spec hn hd
  have hd' : (0 : ℚ) < p.scaledDen num den := by exact_mod_cast p.scaledDen_pos num hd
  have hk : (0 : ℚ) < 2 ^ ((p.frac : Int) - ratioExponent num den) := by positivity
  have ratio := scaled_ratio num den ((p.frac : Int) - ratioExponent num den)
  rw [← Prec.scaledNum, ← Prec.scaledDen] at ratio
  constructor
  · have := mul_le_mul_of_nonneg_right lo hk.le
    rw [← ratio, le_div_iff₀ hd', ← zpow_add₀ two_ne_zero, add_sub_cancel, zpow_natCast] at this
    exact_mod_cast this
  · have := mul_lt_mul_of_pos_right hi hk
    rw [← ratio, div_lt_iff₀ hd', ← zpow_add₀ two_ne_zero,
      show ratioExponent num den + 1 + ((p.frac : Int) - ratioExponent num den) = (p.frac + 1 : Nat) by push_cast; ring,
      zpow_natCast] at this
    exact_mod_cast this

/-- One unit of the next power of two is two of the units before. -/
theorem carry_scale (mode : Rounding) (frac : Nat) (neg : Bool) (q num den : Nat) (k : Int) :
    closeTo mode frac neg q (2 ^ (1 - k).toNat * den) (num * 2 ^ (-(1 - k)).toNat) =
        closeTo mode frac neg q (2 * (den * 2 ^ (-k).toNat)) (num * 2 ^ k.toNat) ∧
      (q * (2 ^ (1 - k).toNat * den) = num * 2 ^ (-(1 - k)).toNat ↔
        q * (2 * (den * 2 ^ (-k).toNat)) = num * 2 ^ k.toNat) := by
  rcases Int.lt_or_le 0 k with hk | hk
  · have hu : 2 ^ (1 - k).toNat * den = den * 2 ^ (-k).toNat := by
      rw [show (1 - k).toNat = 0 by omega, show (-k).toNat = 0 by omega, mul_comm]
    have hx : num * 2 ^ k.toNat = 2 * (num * 2 ^ (-(1 - k)).toNat) := by
      rw [show k.toNat = (-(1 - k)).toNat + 1 by omega]; ring
    rw [hu, hx, closeTo_double, Nat.mul_left_comm q 2]
    exact ⟨rfl, (Nat.mul_right_inj two_ne_zero).symm⟩
  · rw [show (1 - k).toNat = (-k).toNat + 1 by omega, show (-(1 - k)).toNat = k.toNat by omega, pow_succ,
      show 2 ^ (-k).toNat * 2 * den = 2 * (den * 2 ^ (-k).toNat) by ring]
    exact ⟨rfl, Iff.rfl⟩

/-! The three ways in which a magnitude is rounded: truncated, up, and up to the next power of two. -/

theorem Prec.round_eq (p : Prec) (mode : Rounding) (neg : Bool) (num den : Nat) :
    p.round mode neg num den =
      let n := p.scaledNum num den
      let d := p.scaledDen num den
      let q := if roundsUp mode neg (n / d) (n % d) d then n / d + 1 else n / d
      if q = 2 ^ (p.frac + 1) then { sig := 2 ^ p.frac, exp := ratioExponent num den + 1, inexact := n % d != 0 }
      else { sig := q, exp := ratioExponent num den, inexact := n % d != 0 } := rfl

/-- The rounded magnitude is close to the exact one, and inexact where it differs. -/
theorem Prec.round_rounds (p : Prec) (mode : Rounding) (neg : Bool) (hn : 0 < num) (hd : 0 < den) :
    (p.round mode neg num den).Rounds p mode neg num den := by
  obtain ⟨lo, hi⟩ := p.scaled_bounds hn hd
  have hd' := p.scaledDen_pos num hd
  have hunit : 2 ^ (ratioExponent num den - p.frac).toNat * den = p.scaledDen num den := by
    rw [Prec.scaledDen, neg_sub, mul_comm]
  have hx : num * 2 ^ (-(ratioExponent num den - p.frac)).toNat = p.scaledNum num den := by rw [Prec.scaledNum, neg_sub]
  have hcarry := fun q => carry_scale mode p.frac neg q num den (p.frac - ratioExponent num den)
  rw [show 1 - ((p.frac : Int) - ratioExponent num den) = ratioExponent num den + 1 - p.frac by ring,
    ← Prec.scaledNum, ← Prec.scaledDen] at hcarry
  rw [Prec.round_eq]
  dsimp only
  generalize p.scaledNum num den = n at *
  generalize p.scaledDen num den = d at *
  have hr : n % d < d := Nat.mod_lt _ hd'
  have hdiv : n / d * d + n % d = n := Nat.div_add_mod' n d
  have hlow : 2 ^ p.frac ≤ n / d := (Nat.le_div_iff_mul_le hd').mpr lo
  have hhigh : n / d < 2 ^ (p.frac + 1) := (Nat.div_lt_iff_lt_mul hd').mpr hi
  generalize n / d = q at *
  generalize n % d = r at *
  subst hdiv
  cases up : roundsUp mode neg q r d
  case false =>
    simp only [Bool.false_eq_true, if_false, if_neg hhigh.ne]
    refine ⟨hlow, hhigh, le_rfl, by simp, ?_, ?_⟩
    · rw [hunit, hx]
      exact closeTo_truncated hr lo up
    · simp only [hunit, hx]
      simp
  case true =>
    have hpos := remainder_pos_of_roundsUp up hd'
    simp only [if_true]
    split
    · next carry =>
      refine ⟨le_rfl, Nat.pow_lt_pow_right one_lt_two (Nat.lt_succ_self _), by simp, le_rfl, ?_, ?_⟩
      · simp only [hcarry]
        exact closeTo_carry hr carry (by cases p <;> decide) up
      · have top : 2 ^ p.frac * (2 * d) = q * d + d := by rw [← Nat.succ_mul, ← Nat.add_one, carry]; ring
        simp only [hcarry, Ne, top, bne_iff_ne]
        omega
    · next carry =>
      refine ⟨by dsimp only; omega, by dsimp only; omega, le_rfl, by simp, ?_, ?_⟩
      · rw [hunit, hx]
        exact closeTo_up hr lo up
      · simp only [hunit, hx, Nat.succ_mul, bne_iff_ne]
        omega

end

end Sys2Proof.Machine

namespace Sys2Proof.Machine

/-! Results in the normal range (R1443, R1445, R1447, R1453) -/

/-- A result is a magnitude rounded, and the flags are those before with IXC where the two differ. -/
def Prec.RoundsTo (p : Prec) (mode : Rounding) (neg : Bool) (num den : Nat) (v : DWord) (before after : Word) : Prop :=
  p.nearby mode neg num den v = true ∧ after = before |||
    (if p.sig v * 2 ^ (p.exp v).toNat * den = num * 2 ^ (-(p.exp v)).toNat then 0 else 0x10#32)

/-- A finite value in units of `2 ^ low`. -/
def Prec.scaledValue (p : Prec) (low : Int) (v : DWord) : Int :=
  (if p.negative v then -1 else 1) * ((p.sig v * 2 ^ (p.exp v - low).toNat : Nat) : Int)

/-- A result is a sum rounded; a zero sum has the sign that the mode gives it (R1445). -/
def Prec.SumRoundsTo (p : Prec) (mode : Rounding) (a b v : DWord) (before after : Word) : Prop :=
  let low := min (p.exp a) (p.exp b)
  let x := p.scaledValue low a + p.scaledValue low b
  (x = 0 → v = p.pack (decide (mode = .minus)) 0 0 ∧ after = before) ∧
    (x ≠ 0 → p.RoundsTo mode (decide (x < 0)) (x.natAbs * 2 ^ low.toNat) (2 ^ (-low).toNat) v before after)

theorem noFlags_or (w : Word) : 0 ||| w = w := BitVec.zero_or
theorem or_noFlags (w : Word) : w ||| 0 = w := BitVec.or_zero

/-- No overflow and no underflow. -/
def Computed.inRange (r : Computed) : Prop := r.flags &&& 0x0C#32 = 0

section

variable {p : Prec} {mode : Rounding} {neg : Bool} {num den : Nat} {a b v : DWord} {r : Computed}

theorem Prec.RoundsTo.isNormal {before after : Word} (h : p.RoundsTo mode neg num den v before after) :
    p.isNormal v = true := by
  have near := h.1
  rw [Prec.nearby_eq] at near
  simp only [Bool.and_eq_true] at near
  exact near.1.1

theorem Prec.RoundsTo.after {before after : Word} (h : p.RoundsTo mode neg num den v 0 after) :
    p.RoundsTo mode neg num den v before (before ||| after) := ⟨h.1, by rw [h.2, noFlags_or]⟩

/-- A rounded magnitude in the normal range, packed. -/
theorem Rounded.Rounds.ofRounded {r : Rounded} (h : r.Rounds p mode neg num den) (hlo : 1 - (p.bias : Int) ≤ r.exp)
    (hhi : r.exp ≤ p.bias) : p.RoundsTo mode neg num den (p.ofRounded neg r) 0 (flagIf r.inexact fpIxc) := by
  obtain ⟨sig_ge, sig_lt, -, -, close, inexact_iff⟩ := h
  have hbias : 2 * p.bias < p.top := by cases p <;> decide
  have he : (r.exp + p.bias).toNat ≤ p.top := by omega
  have hf : r.sig - 2 ^ p.frac < 2 ^ p.frac := by rw [pow_succ] at sig_lt; omega
  have normal : p.isNormal (p.ofRounded neg r) = true := by
    rw [Prec.isNormal_iff, Prec.ofRounded, Prec.exponent_pack he hf]
    omega
  have sig : p.sig (p.ofRounded neg r) = r.sig := by
    rw [Prec.sig_of_normal normal, Prec.ofRounded, Prec.fraction_pack he hf]
    omega
  have exp : p.exp (p.ofRounded neg r) = r.exp - p.frac := by
    rw [Prec.exp, Prec.ofRounded, Prec.exponent_pack he hf]
    omega
  refine ⟨?_, ?_⟩
  · rw [Prec.nearby_eq, normal, sig, exp, close, Prec.ofRounded, Prec.negative_pack he hf]
    simp
  · rw [sig, exp, mul_assoc, noFlags_or]
    cases hi : r.inexact
    · rw [if_pos (not_not.mp fun h => by simpa [hi] using inexact_iff.mpr h)]
      rfl
    · rw [if_neg (inexact_iff.mp hi)]
      rfl

theorem Prec.finish_roundsTo (hn : 0 < num) (hd : 0 < den) (hf : (p.finish mode neg num den).inRange) :
    p.RoundsTo mode neg num den (p.finish mode neg num den).bits 0 (p.finish mode neg num den).flags := by
  have rounds := p.round_rounds mode neg hn hd
  unfold Prec.finish at hf ⊢
  split at hf
  · exact absurd (show fpUfc &&& 0x0C#32 = 0 from hf) (by decide)
  · next tiny =>
    dsimp only at hf ⊢
    split at hf
    · exact absurd (show (fpOfc ||| fpIxc) &&& 0x0C#32 = 0 from hf) (by decide)
    · next large =>
      rw [if_neg tiny, if_neg large]
      exact rounds.ofRounded (le_trans (by omega) rounds.exp_ge) (by omega)

/-! The operations on normal numbers -/

theorem Prec.isNan_of_normal (h : p.isNormal v = true) : p.isNan v = false := by
  rw [Prec.isNan, Prec.classOf_of_normal h]; rfl

theorem Prec.isSnan_of_normal (h : p.isNormal v = true) : p.isSnan v = false := by
  rw [Prec.isSnan, Prec.classOf_of_normal h]; rfl

theorem Prec.isInf_of_normal (h : p.isNormal v = true) : p.isInf v = false := by
  rw [Prec.isInf, Prec.classOf_of_normal h]; rfl

theorem Prec.isZero_of_normal (h : p.isNormal v = true) : p.isZero v = false := by
  rw [Prec.isZero, Prec.classOf_of_normal h]; rfl

theorem Prec.isSubnormal_of_normal (h : p.isNormal v = true) : p.isSubnormal v = false := by
  rw [Prec.isSubnormal, Prec.classOf_of_normal h]; rfl

theorem Prec.mul_of_normal (ha : p.isNormal a = true) (hb : p.isNormal b = true) :
    p.mul mode a b = p.finishScaled mode (p.negative a != p.negative b) (p.sig a * p.sig b) (p.exp a + p.exp b) := by
  simp [Prec.mul, Prec.isNan_of_normal, Prec.isInf_of_normal, Prec.isZero_of_normal, ha, hb]

theorem Prec.div_of_normal (ha : p.isNormal a = true) (hb : p.isNormal b = true) :
    p.div mode a b = p.finish mode (p.negative a != p.negative b) (p.sig a * 2 ^ (p.exp a - p.exp b).toNat)
      (p.sig b * 2 ^ (-(p.exp a - p.exp b)).toNat) := by
  simp [Prec.div, Prec.isNan_of_normal, Prec.isInf_of_normal, Prec.isZero_of_normal, ha, hb]

theorem Prec.add_of_normal (ha : p.isNormal a = true) (hb : p.isNormal b = true) :
    p.add mode a b =
      if p.scaledValue (min (p.exp a) (p.exp b)) a + p.scaledValue (min (p.exp a) (p.exp b)) b = 0 then
        exactly (p.zero (if p.negative a == p.negative b then p.negative a else mode == .minus))
      else p.finishScaled mode
        (decide (p.scaledValue (min (p.exp a) (p.exp b)) a + p.scaledValue (min (p.exp a) (p.exp b)) b < 0))
        (p.scaledValue (min (p.exp a) (p.exp b)) a + p.scaledValue (min (p.exp a) (p.exp b)) b).natAbs
        (min (p.exp a) (p.exp b)) := by
  have term (low : Int) (v : DWord) : (if p.negative v = true then -((p.sig v : Int) * 2 ^ (p.exp v - low).toNat)
      else (p.sig v : Int) * 2 ^ (p.exp v - low).toNat) = p.scaledValue low v := by
    rw [Prec.scaledValue]; split <;> push_cast <;> ring
  simp only [Prec.add, Prec.isNan_of_normal, Prec.isInf_of_normal, ha, hb, Bool.or_self, Bool.and_self,
    Bool.false_eq_true, if_false, term]

theorem Prec.mul_roundsTo (ha : p.isNormal a = true) (hb : p.isNormal b = true) (hf : (p.mul mode a b).inRange) :
    p.RoundsTo mode (p.negative a != p.negative b) (p.sig a * p.sig b * 2 ^ (p.exp a + p.exp b).toNat)
      (2 ^ (-(p.exp a + p.exp b)).toNat) (p.mul mode a b).bits 0 (p.mul mode a b).flags := by
  rw [Prec.mul_of_normal ha hb] at hf ⊢
  exact Prec.finish_roundsTo (Nat.mul_pos (Nat.mul_pos (Prec.sig_pos ha) (Prec.sig_pos hb)) (Nat.two_pow_pos _))
    (Nat.two_pow_pos _) hf

theorem Prec.div_roundsTo (ha : p.isNormal a = true) (hb : p.isNormal b = true) (hf : (p.div mode a b).inRange) :
    p.RoundsTo mode (p.negative a != p.negative b) (p.sig a * 2 ^ (p.exp a - p.exp b).toNat)
      (p.sig b * 2 ^ (-(p.exp a - p.exp b)).toNat) (p.div mode a b).bits 0 (p.div mode a b).flags := by
  rw [Prec.div_of_normal ha hb] at hf ⊢
  exact Prec.finish_roundsTo (Nat.mul_pos (Prec.sig_pos ha) (Nat.two_pow_pos _))
    (Nat.mul_pos (Prec.sig_pos hb) (Nat.two_pow_pos _)) hf

/-- Two normal numbers of one sign have no zero sum. -/
theorem Prec.negative_ne_of_sum_zero {low : Int} (ha : p.isNormal a = true) (hb : p.isNormal b = true)
    (h : p.scaledValue low a + p.scaledValue low b = 0) : p.negative a ≠ p.negative b := by
  intro same
  have pos {v : DWord} (hv : p.isNormal v = true) : 0 < p.sig v * 2 ^ (p.exp v - low).toNat :=
    Nat.mul_pos (Prec.sig_pos hv) (Nat.two_pow_pos _)
  have := pos ha
  have := pos hb
  rw [Prec.scaledValue, Prec.scaledValue, same] at h
  split at h <;> omega

theorem Prec.add_sumRoundsTo (ha : p.isNormal a = true) (hb : p.isNormal b = true) (hf : (p.add mode a b).inRange) :
    p.SumRoundsTo mode a b (p.add mode a b).bits 0 (p.add mode a b).flags := by
  rw [Prec.add_of_normal ha hb] at hf ⊢
  dsimp only [Prec.SumRoundsTo]
  refine ⟨fun hx => ?_, fun hx => ?_⟩
  · have sign := Prec.negative_ne_of_sum_zero ha hb hx
    rw [if_pos hx, if_neg (by simpa using sign)]
    exact ⟨by cases mode <;> rfl, rfl⟩
  · rw [if_neg hx] at hf ⊢
    exact Prec.finish_roundsTo (Nat.mul_pos (Int.natAbs_pos.mpr hx) (Nat.two_pow_pos _)) (Nat.two_pow_pos _) hf

end

end Sys2Proof.Machine

namespace Sys2Proof.Machine

/-! The tests before a result (R1444) -/

section

variable {p : Prec} {scr : Word} {v : DWord} {bad io dz ofl ufl : Bool} {result r : Computed}

/-- An operation that does not bounce gives its result. -/
theorem judge_result (h : judge scr bad io dz ofl ufl result = .done r) : r = result := by
  unfold judge at h
  dsimp only at h
  split at h
  · cases h
  · exact (Verdict.done.inj h).symm

theorem judge_run (hbad : bad = false) (hio : (enabledIo scr && io) = false) (hdz : dz = false)
    (hofl : ofl = false) (hufl : (!flushMode scr && ufl) = false) :
    judge scr bad io dz ofl ufl result = .done result := by
  simp [judge, hbad, hio, hdz, hofl, hufl, flagIf]

theorem Prec.badInput_eq_false (hn : p.isNan v = true → defaultNanMode scr = true)
    (hs : p.isSubnormal v = true → flushMode scr = true ∧ enabledId scr = false) : p.badInput scr v = false := by
  unfold Prec.badInput
  cases hnan : p.isNan v <;> cases hsub : p.isSubnormal v <;> simp_all

/-! Classes exclude each other -/

theorem Prec.isSubnormal_of_nan (h : p.isNan v = true) : p.isSubnormal v = false := by
  simp only [Prec.isNan, Prec.isSubnormal] at *
  cases hc : p.classOf v <;> simp_all

theorem Prec.isNormal_of_nan (h : p.isNan v = true) : p.isNormal v = false := by
  simp only [Prec.isNan, Prec.isNormal] at *
  cases hc : p.classOf v <;> simp_all

theorem Prec.isSnan_of_not_nan (h : p.isNan v = false) : p.isSnan v = false := by
  simp only [Prec.isNan, Prec.isSnan, Bool.or_eq_false_iff] at *
  exact h.2

theorem Prec.isNan_of_subnormal (h : p.isSubnormal v = true) : p.isNan v = false := by
  simp only [Prec.isNan, Prec.isSubnormal] at *
  cases hc : p.classOf v <;> simp_all

/-- A NaN is not flushed. -/
theorem Prec.flush_of_nan (scr : Word) (h : p.isNan v = true) : p.flush scr v = v :=
  Prec.flush_of_not_subnormal scr (Prec.isSubnormal_of_nan h)

/-! Comparing finite values and infinities (R1458) -/

/-- The magnitude of a value, as its bits order it. -/
def Prec.magnitude (p : Prec) (v : DWord) : Nat := p.exponent v * 2 ^ p.frac + p.fraction v

/-- The magnitude of a value in units of `2 ^ low`. -/
def Prec.scaledMagnitude (p : Prec) (low : Int) (v : DWord) : Nat := p.sig v * 2 ^ (p.exp v - low).toNat

def Prec.key (p : Prec) (v : DWord) : Int := if p.negative v then -(p.magnitude v : Int) else p.magnitude v

theorem Prec.order_eq (p : Prec) (a b : DWord) : p.order a b =
    if p.key a < p.key b then 0b1000 else if p.key a = p.key b then 0b0110 else 0b0010 := rfl

theorem Prec.fraction_of_not_subnormal (h : p.isSubnormal v = false) (he : p.exponent v = 0) : p.fraction v = 0 := by
  by_contra hf
  have htop : p.top ≠ 0 := by cases p <;> decide
  have : p.classOf v = .subnormal := by
    rw [Prec.classOf, he, if_neg htop.symm, if_pos rfl, if_neg hf]
  simp [Prec.isSubnormal, this] at h

variable {a b : DWord} {low : Int}

/-- A number without magnitude is zero on every scale. -/
theorem Prec.magnitude_eq_zero_iff (h : p.isSubnormal v = false) : p.magnitude v = 0 ↔ p.scaledMagnitude low v = 0 := by
  have hpow : 0 < 2 ^ p.frac := Nat.two_pow_pos _
  rw [Prec.magnitude, Prec.scaledMagnitude, Prec.sig]
  by_cases he : p.exponent v = 0
  · simp [he, Prec.fraction_of_not_subnormal h he]
  · rw [if_neg he]
    simp [he]

theorem Prec.scaledMagnitude_lt (hb : p.isSubnormal b = false) (hl : low ≤ p.exp a)
    (h : p.magnitude a < p.magnitude b) : p.scaledMagnitude low a < p.scaledMagnitude low b := by
  rw [Prec.magnitude, Prec.magnitude] at h
  have fa := p.fraction_lt a
  have fb := p.fraction_lt b
  have hb0 : p.exponent b ≠ 0 := fun he => by
    rw [he, Prec.fraction_of_not_subnormal hb he] at h
    omega
  have hpow (k : Nat) : 0 < 2 ^ k := Nat.two_pow_pos k
  by_cases ha0 : p.exponent a = 0
  · have : p.scaledMagnitude low a = 0 := by rw [Prec.scaledMagnitude, Prec.sig, if_pos ha0, Nat.zero_mul]
    rw [this, Prec.scaledMagnitude, Prec.sig, if_neg hb0]
    exact Nat.mul_pos (Nat.add_pos_left (hpow _) _) (hpow _)
  · rw [Prec.scaledMagnitude, Prec.scaledMagnitude, Prec.sig, Prec.sig, if_neg ha0, if_neg hb0]
    rcases Nat.lt_trichotomy (p.exponent a) (p.exponent b) with he | he | he
    · have step : (p.exp a - low).toNat + 1 ≤ (p.exp b - low).toNat := by
        simp only [Prec.exp] at hl ⊢
        omega
      calc (2 ^ p.frac + p.fraction a) * 2 ^ (p.exp a - low).toNat
          < (2 ^ p.frac + 2 ^ p.frac) * 2 ^ (p.exp a - low).toNat := Nat.mul_lt_mul_of_pos_right (by omega) (hpow _)
        _ = 2 ^ p.frac * 2 ^ ((p.exp a - low).toNat + 1) := by ring
        _ ≤ (2 ^ p.frac + p.fraction b) * 2 ^ (p.exp b - low).toNat :=
          Nat.mul_le_mul (Nat.le_add_right _ _) (Nat.pow_le_pow_right two_pos step)
    · have : p.exp a = p.exp b := by simp only [Prec.exp, he]
      rw [this]
      exact Nat.mul_lt_mul_of_pos_right (by rw [he] at h; omega) (hpow _)
    · have : (p.exponent b + 1) * 2 ^ p.frac ≤ p.exponent a * 2 ^ p.frac := Nat.mul_le_mul_right _ he
      rw [Nat.succ_mul] at this
      omega

theorem Prec.scaledMagnitude_eq (h : p.magnitude a = p.magnitude b) :
    p.scaledMagnitude low a = p.scaledMagnitude low b := by
  have parts (v : DWord) : p.exponent v = p.magnitude v / 2 ^ p.frac ∧ p.fraction v = p.magnitude v % 2 ^ p.frac := by
    have hv := p.fraction_lt v
    rw [Prec.magnitude, Nat.mul_comm]
    exact ⟨by rw [Nat.mul_add_div (Nat.two_pow_pos _), Nat.div_eq_of_lt hv, Nat.add_zero],
      by rw [Nat.mul_add_mod, Nat.mod_eq_of_lt hv]⟩
  simp only [Prec.scaledMagnitude, Prec.sig, Prec.exp, (parts a).1, (parts a).2, (parts b).1, (parts b).2, h]

/-- The order of the bit patterns is that of the values. -/
theorem Prec.key_lt_iff (ha : p.isSubnormal a = false) (hb : p.isSubnormal b = false) (hla : low ≤ p.exp a)
    (hlb : low ≤ p.exp b) : p.key a < p.key b ↔ p.scaledValue low a < p.scaledValue low b := by
  have lt := Prec.scaledMagnitude_lt hb hla
  have gt := Prec.scaledMagnitude_lt ha hlb
  have eq := Prec.scaledMagnitude_eq (p := p) (a := a) (b := b) (low := low)
  have za := Prec.magnitude_eq_zero_iff (low := low) ha
  have zb := Prec.magnitude_eq_zero_iff (low := low) hb
  rw [Prec.scaledValue, Prec.scaledValue, ← Prec.scaledMagnitude, ← Prec.scaledMagnitude, Prec.key, Prec.key]
  cases p.negative a <;> cases p.negative b <;> simp only [Bool.false_eq_true, if_true, if_false] <;> omega

end

end Sys2Proof.Machine

namespace Sys2Proof.Machine

/-! The verdicts of compares and conversions (R510, R518, R1458 to R1469) -/

section

variable {p : Prec} {scr : Word} {signal : Bool} {a b v : DWord} {low : Int}

/-- What a value is in units of `2 ^ low`, where a subnormal number counts as zero. -/
def Prec.flushedValue (p : Prec) (low : Int) (v : DWord) : Int := if p.isSubnormal v then 0 else p.scaledValue low v

theorem Prec.isSubnormal_zero (p : Prec) (neg : Bool) : p.isSubnormal (p.zero neg) = false := by
  rw [Prec.isSubnormal, Prec.classOf_zero]; rfl

theorem Prec.isNan_zero (p : Prec) (neg : Bool) : p.isNan (p.zero neg) = false := by
  rw [Prec.isNan, Prec.classOf_zero]; rfl

theorem Prec.isZero_zero (p : Prec) (neg : Bool) : p.isZero (p.zero neg) = true := by
  rw [Prec.isZero, Prec.classOf_zero]; rfl

theorem Prec.exponent_zero (p : Prec) (neg : Bool) : p.exponent (p.zero neg) = 0 :=
  Prec.exponent_pack (Nat.zero_le _) (Nat.two_pow_pos _)

theorem Prec.exponent_of_subnormal (h : p.isSubnormal v = true) : p.exponent v = 0 := by
  by_contra he
  rw [Prec.isSubnormal, Prec.classOf, if_neg he] at h
  revert h
  split <;> [(split <;> [skip; split]); skip] <;> simp

/-- In flush-to-zero mode no operand is subnormal, and the others keep their values. -/
theorem Prec.flush_parts (hz : p.isSubnormal v = true → flushMode scr = true) :
    p.isSubnormal (p.flush scr v) = false ∧ p.exp (p.flush scr v) = p.exp v ∧
      p.scaledValue low (p.flush scr v) = p.flushedValue low v := by
  rw [Prec.flushedValue]
  cases hs : p.isSubnormal v
  · rw [Prec.flush_of_not_subnormal scr hs]
    exact ⟨hs, rfl, rfl⟩
  · rw [Prec.flush_of_subnormal (hz hs) hs]
    refine ⟨p.isSubnormal_zero false, ?_, ?_⟩
    · rw [Prec.exp, Prec.exponent_zero, Prec.exp, Prec.exponent_of_subnormal hs]
    · rw [Prec.scaledValue, Prec.sig, if_pos (p.exponent_zero false)]
      simp

/-- The order of two flushed operands is that of their values. -/
theorem Prec.order_flush (ha : p.isSubnormal a = true → flushMode scr = true)
    (hb : p.isSubnormal b = true → flushMode scr = true) (hla : low ≤ p.exp a) (hlb : low ≤ p.exp b) :
    p.order (p.flush scr a) (p.flush scr b) =
      if p.flushedValue low a < p.flushedValue low b then 0b1000
      else if p.flushedValue low a = p.flushedValue low b then 0b0110 else 0b0010 := by
  obtain ⟨sa, ea, va⟩ := Prec.flush_parts (low := low) ha
  obtain ⟨sb, eb, vb⟩ := Prec.flush_parts (low := low) hb
  have lt := Prec.key_lt_iff (low := low) sa sb (ea ▸ hla) (eb ▸ hlb)
  have gt := Prec.key_lt_iff (low := low) sb sa (eb ▸ hlb) (ea ▸ hla)
  rw [va, vb] at lt gt
  have eq : p.key (p.flush scr a) = p.key (p.flush scr b) ↔ p.flushedValue low a = p.flushedValue low b := by omega
  simp only [Prec.order_eq, lt, eq]

/-- No operand of a pair is one that the hardware does not handle. -/
theorem badInputs_eq_false (hn : p.isNan a = true ∨ p.isNan b = true → defaultNanMode scr = true)
    (hs : (p.isSubnormal a || p.isSubnormal b) = true → flushMode scr = true ∧ enabledId scr = false) :
    [a, b].any (p.badInput scr) = false := by
  simp [Prec.badInput_eq_false (fun h => hn (.inl h)) fun h => hs (by simp [h]),
    Prec.badInput_eq_false (fun h => hn (.inr h)) fun h => hs (by simp [h])]

theorem enabled_and_eq_false {enabled cause : Bool} (h : cause = true → enabled = false) : (enabled && cause) = false := by
  cases cause
  · exact Bool.and_false _
  · rw [h rfl, Bool.false_and]

theorem compareVerdict_of_numbers (ha : p.isNan a = false) (hb : p.isNan b = false)
    (hs : (p.isSubnormal a || p.isSubnormal b) = true → flushMode scr = true ∧ enabledId scr = false) :
    compareVerdict signal p scr a b = .done
      { bits := (p.order (p.flush scr a) (p.flush scr b)).setWidth 64
        flags := 0 ||| flagIf (p.isSubnormal a || p.isSubnormal b) fpIdc } := by
  have bad := badInputs_eq_false (by simp [ha, hb]) hs
  rw [compareVerdict, judge_run bad] <;>
    simp [ha, hb, Prec.isSnan_of_not_nan ha, Prec.isSnan_of_not_nan hb, flagIf]

theorem compareVerdict_of_nan (hd : defaultNanMode scr = true) (hn : p.isNan a = true ∨ p.isNan b = true)
    (hs : (p.isSubnormal a || p.isSubnormal b) = true → flushMode scr = true ∧ enabledId scr = false)
    (hi : (p.isSnan a || p.isSnan b || signal) = true → enabledIo scr = false) :
    compareVerdict signal p scr a b = .done
      { bits := 0b0011
        flags := flagIf (p.isSnan a || p.isSnan b || signal) fpIoc |||
          flagIf (p.isSubnormal a || p.isSubnormal b) fpIdc } := by
  have bad := badInputs_eq_false (fun _ => hd) hs
  have nan : [a, b].any p.isNan = true := by simpa using hn
  have invalid : ([a, b].any p.isSnan || (signal && [a, b].any p.isNan)) = (p.isSnan a || p.isSnan b || signal) := by
    rw [nan]; simp
  unfold compareVerdict
  dsimp only
  rw [invalid, judge_run bad (enabled_and_eq_false hi) rfl rfl (by simp)]
  simp [nan]

/-! Widening and narrowing (R1462, R1463) -/

theorem widenVerdict_of_normal {r : Computed} (hv : Prec.single.isNormal v = true) (h : widenVerdict scr v = .done r) :
    r = exactly (Prec.double.pack (Prec.single.negative v) (Prec.single.exponent v + 896)
      (Prec.single.fraction v * 2 ^ 29)) := by
  rw [judge_result h, Prec.flush_of_normal scr hv]
  simp [Prec.isNan_of_normal, Prec.isZero_of_normal, Prec.isInf_of_normal, Prec.isSubnormal_of_normal, hv, flagIf,
    Computed.also, exactly]

theorem narrowVerdict_of_normal {r : Computed} (hv : Prec.double.isNormal v = true) (h : narrowVerdict scr v = .done r) :
    r = Prec.single.finishScaled (roundingOf scr) (Prec.double.negative v) (Prec.double.sig v) (Prec.double.exp v) := by
  rw [judge_result h, Prec.flush_of_normal scr hv]
  simp [Prec.isNan_of_normal, Prec.isZero_of_normal, Prec.isInf_of_normal, Prec.isSubnormal_of_normal, hv, flagIf,
    Computed.also]

/-- A normal single is a normal double of the same value. -/
theorem Prec.double_pack_of_single (hv : Prec.single.isNormal v = true) :
    let w := Prec.double.pack (Prec.single.negative v) (Prec.single.exponent v + 896) (Prec.single.fraction v * 2 ^ 29)
    Prec.double.sig w = Prec.single.sig v * 2 ^ 29 ∧ Prec.double.exp w = Prec.single.exp v - 29 ∧
      Prec.double.negative w = Prec.single.negative v := by
  intro w
  have he : Prec.single.exponent v + 896 ≤ Prec.double.top :=
    (Nat.add_le_add_right (Prec.single.exponent_le v) 896).trans (by decide)
  have hf : Prec.single.fraction v * 2 ^ 29 < 2 ^ Prec.double.frac :=
    Nat.mul_lt_mul_of_pos_right (Prec.single.fraction_lt v) (Nat.two_pow_pos 29)
  have exponent := Prec.exponent_pack (neg := Prec.single.negative v) he hf
  refine ⟨?_, ?_, Prec.negative_pack he hf⟩
  · rw [Prec.sig, Prec.sig, exponent, Prec.fraction_pack he hf, if_neg (Prec.isNormal_iff.mp hv).1, if_neg (by omega)]
    simp only [Prec.frac]
    ring
  · rw [Prec.exp, Prec.exp, exponent]
    simp only [Prec.frac, Prec.bias]
    push_cast
    ring

/-! Conversions from and to integers (R1464, R1466) -/

theorem Prec.ofInt_nearby (p : Prec) (mode : Rounding) {i : Int} (hi : i ≠ 0) (hb : i.natAbs ≤ 2 ^ 32) :
    p.nearby mode (decide (i < 0)) i.natAbs 1 (p.ofInt mode i).bits = true := by
  have hpos : 0 < i.natAbs := Int.natAbs_pos.mpr hi
  obtain ⟨lo, hi'⟩ := ratioExponent_spec hpos one_pos
  rw [Nat.cast_one, div_one] at lo hi'
  have le : ratioExponent i.natAbs 1 ≤ 32 := by
    have : (2 : ℚ) ^ ratioExponent i.natAbs 1 ≤ 2 ^ (32 : Int) := lo.trans (by exact_mod_cast hb)
    exact (zpow_le_zpow_iff_right₀ one_lt_two).mp this
  have ge : 0 < ratioExponent i.natAbs 1 + 1 := by
    have : (2 : ℚ) ^ (0 : Int) < 2 ^ (ratioExponent i.natAbs 1 + 1) := lt_of_le_of_lt (by exact_mod_cast hpos) hi'
    exact (zpow_lt_zpow_iff_right₀ one_lt_two).mp this
  have rounds := p.round_rounds mode (decide (i < 0)) hpos one_pos
  have exp_ge := rounds.exp_ge
  have exp_le := rounds.exp_le
  have hbias : 127 ≤ p.bias := by cases p <;> decide
  rw [Prec.ofInt, if_neg hi]
  exact (rounds.ofRounded (by omega) (by omega)).1

/-- A zero significand is the integer 0, exactly. -/
theorem toNatRounded_of_zero (mode : Rounding) (neg : Bool) (exp : Int) : toNatRounded mode neg 0 exp = (0, false) := by
  cases mode <;> simp [toNatRounded, roundsUp]

/-- Where the flag of an invalid conversion is clear, the number lies between the bounds (R518). -/
theorem result_of_valid {lo hi i : Int} {below above within : Computed} (hb : below.flags = fpIoc) (ha : above.flags = fpIoc)
    (h : (if i < lo then below else if hi < i then above else within).flags.getLsbD 0 = false) :
    (if i < lo then below else if hi < i then above else within) = within := by
  split at h
  · exact absurd (hb ▸ h) (by decide)
  · next hlo =>
    split at h
    · exact absurd (ha ▸ h) (by decide)
    · next hhi => rw [if_neg hlo, if_neg hhi]

theorem Prec.toInt_of_normal {signed : Bool} (mode : Rounding) (hv : p.isNormal v = true)
    (h : (p.toInt signed mode v).flags.getLsbD 0 = false) :
    let m := toNatRounded mode (p.negative v) (p.sig v) (p.exp v)
    p.toInt signed mode v =
      { bits := (BitVec.ofInt 32 (if p.negative v then -(m.1 : Int) else m.1)).setWidth 64, flags := flagIf m.2 fpIxc } := by
  simp only [Prec.toInt, Prec.isNan_of_normal hv, Prec.isInf_of_normal hv, Bool.false_eq_true, if_false] at h ⊢
  exact result_of_valid rfl rfl h

theorem Prec.toInt_zero (p : Prec) (signed : Bool) (mode : Rounding) : p.toInt signed mode (p.zero false) = exactly 0 := by
  have sig : p.sig (p.zero false) = 0 := if_pos (p.exponent_zero false)
  have inf : p.isInf (p.zero false) = false := by rw [Prec.isInf, Prec.classOf_zero]; rfl
  simp only [Prec.toInt, p.isNan_zero false, inf, sig, toNatRounded_of_zero, Bool.false_eq_true, if_false]
  cases signed <;> simp [exactly, flagIf]

theorem toIntVerdict_of_normal {signed : Bool} {mode : Rounding} {r : Computed} (hv : p.isNormal v = true)
    (h : toIntVerdict signed p mode scr v = .done r) : r = p.toInt signed mode v := by
  rw [judge_result h, Prec.flush_of_normal scr hv, Prec.isSubnormal_of_normal hv]
  simp [Computed.also, flagIf]

/-! NaNs and subnormal numbers -/

theorem narrowVerdict_of_nan (hd : defaultNanMode scr = true) (hio : enabledIo scr = false)
    (hv : Prec.double.isNan v = true) : ∃ f, narrowVerdict scr v = .done { bits := 0x7FC00000, flags := f } := by
  have bad : Prec.double.badInput scr v = false :=
    Prec.badInput_eq_false (fun _ => hd) fun h => by simp [Prec.isSubnormal_of_nan hv] at h
  rw [narrowVerdict, Prec.flush_of_nan scr hv]
  rw [judge_run bad (by rw [hio]; rfl) rfl (by simp [Prec.isNormal_of_nan hv]) (by simp [Prec.isNormal_of_nan hv]),
    if_pos hv]
  exact ⟨_, rfl⟩

theorem widenVerdict_of_nan (hd : defaultNanMode scr = true) (hio : enabledIo scr = false)
    (hv : Prec.single.isNan v = true) : ∃ f, widenVerdict scr v = .done { bits := 0x7FF8000000000000, flags := f } := by
  have bad : Prec.single.badInput scr v = false :=
    Prec.badInput_eq_false (fun _ => hd) fun h => by simp [Prec.isSubnormal_of_nan hv] at h
  rw [widenVerdict, Prec.flush_of_nan scr hv]
  rw [judge_run bad (by rw [hio]; rfl) rfl rfl (by simp), if_pos hv]
  exact ⟨_, rfl⟩

theorem toIntVerdict_of_nan (signed : Bool) (mode : Rounding) (hd : defaultNanMode scr = true) (hio : enabledIo scr = false)
    (hv : p.isNan v = true) : toIntVerdict signed p mode scr v = .done { bits := 0, flags := 1 } := by
  have sub := Prec.isSubnormal_of_nan hv
  have bad : p.badInput scr v = false := Prec.badInput_eq_false (fun _ => hd) fun h => by simp [sub] at h
  rw [toIntVerdict, Prec.flush_of_nan scr hv]
  rw [judge_run bad (by rw [hio]; rfl) rfl rfl (by simp), Prec.toInt, if_pos hv, sub]
  rfl

/-- The operand of a subnormal number in flush-to-zero mode. -/
theorem Prec.badInput_of_subnormal (hz : flushMode scr = true) (hid : enabledId scr = false)
    (hv : p.isSubnormal v = true) : p.badInput scr v = false :=
  Prec.badInput_eq_false (fun h => by simp [Prec.isSubnormal_of_nan h] at hv) fun _ => ⟨hz, hid⟩

theorem toIntVerdict_of_subnormal (signed : Bool) (mode : Rounding) (hz : flushMode scr = true) (hid : enabledId scr = false)
    (hio : enabledIo scr = false) (hv : p.isSubnormal v = true) :
    toIntVerdict signed p mode scr v = .done { bits := 0, flags := 0x80 } := by
  rw [toIntVerdict, Prec.flush_of_subnormal hz hv]
  rw [judge_run (Prec.badInput_of_subnormal hz hid hv) (by rw [hio]; rfl) rfl rfl (by simp), Prec.toInt_zero, hv]
  rfl

theorem narrowVerdict_of_subnormal (hz : flushMode scr = true) (hid : enabledId scr = false) (hio : enabledIo scr = false)
    (hv : Prec.double.isSubnormal v = true) : narrowVerdict scr v = .done { bits := 0, flags := 0x80 } := by
  rw [narrowVerdict, Prec.flush_of_subnormal hz hv]
  have normal : Prec.double.isNormal (Prec.double.zero false) = false := by rw [Prec.isNormal, Prec.classOf_zero]; rfl
  rw [normal, Bool.false_and, Bool.false_and, judge_run (Prec.badInput_of_subnormal hz hid hv) (by rw [hio]; rfl) rfl rfl
    (by simp), hv, if_neg (Bool.eq_false_iff.mp (Prec.isNan_zero _ _)), if_pos (Prec.isZero_zero _ _)]
  rfl

theorem widenVerdict_of_subnormal (hz : flushMode scr = true) (hid : enabledId scr = false) (hio : enabledIo scr = false)
    (hv : Prec.single.isSubnormal v = true) : widenVerdict scr v = .done { bits := 0, flags := 0x80 } := by
  rw [widenVerdict, Prec.flush_of_subnormal hz hv]
  rw [judge_run (Prec.badInput_of_subnormal hz hid hv) (by rw [hio]; rfl) rfl rfl (by simp), hv,
    if_neg (Bool.eq_false_iff.mp (Prec.isNan_zero _ _)), if_pos (Prec.isZero_zero _ _)]
  rfl

end

/-! The instructions -/

section

variable {s : State} {p : Prec} {d m : BitVec 5}

theorem fpCompare_run (signal : Bool) (base : Word) (m : BitVec 5) (hu : s.vfpUsable p.isDouble = true)
    (hx : enabledIx s.vfp.fpscr = false) :
    fpCompare p signal base d (some m) s = .ok ((), s.compared p signal (base ||| fmField p m ||| fdField p d) (s.fp p d)
      (s.fp p m)) := by
  rw [BitVec.or_assoc, BitVec.or_comm (fmField p m), ← BitVec.or_assoc]
  exact scalarOnly_run _ _ _ hu hx

theorem fpCompare_zero_run (signal : Bool) (base : Word) (hu : s.vfpUsable p.isDouble = true)
    (hx : enabledIx s.vfp.fpscr = false) :
    fpCompare p signal base d none s = .ok ((), s.compared p signal (base ||| fdField p d) (s.fp p d) 0) := by
  rw [← or_noFlags (base ||| fdField p d)]
  exact scalarOnly_run _ _ _ hu hx

end

/-- Settles O51: the instructions by `scalarOnly_run`; the order of a compare from that of the bit patterns
(`Prec.order_flush`), the rounded conversions from `Prec.round_rounds`, and the others by the case of the operand. -/
theorem vfpConversionResults : Obligations.VfpConversionResults := by
  refine ⟨fun s c fd fm dB mB hc hx => ?instructions, fun signal p scr a b => ?compares,
    fun p mode i hi hb => ⟨p.ofInt_nearby mode hi hb, p.zero_false⟩, fun scr v r hv hf h => ?narrows,
    fun scr v r hv h => ?widens, fun signed p scr v r hv h hf => ?truncates, fun signed mode scr v hio hid hz => ?specials⟩
  case instructions =>
    intro ds ms dd md f r put
    have run {m : Exec Unit} {t : State} (hm : m s = .ok ((), t)) : outcome (conditional c m) s = .next t :=
      outcome_conditional_of_ok hc hm
    simp only [List.forall_mem_cons, List.not_mem_nil, false_implies, implies_true, and_true]
    have scalar {cp11 : Bool} (hu : s.vfpUsable cp11 = true) (word : Word) (v : State → Verdict)
        (put : DWord → State → State) := run (scalarOnly_run word v put hu hx)
    refine ⟨fun hu => ⟨⟨?_, ?_, ?_, ?_⟩, ?_, ⟨?_, ?_⟩, ⟨?_, ?_, ?_, ?_⟩⟩,
      fun hu => ⟨⟨?_, ?_, ?_, ?_⟩, ?_, ⟨?_, ?_⟩, ⟨?_, ?_, ?_, ?_⟩⟩⟩
    · exact run (fpCompare_run (p := .single) _ _ _ hu hx)
    · exact run (fpCompare_run (p := .single) _ _ _ hu hx)
    · exact run (fpCompare_zero_run (p := .single) _ _ hu hx)
    · exact run (fpCompare_zero_run (p := .single) _ _ hu hx)
    iterate 7 exact scalar hu _ _ _
    · exact run (fpCompare_run (p := .double) _ _ _ hu hx)
    · exact run (fpCompare_run (p := .double) _ _ _ hu hx)
    · exact run (fpCompare_zero_run (p := .double) _ _ hu hx)
    · exact run (fpCompare_zero_run (p := .double) _ _ hu hx)
    iterate 7 exact scalar hu _ _ _
  case compares =>
    intro low value small invalid gives hs
    refine ⟨fun ha hb => ?numbers, fun hd hn hi => compareVerdict_of_nan hd hn hs hi⟩
    have order : p.order (p.flush scr a) (p.flush scr b) =
        if value a < value b then 0b1000 else if value a = value b then 0b0110 else 0b0010 :=
      Prec.order_flush (fun h => (hs (by simp [small, h])).1) (fun h => (hs (by simp [small, h])).1)
        (min_le_left _ _) (min_le_right _ _)
    have verdict := compareVerdict_of_numbers (signal := signal) ha hb hs
    rw [order] at verdict
    refine ⟨fun h => ?_, fun h => ?_, fun h => ?_⟩
    · rwa [if_pos h] at verdict
    · rwa [if_neg (h.not_lt), if_pos h] at verdict
    · rwa [if_neg (not_lt_of_gt h), if_neg h.ne'] at verdict
  case narrows =>
    intro e
    rw [narrowVerdict_of_normal hv h] at hf ⊢
    exact (Prec.finish_roundsTo (Nat.mul_pos (Prec.sig_pos hv) (Nat.two_pow_pos _)) (Nat.two_pow_pos _) hf).1
  case widens =>
    rw [widenVerdict_of_normal hv h]
    obtain ⟨sig, exp, negative⟩ := Prec.double_pack_of_single hv
    exact ⟨sig, exp, negative, rfl⟩
  case truncates =>
    intro x den
    rw [toIntVerdict_of_normal hv h] at hf ⊢
    rw [Prec.toInt_of_normal .zero hv hf]
    refine ⟨rfl, ?_⟩
    show flagIf (x % den != 0) fpIxc = _
    by_cases hx : x % den = 0 <;> simp [flagIf, hx, fpIxc]
  case specials =>
    exact ⟨fun hd => narrowVerdict_of_nan hd hio, fun hd => widenVerdict_of_nan hd hio,
      fun p hd => toIntVerdict_of_nan signed mode hd hio, fun p => toIntVerdict_of_subnormal signed mode hz hid hio,
      narrowVerdict_of_subnormal hz hid hio, widenVerdict_of_subnormal hz hid hio⟩

end Sys2Proof.Machine

namespace Sys2Proof.Machine

/-! The verdicts of the arithmetic operations (R1444 to R1454) -/

section

variable {op : FpOp} {p : Prec} {scr : Word} {mode : Rounding} {d n m : DWord} {r : Computed}

theorem FpOp.verdict_result (h : op.verdict p scr d n m = .done r)
    (hs : (op.operands d n m).any p.isSubnormal = false) :
    r = op.compute p (roundingOf scr) (p.flush scr d) (p.flush scr n) (p.flush scr m) := by
  rw [judge_result h, hs]
  exact congrArg (Computed.mk _) (noFlags_or _)

/-- Two normal operands, where the operation has no other. -/
theorem FpOp.verdict_of_normal (hop : op.operands d n m = [n, m]) (hn : p.isNormal n = true) (hm : p.isNormal m = true)
    (h : op.verdict p scr d n m = .done r) : r = op.compute p (roundingOf scr) (p.flush scr d) n m := by
  have := FpOp.verdict_result h (by rw [hop]; simp [Prec.isSubnormal_of_normal, hn, hm])
  rwa [Prec.flush_of_normal scr hn, Prec.flush_of_normal scr hm] at this

theorem FpOp.verdict_of_three (hop : op.operands d n m = [d, n, m]) (hd : p.isNormal d = true) (hn : p.isNormal n = true)
    (hm : p.isNormal m = true) (h : op.verdict p scr d n m = .done r) : r = op.compute p (roundingOf scr) d n m := by
  have := FpOp.verdict_result h (by rw [hop]; simp [Prec.isSubnormal_of_normal, hd, hn, hm])
  rwa [Prec.flush_of_normal scr hd, Prec.flush_of_normal scr hn, Prec.flush_of_normal scr hm] at this

theorem Computed.inRange_also {f : Word} : (r.also f).inRange ↔ f &&& 0x0C#32 = 0 ∧ r.inRange := by
  simp only [Computed.inRange, Computed.also, BitVec.and_or_distrib_right]
  exact BitVec.or_eq_zero_iff

/-- The product of normal numbers is a number where it is in range. -/
theorem Prec.isNan_mul (hn : p.isNormal n = true) (hm : p.isNormal m = true) (hf : (p.mul mode n m).inRange) :
    p.isNan (p.mul mode n m).bits = false := Prec.isNan_of_normal (Prec.mul_roundsTo hn hm hf).isNormal

theorem FpOp.compute_nmul_of_normal (hn : p.isNormal n = true) (hm : p.isNormal m = true)
    (hf : (FpOp.nmul.compute p mode d n m).inRange) :
    (p.mul mode n m).inRange ∧
      FpOp.nmul.compute p mode d n m = { p.mul mode n m with bits := p.neg (p.mul mode n m).bits } := by
  have hmul : (p.mul mode n m).inRange := by
    simp only [FpOp.compute] at hf
    split at hf <;> exact hf
  exact ⟨hmul, by simp [FpOp.compute, Prec.isNan_mul hn hm hmul]⟩

/-- What the multiply-accumulates compute (R1449). -/
theorem FpOp.compute_accumulate (h : op.accumulates = true) : op.compute p mode d n m =
    if p.isNan d || p.isNan n || p.isNan m then (nanResult p [d, n, m]).also (op.product p mode n m).flags
    else if p.isNan (op.product p mode n m).bits then op.product p mode n m
    else (p.add mode (op.accumulator p d) (op.product p mode n m).bits).also (op.product p mode n m).flags := by
  cases op <;> simp [FpOp.accumulates] at h <;> rfl

theorem FpOp.product_flags : (op.product p mode n m).flags = (p.mul mode n m).flags := by
  unfold FpOp.product
  dsimp only
  split <;> rfl

theorem FpOp.product_bits (h : p.isNan (p.mul mode n m).bits = false) :
    (op.product p mode n m).bits = if op.negatesProduct then p.neg (p.mul mode n m).bits else (p.mul mode n m).bits := by
  cases hp : op.negatesProduct <;> simp [FpOp.product, h, hp]

/-- A multiply-accumulate of normal numbers rounds twice. -/
theorem FpOp.accumulate_roundsTo (hop : op.accumulates = true) (hd : p.isNormal d = true) (hn : p.isNormal n = true)
    (hm : p.isNormal m = true) (hf : (op.compute p mode d n m).inRange) :
    (p.mul mode n m).inRange ∧
    p.SumRoundsTo mode (if op.negatesAccumulator then p.neg d else d)
      (if op.negatesProduct then p.neg (p.mul mode n m).bits else (p.mul mode n m).bits)
      (op.compute p mode d n m).bits (p.mul mode n m).flags (op.compute p mode d n m).flags := by
  rw [FpOp.compute_accumulate hop] at hf ⊢
  simp only [Prec.isNan_of_normal, hd, hn, hm, Bool.or_self, Bool.false_eq_true, if_false] at hf ⊢
  have hmul : (p.mul mode n m).inRange := by
    rw [Computed.inRange, ← FpOp.product_flags (op := op)]
    split at hf
    · exact hf
    · exact (Computed.inRange_also.mp hf).1
  have normal := (Prec.mul_roundsTo hn hm hmul).isNormal
  have bits := FpOp.product_bits (op := op) (Prec.isNan_of_normal normal)
  have product : p.isNormal (op.product p mode n m).bits = true := by
    rw [bits]; split <;> simp [Prec.isNormal_neg, normal]
  have accumulator : p.isNormal (op.accumulator p d) = true := by
    rw [FpOp.accumulator]; split <;> simp [Prec.isNormal_neg, hd]
  rw [if_neg (Bool.eq_false_iff.mp (Prec.isNan_of_normal product))] at hf ⊢
  refine ⟨hmul, ?_⟩
  rw [← bits, ← FpOp.product_flags (op := op), ← FpOp.accumulator]
  obtain ⟨hzero, hsum⟩ := Prec.add_sumRoundsTo accumulator product (Computed.inRange_also.mp hf).2
  refine ⟨fun hx => ⟨(hzero hx).1, ?_⟩, fun hx => (hsum hx).after⟩
  exact (congrArg _ (hzero hx).2).trans (or_noFlags _)

/-! Small products in flush-to-zero mode (R510, R521) -/

theorem Prec.ratioExponent_mul_lt (hn : p.isNormal n = true) (hm : p.isNormal m = true)
    (h : p.exponent n + p.exponent m + 1 ≤ p.bias) :
    ratioExponent (p.sig n * p.sig m * 2 ^ (p.exp n + p.exp m).toNat) (2 ^ (-(p.exp n + p.exp m)).toNat) <
      1 - (p.bias : Int) := by
  have hpos : 0 < p.sig n * p.sig m := Nat.mul_pos (Prec.sig_pos hn) (Prec.sig_pos hm)
  obtain ⟨lo, -⟩ := ratioExponent_spec (Nat.mul_pos hpos (Nat.two_pow_pos (p.exp n + p.exp m).toNat))
    (Nat.two_pow_pos (-(p.exp n + p.exp m)).toNat)
  have ratio := scaled_ratio (p.sig n * p.sig m) 1 (p.exp n + p.exp m)
  rw [Nat.one_mul, Nat.cast_one, div_one] at ratio
  have sig {v : DWord} (hv : p.isNormal v = true) : p.sig v < 2 ^ (p.frac + 1) := by
    have := p.fraction_lt v
    rw [Prec.sig_of_normal hv, pow_succ]
    omega
  have bits : p.sig n * p.sig m < 2 ^ (p.frac + 1 + (p.frac + 1)) := by
    rw [pow_add]
    exact Nat.mul_lt_mul'' (sig hn) (sig hm)
  have less : (2 : ℚ) ^ ratioExponent (p.sig n * p.sig m * 2 ^ (p.exp n + p.exp m).toNat)
      (2 ^ (-(p.exp n + p.exp m)).toNat) < 2 ^ (1 - (p.bias : Int)) := by
    refine lt_of_le_of_lt (lo.trans_eq ratio) ?_
    calc ((p.sig n * p.sig m : Nat) : ℚ) * 2 ^ (p.exp n + p.exp m)
        < ((2 ^ (p.frac + 1 + (p.frac + 1)) : Nat) : ℚ) * 2 ^ (p.exp n + p.exp m) := by
          gcongr
      _ = 2 ^ (((p.frac + 1 + (p.frac + 1) : Nat) : Int) + (p.exp n + p.exp m)) := by
          rw [Nat.cast_pow, Nat.cast_ofNat, ← zpow_natCast, ← zpow_add₀ two_ne_zero]
      _ ≤ 2 ^ (1 - (p.bias : Int)) := by
          refine zpow_le_zpow_right₀ one_le_two ?_
          simp only [Prec.exp]
          omega
  exact (zpow_lt_zpow_iff_right₀ one_lt_two).mp less

theorem Prec.mul_of_tiny (hn : p.isNormal n = true) (hm : p.isNormal m = true)
    (h : p.exponent n + p.exponent m + 1 ≤ p.bias) : p.mul mode n m = { bits := 0, flags := fpUfc } := by
  rw [Prec.mul_of_normal hn hm, Prec.finishScaled, Prec.finish, if_pos (Prec.ratioExponent_mul_lt hn hm h),
    Prec.zero_false]

theorem FpOp.mul_verdict_of_tiny (hz : flushMode scr = true) (hn : p.isNormal n = true) (hm : p.isNormal m = true)
    (h : p.exponent n + p.exponent m + 1 ≤ p.bias) :
    FpOp.mul.verdict p scr d n m = .done { bits := 0, flags := 0x08 } := by
  have bad {v : DWord} (hv : p.isNormal v = true) : p.badInput scr v = false :=
    Prec.badInput_eq_false (by simp [Prec.isNan_of_normal hv]) (by simp [Prec.isSubnormal_of_normal hv])
  have risk : (p.mulRisk n m).1 = false := by
    have : ¬(p.nearTop : Int) ≤ (p.exponent n : Int) + p.exponent m - p.bias := by omega
    simp [Prec.mulRisk, this]
  rw [FpOp.verdict, Prec.flush_of_normal scr hn, Prec.flush_of_normal scr hm]
  simp only [FpOp.operands, FpOp.compute, FpOp.risk, FpOp.isInvalid, Prec.mul_of_tiny hn hm h]
  rw [judge_run (by simp [bad, hn, hm])
    (by simp [Prec.isSnan_of_normal, Prec.isZero_of_normal, Prec.isInf_of_normal, hn, hm]) (by simp) risk
    (by rw [hz]; rfl)]
  simp [Prec.isSubnormal_of_normal, hn, hm, flagIf, Computed.also, fpUfc]

theorem FpOp.mul_verdict_of_subnormal (hz : flushMode scr = true) (hid : enabledId scr = false)
    (hn : p.isSubnormal n = true) (hm : p.isNormal m = true) :
    FpOp.mul.verdict p scr d n m = .done { bits := p.pack (p.negative m) 0 0, flags := 0x80 } := by
  have bad : p.badInput scr m = false :=
    Prec.badInput_eq_false (by simp [Prec.isNan_of_normal hm]) (by simp [Prec.isSubnormal_of_normal hm])
  have zero : p.isZero (p.zero false) = true := p.isZero_zero false
  have inf : p.isInf (p.zero false) = false := by rw [Prec.isInf, Prec.classOf_zero]; rfl
  have normal : p.isNormal (p.zero false) = false := by rw [Prec.isNormal, Prec.classOf_zero]; rfl
  have product : p.mul (roundingOf scr) (p.zero false) m = exactly (p.zero (p.negative m)) := by
    have sign : p.negative (p.zero false) = false := Prec.negative_pack (Nat.zero_le _) (Nat.two_pow_pos _)
    simp [Prec.mul, p.isNan_zero, Prec.isNan_of_normal hm, Prec.isInf_of_normal hm, zero, inf, sign]
  rw [FpOp.verdict, Prec.flush_of_subnormal hz hn, Prec.flush_of_normal scr hm]
  simp only [FpOp.operands, FpOp.compute, FpOp.risk, FpOp.isInvalid, product]
  rw [judge_run (by simp [bad, Prec.badInput_of_subnormal hz hid hn])
    (by simp [Prec.isSnan_of_not_nan (Prec.isNan_of_subnormal hn), Prec.isSnan_of_normal hm, Prec.isInf_of_normal hm, inf])
    (by simp) (by simp [Prec.mulRisk, normal]) (by rw [hz]; rfl)]
  simp [hn, flagIf, Computed.also, fpIdc, exactly, Prec.zero]

/-! NaN operands in default NaN mode (R510, R511) -/

theorem Prec.isInf_of_nan {v : DWord} (h : p.isNan v = true) : p.isInf v = false := by
  simp only [Prec.isNan, Prec.isInf] at *
  cases hc : p.classOf v <;> simp_all

theorem Prec.isZero_of_nan {v : DWord} (h : p.isNan v = true) : p.isZero v = false := by
  simp only [Prec.isNan, Prec.isZero] at *
  cases hc : p.classOf v <;> simp_all

theorem Prec.isNan_neg (v : DWord) : p.isNan (p.neg v) = p.isNan v := by rw [Prec.isNan, Prec.classOf_neg, ← Prec.isNan]
theorem Prec.isSnan_neg (v : DWord) : p.isSnan (p.neg v) = p.isSnan v := by rw [Prec.isSnan, Prec.classOf_neg, ← Prec.isSnan]

theorem Prec.isNan_nan (p : Prec) : p.isNan p.nan = true := by rw [Prec.isNan, Prec.classOf_nan]; rfl

/-- A zero times an infinity (R517). -/
def Prec.zeroTimesInf (p : Prec) (n m : DWord) : Bool := (p.isZero n && p.isInf m) || (p.isInf n && p.isZero m)

/-- A product with a NaN is no zero times an infinity. -/
theorem Prec.zeroTimesInf_of_nan (h : p.isNan n = true ∨ p.isNan m = true) : p.zeroTimesInf n m = false := by
  rcases h with h | h <;> simp [Prec.zeroTimesInf, Prec.isInf_of_nan h, Prec.isZero_of_nan h]

theorem flagIf_or (a b : Bool) (f : Word) : flagIf a f ||| flagIf b f = flagIf (a || b) f := by
  cases a <;> cases b <;> simp [flagIf]

theorem FpOp.sumInvalid_of_nan (h : p.isNan d = true) : op.sumInvalid p d n m = false := by
  simp [FpOp.sumInvalid, Prec.isInf_of_nan h]

theorem Prec.add_of_nan (h : p.isNan n = true ∨ p.isNan m = true) : p.add mode n m = nanResult p [n, m] :=
  if_pos (Bool.or_eq_true_iff.mpr h)

theorem Prec.mul_of_nan (h : p.isNan n = true ∨ p.isNan m = true) : p.mul mode n m = nanResult p [n, m] :=
  if_pos (Bool.or_eq_true_iff.mpr h)

theorem Prec.div_of_nan (h : p.isNan n = true ∨ p.isNan m = true) : p.div mode n m = nanResult p [n, m] :=
  if_pos (Bool.or_eq_true_iff.mpr h)

theorem pair_any {f : DWord → Bool} (h : [n, m].any f = true) : f n = true ∨ f m = true := by simpa using h

/-- The operands of a multiply-accumulate are all three. -/
theorem FpOp.operands_accumulate (h : op.accumulates = true) : op.operands d n m = [d, n, m] := by
  cases op <;> simp [FpOp.accumulates] at h <;> rfl

section

variable (h : (op.operands d n m).any p.isNan = true)
include h

/-- A multiply-accumulate whose factors are no NaNs has one as its accumulator. -/
theorem FpOp.isNan_accumulator (hop : op.accumulates = true) (hn : p.isNan n = false) (hm : p.isNan m = false) :
    p.isNan d = true := by
  rw [FpOp.operands_accumulate hop] at h
  simpa [hn, hm] using h

/-- Beside a NaN only a multiply-accumulate can be invalid, by its product. -/
theorem FpOp.isInvalid_of_nan : op.isInvalid p d n m = (op.accumulates && p.zeroTimesInf n m) := by
  have sum (hop : op.accumulates = true) : (!p.isNan n && !p.isNan m && op.sumInvalid p d n m) = false := by
    cases hn : p.isNan n <;> cases hm : p.isNan m
    · rw [FpOp.sumInvalid_of_nan (FpOp.isNan_accumulator h hop hn hm), Bool.and_false]
    all_goals rfl
  cases op
  case add | sub => rcases pair_any h with h | h <;> simp [FpOp.isInvalid, FpOp.accumulates, Prec.isInf_of_nan h]
  case mul | nmul => exact Prec.zeroTimesInf_of_nan (pair_any h)
  case div =>
    rcases pair_any h with h | h <;>
      simp [FpOp.isInvalid, FpOp.accumulates, Prec.isInf_of_nan h, Prec.isZero_of_nan h]
  case sqrt =>
    have hm : p.isNan m = true := by simpa [FpOp.operands] using h
    simp [FpOp.isInvalid, FpOp.accumulates, hm]
  case mac | nmac | msc | nmsc => exact (congrArg _ (sum rfl)).trans (Bool.or_false _)

theorem FpOp.risk_of_nan : op.risk p scr d n m = (false, false) := by
  cases op
  case add | sub | mul | nmul | div =>
    rcases pair_any h with h | h <;>
      simp [FpOp.risk, Prec.addRisk, Prec.mulRisk, Prec.divRisk, Prec.isNormal_neg, Prec.isNormal_of_nan h]
  case sqrt => rfl
  case mac | nmac | msc | nmsc =>
    refine if_pos ?_
    have : p.isNan d = true ∨ p.isNan n = true ∨ p.isNan m = true := by simpa [FpOp.operands] using h
    rcases this with h | h | h <;> simp [Prec.isNormal_of_nan h]

theorem FpOp.divides_zero_of_nan :
    (decide (op = .div) && p.isZero m && (p.isNormal n || p.isSubnormal n)) = false := by
  by_cases hop : op = .div
  · subst hop
    rcases pair_any h with h | h <;>
      simp [Prec.isZero_of_nan h, Prec.isNormal_of_nan h, Prec.isSubnormal_of_nan h]
  · simp [hop]

theorem FpOp.compute_of_nan : op.compute p mode d n m =
    { bits := p.nan
      flags := flagIf ((op.operands d n m).any p.isSnan) fpIoc |||
        (if op.accumulates && !p.isNan n && !p.isNan m then (p.mul mode n m).flags else 0) } := by
  cases hop : op.accumulates
  case false =>
    simp only [Bool.false_and, Bool.false_eq_true, if_false, or_noFlags]
    cases op
    case add => exact Prec.add_of_nan (pair_any h)
    case mul => exact Prec.mul_of_nan (pair_any h)
    case div => exact Prec.div_of_nan (pair_any h)
    case sub =>
      refine (Prec.add_of_nan ((pair_any h).imp_right (Prec.isNan_neg m).trans)).trans ?_
      simp [nanResult, FpOp.operands, Prec.isSnan_neg]
    case nmul =>
      have product := Prec.mul_of_nan (mode := mode) (pair_any h)
      simp only [FpOp.compute, product]
      exact if_pos p.isNan_nan
    case sqrt => exact if_pos (by simpa [FpOp.operands] using h)
    case mac | nmac | msc | nmsc => exact absurd hop (by decide)
  case true =>
    have any : (p.isNan d || p.isNan n || p.isNan m) = true := by
      rw [FpOp.operands_accumulate hop] at h
      simpa [or_assoc] using h
    rw [FpOp.compute_accumulate hop, if_pos any, FpOp.product_flags, FpOp.operands_accumulate hop]
    by_cases hf : p.isNan n = true ∨ p.isNan m = true
    · have clear : (true && !p.isNan n && !p.isNan m) = false := by rcases hf with hf | hf <;> simp [hf]
      rw [clear, Prec.mul_of_nan hf]
      have flags : flagIf ([n, m].any p.isSnan) fpIoc ||| flagIf ([d, n, m].any p.isSnan) fpIoc =
          flagIf ([d, n, m].any p.isSnan) fpIoc := by
        rw [flagIf_or, List.any_cons (a := d), ← Bool.or_assoc, Bool.or_right_comm, Bool.or_self, Bool.or_comm]
      exact congrArg (Computed.mk p.nan) (flags.trans (or_noFlags _).symm)
    · have set : (true && !p.isNan n && !p.isNan m) = true := by simpa using hf
      rw [set, if_pos rfl, BitVec.or_comm]
      rfl

end

/-! A flush changes the class of a subnormal number only. -/

theorem Prec.classOf_flush (p : Prec) (scr : Word) (v : DWord) :
    p.classOf (p.flush scr v) = if flushMode scr && p.isSubnormal v then .zero else p.classOf v := by
  unfold Prec.flush
  split
  · exact p.classOf_zero false
  · rfl

theorem Prec.isNan_flush (p : Prec) (scr : Word) (v : DWord) : p.isNan (p.flush scr v) = p.isNan v := by
  cases h : p.isSubnormal v
  · rw [Prec.flush_of_not_subnormal scr h]
  · rw [Prec.isNan_of_subnormal h, Prec.isNan, Prec.classOf_flush]
    simp only [Prec.isSubnormal, beq_iff_eq] at h
    split <;> simp [h]

theorem Prec.isSnan_flush (p : Prec) (scr : Word) (v : DWord) : p.isSnan (p.flush scr v) = p.isSnan v := by
  cases h : p.isSubnormal v
  · rw [Prec.flush_of_not_subnormal scr h]
  · have := Prec.isNan_of_subnormal h
    rw [Prec.isSnan_of_not_nan this, Prec.isSnan_of_not_nan (by rwa [Prec.isNan_flush])]

theorem FpOp.operands_map (op : FpOp) (f : DWord → DWord) (d n m : DWord) :
    op.operands (f d) (f n) (f m) = (op.operands d n m).map f := by cases op <;> rfl

theorem FpOp.operands_flush_any {q : DWord → Bool} (hq : ∀ v, q (p.flush scr v) = q v) :
    (op.operands (p.flush scr d) (p.flush scr n) (p.flush scr m)).any q = (op.operands d n m).any q := by
  rw [FpOp.operands_map, List.any_map]
  exact congrArg _ (funext hq)

/-- In default NaN mode an operation with a NaN does not bounce where its operands are handled and no trapped exception is
met, and gives the default NaN. -/
theorem FpOp.verdict_of_nan (hd : defaultNanMode scr = true) (hn : (op.operands d n m).any p.isNan = true)
    (hs : (op.operands d n m).any p.isSubnormal = true → flushMode scr = true ∧ enabledId scr = false)
    (hi : enabledIo scr = true → (op.operands d n m).any p.isSnan = false ∧
      (op.accumulates && p.zeroTimesInf (p.flush scr n) (p.flush scr m)) = false) :
    op.verdict p scr d n m = .done
      { bits := p.nan
        flags := flagIf ((op.operands d n m).any p.isSnan) fpIoc ||| flagIf ((op.operands d n m).any p.isSubnormal) fpIdc |||
          (if op.accumulates && !p.isNan n && !p.isNan m then
            (p.mul (roundingOf scr) (p.flush scr n) (p.flush scr m)).flags else 0) } := by
  have nan : (op.operands (p.flush scr d) (p.flush scr n) (p.flush scr m)).any p.isNan = true :=
    (FpOp.operands_flush_any (p.isNan_flush scr)).trans hn
  have bad : (op.operands d n m).any (p.badInput scr) = false := by
    refine List.any_eq_false.mpr fun v hv => Bool.eq_false_iff.mp ?_
    exact Prec.badInput_eq_false (fun _ => hd) fun h => hs (List.any_eq_true.mpr ⟨v, hv, h⟩)
  have invalid : (enabledIo scr && ((op.operands d n m).any p.isSnan ||
      op.isInvalid p (p.flush scr d) (p.flush scr n) (p.flush scr m))) = false := by
    rw [FpOp.isInvalid_of_nan nan]
    cases hio : enabledIo scr
    · rfl
    · simp [hi hio]
  rw [FpOp.verdict, FpOp.risk_of_nan nan, judge_run bad invalid (FpOp.divides_zero_of_nan nan) rfl (by simp),
    FpOp.compute_of_nan nan, FpOp.operands_flush_any (p.isSnan_flush scr), Prec.isNan_flush, Prec.isNan_flush]
  refine congrArg (fun f => Verdict.done (Computed.mk p.nan f)) ?_
  rw [← BitVec.or_assoc, BitVec.or_comm (flagIf _ fpIdc)]

end

end Sys2Proof.Machine

namespace Sys2Proof.Machine

/-! Short vectors (R494, R501 to R504) -/

section

variable {p : Prec} {stride len : Nat} {a b : BitVec 5}

theorem Prec.at_eq (p : Prec) (stride i : Nat) (r : BitVec 5) : p.at stride i r =
    BitVec.ofNat 5 (r.toNat / p.bank * p.bank + (r.toNat % p.bank + i * stride) % p.bank) := by
  rw [Prec.at, Nat.mod_add_mod]

/-- A vector begins at its register. -/
theorem Prec.at_zero (p : Prec) (stride : Nat) (r : BitVec 5) : p.at stride 0 r = r := by
  rw [Prec.at, Nat.zero_mul, Nat.add_zero, Nat.div_add_mod', BitVec.ofNat_toNat, BitVec.setWidth_eq]

theorem Prec.sequence_ne_iff (hl : 0 < len) : p.sequence stride len a ≠ p.sequence stride len b ↔ a ≠ b := by
  refine not_congr ⟨fun h => ?_, fun h => h ▸ rfl⟩
  have first (r : BitVec 5) : (p.sequence stride len r)[0]? = some r := by
    simp [Prec.sequence, List.getElem?_range hl, Prec.at_zero]
  exact Option.some.inj ((first a).symm.trans ((congrArg (·[0]?) h).trans (first b)))

/-- Two vectors clash where they begin at different registers and have one in common (R504). -/
theorem clash_iff (hl : 0 < len) : clash (p.sequence stride len a) (p.sequence stride len b) = true ↔
    a ≠ b ∧ ∃ i j, i < len ∧ j < len ∧ p.at stride i a = p.at stride j b := by
  rw [clash, Bool.and_eq_true, bne_iff_ne, Prec.sequence_ne_iff hl]
  refine and_congr_right fun _ => ?_
  simp only [Prec.sequence, List.any_eq_true, List.contains_iff_mem, List.mem_map, List.mem_range]
  constructor
  · rintro ⟨-, ⟨i, hi, rfl⟩, j, hj, h⟩
    exact ⟨i, j, hi, hj, h.symm⟩
  · rintro ⟨i, j, hi, hj, h⟩
    exact ⟨_, ⟨i, hi, rfl⟩, j, hj, h.symm⟩

theorem clash_nil (l : List (BitVec 5)) : clash l [] = false := by
  simp [clash]

end

/-! The arithmetic instructions -/

section

variable {s : State} {p : Prec} {op : FpOp} {d n m : BitVec 5}

theorem State.vectorLength_pos (s : State) : 0 < s.vectorLength := Nat.succ_pos _

theorem State.isScalar_iff : s.isScalar p d = true ↔ s.vectorLength = 1 ∨ d.toNat < p.bank := by
  simp [State.isScalar]

/-- A source vector overlaps the destination (R504): Fn where the operation has it, Fm where it is no scalar. -/
def State.vectorClash (s : State) (p : Prec) (useN : Bool) (d n m : BitVec 5) : Prop :=
  let meets (a b : BitVec 5) : Prop := a ≠ b ∧ ∃ i j, i < s.vectorLength ∧ j < s.vectorLength ∧
    p.at s.vectorStride i a = p.at s.vectorStride j b
  (useN = true ∧ meets d n) ∨ (p.bank ≤ m.toNat ∧ meets d m)

theorem State.vectorClash_iff {useN : Bool} : s.vectorClash p useN d n m ↔
    ((useN && clash (p.sequence s.vectorStride s.vectorLength d) (p.sequence s.vectorStride s.vectorLength n)) ||
      clash (p.sequence s.vectorStride s.vectorLength d)
        (if m.toNat < p.bank then [] else p.sequence s.vectorStride s.vectorLength m)) = true := by
  rw [Bool.or_eq_true, Bool.and_eq_true, clash_iff s.vectorLength_pos, State.vectorClash]
  refine or_congr_right ?_
  split
  · next h => simp [clash_nil, Nat.not_le.mpr h]
  · next h => simp [clash_iff s.vectorLength_pos, Nat.not_lt.mp h]

section

variable {body : BitVec 5 → BitVec 5 → BitVec 5 → Nat → Exec Bool} {useN : Bool} (hv : s.isScalar p d = false)
  (hs : s.strideDefined = true) (hb : s.vectorLength * s.vectorStride ≤ p.bank)
include hv hs hb

theorem shortVector_clash (hc : s.vectorClash p useN d n m) :
    shortVector p d n m useN body s = .error (.refused .vfpVectorOverlap) :=
  (shortVector_vector n m useN body hv hs hb).trans (if_pos (State.vectorClash_iff.mp hc))

theorem shortVector_runs (hc : ¬s.vectorClash p useN d n m) : shortVector p d n m useN body s =
    vectorFrom p s.vectorStride d n m body 0 s.vectorLength s :=
  (shortVector_vector n m useN body hv hs hb).trans (if_neg fun h => hc (State.vectorClash_iff.mpr h))

end

theorem inexactBounce_took (h : enabledIx s.vfp.fpscr = true) : inexactBounce s =
    .error (.took { s with vfp := { s.vfp with fpexc := s.vfp.fpexc ||| 0x80000000#32 } }.undefined) := if_pos h

/-- A scalar operation is one iteration. -/
theorem iterate_scalar (base : Word) : ∃ go, iterate p op base d n m 0 s =
    .ok (go, s.iterated p op base (fun _ => d) (fun _ => n) (fun _ => m) 0 1) := by
  unfold State.iterated
  split
  · next h => exact ⟨_, iterate_bounce base 0 h⟩
  · next h => exact ⟨_, iterate_done base 0 h⟩

section

variable (base : Word) (hu : s.vfpUsable p.isDouble = true)
include hu

/-- With IXE set every arithmetic instruction bounces, before its shape is looked at (R522). -/
theorem vectorArithmetic_inexact (hx : enabledIx s.vfp.fpscr = true) : vectorArithmetic p op base d n m s =
    .error (.took { s with vfp := { s.vfp with fpexc := s.vfp.fpexc ||| 0x80000000#32 } }.undefined) := by
  rw [vectorArithmetic, exec_bind_ok (vfpReady_run hu), exec_bind_error (inexactBounce_took hx)]

variable (hx : enabledIx s.vfp.fpscr = false)
include hx

theorem vectorArithmetic_stride (hs : s.strideDefined = false) :
    vectorArithmetic p op base d n m s = .error (.refused .vfpVectorShape) := by
  rw [vectorArithmetic, exec_bind_ok (vfpReady_run hu), exec_bind_ok (inexactBounce_run hx), exec_bind_ok (look_run _ s), hs]
  rfl

/-- Where the stride is defined, the instruction is its short vector. -/
theorem vectorArithmetic_eq (hs : s.strideDefined = true) : vectorArithmetic p op base d n m s =
    (shortVector p d n m (op != .sqrt) (iterate p op base) >>= fun _ => advance) s := by
  rw [vectorArithmetic, exec_bind_ok (vfpReady_run hu), exec_bind_ok (inexactBounce_run hx), exec_bind_ok (look_run _ s), hs]
  rfl

theorem vectorArithmetic_scalar (hs : s.strideDefined = true) (hv : s.isScalar p d = true) :
    vectorArithmetic p op base d n m s =
      .ok ((), (s.iterated p op base (fun _ => d) (fun _ => n) (fun _ => m) 0 1).next) := by
  obtain ⟨go, h⟩ := iterate_scalar (s := s) (p := p) (op := op) (d := d) (n := n) (m := m) base
  rw [vectorArithmetic_eq base hu hx hs, exec_bind_ok (shortVector_scalar hv h), advance_run]

theorem vectorArithmetic_shape (hs : s.strideDefined = true) (hv : s.isScalar p d = false)
    (hb : p.bank < s.vectorLength * s.vectorStride) :
    vectorArithmetic p op base d n m s = .error (.refused .vfpVectorShape) := by
  rw [vectorArithmetic_eq base hu hx hs, exec_bind_error (shortVector_shape _ _ _ _ hv (.inr hb))]

theorem vectorArithmetic_clash (hs : s.strideDefined = true) (hv : s.isScalar p d = false)
    (hb : s.vectorLength * s.vectorStride ≤ p.bank) (hc : s.vectorClash p (op != .sqrt) d n m) :
    vectorArithmetic p op base d n m s = .error (.refused .vfpVectorOverlap) := by
  rw [vectorArithmetic_eq base hu hx hs, exec_bind_error (shortVector_clash hv hs hb hc)]

theorem vectorArithmetic_vector (hs : s.strideDefined = true) (hv : s.isScalar p d = false)
    (hb : s.vectorLength * s.vectorStride ≤ p.bank) (hc : ¬s.vectorClash p (op != .sqrt) d n m) :
    vectorArithmetic p op base d n m s = .ok ((), (s.iterated p op base (p.at s.vectorStride · d)
      (p.at s.vectorStride · n) (p.last s.vectorStride m) 0 s.vectorLength).next) := by
  rw [vectorArithmetic_eq base hu hx hs,
    exec_bind_ok ((shortVector_runs hv hs hb hc).trans (vectorFrom_iterate p op base _ d n m _ 0 s)), advance_run]

end

/-! Moves -/

/-- A move depends on what it does to the values of registers only. -/
theorem vectorMove_congr {f g : DWord → DWord} (h : ∀ (t : State) r, f (t.fp p r) = g (t.fp p r)) :
    vectorMove p f d m = vectorMove p g d m := by
  have body : moveOne p f = moveOne p g := by
    funext d n m k
    simp only [moveOne, h]
  rw [vectorMove, vectorMove, body]

section

variable (f : DWord → DWord) (hu : s.vfpUsable p.isDouble = true) (hv : s.isScalar p d = false)
include hu hv

theorem vectorMove_shape (hs : s.strideDefined = false ∨ p.bank < s.vectorLength * s.vectorStride) :
    vectorMove p f d m s = .error (.refused .vfpVectorShape) := by
  rw [vectorMove, exec_bind_ok (vfpReady_run hu), exec_bind_error (shortVector_shape _ _ _ _ hv hs)]

variable (hs : s.strideDefined = true) (hb : s.vectorLength * s.vectorStride ≤ p.bank)
include hs hb

theorem vectorMove_clash (hc : s.vectorClash p false d m m) :
    vectorMove p f d m s = .error (.refused .vfpVectorOverlap) := by
  rw [vectorMove, exec_bind_ok (vfpReady_run hu), exec_bind_error (shortVector_clash hv hs hb hc)]

theorem vectorMove_vector (hc : ¬s.vectorClash p false d m m) : vectorMove p f d m s =
    .ok ((), ((List.range s.vectorLength).foldl (fun t i => t.setFp p (p.at s.vectorStride i d)
      (f (t.fp p (p.last s.vectorStride m i)))) s).next) := by
  rw [vectorMove, exec_bind_ok (vfpReady_run hu),
    exec_bind_ok ((shortVector_runs hv hs hb hc).trans (vectorFrom_move p f _ d m m _ 0 s)), advance_run,
    List.range_eq_range']

end

end

end Sys2Proof.Machine

namespace Sys2Proof.Machine

/-! The results of VfpArithmeticResults -/

section

variable {p : Prec} {scr : Word} {n m v : DWord}

theorem Prec.isInf_flush (p : Prec) (scr : Word) (v : DWord) : p.isInf (p.flush scr v) = p.isInf v := by
  cases h : p.isSubnormal v
  · rw [Prec.flush_of_not_subnormal scr h]
  · rw [Prec.isInf, Prec.isInf, Prec.classOf_flush]
    simp only [Prec.isSubnormal, beq_iff_eq] at h
    split <;> simp [h]

/-- A flushed number is zero where it was zero or subnormal. -/
theorem Prec.isZero_flush (h : p.isSubnormal v = true → flushMode scr = true) :
    p.isZero (p.flush scr v) = (p.isZero v || p.isSubnormal v) := by
  cases hs : p.isSubnormal v
  · rw [Prec.flush_of_not_subnormal scr hs, Bool.or_false]
  · rw [Prec.flush_of_subnormal (h hs) hs, Prec.isZero_zero, Bool.or_true]

/-- A zero or a subnormal number times an infinity: flushed, a zero times an infinity. -/
def Prec.nilTimesInf (p : Prec) (n m : DWord) : Bool :=
  (p.isInf n && (p.isZero m || p.isSubnormal m)) || ((p.isZero n || p.isSubnormal n) && p.isInf m)

theorem Prec.zeroTimesInf_flush (hn : p.isSubnormal n = true → flushMode scr = true)
    (hm : p.isSubnormal m = true → flushMode scr = true) :
    p.zeroTimesInf (p.flush scr n) (p.flush scr m) = p.nilTimesInf n m := by
  rw [Prec.zeroTimesInf, Prec.isZero_flush hn, Prec.isZero_flush hm, Prec.isInf_flush, Prec.isInf_flush, Bool.or_comm,
    Prec.nilTimesInf]

theorem Prec.mul_of_zeroTimesInf {mode : Rounding} (hn : p.isNan n = false) (hm : p.isNan m = false)
    (h : p.zeroTimesInf n m = true) : p.mul mode n m = invalid p :=
  (if_neg (by simp [hn, hm])).trans (if_pos h)

theorem Prec.nan_eq (p : Prec) : p.nan = if p = .single then 0x7FC00000#64 else 0x7FF8000000000000#64 := by
  cases p <;> rfl

/-- `FpOp.verdict_of_nan` in terms of the operands as they stand, before the flush. -/
theorem FpOp.verdict_of_nan_operands {op : FpOp} {d : DWord} (hd : defaultNanMode scr = true)
    (hnan : (op.operands d n m).any p.isNan = true)
    (hs : (op.operands d n m).any p.isSubnormal = true → flushMode scr = true ∧ enabledId scr = false)
    (hi : enabledIo scr = true →
      (op.operands d n m).any p.isSnan = false ∧ (op.accumulates && p.nilTimesInf n m) = false) :
    op.verdict p scr d n m = .done
      { bits := p.nan
        flags := flagIf ((op.operands d n m).any p.isSnan) fpIoc ||| flagIf ((op.operands d n m).any p.isSubnormal) fpIdc |||
          (if op.accumulates && !p.isNan n && !p.isNan m then
            (if p.nilTimesInf n m then fpIoc else (p.mul (roundingOf scr) (p.flush scr n) (p.flush scr m)).flags)
            else 0) } := by
  have product (hop : op.accumulates = true) : p.zeroTimesInf (p.flush scr n) (p.flush scr m) = p.nilTimesInf n m := by
    have flushes {v : DWord} (hv : v ∈ op.operands d n m) (h : p.isSubnormal v = true) : flushMode scr = true :=
      (hs (List.any_eq_true.mpr ⟨v, hv, h⟩)).1
    rw [FpOp.operands_accumulate hop] at flushes
    exact Prec.zeroTimesInf_flush (flushes (by simp)) (flushes (by simp))
  have invalid : (op.accumulates && p.zeroTimesInf (p.flush scr n) (p.flush scr m)) =
      (op.accumulates && p.nilTimesInf n m) := by
    cases hop : op.accumulates
    · rfl
    · rw [product hop]
  rw [FpOp.verdict_of_nan hd hnan hs (invalid ▸ hi)]
  refine congrArg (fun f => Verdict.done (Computed.mk p.nan f)) ?_
  refine congrArg _ <| ite_congr rfl (fun h => ?_) fun _ => rfl
  simp only [Bool.and_eq_true, Bool.not_eq_true'] at h
  obtain ⟨⟨hop, hn⟩, hm⟩ := h
  split
  · next hp =>
    rw [Prec.mul_of_zeroTimesInf ((p.isNan_flush scr n).trans hn) ((p.isNan_flush scr m).trans hm)
      ((product hop).trans hp)]
    rfl
  · rfl

end

/-! The moves, with the masks of the two precisions (R1455 to R1457) -/

section

variable {c : Cond} {s : State} {dB mB : Bool} {fd fm : BitVec 4}

theorem neg_single (v : DWord) : Prec.neg .single v = v ^^^ 0x80000000#64 := by
  have sign : 1#64 <<< Prec.sign .single = 0x80000000#64 := by decide
  rw [Prec.neg, sign]

theorem neg_double (v : DWord) : Prec.neg .double v = v ^^^ 0x8000000000000000#64 := by
  have sign : 1#64 <<< Prec.sign .double = 0x8000000000000000#64 := by decide
  rw [Prec.neg, sign]

/-- A single number stands in the low word. -/
theorem fp_single_low (t : State) (r : BitVec 5) : t.fp .single r = t.fp .single r &&& 0xFFFFFFFF#64 := by
  calc (t.single r).setWidth 64 = (t.single r &&& BitVec.allOnes 32).setWidth 64 := by rw [BitVec.and_allOnes]
    _ = (t.single r).setWidth 64 &&& (BitVec.allOnes 32).setWidth 64 := BitVec.setWidth_and

/-- To clear the sign of a single number is to keep its low 31 bits. -/
theorem clearSign_single (t : State) (r : BitVec 5) :
    t.fp .single r &&& ~~~(1#64 <<< Prec.sign .single) = t.fp .single r &&& 0x7FFFFFFF#64 := by
  have mask : 0xFFFFFFFF#64 &&& ~~~(1#64 <<< Prec.sign .single) = 0x7FFFFFFF#64 := by decide
  rw [fp_single_low, BitVec.and_assoc, mask, BitVec.and_assoc]
  rfl

theorem exec_fabss : exec (.fabss c dB fd mB fm) s = outcome (conditional c
    (vectorMove .single (fun v => v &&& 0x7FFFFFFF#64) (singleNo fd dB) (singleNo fm mB))) s :=
  congrArg (fun f => outcome (conditional c f) s) (vectorMove_congr clearSign_single)

theorem exec_fabsd : exec (.fabsd c fd fm) s = outcome (conditional c
    (vectorMove .double (fun v => v &&& 0x7FFFFFFFFFFFFFFF#64) (doubleNo fd) (doubleNo fm))) s :=
  congrArg (fun f => outcome (conditional c f) s) (vectorMove_congr fun _ _ => congrArg _ (by decide))

theorem exec_fnegs : exec (.fnegs c dB fd mB fm) s = outcome (conditional c
    (vectorMove .single (fun v => v ^^^ 0x80000000#64) (singleNo fd dB) (singleNo fm mB))) s :=
  congrArg (fun f => outcome (conditional c f) s) (vectorMove_congr fun _ _ => neg_single _)

theorem exec_fnegd : exec (.fnegd c fd fm) s = outcome (conditional c
    (vectorMove .double (fun v => v ^^^ 0x8000000000000000#64) (doubleNo fd) (doubleNo fm))) s :=
  congrArg (fun f => outcome (conditional c f) s) (vectorMove_congr fun _ _ => neg_double _)

end

theorem State.strideDefined_iff {s : State} : s.strideDefined = true ↔
    s.vfp.fpscr.extractLsb' 20 2 = 0b00#2 ∨ s.vfp.fpscr.extractLsb' 20 2 = 0b11#2 := by
  simp [State.strideDefined]

theorem State.strideDefined_eq_false_iff {s : State} : s.strideDefined = false ↔
    s.vfp.fpscr.extractLsb' 20 2 = 0b01#2 ∨ s.vfp.fpscr.extractLsb' 20 2 = 0b10#2 := by
  rw [← Bool.not_eq_true, State.strideDefined_iff]
  rcases access_cases (s.vfp.fpscr.extractLsb' 20 2) with h | h | h | h <;> simp [h]

/-- Settles O50: an instruction is `vectorArithmetic` or `vectorMove`, whose rules answer each shape; the values are
`FpOp.verdict_of_nan_operands` for NaNs, `FpOp.mul_verdict_of_subnormal` and `FpOp.mul_verdict_of_tiny` in flush-to-zero
mode, and for normal numbers the exact magnitude that `Prec.finish` rounds. -/
theorem vfpArithmeticResults : Obligations.VfpArithmeticResults := by
  refine ⟨fun s c fn fd fm dB nB mB hc => ?instructions, fun op p scr d n m => ?nans,
    fun p scr d n m hz hid hm => ⟨fun hn => FpOp.mul_verdict_of_subnormal hz hid hn hm,
      fun hn he => FpOp.mul_verdict_of_tiny hz hn hm he⟩,
    fun p scr d n m r hn hm hf => ?rounded, rfl, rfl⟩
  case instructions =>
    intro d n m stride step count bank reg last scalar overlaps arith move
    have run {m : Exec Unit} {t : State} (h : m s = .ok ((), t)) : outcome (conditional c m) s = .next t :=
      outcome_conditional_of_ok hc h
    have took {m : Exec Unit} {t : State} (h : m s = .error (.took t)) : outcome (conditional c m) s = .next t :=
      outcome_of_took ((conditional_pass m hc).trans h)
    have refused {m : Exec Unit} {r : Refusal} (h : m s = .error (.refused r)) :
        outcome (conditional c m) s = .refused r := outcome_of_refused ((conditional_pass m hc).trans h)
    have hbank (p : Prec) : bank p = p.bank := by cases p <;> rfl
    have hreg (p : Prec) (r : BitVec 5) : reg p r = (p.at s.vectorStride · r) := by
      funext i
      simp only [reg, hbank]
      exact (p.at_eq _ i r).symm
    have hlast (p : Prec) (r : BitVec 5) : last p r = p.last s.vectorStride r := by
      funext i
      simp only [last, hreg, hbank]
      rfl
    have hscalar {p : Prec} {d : BitVec 5} : scalar p d ↔ s.isScalar p d = true := by
      rw [State.isScalar_iff, ← hbank]
      rfl
    have vector {p : Prec} {d : BitVec 5} (h : ¬scalar p d) : s.isScalar p d = false :=
      Bool.eq_false_iff.mpr (hscalar.not.mp h)
    have hclash {p : Prec} {useN : Bool} {d n m : BitVec 5} :
        (useN = true ∧ overlaps p d n) ∨ (bank p ≤ m.toNat ∧ overlaps p d m) ↔ s.vectorClash p useN d n m := by
      simp only [overlaps, hreg, hbank]
      rfl
    have arithmetic {x : Instr} {p : Prec} {op : FpOp} {base : Word} {d n m : BitVec 5}
        (hx : exec x s = outcome (conditional c (vectorArithmetic p op base d n m)) s) : arith x p op base d n m := by
      intro hu
      rw [hx]
      refine ⟨fun hix => took (vectorArithmetic_inexact base hu hix), fun hix => ⟨fun hs =>
        refused (vectorArithmetic_stride base hu hix (State.strideDefined_eq_false_iff.mpr hs)), fun stride => ?_⟩⟩
      have hs := State.strideDefined_iff.mpr stride
      refine ⟨fun hv => run (vectorArithmetic_scalar base hu hix hs (hscalar.mp hv)),
        fun hv hb => refused (vectorArithmetic_shape base hu hix hs (vector hv) (hbank p ▸ hb)),
        fun hv hb => ⟨fun hcl => ?_, fun hcl => ?_⟩⟩
      · exact refused (vectorArithmetic_clash base hu hix hs (vector hv) (hbank p ▸ hb) (hclash.mp (by simpa using hcl)))
      · rw [hreg, hreg, hlast]
        exact run (vectorArithmetic_vector base hu hix hs (vector hv) (hbank p ▸ hb) (hclash.not.mp (by simpa using hcl)))
    have moves {x : Instr} {p : Prec} {f : DWord → DWord} {d m : BitVec 5}
        (hx : exec x s = outcome (conditional c (vectorMove p f d m)) s) : move x p f d m := by
      intro hu badShape clash
      have hbad : badShape ↔ s.strideDefined = false ∨ p.bank < s.vectorLength * s.vectorStride := by
        rw [State.strideDefined_eq_false_iff, ← hbank, or_assoc]
        rfl
      have good (h : ¬badShape) : s.strideDefined = true ∧ s.vectorLength * s.vectorStride ≤ p.bank := by
        simpa using hbad.not.mp h
      rw [hx]
      refine ⟨fun hv => run (vectorMove_run f m hu (hscalar.mp hv)),
        fun hv hb => refused (vectorMove_shape f hu (vector hv) (hbad.mp hb)),
        fun hv hb hcl => ?_, fun hv hb hcl => ?_⟩
      · exact refused (vectorMove_clash f hu (vector hv) (good hb).1 (good hb).2 (hclash.mp (.inr hcl)))
      · rw [hreg, hlast]
        exact run (vectorMove_vector f hu (vector hv) (good hb).1 (good hb).2
          (hclash.not.mp fun h => hcl (h.resolve_left (by simp))))
    refine ⟨?singles, arithmetic rfl, ?doubles, arithmetic rfl, ?movesSingle, ?movesDouble⟩
    case singles | doubles =>
      iterate 9 refine List.forall_mem_cons.mpr ⟨arithmetic rfl, ?_⟩
      exact List.forall_mem_nil _
    case movesSingle =>
      exact List.forall_mem_cons.mpr ⟨moves rfl, List.forall_mem_cons.mpr
        ⟨moves exec_fabss, List.forall_mem_cons.mpr ⟨moves exec_fnegs, List.forall_mem_nil _⟩⟩⟩
    case movesDouble =>
      exact List.forall_mem_cons.mpr ⟨moves rfl, List.forall_mem_cons.mpr
        ⟨moves exec_fabsd, List.forall_mem_cons.mpr ⟨moves exec_fnegd, List.forall_mem_nil _⟩⟩⟩
  case nans =>
    intro raw nil product hd hnan hs hi
    rw [← Prec.nan_eq]
    exact FpOp.verdict_of_nan_operands hd hnan hs hi
  case rounded =>
    intro mode differs e g rounds sum product
    have hproduct (h : (p.mul mode n m).inRange) : product (p.mul mode n m).bits (p.mul mode n m).flags :=
      Prec.mul_roundsTo hn hm h
    refine ⟨fun h => ?mul, fun h => ?nmul, fun h => ?div, fun h => ?add, fun h => ?sub, fun hd x hx h => ?accumulate⟩
    case mul =>
      obtain rfl := FpOp.verdict_of_normal rfl hn hm h
      exact hproduct hf
    case nmul =>
      obtain rfl := FpOp.verdict_of_normal rfl hn hm h
      obtain ⟨hrange, hcompute⟩ := FpOp.compute_nmul_of_normal hn hm hf
      rw [hcompute, Prec.neg_neg]
      exact hproduct hrange
    case div =>
      obtain rfl := FpOp.verdict_of_normal rfl hn hm h
      exact Prec.div_roundsTo hn hm hf
    case add =>
      obtain rfl := FpOp.verdict_of_normal rfl hn hm h
      exact Prec.add_sumRoundsTo hn hm hf
    case sub =>
      obtain rfl := FpOp.verdict_of_normal rfl hn hm h
      exact Prec.add_sumRoundsTo hn ((Prec.isNormal_neg p m).trans hm) hf
    case accumulate =>
      obtain ⟨op, negP, negA⟩ := x
      obtain ⟨hop, rfl, rfl⟩ : op.accumulates = true ∧ negP = op.negatesProduct ∧ negA = op.negatesAccumulator := by
        simp only [List.mem_cons, Prod.mk.injEq, List.not_mem_nil, or_false] at hx
        obtain ⟨rfl, rfl, rfl⟩ | ⟨rfl, rfl, rfl⟩ | ⟨rfl, rfl, rfl⟩ | ⟨rfl, rfl, rfl⟩ := hx <;> decide
      obtain rfl := FpOp.verdict_of_three (FpOp.operands_accumulate hop) hd hn hm h
      obtain ⟨hrange, hsum⟩ := FpOp.accumulate_roundsTo hop hd hn hm hf
      exact ⟨_, _, hproduct hrange, hsum⟩

end Sys2Proof.Machine

namespace Sys2Proof.Machine

/-! The canonical form of memory -/

/-- The first byte of a memory reads as what is listed. -/
theorem Memory.read_head (a : Nat) (b : Byte) (m : List Host.Cell) : Memory.read ((a, b) :: m) a = b := if_pos rfl

/-- A byte above the first reads as in the rest. -/
theorem Memory.read_tail {a k : Nat} (b : Byte) (m : List Host.Cell) (h : a < k) :
    Memory.read ((a, b) :: m) k = Memory.read m k := by
  simp only [Memory.read, if_neg (Nat.ne_of_gt h), if_neg (Nat.lt_asymm h)]

/-- A listed byte is not zero, so that the other memory lists one too, and no later. -/
theorem Memory.head_le_of_read_eq {a a' : Nat} {b b' : Byte} {m m' : List Host.Cell} (hb : b ≠ 0)
    (hm' : Memory.above a' m') (h : Memory.read ((a, b) :: m) a = Memory.read ((a', b') :: m') a) : a' ≤ a := by
  by_contra hlt
  have above : Memory.above a ((a', b') :: m') := by
    intro c hc
    rcases List.mem_cons.mp hc with rfl | hc
    · exact Nat.lt_of_not_le hlt
    · exact (Nat.lt_of_not_le hlt).trans (hm' c hc)
  rw [Memory.read_head, Memory.read_above a _ above] at h
  exact hb h

/-- A memory in canonical form is the list of the bytes that read as other than zero. -/
theorem Memory.eq_of_read_eq {m m' : List Host.Cell} (hw : Memory.wf m = true) (hw' : Memory.wf m' = true)
    (h : ∀ k, Memory.read m k = Memory.read m' k) : m = m' := by
  induction m generalizing m' with
  | nil =>
    cases m' with
    | nil => rfl
    | cons c m' =>
      obtain ⟨hb, -, -⟩ := (Memory.wf_cons c.1 c.2 m').mp hw'
      exact absurd ((Memory.read_head c.1 c.2 m').symm.trans (h c.1).symm) hb
  | cons c m ih =>
    obtain ⟨hb, hm, hw⟩ := (Memory.wf_cons c.1 c.2 m).mp hw
    cases m' with
    | nil => exact absurd ((Memory.read_head c.1 c.2 m).symm.trans (h c.1)) hb
    | cons c' m' =>
      obtain ⟨hb', hm', hw'⟩ := (Memory.wf_cons c'.1 c'.2 m').mp hw'
      have key : c.1 = c'.1 :=
        Nat.le_antisymm (Memory.head_le_of_read_eq hb' hm (h c'.1).symm) (Memory.head_le_of_read_eq hb hm' (h c.1))
      have value : c.2 = c'.2 := by
        calc c.2 = Memory.read (c :: m) c.1 := (Memory.read_head c.1 c.2 m).symm
          _ = Memory.read (c' :: m') c.1 := h c.1
          _ = c'.2 := by rw [key]; exact Memory.read_head c'.1 c'.2 m'
      have rest (k : Nat) : Memory.read m k = Memory.read m' k := by
        by_cases hk : c.1 < k
        · calc Memory.read m k = Memory.read (c :: m) k := (Memory.read_tail c.2 m hk).symm
            _ = Memory.read (c' :: m') k := h k
            _ = Memory.read m' k := Memory.read_tail c'.2 m' (key ▸ hk)
        · have below {l : List Host.Cell} (hl : Memory.above c.1 l) : Memory.read l k = 0 :=
            Memory.read_above k l fun d hd => (Nat.le_of_not_lt hk).trans_lt (hl d hd)
          rw [below hm, below (key ▸ hm')]
      rw [Prod.ext key value, ih hw hw' rest]

/-- Settles O57: the first bytes of two canonical memories that read alike are the same, and so are the rests. -/
theorem memoryExtensional : Obligations.MemoryExtensional :=
  ⟨fun _ _ hw hw' h => Memory.eq_of_read_eq hw hw' h,
    fun m k j v hw => ⟨Memory.wf_write m k v hw, Memory.read_write_same m k v hw,
      Memory.read_write_other m j k v hw⟩⟩

end Sys2Proof.Machine

namespace Sys2Proof.Machine

/-! The alignment check and its fault -/

/-- Clearing low bits takes them away. -/
theorem and_not_eq_sub (a m : Word) : a &&& ~~~m = a - (a &&& m) := by
  have disjoint : (a &&& ~~~m) &&& (a &&& m) = 0 := by ext; simp; tauto
  have whole : (a &&& ~~~m) ||| (a &&& m) = a := by
    ext i hi
    cases hm : m[i] <;> simp [hm]
  rw [BitVec.eq_sub_iff_add_eq, BitVec.add_eq_or_of_and_eq_zero _ _ disjoint, whole]

/-- Clearing the low bits of an address rounds it down to a multiple of a power of two. -/
theorem and_not_low (a : Word) {k : Nat} (hk : k < 32) :
    a &&& ~~~BitVec.ofNat 32 (2 ^ k - 1) = a - BitVec.ofNat 32 (a.toNat % 2 ^ k) := by
  have hlow : a &&& BitVec.ofNat 32 (2 ^ k - 1) = BitVec.ofNat 32 (a.toNat % 2 ^ k) := by
    have hp : 2 ^ k < 2 ^ 32 := Nat.pow_lt_pow_right (by omega) hk
    have hm : a.toNat % 2 ^ k < 2 ^ 32 := (Nat.mod_lt _ (Nat.two_pow_pos k)).trans hp
    refine BitVec.eq_of_toNat_eq ?_
    rw [BitVec.toNat_and, BitVec.toNat_ofNat, BitVec.toNat_ofNat, Nat.mod_eq_of_lt hm,
      Nat.mod_eq_of_lt (by omega : 2 ^ k - 1 < 2 ^ 32), Nat.and_two_pow_sub_one_eq_mod]
  rw [and_not_eq_sub, hlow]

/-- A legacy access is made at the address rounded down, of which the low bits are dropped. -/
theorem alignmentCheck_unaligned {a u pc : Bool} {addr : Word} {t : AccType} (h : addr.toNat % t.size u ≠ 0) :
    alignmentCheck a u addr t pc =
      if a then .fault
      else if u then
        match t with
        | .half | .wload | .wstore => if pc then .fault else .at addr true
        | _ => .fault
      else
        match t with
        | .half | .hwsync => .at (addr - BitVec.ofNat 32 (addr.toNat % 2)) false
        | .wload => if pc then .refused .legacyPcLoad else .at (addr - BitVec.ofNat 32 (addr.toNat % 4)) false
        | .wstore | .wsync | .multi => .at (addr - BitVec.ofNat 32 (addr.toNat % 4)) false
        | .twoWord => .refused .legacyDoubleword
        | .dwsync => .at (addr - BitVec.ofNat 32 (addr.toNat % 8)) false
        | .byte | .bsync => .at addr false := by
  unfold alignmentCheck
  rw [if_neg h]
  have h1 := and_not_low addr (k := 1) (by omega)
  have h2 := and_not_low addr (k := 2) (by omega)
  have h3 := and_not_low addr (k := 3) (by omega)
  cases t <;> simp_all


/-- The abort of an alignment fault writes the fault status of the current world, and enters the exception. -/
theorem State.dataAbort_alignment (s : State) (far : Word) (write : Bool) :
    s.dataAbort { status := 0b00001, domain := none, error := none } far write =
      let t := s.setBankOf (!s.isSecure) fun b => { b with
        far := far, dfsr := if write then 0x801#32 else 0x001#32 }
      let u := { t with dbg := { t.dbg with watchHit := none } }
      if s.halted then { u with dbg := { u.dbg with dscr := u.dbg.dscr ||| 0x40#32 } }
      else enterException (.dataAbort false) u := by
  have world : s.abortWorld false = !s.isSecure := by simp [State.abortWorld, State.faultWorld]
  have status : dfsrOf { status := 0b00001, domain := none, error := none } write =
      if write then 0x801#32 else 0x001#32 := by cases write <;> rfl
  rw [← world, ← status]
  rfl

/-- The translation of a byte of a split access that reaches other than Normal memory. -/
theorem translateData_split {p : Acc} {va : Word} {s t : State} {x : Translation}
    (h : s.translate (!s.isSecure) (s.asidOf !s.isSecure) (s.fcse (!s.isSecure) va) (if p.write then .write else .read)
      p.priv .data = .ok x t) (hx : x.attrs.ty ≠ .normal) :
    translateData p va true s =
      if s.sctlr 0 && s.sctlr 23 then takeAlignmentFault va p.write t else .error (.refused .unalignedDevice) := by
  simp only [translateData, h]
  rw [if_pos (by simpa using hx)]

/-- A legacy load of a word rotates what it reads (R564). -/
theorem memRead_legacy {p : Acc} {addr : Word} {s t : State} {bs : List Byte} {x : Translation} (hty : p.ty = .wload)
    (hpc : p.loadsPc = false) (ha : s.sctlr 1 = false) (hu : s.sctlr 22 = false)
    (h : readPiece (p.keepLow addr (addr - BitVec.ofNat 32 (addr.toNat % 4))) (addr - BitVec.ofNat 32 (addr.toNat % 4)) 4
      false s = .ok ((bs, x), t)) :
    memRead p addr 4 s = .ok ((bytesValue t.bigEndian bs).rotateRight (8 * (addr.toNat % 4)), t) := by
  have hm : addr.toNat % 4 < 2 ^ 32 := by omega
  have hcheck : alignmentCheck false false addr .wload false = .at (addr - BitVec.ofNat 32 (addr.toNat % 4)) false := by
    by_cases hz : addr.toNat % 4 = 0
    · rw [alignmentCheck_aligned hz, hz]; simp
    · rw [alignmentCheck_unaligned hz]; rfl
  have halign : alignData p addr s = .ok ((addr - BitVec.ofNat 32 (addr.toNat % 4), false), s) := by
    simp only [alignData, ha, hu, hty, hpc, hcheck]
  have hback : (addr - (addr - BitVec.ofNat 32 (addr.toNat % 4))).toNat = addr.toNat % 4 := by
    rw [sub_sub_cancel, BitVec.toNat_ofNat, Nat.mod_eq_of_lt hm]
  unfold memRead
  rw [exec_bind_ok halign]
  simp only [Bool.false_eq_true, if_false]
  rw [exec_bind_ok h]
  simp only [hty, if_true, hback]
  rfl

/-- Settles O58: the alignment check by access type, its fault, the split accesses and the legacy rotation. -/
theorem alignmentRules : Obligations.AlignmentRules := by
  refine ⟨fun a u pc addr t => ⟨fun h => alignmentCheck_aligned h, fun h => ?_⟩, fun p addr s => ⟨?_, ?_, ?_⟩, ?_, ?_⟩
  · rw [alignmentCheck_unaligned h]
    refine ⟨fun ha => if_pos ha, ?_, ?_⟩ <;> (intro ha hu; subst ha hu)
    · exact ⟨by rintro (rfl | rfl | rfl) <;> rfl, by rintro (rfl | rfl | rfl | rfl | rfl) <;> rfl⟩
    · exact ⟨by rintro (rfl | rfl) <;> rfl, by rintro rfl; rfl, by rintro (rfl | rfl | rfl) <;> rfl, by rintro rfl; rfl,
        by rintro rfl; rfl⟩
  · intro a split h
    simp only [alignData, h]
  · intro h
    simp only [alignData, h]
    exact congrArg (fun t => Except.error (Stop.took t)) (s.dataAbort_alignment _ _)
  · intro r h
    simp only [alignData, h]
  · intro p va s t x ns h hx
    rw [translateData_split h hx]
    split
    · exact congrArg (fun t => Except.error (Stop.took t)) (t.dataAbort_alignment _ _)
    · rfl
  · intro p addr s t bs x hty hpc ha hu a h
    exact memRead_legacy hty hpc ha hu h

end Sys2Proof.Machine

namespace Sys2Proof.Machine

/-! A step runs the decoded instruction -/

/-- Nothing that `quiet` rules out stands at the boundary. -/
theorem State.quiet_iff {s : State} : s.quiet = true ↔ s.halted = false ∧ s.running = none ∧ s.debugRequest = none ∧
    s.interrupt = none ∧ s.cpsr.j = false ∧ s.pcAligned = true := by
  simp [State.quiet, and_assoc]

/-- From a quiet boundary and a clear fetch the instruction that was fetched is committed. -/
theorem nextInstruction_quiet {s u : State} {w : Word} (hq : s.quiet = true)
    (hf : fetch (if s.cpsr.t then 2 else 4) s = .ok (w, u)) (hc : u.clear = true) :
    nextInstruction s = .ok (decodeFor s.isa w, u.commit) := by
  obtain ⟨-, -, hrequest, hinterrupt, hj, haligned⟩ := State.quiet_iff.mp hq
  obtain ⟨hevent, hpending⟩ : u.fetchEvent = none ∧ (u.cpsr.a = true ∨ u.pendingAbort = none) := by
    simpa [State.clear] using hc
  have habort (d : Decoded) : u.abortBefore d = none := by
    unfold State.abortBefore
    rcases hpending with h | h <;> simp [h]
  unfold nextInstruction
  simp only [exec_bind_ok (look_run _ s), hrequest, hinterrupt, hj, haligned, Bool.false_and, Bool.not_true,
    Bool.false_eq_true, if_false]
  rw [exec_bind_ok hf, exec_bind_ok (look_run _ u), exec_bind_ok (look_run _ u)]
  simp only [hevent, habort]
  rfl

/-- Outside Debug state and with no DMA transfer a step is the instruction at the boundary. -/
theorem step_of_next {s u : State} {d : Decoded} (hh : s.halted = false) (hr : s.running = none)
    (h : nextInstruction s = .ok (d, u)) : step s = runDecoded s u d := by
  simp [step, machineStep, dmaInterval_idle hr, coreStep, hh, h]

theorem State.watchpointEvent_none (before : State) {t : State} (h : t.dbg.watchHit = none) :
    before.watchpointEvent t = t := by simp [State.watchpointEvent, h]

theorem State.count_off (t : State) {s : State} (i : Option Instr) (h : s.cp15.pmnc.getLsbD 0 = false) :
    t.count s i = t := by
  unfold State.count
  rw [h, Bool.false_and, if_neg Bool.false_ne_true]

/-- Settles O6, by running the boundary of a quiet state. -/
theorem stepRunsDecoded : Obligations.StepRunsDecoded := by
  intro s u w i hq hf hc hd _ v
  obtain ⟨hh, hr, -⟩ := State.quiet_iff.mp hq
  have run : step s = runDecoded s v (.instr i) :=
    step_of_next hh hr (hd ▸ nextInstruction_quiet hq hf hc)
  have next {t : State} (ht : exec i v = .next t) (hw : t.wrapped = false) :
      step s = .next ((v.watchpointEvent t).count s (some i)) := by
    simp [run, runDecoded, execDecoded, ht, hw, Decoded.instr?]
  refine ⟨fun t => next, fun t ht hw hwatch hoff => ?_, fun t ht hw => ?_, fun r hr => ?_⟩
  · rw [next ht hw, State.watchpointEvent_none v hwatch, State.count_off t _ hoff]
  · simp [run, runDecoded, execDecoded, ht, hw]
  · simp [run, runDecoded, execDecoded, hr]

end Sys2Proof.Machine

namespace Sys2Proof.Machine

/-! What a translation of a data access that completes has found -/

theorem translateData_ok {p : Acc} {va : Word} {un : Bool} {s t : State} {x : Translation}
    (h : translateData p va un s = .ok (x, t)) :
    s.translate (!s.isSecure) (s.asidOf !s.isSecure) (s.fcse (!s.isSecure) va) (if p.write then .write else .read) p.priv
      .data = .ok x t ∧ ¬(un && x.attrs.ty != .normal) = true ∧ (p.excl = true → x.attrs.ty = .normal) := by
  unfold translateData at h
  dsimp only at h
  split at h
  · cases h
  · cases h
  · rename_i hx
    split at h
    · split at h <;> cases h
    · split at h
      · cases h
      · cases h
        exact ⟨hx, ‹_›, by simp_all⟩

/-! Swaps -/

theorem refuseIf_run {b : Bool} (h : b = false) (s : State) : refuseIf b s = .ok ((), s) := by
  rw [h]
  rfl

/-- A swap translates for its load and for its store, and then loads and stores. -/
theorem swap_run {byte : Bool} {rn rd rm : RegNo} {s t u w z : State} {n : Nat} {ld st : Acc} {a old : Word} {k : Bool}
    {x y : Translation} (hpc : 15 ∉ [rn, rd, rm]) (hrd : rn ≠ rd) (hrm : rn ≠ rm) (hn : n = if byte then 1 else 4)
    (hld : ld = { ty := if byte then .bsync else if s.sctlr 22 then .wsync else .wload, write := false, priv := s.privileged,
                   swap := true })
    (hst : st = { ty := if byte then .bsync else if s.sctlr 22 then .wsync else .wstore, write := true, priv := s.privileged,
                   swap := true })
    (halign : alignData ld (s.reg rn) s = .ok ((a, k), s))
    (hload : translateData (ld.keepLow (s.reg rn) a) a false s = .ok (x, t))
    (hstore : translateData (st.keepLow (s.reg rn) a) a false t = .ok (y, u))
    (hread : memRead ld (s.reg rn) n u = .ok (old, w)) (hwrite : memWrite st (s.reg rn) n (s.reg rm) w = .ok ((), z)) :
    swap byte rn rd rm s = .ok ((), z.wrote rd old) := by
  subst hn hld hst
  unfold swap
  rw [exec_bind_ok (noPc_run hpc s), exec_bind_ok (refuseIf_run (by simp [hrd, hrm]) s)]
  simp only [exec_bind_ok (look_run _ s)]
  rw [exec_bind_ok halign, exec_bind_ok hload, exec_bind_ok hstore, exec_bind_ok hread, exec_bind_ok hwrite]
  exact finishReg_run rd old z

/-! Load-exclusives -/

/-- A load-exclusive of one register writes what it reads. -/
theorem loadExclusiveReg_run {ty : AccType} {n : Nat} {rn rd rm : RegNo} {s t : State} {bs : List Byte}
    (hpc : 15 ∉ [rn, rd, rm]) (h : loadExclusive ty n rn s = .ok (bs, t)) :
    loadExclusiveReg ty n rn rd s = .ok ((), t.wrote rd (bytesValue t.bigEndian bs)) := by
  unfold loadExclusiveReg
  rw [exec_bind_ok (noPc_run (by simp_all) s), exec_bind_ok h, exec_bind_ok (look_run _ t)]
  exact finishReg_run rd _ t

/-- A load-exclusive that knows what it reads marks the monitors. -/
theorem loadExclusive_run {ty : AccType} {n : Nat} {rn : RegNo} {s t u : State} {a : Word} {k : Bool} {x : Translation}
    {bs : List Byte} {ld : Acc} (hld : ld = { ty := ty, write := false, priv := s.privileged, excl := true })
    (halign : alignData ld (s.reg rn) s = .ok ((a, k), s))
    (htranslate : translateData ld a false (s.noteWatch ld a n) = .ok (x, t)) (hend : checkEndianness n t = .ok ((), t))
    (hread : readRouted ld a x n t = .ok (some bs, u)) :
    loadExclusive ty n rn s = .ok (bs, { u with
      exclLocal := true, exclGlobal := if x.attrs.shared then some (x.pa, n) else u.exclGlobal }) := by
  subst hld
  unfold loadExclusive
  simp only [exec_bind_ok (look_run _ s)]
  rw [exec_bind_ok halign, exec_bind_ok (update_run _ s), exec_bind_ok htranslate, exec_bind_ok hend]
  unfold readExclusive
  simp only [hread]

/-! Store-exclusives -/

/-- Without the local monitor a store-exclusive only notes its watchpoints. -/
theorem storeExclusive_closed {ty : AccType} {rn : RegNo} (rd : RegNo) {value : State → List Byte} {s : State} {a : Word}
    {k : Bool} {st : Acc} (hst : st = { ty := ty, write := true, priv := s.privileged, excl := true })
    (halign : alignData st (s.reg rn) s = .ok ((a, k), s)) (hl : s.exclLocal = false) :
    storeExclusive ty rn rd value s = .ok ((), (s.noteWatch st a (value s).length).wrote rd 1) := by
  subst hst
  have closed (u : State) (h : u.exclLocal = false) : { u with exclLocal := false } = u := by rw [← h]
  unfold storeExclusive
  simp only [exec_bind_ok (look_run _ s)]
  rw [exec_bind_ok halign, exec_bind_ok (update_run _ s), exec_bind_ok (look_run _ _),
    if_neg (by simp [State.noteWatch_exclLocal, hl]), exec_bind_ok (exec_pure _ _), exec_bind_ok (update_run _ _),
    closed _ ((State.noteWatch_exclLocal _ _ _ _).trans hl)]
  exact finishReg_run rd 1 _

/-- With it the status is that of the store that the monitors decide on. -/
theorem storeExclusive_open {ty : AccType} {rn : RegNo} (rd : RegNo) {value : State → List Byte} {s t v w : State}
    {a r : Word} {k b : Bool} {x : Translation} {st : Acc}
    (hst : st = { ty := ty, write := true, priv := s.privileged, excl := true })
    (halign : alignData st (s.reg rn) s = .ok ((a, k), s)) (hl : s.exclLocal = true)
    (htranslate : translateData st a false (s.noteWatch st a (value s).length) = .ok (x, t))
    (hend : checkEndianness (value s).length t = .ok ((), t))
    (hpasses : monitorPasses st x (value s).length t = .ok (b, v))
    (hstatus : (if b then writeExclusive st a x (value s) else refusedExclusive st a x (value s)) v = .ok (r, w)) :
    storeExclusive ty rn rd value s = .ok ((), { w with exclLocal := false }.wrote rd r) := by
  subst hst
  unfold storeExclusive
  simp only [exec_bind_ok (look_run _ s)]
  rw [exec_bind_ok halign, exec_bind_ok (update_run _ s), exec_bind_ok (look_run _ _),
    if_pos (by simp [State.noteWatch_exclLocal, hl]), exec_bind_ok htranslate, exec_bind_ok hend, exec_bind_ok hpasses]
  cases b <;> exact (exec_bind_ok hstatus).trans (exec_bind_ok (update_run _ _))

/-- The tag that the global monitor must hold, at a slave that has a monitor (R622, R626). -/
def State.tagged (t : State) (p : Acc) (x : Translation) (n : Nat) : Prop :=
  t.exclGlobal = some (x.pa, n) ∧ t.noMonitorAt (t.singleRequest p x n) = false

theorem monitorPasses_nonShared {p : Acc} {x : Translation} (n : Nat) (t : State) (hx : x.attrs.shared = false) :
    monitorPasses p x n t = .ok (true, t) := by simp only [monitorPasses, hx]; rfl

theorem monitorPasses_untagged {p : Acc} {x : Translation} {n : Nat} {t : State} (hx : x.attrs.shared = true)
    (h : ¬t.tagged p x n) : monitorPasses p x n t = .ok (false, t) := by
  unfold monitorPasses
  rw [if_pos hx, exec_bind_ok (look_run _ t), if_neg (by simpa [State.tagged] using h)]
  rfl

/-- Of a tag that is there the other agents decide whether it is still (R624). -/
theorem monitorPasses_tagged {p : Acc} {x : Translation} {n : Nat} {t : State} (hx : x.attrs.shared = true)
    (h : t.tagged p x n) :
    let drawn : State := { t with draws := t.draws + 1 }
    ((Config.freeWord t.draws).getLsbD 0 = false →
      monitorPasses p x n t = .ok (false, { drawn with exclGlobal := none })) ∧
    ((Config.freeWord t.draws).getLsbD 0 = true → monitorPasses p x n t = .ok (true, drawn)) := by
  have run : monitorPasses p x n t = .ok ((Config.freeWord t.draws).getLsbD 0,
      if (Config.freeWord t.draws).getLsbD 0 then { t with draws := t.draws + 1 }
      else { t with draws := t.draws + 1, exclGlobal := none }) := by
    unfold monitorPasses
    rw [if_pos hx, exec_bind_ok (look_run _ t), if_pos (by simpa [State.tagged] using h), exec_bind_ok (draw_run t),
      exec_bind_ok (update_run _ _)]
    rfl
  exact ⟨fun hf => by rw [run, hf]; rfl, fun hf => by rw [run, hf]; rfl⟩

/-- The platform's answer does not depend on the state of the core. -/
theorem State.transferError_of_pins {s t : State} (h : t.pins = s.pins) (q : Request) (pa : Word) (n : Nat) :
    t.transferError q pa n = s.transferError q pa n := by
  induction n with
  | zero => rfl
  | succ n ih => simp only [State.transferError, State.busError, ih, h]

/-- The store of a store-exclusive that passes, and its status. -/
theorem writeExclusive_run {p : Acc} {a : Word} {x : Translation} {bs : List Byte} {t u : State}
    (h : writeRouted p a x bs t = .ok ((), u)) :
    writeExclusive p a x bs t = .ok (0, if x.attrs.shared then { u with exclGlobal := none } else u) := by
  unfold writeExclusive
  rw [exec_bind_ok h, exec_bind_ok (update_run _ u)]
  rfl

/-- Where the monitors do not let the store pass, its transfer is made all the same, and the status is 1. -/
theorem storeExclusive_turnedAway {ty : AccType} {rn : RegNo} (rd : RegNo) {value : State → List Byte} {s t v : State}
    {a : Word} {k : Bool} {x : Translation} {st : Acc}
    (hst : st = { ty := ty, write := true, priv := s.privileged, excl := true })
    (halign : alignData st (s.reg rn) s = .ok ((a, k), s)) (hl : s.exclLocal = true)
    (htranslate : translateData st a false (s.noteWatch st a (value s).length) = .ok (x, t))
    (hend : checkEndianness (value s).length t = .ok ((), t))
    (hpasses : monitorPasses st x (value s).length t = .ok (false, v)) (hpins : v.pins = t.pins)
    (hq : v.singleRequest st x (value s).length = t.singleRequest st x (value s).length)
    (hpa : v.piecePa x (value s).length = t.piecePa x (value s).length) :
    let q := t.singleRequest st x (value s).length
    (t.pieceError q x (value s).length = none → storeExclusive ty rn rd value s =
      .ok ((), { v.notePiece st a x q (value s) none with exclLocal := false }.wrote rd 1)) ∧
    (∀ e, t.pieceError q x (value s).length = some e → storeExclusive ty rn rd value s =
      .ok ((), { (v.notePiece st a x q (value s) (some e)).impreciseAbort e true with exclLocal := false }.wrote rd 1)) := by
  have status := refusedExclusive_run a (value s) v (p := st) (x := x) (by rw [hst]) (by rw [hst])
    ((translateData_ok htranslate).2.2 (by rw [hst]))
  dsimp only at status
  have same (q : Request) : v.pieceError q x (value s).length = t.pieceError q x (value s).length := by
    simp only [State.pieceError, State.transferError_of_pins hpins, hpa]
  rw [hq, same] at status
  exact ⟨fun h => storeExclusive_open rd hst halign hl htranslate hend hpasses (by rw [h] at status; exact status),
    fun e h => storeExclusive_open rd hst halign hl htranslate hend hpasses (by rw [h] at status; exact status)⟩

/-- The store-exclusives, with the type of their access and the bytes they store. -/
def storeExclusives (s : State) (c : Cond) (rn rd rm : RegNo) : List (Instr × AccType × List Byte) :=
  [(.strex c rn rd rm, .wsync, s.regBytes 4 rm), (.strexb c rn rd rm, .bsync, s.regBytes 1 rm),
    (.strexh c rn rd rm, .hwsync, s.regBytes 2 rm),
    (.strexd c rn rd rm, .dwsync, s.regBytes 4 rm ++ s.regBytes 4 (rm + 1))]

/-- Each of them, with registers that are apart, is `storeExclusive` of its bytes. -/
theorem exec_storeExclusive {c : Cond} {rn rd rm : RegNo} {s : State} {i : Instr × AccType × List Byte}
    (hi : i ∈ storeExclusives s c rn rd rm) (hc : Cond.passes c s.cpsr = true) (hpc : 15 ∉ [rn, rd, rm]) (hn : rd ≠ rn)
    (hm : rd ≠ rm) (hd : i.2.1 = .dwsync → rd ≠ rm + 1 ∧ rm.getLsbD 0 = false ∧ rm ≠ 14) :
    ∃ value, i.2.2 = value s ∧ exec i.1 s = outcome (storeExclusive i.2.1 rn rd value) s := by
  have run (m m' : Exec Unit) (h : m s = m' s) : outcome (conditional c m) s = outcome m' s := by
    unfold outcome
    rw [conditional_pass m hc, h]
  have single (ty : AccType) (n : Nat) : outcome (conditional c (storeExclusiveReg ty n rn rd rm)) s =
      outcome (storeExclusive ty rn rd fun s => s.regBytes n rm) s := by
    refine run _ _ ?_
    unfold storeExclusiveReg
    rw [exec_bind_ok (noPc_run hpc s), exec_bind_ok (refuseIf_run (by simp [hn, hm]) s)]
  simp only [storeExclusives, List.mem_cons, List.not_mem_nil, or_false] at hi
  rcases hi with rfl | rfl | rfl | rfl
  · exact ⟨fun s => s.regBytes 4 rm, rfl, single _ _⟩
  · exact ⟨fun s => s.regBytes 1 rm, rfl, single _ _⟩
  · exact ⟨fun s => s.regBytes 2 rm, rfl, single _ _⟩
  · obtain ⟨hm', heven, h14⟩ := hd rfl
    refine ⟨fun s => s.regBytes 4 rm ++ s.regBytes 4 (rm + 1), rfl, run _ _ ?_⟩
    rw [exec_bind_ok (noPc_run hpc s), exec_bind_ok (refuseIf_run (by
      simp only [decide_eq_false hn, decide_eq_false hm, decide_eq_false hm', heven, decide_eq_false h14, Bool.or_self]) s)]

/-- Settles O40, by the runs of `swap`, `loadExclusive` and `storeExclusive`. -/
theorem swapExclusiveResults : Obligations.SwapExclusiveResults := by
  intro s t u w z c rn rd rm a old k x y bs hc hpc
  refine ⟨?swaps, ?loads, ?load, ?doubleword, ?stores⟩
  case swaps =>
    intro i hi ld st hrd hrm halign hload hstore hread hwrite
    simp only [List.mem_cons, List.not_mem_nil, or_false] at hi
    rcases hi with rfl | rfl
    · exact outcome_of_ok ((conditional_pass _ hc).trans
        (swap_run (byte := false) hpc hrd hrm rfl rfl rfl halign hload hstore hread hwrite))
    · exact outcome_of_ok ((conditional_pass _ hc).trans
        (swap_run (byte := true) hpc hrd hrm rfl rfl rfl halign hload hstore hread hwrite))
  case loads =>
    intro i hi h
    simp only [List.mem_cons, List.not_mem_nil, or_false] at hi
    rcases hi with rfl | rfl | rfl <;>
      exact outcome_of_ok ((conditional_pass _ hc).trans (loadExclusiveReg_run hpc h))
  case load =>
    intro ty n ld halign htranslate hend hread
    exact loadExclusive_run rfl halign htranslate hend hread
  case doubleword =>
    intro heven h14 h
    refine outcome_of_ok ((conditional_pass _ hc).trans ?_)
    rw [exec_bind_ok (noPc_run (by simp_all) s), exec_bind_ok (refuseIf_run (by simp_all) s), exec_bind_ok h,
      exec_bind_ok (look_run _ t), exec_bind_ok (update_run _ t)]
    exact finishReg_run _ _ _
  case stores =>
    intro i hi st n hn hm hd halign
    obtain ⟨value, hbytes, hexec⟩ := exec_storeExclusive hi hc hpc hn hm hd
    subst n
    rw [hbytes, hexec]
    refine ⟨fun hl => outcome_of_ok (storeExclusive_closed rd rfl halign hl), fun hl htranslate hend => ⟨?_, ?_⟩⟩
    · intro hx hwrite
      have status := writeExclusive_run hwrite
      rw [hx] at status
      exact outcome_of_ok
        (storeExclusive_open rd rfl halign hl htranslate hend (monitorPasses_nonShared _ t hx) status)
    · intro hx
      refine ⟨fun hn => ?_, fun htag hfree => ?_, fun htag hfree hwrite => ?_⟩
      · obtain ⟨hnone, hsome⟩ := storeExclusive_turnedAway rd rfl halign hl htranslate hend
          (monitorPasses_untagged hx hn) rfl rfl rfl
        exact ⟨fun he => outcome_of_ok (hnone he), fun e he => outcome_of_ok (hsome e he)⟩
      · obtain ⟨hnone, hsome⟩ := storeExclusive_turnedAway rd rfl halign hl htranslate hend
          ((monitorPasses_tagged hx htag).1 hfree) rfl rfl rfl
        exact ⟨fun he => outcome_of_ok (hnone he), fun e he => outcome_of_ok (hsome e he)⟩
      · have status := writeExclusive_run hwrite
        rw [hx] at status
        exact outcome_of_ok
          (storeExclusive_open rd rfl halign hl htranslate hend ((monitorPasses_tagged hx htag).2 hfree) status)

end Sys2Proof.Machine

namespace Sys2Proof.Machine

/-! Plain memory: no TCM, no error, no device, no cache -/

/-- The state's memory is plain, condition by condition. -/
structure State.Plain (s : State) : Prop where
  mmuOff : s.sctlr 0 = false
  remapOff : s.sctlr 28 = false
  dtcm : ∀ k : Fin 2, s.cp15.dtcm[k].region.getLsbD 0 = false
  itcm : ∀ k : Fin 2, s.cp15.itcm[k].region.getLsbD 0 = false
  errors : s.pins.errors = []
  devices : s.pins.devices = []
  ppmr : s.bank.ppmr = 0
  fcse : s.bank.fcse.extractLsb' 0 25 = 0
  little : s.cpsr.e = false
  byteOrder : s.bigEndian32 = false

theorem State.plain_of_plainMemory {s : State} (h : s.plainMemory = true) : s.Plain := by
  simp only [State.plainMemory, Bool.and_eq_true, Bool.not_eq_true', beq_iff_eq, List.isEmpty_iff] at h
  obtain ⟨⟨⟨⟨⟨⟨⟨⟨⟨⟨⟨h0, h28⟩, hd0⟩, hd1⟩, hi0⟩, hi1⟩, herrors⟩, hdevices⟩, hppmr⟩, hfcse⟩, he⟩, hb⟩ := h
  refine ⟨h0, h28, fun k => ?_, fun k => ?_, herrors, hdevices, hppmr, hfcse, he, hb⟩
  · match k with
    | 0 => exact hd0
    | 1 => exact hd1
  · match k with
    | 0 => exact hi0
    | 1 => exact hi1

/-- The low bits of a word are clear where it is a multiple of a power of two. -/
theorem low_eq_zero_iff {a : Word} {k : Nat} : a.extractLsb' 0 k = 0 ↔ a.toNat % 2 ^ k = 0 := by
  rw [← BitVec.toNat_inj]
  simp

theorem even_of_low {a : Word} (h : a.getLsbD 0 = false) : a.toNat % 2 ^ 1 = 0 := by
  rw [BitVec.getLsbD, Nat.testBit_zero, decide_eq_false_iff_not] at h
  omega

/-- A number below a power of two adds to a multiple of it as its bits. -/
theorem add_eq_or_of_low {k : Nat} {a i : Word} (ha : a.toNat % 2 ^ k = 0) (hi : i.toNat < 2 ^ k) : a + i = a ||| i := by
  refine BitVec.add_eq_or_of_and_eq_zero a i (BitVec.eq_of_getLsbD_eq fun j _ => ?_)
  rw [BitVec.getLsbD_and]
  by_cases hjk : j < k
  · have : a.getLsbD j = false := by
      have bit := Nat.testBit_mod_two_pow a.toNat k j
      rw [ha] at bit
      simpa [hjk, BitVec.getLsbD] using bit.symm
    simp [this]
  · have : i.getLsbD j = false :=
      Nat.testBit_lt_two_pow (hi.trans_le (Nat.pow_le_pow_right (by omega) (Nat.le_of_not_lt hjk)))
    simp [this]

theorem Tcm.hit_disabled {t : Tcm} (h : t.region.getLsbD 0 = false) (c : Config.TcmConfig) (pa : Word) (ns : Bool) :
    t.hit c pa ns = false := by
  unfold Tcm.hit Tcm.covers
  rw [h, Bool.false_and, Bool.false_and]

namespace State.Plain

variable {s : State} (h : s.Plain)

include h

theorem tcmOf (data ns : Bool) (pa : Word) : s.tcmOf data ns pa = none := by
  have hit (k : Fin 2) (c : Config.TcmConfig) :
      s.cp15.dtcm[k].hit c pa ns = false ∧ s.cp15.itcm[k].hit c pa ns = false :=
    ⟨Tcm.hit_disabled (h.dtcm k) c pa ns, Tcm.hit_disabled (h.itcm k) c pa ns⟩
  have h0 := hit 0 (s.tcmConfig data)
  have h1 := hit 1 (s.tcmConfig data)
  dsimp only [Fin.getElem_fin, Fin.val_zero, Fin.val_one] at h0 h1
  cases data <;> simp [State.tcmOf, h0, h1]

theorem tcmByte (instr ns : Bool) (pa : Word) : s.tcmByte instr ns pa = none := by
  cases instr <;> simp [State.tcmByte, State.tcmByteOf, h.tcmOf]

theorem byteKey (instr ns : Bool) (pa : Word) : s.byteKey instr ns pa = s.extKey ns pa := by
  simp [State.byteKey, h.tcmByte]

theorem transferError (q : Request) (pa : Word) (n : Nat) : s.transferError q pa n = none := by
  induction n with
  | zero => rfl
  | succ n ih => simp [State.transferError, State.busError, ih, h.errors]

theorem no_device (q : Request) (pa : Word) : s.pins.devices.any (·.covers q pa) = false := by
  rw [h.devices]
  rfl

theorem reachesDevice (q : Request) (pa : Word) (n : Nat) : s.reachesDevice q pa n = false := by
  simp [State.reachesDevice, h.devices]

/-- The FCSE leaves the low bits of an address alone. -/
theorem fcse_add {k : Nat} {a i : Word} (hk : k ≤ 25) (ha : a.toNat % 2 ^ k = 0) (hi : i.toNat < 2 ^ k) :
    s.fcse (!s.isSecure) (a + i) = s.fcse (!s.isSecure) a + i := by
  have high : (a + i).extractLsb' 25 7 = a.extractLsb' 25 7 := by
    have hz : i.extractLsb' 25 7 = 0 := by
      refine BitVec.eq_of_toNat_eq ?_
      have : i.toNat < 2 ^ 25 := hi.trans_le (Nat.pow_le_pow_right (by omega) hk)
      rw [BitVec.extractLsb'_toNat, Nat.shiftRight_eq_div_pow, Nat.div_eq_of_lt this]
      rfl
    rw [add_eq_or_of_low ha hi, BitVec.extractLsb'_or, hz]
    exact BitVec.or_zero
  have hfcse : ((s.bankOf !s.isSecure).fcse ||| a).toNat % 2 ^ k = 0 := by
    have low : (s.bankOf !s.isSecure).fcse.toNat % 2 ^ k = 0 := by
      have := Nat.mod_mod_of_dvd (s.bankOf !s.isSecure).fcse.toNat (Nat.pow_dvd_pow 2 hk)
      have low25 : (s.bankOf !s.isSecure).fcse.toNat % 2 ^ 25 = 0 := low_eq_zero_iff.mp h.fcse
      rw [← this, low25, Nat.zero_mod]
    rw [BitVec.toNat_or, Nat.or_mod_two_pow, low, ha]
    rfl
  unfold State.fcse
  rw [high]
  split
  · rw [add_eq_or_of_low ha hi, add_eq_or_of_low hfcse hi, BitVec.or_assoc]
  · rfl

/-- A translation answers the modified virtual address of the same world. -/
theorem translate (asid : BitVec 8) (mva : Word) (acc : Access) (priv : Bool) (who : Client) :
    ∃ x, s.translate (!s.isSecure) asid mva acc priv who = .ok x s ∧ x.pa = mva ∧ x.ns = !s.isSecure :=
  ⟨_, State.translate_off h.mmuOff acc priv who, rfl, rfl⟩

end State.Plain

/-! The fetch -/

/-- In plain memory with no stored byte that waits for an IMB sequence a fetch reads the bytes at the PC. -/
theorem fetch_plain {s : State} (h : s.Plain) (hstale : s.codeStale = []) (n : Nat) :
    fetch n s = .ok (s.fetchBytes (!s.isSecure) (s.fcse (!s.isSecure) s.pc) n n, s) := by
  obtain ⟨x, hx, hpa, hns⟩ := h.translate (s.asidOf !s.isSecure) (s.fcse (!s.isSecure) s.pc) .execute s.privileged .fetch
  have herror : s.fetchError x n = none := by
    simp [State.fetchError, h.transferError]
  have hfresh (ns : Bool) (pa : Word) (k : Nat) : s.staleFetch ns pa n k = false := by
    induction k with
    | zero => rfl
    | succ k ih => simp [State.staleFetch, ih, State.isStaleCode, hstale]
  have hdevice : s.fetchesDevice x n = false := by simp [State.fetchesDevice, h.reachesDevice]
  unfold fetch
  simp only [hx, herror, hfresh, hdevice, Bool.false_eq_true, if_false, hpa, hns]


/-- A byte below others, as the value of a list of bytes has it. -/
theorem setWidth_append_byte {n : Nat} (high : BitVec n) (b : Byte) :
    (high ++ b).setWidth 32 = b.setWidth 32 ||| (high.setWidth 32 <<< 8) := by
  ext i hi
  by_cases h : i < 8
  · simp [BitVec.getLsbD_append, h]
  · simp [BitVec.getLsbD_append, h, BitVec.getLsbD_of_ge b i (Nat.le_of_not_lt h)]

/-- The little-endian halfword, and word, of bytes. -/
theorem setWidth_append_half (b0 b1 : Byte) : (b1 ++ b0).setWidth 32 = littleValue [b0, b1] := by
  simp [littleValue, setWidth_append_byte]

theorem append_word (b0 b1 b2 b3 : Byte) : (b3 ++ b2 ++ b1 ++ b0 : Word) = littleValue [b0, b1, b2, b3] := by
  calc (b3 ++ b2 ++ b1 ++ b0 : Word) = (b3 ++ b2 ++ b1 ++ b0).setWidth 32 := (BitVec.setWidth_eq _).symm
    _ = littleValue [b0, b1, b2, b3] := by
      simp only [setWidth_append_byte, littleValue]
      simp

/-- Settles O7, by running the fetch in plain memory. -/
theorem fetchReadsMemory : Obligations.FetchReadsMemory := by
  intro s hplain hstale
  have h := State.plain_of_plainMemory hplain
  have key {k : Nat} (n : Nat) {i : Nat} (hk : k ≤ 25) (ha : s.pc.toNat % 2 ^ k = 0) (hi : i < 2 ^ k) :
      s.fetchKey (!s.isSecure) (s.fcse (!s.isSecure) s.pc) n i = s.plainKey (s.pc + BitVec.ofNat 32 i) := by
    have hin : (BitVec.ofNat 32 i).toNat < 2 ^ k := (Nat.mod_le _ _).trans_lt hi
    simp [State.fetchKey, State.plainKey, h.byteKey, h.fcse_add hk ha hin, State.fetchPa, h.byteOrder]
  refine ⟨fun ha => ?_, fun ha => ?_⟩
  · have hk {i : Nat} := key (k := 2) 4 (i := i) (by omega) (low_eq_zero_iff.mp ha)
    rw [fetch_plain h hstale]
    simp only [State.fetchBytes, hk (i := 0) (by omega), hk (i := 1) (by omega), hk (i := 2) (by omega),
      hk (i := 3) (by omega), State.plainWord, State.plainByte, append_word, littleValue]
    simp [BitVec.shiftLeft_or_distrib, BitVec.or_assoc, ← BitVec.shiftLeft_add]
  · have hk {i : Nat} := key (k := 1) 2 (i := i) (by omega) (even_of_low ha)
    rw [fetch_plain h hstale]
    simp only [State.fetchBytes, hk (i := 0) (by omega), hk (i := 1) (by omega), State.plainByte, setWidth_append_half, littleValue]
    simp

end Sys2Proof.Machine

namespace Sys2Proof.Machine

/-! Loads and stores in plain memory -/

theorem State.noteWatch_not_permitted {s : State} (h : s.debugPermitted = false) (p : Acc) (va : Word) (n : Nat) :
    s.noteWatch p va n = s := by
  induction n with
  | zero => rfl
  | succ n ih => simp [State.noteWatch, h, ih]

theorem notePiece_run {p : Acc} (h : p.crosses = false) (va : Word) (x : Translation) (q : Request) (bs : List Byte)
    (s : State) : notePiece p va x q bs s = .ok ((), s.notePiece p va x q bs none) := by
  unfold notePiece
  rw [h, Bool.false_and, if_neg Bool.false_ne_true, exec_bind_ok (exec_pure _ s)]
  rfl

/-- An access of plain memory that is not exclusive, crosses no page and notes nothing. -/
structure PlainAcc (s : State) (p : Acc) : Prop extends s.Plain where
  quiet : s.debugPermitted = false
  excl : p.excl = false
  crosses : p.crosses = false
  first : p.first = 0

namespace PlainAcc

variable {s : State} {p : Acc} (h : PlainAcc s p)

include h

theorem pieceState (va : Word) (n : Nat) : s.pieceState p va n = s := by
  have start : decide (va < p.first) = false := by rw [h.first]; simp
  unfold State.pieceState State.notePast
  rw [State.noteWatch_not_permitted h.quiet, start, Bool.or_false]

theorem translateData (va : Word) :
    ∃ x, translateData p va false s = .ok (x, s) ∧ x.pa = s.fcse (!s.isSecure) va ∧ x.ns = !s.isSecure := by
  obtain ⟨x, hx, hpa, hns⟩ := h.translate (s.asidOf !s.isSecure) (s.fcse (!s.isSecure) va)
    (if p.write then .write else .read) p.priv .data
  refine ⟨x, ?_, hpa, hns⟩
  unfold Machine.translateData
  simp only [hx, h.excl, Bool.false_and, Bool.false_eq_true, if_false]

theorem checkEndianness (n : Nat) : checkEndianness n s = .ok ((), s) := by
  simp [Machine.checkEndianness, h.little]

theorem bytePa (x : Translation) (i : Nat) : s.bytePa x i = x.pa + BitVec.ofNat 32 i := by
  simp [State.bytePa, h.byteOrder]

theorem cacheable (a : Attrs) : s.cacheable a = false := by simp [State.cacheable, h.mmuOff]

theorem request (x : Translation) (va : Word) (n : Nat) :
    (s.pieceRequest p x va n).ns = x.ns ∧ (s.pieceRequest p x va n).lock ≠ .exclusive := by
  have lock : p.lock x ≠ .exclusive := by
    unfold Acc.lock
    split
    · simp
    · simp [h.excl]
  unfold State.pieceRequest
  split <;> exact ⟨rfl, lock⟩

theorem pieceError (q : Request) (x : Translation) (n : Nat) : s.pieceError q x n = none := by
  simp [State.pieceError, h.transferError]

theorem readBytes (q : Request) (x : Translation) (n : Nat) : Machine.readBytes q x n s =
    .ok ((List.range n).map fun i => Memory.read s.mem (s.extKey q.ns (x.pa + BitVec.ofNat 32 i)), s) := by
  induction n with
  | zero => rfl
  | succ n ih =>
    have last : readExternal q (s.bytePa x n) s =
        .ok (Memory.read s.mem (s.extKey q.ns (x.pa + BitVec.ofNat 32 n)), s) := by
      simp [readExternal, h.no_device, h.bytePa]
    unfold Machine.readBytes
    rw [exec_bind_ok ih, exec_bind_ok (look_run _ s), exec_bind_ok last, List.range_succ, List.map_append]
    rfl

theorem readBus (va : Word) (x : Translation) (n : Nat) : ∃ ts, Machine.readBus p va x n s =
    .ok (some ((List.range n).map fun i => Memory.read s.mem (s.extKey x.ns (x.pa + BitVec.ofNat 32 i))),
      { s with transfers := ts }) := by
  obtain ⟨hns, hlock⟩ := h.request x va n
  unfold Machine.readBus
  rw [exec_bind_ok (look_run _ s), exec_bind_ok (look_run _ s), h.pieceError]
  simp only [hlock, decide_false, Bool.false_and, Bool.false_eq_true, if_false, Option.or_none]
  rw [exec_bind_ok (h.readBytes _ x n), exec_bind_ok (notePiece_run h.crosses _ _ _ _ s), hns]
  exact ⟨_, rfl⟩

/-- No TCM and no line of the data cache takes the access. -/
theorem readRouted (va : Word) (x : Translation) (n : Nat) : Machine.readRouted p va x n s = Machine.readBus p va x n s := by
  have miss (mva : Word) : cachedLine p mva x s = .ok (none, s) := by simp [cachedLine, h.cacheable]
  unfold Machine.readRouted
  rw [exec_bind_ok (look_run _ s), exec_bind_ok (look_run _ s), h.tcmOf]
  simp only [Option.isSome_none, Bool.false_eq_true, if_false]
  rw [exec_bind_ok (miss _), exec_bind_ok (show heldLine p x none s = .ok (none, s) from rfl)]
  dsimp only
  rw [exec_bind_ok (look_run _ s), h.tcmOf]
  simp only [Option.isSome_none, Bool.false_eq_true, if_false]
  rw [exec_bind_ok (look_run _ s), h.cacheable]
  simp only [Bool.false_and, Bool.false_eq_true, if_false]

theorem readPiece (va : Word) (n : Nat) : ∃ x ts, Machine.readPiece p va n false s =
    .ok (((List.range n).map fun i =>
      Memory.read s.mem (s.extKey (!s.isSecure) (s.fcse (!s.isSecure) va + BitVec.ofNat 32 i)), x),
      { s with transfers := ts }) := by
  obtain ⟨x, hx, hpa, hns⟩ := h.translateData va
  obtain ⟨ts, hread⟩ := h.readBus va x n
  refine ⟨x, ts, ?_⟩
  unfold Machine.readPiece
  rw [exec_bind_ok (update_run _ s)]
  rw [show (s.noteWatch p va n).notePast p va = s from h.pieceState va n, exec_bind_ok hx,
    exec_bind_ok (h.checkEndianness n), exec_bind_ok ((h.readRouted va x n).trans hread), hpa, hns]
  rfl

theorem writeBus (va : Word) (x : Translation) (bs : List Byte) : ∃ q ts, Machine.writeBus p va x bs s =
    .ok ((), { s.storeBytes q x 0 bs with transfers := ts }) ∧ q.ns = x.ns := by
  let q := s.pieceRequest p x va bs.length
  refine ⟨q, ((s.storeBytes q x 0 bs).notePiece p va x q bs none).transfers, ?_, (h.request x va _).1⟩
  unfold Machine.writeBus
  rw [exec_bind_ok (look_run _ s), exec_bind_ok (look_run _ s), h.pieceError]
  dsimp only
  rw [exec_bind_ok (update_run _ s), notePiece_run h.crosses]
  rfl

/-- A store in plain memory is the store of its bytes, and a record. -/
theorem writePiece (va : Word) (bs : List Byte) : ∃ q x ts, Machine.writePiece p va bs false s =
    .ok (x, { s.storeBytes q x 0 bs with transfers := ts }) ∧ x.pa = s.fcse (!s.isSecure) va ∧ q.ns = !s.isSecure := by
  obtain ⟨x, hx, hpa, hns⟩ := h.translateData va
  obtain ⟨q, ts, hwrite, hq⟩ := h.writeBus va x bs
  have miss (mva : Word) : cachedLine p mva x s = .ok (none, s) := by simp [cachedLine, h.cacheable]
  have routed : writeRouted p va x bs s = Machine.writeBus p va x bs s := by
    unfold writeRouted
    rw [exec_bind_ok (look_run _ s), exec_bind_ok (look_run _ s), h.tcmOf]
    simp only [Option.isSome_none, Bool.false_eq_true, if_false]
    rw [exec_bind_ok (miss _), exec_bind_ok (look_run _ s)]
    dsimp only
    simp only [Option.isSome_none, Bool.false_and, Bool.false_eq_true, if_false]
    rw [exec_bind_ok (look_run _ s), h.tcmOf]
    simp only [Option.isSome_none, Bool.false_eq_true, if_false]
  refine ⟨q, x, ts, ?_, hpa, hq.trans hns⟩
  unfold Machine.writePiece
  rw [exec_bind_ok (update_run _ s)]
  rw [show (s.noteWatch p va bs.length).notePast p va = s from h.pieceState va _, exec_bind_ok hx,
    exec_bind_ok (h.checkEndianness _), exec_bind_ok (routed.trans hwrite)]
  rfl

end PlainAcc

/-! The bytes that a store changes -/

/-- A store of bytes in external memory changes memory, and what it says of code and descriptors. -/
theorem State.storeBytes_frame (s : State) (q : Request) (x : Translation) (i : Nat) (bs : List Byte) :
    { s.storeBytes q x i bs with mem := s.mem, codeStale := s.codeStale, walks := s.walks } = s := by
  induction bs generalizing s i with
  | nil => rfl
  | cons b bs ih =>
    have first : { s.writeExternal q (s.bytePa x i) b with
        mem := s.mem, codeStale := s.codeStale, walks := s.walks } = s := by
      unfold State.writeExternal
      split <;> rfl
    have rest := congrArg (fun t : State => { t with mem := s.mem, codeStale := s.codeStale, walks := s.walks })
      (ih (s.writeExternal q (s.bytePa x i) b) (i + 1))
    exact rest.trans first

theorem State.extKey_inj {s : State} {ns : Bool} {a b : Word} (h : s.extKey ns a = s.extKey ns b) : a = b := by
  have low (c : Word) : s.extKey ns c % 2 ^ 32 = c.toNat := by
    unfold State.extKey
    split <;> omega
  exact BitVec.eq_of_toNat_eq ((low a).symm.trans ((congrArg (· % 2 ^ 32) h).trans (low b)))

/-- The key of the byte at an offset from a physical address. -/
def State.keyAt (s : State) (ns : Bool) (pa : Word) (i : Nat) : Nat := s.extKey ns (pa + BitVec.ofNat 32 i)

theorem State.keyAt_inj {s : State} {ns : Bool} {pa : Word} {i j : Nat} (hi : i < 2 ^ 32) (hj : j < 2 ^ 32)
    (h : s.keyAt ns pa i = s.keyAt ns pa j) : i = j := by
  have eq := congrArg BitVec.toNat (add_left_cancel (State.extKey_inj h))
  rwa [BitVec.toNat_ofNat, BitVec.toNat_ofNat, Nat.mod_eq_of_lt hi, Nat.mod_eq_of_lt hj] at eq

/-- Of the bytes from an address up, with no device there, a store writes those given and no other. -/
theorem State.Plain.storeBytes_read {s : State} (h : s.Plain) (hw : Memory.wf s.mem = true) (q : Request) (x : Translation)
    (i : Nat) (bs : List Byte) :
    (∀ j, (∀ k, k < bs.length → j ≠ s.keyAt q.ns x.pa (i + k)) →
      Memory.read (s.storeBytes q x i bs).mem j = Memory.read s.mem j) ∧
    (i + bs.length ≤ 2 ^ 32 → ∀ k (hk : k < bs.length),
      Memory.read (s.storeBytes q x i bs).mem (s.keyAt q.ns x.pa (i + k)) = bs[k]) := by
  induction bs generalizing s i with
  | nil => exact ⟨fun _ _ => rfl, fun _ k hk => absurd hk (Nat.not_lt_zero k)⟩
  | cons b bs ih =>
    have step : s.storeBytes q x i (b :: bs) = (s.storeByte (s.keyAt q.ns x.pa i) b).storeBytes q x (i + 1) bs := by
      simp [State.storeBytes, State.writeExternal, h.devices, State.bytePa, h.byteOrder, State.keyAt]
    have plain : (s.storeByte (s.keyAt q.ns x.pa i) b).Plain := { h with }
    obtain ⟨other, same⟩ := ih plain (State.storeByte_wf _ _ _ hw) (i + 1)
    have next (k : Nat) : i + 1 + k = i + (k + 1) := by omega
    have keys (k : Nat) : (s.storeByte (s.keyAt q.ns x.pa i) b).keyAt q.ns x.pa (i + 1 + k) =
        s.keyAt q.ns x.pa (i + (k + 1)) := congrArg (s.keyAt q.ns x.pa) (next k)
    simp only [keys] at other same
    rw [step]
    refine ⟨fun j hj => ?_, fun hi k hk => ?_⟩
    · rw [other j fun k hk => hj (k + 1) (Nat.succ_lt_succ hk), State.storeByte_read _ _ _ _ hw,
        if_neg (show j ≠ s.keyAt q.ns x.pa i from hj 0 (Nat.zero_lt_succ _))]
    · rw [List.length_cons] at hi hk
      cases k with
      | zero =>
        have first : ∀ k, k < bs.length → s.keyAt q.ns x.pa i ≠ s.keyAt q.ns x.pa (i + (k + 1)) := fun k hk he =>
          absurd (State.keyAt_inj (by omega) (by omega) he) (by omega)
        exact (other _ first).trans ((State.storeByte_read _ _ _ _ hw).trans (if_pos rfl))
      | succ k => exact same (by omega) k (by omega)

/-! Values -/

theorem littleBytes_length (n : Nat) (w : Word) : (littleBytes n w).length = n := by
  induction n generalizing w with
  | zero => rfl
  | succ n ih => simp [littleBytes, ih]

/-- The low bytes of a value, put together again. -/
theorem getLsbD_littleValue_littleBytes (n : Nat) (w : Word) (j : Nat) :
    (littleValue (littleBytes n w)).getLsbD j = (decide (j < 8 * n) && w.getLsbD j) := by
  induction n generalizing w j with
  | zero => simp [littleBytes, littleValue]
  | succ n ih =>
    simp only [littleBytes, littleValue, BitVec.getLsbD_or, BitVec.getLsbD_shiftLeft, ih]
    by_cases h8 : j < 8
    · simp [h8, show j < 32 by omega, show j < 8 * (n + 1) by omega]
    · by_cases h32 : j < 32
      · simp [h8, h32, show j - 8 < 8 * n ↔ j < 8 * (n + 1) by omega, show 8 + (j - 8) = j by omega]
      · simp [h8, h32, BitVec.getLsbD_of_ge w j (by omega)]


/-! Whole accesses -/

theorem alignData_aligned {p : Acc} {a : Word} {s : State} (ha : a.toNat % p.ty.size (s.sctlr 22) = 0) :
    alignData p a s = .ok ((a, false), s) := by
  simp only [alignData, alignmentCheck_aligned ha]

/-- The bytes from an address of plain memory up. -/
def State.plainBytes (s : State) (a : Word) (n : Nat) : List Byte :=
  (List.range n).map fun i => s.plainByte (a + BitVec.ofNat 32 i)

/-- The bytes from an address up lie at the modified virtual addresses from its own up. -/
def State.Linear (s : State) (a : Word) (n : Nat) : Prop :=
  ∀ i, i < n → s.fcse (!s.isSecure) (a + BitVec.ofNat 32 i) = s.fcse (!s.isSecure) a + BitVec.ofNat 32 i

theorem State.Plain.linear {s : State} (h : s.Plain) {a : Word} {k : Nat} (hk : k ≤ 25) (ha : a.toNat % 2 ^ k = 0) :
    s.Linear a (2 ^ k) :=
  fun i hi => h.fcse_add hk ha (by rw [BitVec.toNat_ofNat]; exact (Nat.mod_le _ _).trans_lt hi)

/-- The keys of a linear access are those of its bytes. -/
theorem State.Linear.keyAt {s : State} {a : Word} {n i : Nat} (h : s.Linear a n) (hi : i < n) :
    s.keyAt (!s.isSecure) (s.fcse (!s.isSecure) a) i = s.plainKey (a + BitVec.ofNat 32 i) :=
  congrArg (s.extKey !s.isSecure) (h i hi).symm

namespace PlainAcc

variable {s : State} {p : Acc} (h : PlainAcc s p)

include h

theorem keepLow (addr a : Word) : PlainAcc s (p.keepLow addr a) := { h with }

/-- A load completes with the little-endian value of its bytes, and leaves a record. -/
theorem memRead {a : Word} {n : Nat} (ha : a.toNat % p.ty.size (s.sctlr 22) = 0) (hn : s.Linear a n) :
    ∃ ts, memRead p a n s = .ok (littleValue (s.plainBytes a n), { s with transfers := ts }) := by
  obtain ⟨x, ts, hread⟩ := (h.keepLow a a).readPiece a n
  have bytes : (List.range n).map (fun i =>
      Memory.read s.mem (s.extKey (!s.isSecure) (s.fcse (!s.isSecure) a + BitVec.ofNat 32 i))) = s.plainBytes a n :=
    List.map_congr_left fun i hi => congrArg (Memory.read s.mem) (hn.keyAt (List.mem_range.mp hi))
  have order : State.bigEndian { s with transfers := ts } = false := by
    simp [State.bigEndian, h.little, show State.bigEndian32 { s with transfers := ts } = false from h.byteOrder]
  rw [bytes] at hread
  refine ⟨ts, ?_⟩
  unfold Machine.memRead
  rw [exec_bind_ok (alignData_aligned ha)]
  simp only [Bool.false_eq_true, if_false]
  rw [exec_bind_ok hread, exec_bind_ok (look_run _ _), order]
  simp [bytesValue, exec_pure, BitVec.rotateRight, BitVec.rotateRightAux]

/-- A store completes, changes the bytes addressed and no other, and leaves what is not memory as it was. -/
theorem memWrite {a : Word} {n : Nat} (v : Word) (hw : Memory.wf s.mem = true) (hn4 : n ≤ 4)
    (ha : a.toNat % p.ty.size (s.sctlr 22) = 0) (hn : s.Linear a n) :
    ∃ t, memWrite p a n v s = .ok ((), t) ∧
      { t with mem := s.mem, codeStale := s.codeStale, walks := s.walks, transfers := s.transfers } = s ∧
      (∀ j, (∀ i, i < n → j ≠ s.plainKey (a + BitVec.ofNat 32 i)) → Memory.read t.mem j = Memory.read s.mem j) ∧
      ∀ i (hi : i < n), Memory.read t.mem (s.plainKey (a + BitVec.ofNat 32 i)) =
        (littleBytes n v)[i]'(by rw [littleBytes_length]; exact hi) := by
  obtain ⟨q, x, ts, hwrite, hpa, hns⟩ := (h.keepLow a a).writePiece a (littleBytes n v)
  obtain ⟨other, same⟩ := h.toPlain.storeBytes_read hw q x 0 (littleBytes n v)
  have hlen := littleBytes_length n v
  rw [hlen] at other
  have key {i : Nat} (hi : i < n) : s.keyAt q.ns x.pa (0 + i) = s.plainKey (a + BitVec.ofNat 32 i) := by
    rw [hns, hpa, Nat.zero_add, hn.keyAt hi]
  refine ⟨{ s.storeBytes q x 0 (littleBytes n v) with transfers := ts }, ?_, ?_,
    fun j hj => other j fun k hk => key hk ▸ hj k hk, fun i hi => ?_⟩
  · unfold Machine.memWrite
    rw [exec_bind_ok (alignData_aligned ha)]
    dsimp only
    rw [exec_bind_ok (look_run _ s), show s.bigEndian = false by simp [State.bigEndian, h.little, h.byteOrder]]
    simp only [Bool.false_eq_true, if_false]
    exact exec_bind_ok hwrite
  · exact congrArg (fun t : State => { t with transfers := s.transfers }) (s.storeBytes_frame q x 0 (littleBytes n v))
  · rw [← key hi]
    exact same (by omega) i (by omega)

end PlainAcc

theorem State.plainBytes_value (s : State) (a : Word) :
    littleValue (s.plainBytes a 1) = (s.plainByte a).setWidth 32 ∧
    littleValue (s.plainBytes a 2) = (s.plainByte (a + 1) ++ s.plainByte a).setWidth 32 ∧
    littleValue (s.plainBytes a 4) = s.plainWord a := by
  refine ⟨?_, ?_, ?_⟩
  · simp [State.plainBytes, littleValue]
  · rw [setWidth_append_half]
    simp [State.plainBytes, List.range_succ]
  · rw [State.plainWord, append_word]
    simp [State.plainBytes, List.range_succ]

theorem littleValue_littleBytes {n : Nat} (_ : n ≤ 4) (w : Word) :
    littleValue (littleBytes n w) = w &&& BitVec.ofNat 32 (2 ^ (8 * n) - 1) := by
  refine BitVec.eq_of_getLsbD_eq fun j hj => ?_
  rw [getLsbD_littleValue_littleBytes, BitVec.getLsbD_and, BitVec.getLsbD_ofNat, Nat.testBit_two_pow_sub_one, Bool.and_comm]
  simp [hj]

/-- Settles O56, by the runs of `memRead` and `memWrite` in plain memory. -/
theorem storeThenLoad : Obligations.StoreThenLoad := by
  intro s ld st a v n hinv hplain hdebug _ _ hacc hshape low value
  have hs := State.plain_of_plainMemory hplain
  have acc {t : State} (ht : t.Plain) (hd : t.debugPermitted = false) (p : Acc) (hp : p = ld ∨ p = st) : PlainAcc t p := by
    obtain ⟨hexcl, hcrosses, hfirst⟩ := hacc p hp
    exact { ht with quiet := hd, excl := hexcl, crosses := hcrosses, first := hfirst }
  obtain ⟨k, hk, hn, ha, hld, hst, hvalue, hlow⟩ : ∃ k, k ≤ 2 ∧ n = 2 ^ k ∧ a.toNat % n = 0 ∧
      (∀ u, ld.ty.size u = n) ∧ (∀ u, st.ty.size u = n) ∧ (∀ t, value t = littleValue (t.plainBytes a n)) ∧
      low = littleValue (littleBytes n v) := by
    have values (t : State) := t.plainBytes_value a
    rcases hshape with ⟨rfl, hl, hs⟩ | ⟨rfl, hl, hs, ha⟩ | ⟨rfl, hl, hs, ha⟩
    · exact ⟨0, by omega, rfl, Nat.mod_one _, fun _ => by rw [hl]; rfl, fun _ => by rw [hs]; rfl,
        fun t => (values t).1.symm, (littleValue_littleBytes (n := 1) (by omega) v).symm⟩
    · exact ⟨1, by omega, rfl, even_of_low ha, fun _ => by rw [hl]; rfl, fun _ => by rw [hs]; rfl,
        fun t => (values t).2.1.symm, (littleValue_littleBytes (n := 2) (by omega) v).symm⟩
    · refine ⟨2, by omega, rfl, low_eq_zero_iff.mp ha, fun _ => by rw [hl]; rfl, fun _ => by rw [hs]; rfl,
        fun t => (values t).2.2.symm, ?_⟩
      rw [littleValue_littleBytes (by omega)]
      exact (BitVec.and_allOnes (x := v)).symm
  have hlin : s.Linear a n := hn ▸ hs.linear (by omega) (hn ▸ ha)
  have hn4 : n ≤ 4 := hn ▸ Nat.pow_le_pow_right (n := 2) (by omega) hk
  obtain ⟨t, hwrite, hframe, hother, hsame⟩ :=
    (acc hs hdebug st (.inr rfl)).memWrite v hinv.memory hn4 ((hst _).symm ▸ ha) hlin
  obtain ⟨ts, hread⟩ := (acc hs hdebug ld (.inl rfl)).memRead ((hld _).symm ▸ ha) hlin
  have hplain_t : t.plainMemory = true := (congrArg State.plainMemory hframe).trans hplain
  have hdebug_t : t.debugPermitted = false := (congrArg State.debugPermitted hframe).trans hdebug
  have hlin_t : t.Linear a n := (congrArg (fun u : State => u.Linear a n) hframe).mpr hlin
  obtain ⟨ts', hread_t⟩ := (acc (State.plain_of_plainMemory hplain_t) hdebug_t ld (.inl rfl)).memRead
    ((hld _).symm ▸ ha) hlin_t
  have hbytes : t.plainBytes a n = littleBytes n v := by
    have key (i : Nat) : t.plainKey (a + BitVec.ofNat 32 i) = s.plainKey (a + BitVec.ofNat 32 i) := by
      have same := congrArg (fun u : State => u.plainKey (a + BitVec.ofNat 32 i)) hframe
      exact same
    refine List.ext_getElem (by simp [State.plainBytes, littleBytes_length]) fun i hi _ => ?_
    have hin : i < n := by simpa [State.plainBytes] using hi
    simp only [State.plainBytes, List.getElem_map, List.getElem_range, State.plainByte, key, hsame i hin]
  refine ⟨⟨ts, hvalue s ▸ hread⟩, t, hwrite, ⟨ts', ?_⟩, hother⟩
  rw [hlow, ← hbytes]
  exact hread_t

end Sys2Proof.Machine

namespace Sys2Proof.Machine

/-! The frame of a data access. What no access that completes changes is one part of the state (`State.fixed`); an access
from state `c` stays within a scope (`Within`): the lines of the data cache are of one kind, and of memory it changes bytes
under some keys only, those that it stores and those of lines that may be written back. -/

/-- The state with a value of its own for all that a data access can change; the Cache Dirty Status only by one that
stores. -/
def State.fixed (stores : Bool) (s : State) : State :=
  { s with
    secure := if stores then { s.secure with cacheDirty := false } else s.secure
    nonSecure := if stores then { s.nonSecure with cacheDirty := false } else s.nonSecure
    cp15 := { s.cp15 with
      tlbLock := Vector.replicate 8 { va := 0, pa := 0, attr := 0 }
      tlbLockdown := 0
      dMasterValid := Vector.replicate 8 0 }
    dbg := { s.dbg with watchHit := none, dscr := if s.halted then 1 else s.dbg.dscr }
    mem := [], pendingAbort := none, codeStale := [], dcache := [], walks := [], transfers := [], wrapped := false
    draws := 0 }

/-- What an access may do to the data cache and to memory. -/
structure Scope where
  /-- It may set the Cache Dirty Status. -/
  stores : Bool
  /-- The lines that the data cache holds. -/
  line : CacheLine → Prop
  /-- The keys of the bytes that may change. -/
  byte : Nat → Prop

/-- The bytes outside the scope are those of the memory `m`, and the data cache holds lines of the scope. -/
structure Scope.Holds (D : Scope) (m : List Host.Cell) (t : State) : Prop where
  mem : ∀ k, ¬D.byte k → Memory.read t.mem k = Memory.read m k
  lines : ∀ l ∈ t.dcache, D.line l

/-- The state `u` differs from `c` by no more than a data access of this scope. -/
structure Within (D : Scope) (c u : State) : Prop extends D.Holds c.mem u where
  fixed : u.fixed D.stores = c.fixed D.stores
  wf : u.memWf

/-- A change of what no claim looks at, in which the data cache may only lose lines. -/
structure Bare (s t : State) : Prop where
  fixed : ∀ b, t.fixed b = s.fixed b
  mem : t.mem = s.mem
  lines : t.dcache ⊆ s.dcache

namespace Bare

variable {s t u : State}

theorem refl (s : State) : Bare s s := ⟨fun _ => rfl, rfl, fun _ h => h⟩
theorem trans (h : Bare s t) (k : Bare t u) : Bare s u :=
  ⟨fun b => (k.fixed b).trans (h.fixed b), k.mem.trans h.mem, fun _ m => h.lines (k.lines m)⟩

/-- The data cache is the same. -/
theorem of_eq (hf : ∀ b, t.fixed b = s.fixed b) (hm : t.mem = s.mem) (hd : t.dcache = s.dcache) : Bare s t :=
  ⟨hf, hm, fun _ h => hd ▸ h⟩

theorem ite {c : Prop} [Decidable c] (ht : Bare s t) (hu : Bare s u) : Bare s (if c then t else u) := by
  split <;> assumption

theorem foldl {α : Type} {f : State → α → State} (h : ∀ s a, Bare s (f s a)) (l : List α) (s : State) :
    Bare s (l.foldl f s) := by
  induction l generalizing s with
  | nil => exact .refl s
  | cons a l ih => exact (h s a).trans (ih _)

end Bare

section

variable (s : State)

theorem State.draw_bare : Bare s { s with draws := s.draws + 1 } := .of_eq (fun _ => rfl) rfl rfl
theorem State.touch_bare (k : Nat) : Bare s (s.touch k) := .of_eq (fun _ => rfl) rfl rfl
theorem State.noteTransfer_bare (q : Request) (d : List Host.Cell) (e : Option BusError) :
    Bare s (s.noteTransfer q d e) := .of_eq (fun _ => rfl) rfl rfl
theorem State.notePiece_bare (p : Acc) (va : Word) (x : Translation) (q : Request) (bs : List Byte)
    (e : Option BusError) : Bare s (s.notePiece p va x q bs e) := .of_eq (fun _ => rfl) rfl rfl
theorem State.notePast_bare (p : Acc) (va : Word) : Bare s (s.notePast p va) := .of_eq (fun _ => rfl) rfl rfl
theorem State.drawWalk_bare : Bare s s.drawWalk := .of_eq (fun _ => rfl) rfl rfl
theorem State.dropLine_bare (w : BitVec 2) (k : Nat) : Bare s (s.dropLine w k) :=
  ⟨fun _ => rfl, rfl, List.filter_subset_self _⟩
theorem State.passCode_bare (a b : StaleStage) (p : StaleCode → Bool) : Bare s (s.passCode a b p) :=
  .of_eq (fun _ => rfl) rfl rfl

theorem State.addRecord_bare (r : WalkRecord) : Bare s (s.addRecord r) := by
  unfold State.addRecord
  exact .ite (.refl s) (.of_eq (fun _ => rfl) rfl rfl)

theorem State.recordWalk_bare (ns : Bool) (asid : BitVec 8) (mva : Word) (m : Mapping) (w : Walk) :
    Bare s (s.recordWalk ns asid mva m w) := s.addRecord_bare _

theorem State.recordFault_bare (ns : Bool) (mva : Word) (w : Walk) : Bare s (s.recordFault ns mva w) :=
  s.addRecord_bare _

theorem State.lockWalk_bare (ns : Bool) (asid : BitVec 8) (mva : Word) (m : Mapping) (l2 : Word) :
    Bare s (s.lockWalk ns asid mva m l2) := by
  unfold State.lockWalk
  exact .ite (.of_eq (fun _ => rfl) rfl rfl) (.refl s)

theorem State.validate_bare (w : BitVec 2) (k : Nat) : Bare s (s.validate w k) := by
  unfold State.validate
  exact .ite (.refl s) ⟨fun _ => rfl, rfl, List.filter_subset_self _⟩

theorem State.hitWatch_bare (mva : Word) (w : Bool) : Bare s (s.hitWatch mva w) := by
  unfold State.hitWatch
  exact .ite (.refl s) (.of_eq (fun _ => rfl) rfl rfl)

theorem State.noteWatch_bare (p : Acc) (va : Word) (n : Nat) : Bare s (s.noteWatch p va n) := by
  induction n with
  | zero => exact .refl s
  | succ n ih => exact .ite (ih.trans (State.hitWatch_bare _ _ _)) ih

theorem State.pieceState_bare (p : Acc) (va : Word) (n : Nat) : Bare s (s.pieceState p va n) :=
  (s.noteWatch_bare p va n).trans (State.notePast_bare _ _ _)

/-- In Debug state an imprecise abort sets a sticky bit of the DSCR. -/
theorem State.impreciseAbort_bare (e : BusError) (w : Bool) : Bare s (s.impreciseAbort e w) := by
  have sticky : Bare s (if s.halted then { s with dbg := { s.dbg with dscr := s.dbg.dscr ||| 0x80 } } else s) := by
    split
    · rename_i h
      refine .of_eq (fun b => ?_) rfl rfl
      have h' : ({ s with dbg := { s.dbg with dscr := s.dbg.dscr ||| 0x80 } } : State).halted = true := by
        simpa [State.halted] using h
      simp only [State.fixed, h, h', if_true]
    · exact .refl s
  unfold State.impreciseAbort
  exact .ite sticky (sticky.trans (.of_eq (fun _ => rfl) rfl rfl))

end

/-! Translation: what it leaves, and what it answers -/

theorem State.lookup_bare (s : State) (ns : Bool) (asid : BitVec 8) (mva : Word) :
    (s.lookup ns asid mva).Leaves (Bare s) := by
  have walk (m : Mapping) (w : Walk) : Bare s (s.drawWalk.recordWalk ns asid mva m w) :=
    s.drawWalk_bare.trans (State.recordWalk_bare _ _ _ _ _ _)
  unfold State.lookup
  dsimp only
  split
  · trivial
  · split
    · trivial
    · split
      · exact s.drawWalk_bare.trans (State.recordFault_bare _ _ _ _)
      · split
        · exact walk _ _
        · exact (walk _ _).trans (State.lockWalk_bare _ _ _ _ _ _)
      · split
        · exact s.drawWalk_bare
        · trivial
      · split
        · exact s.drawWalk_bare
        · trivial

theorem State.translate_bare (s : State) (ns : Bool) (asid : BitVec 8) (mva : Word) (acc : Access) (priv : Bool)
    (who : Client) : (s.translate ns asid mva acc priv who).Leaves (Bare s) := by
  unfold State.translate
  dsimp only
  split
  · exact .refl s
  · have hl := s.lookup_bare ns asid mva
    revert hl
    cases s.lookup ns asid mva with
    | found m t =>
      intro (hl : Bare s t)
      have h := t.checkMapping_leaves ns m acc priv who
      dsimp only
      revert h
      cases t.checkMapping ns m acc priv who with
      | ok x u => intro (h : u = t); exact h ▸ hl
      | abort f u => intro (h : u = t); exact h ▸ hl
      | refused r => exact id
    | abort f t => exact id
    | refused r => exact id

/-- The offset of an address in a page of 4KB. -/
def pageOffset (a : Word) : BitVec 12 := a.extractLsb' 0 12

theorem pageOffset_toNat (a : Word) : (pageOffset a).toNat = a.toNat % 4096 := by simp [pageOffset]

/-- The high part of one address and the low part of another, put together. -/
theorem pageOffset_masked (d a high low : Word) (hh : pageOffset high = 0) (hl : pageOffset low = BitVec.allOnes 12) :
    pageOffset ((d &&& high) ||| (a &&& low)) = pageOffset a := by
  unfold pageOffset at *
  rw [BitVec.extractLsb'_or, BitVec.extractLsb'_and, BitVec.extractLsb'_and, hh, hl, BitVec.and_allOnes]
  exact (congrArg (· ||| _) BitVec.and_zero).trans BitVec.zero_or

/-- A mapping of an address for a world: the address of its byte in the page is kept, and the Non-secure world reaches
Non-secure memory only (R674). -/
structure Mapping.Maps (m : Mapping) (ns : Bool) (mva : Word) : Prop where
  offset : pageOffset m.pa = pageOffset mva
  world : ns = true → m.ns = true

theorem Mapping.maps_forWorld {m : Mapping} {mva : Word} (h : pageOffset m.pa = pageOffset mva) (ns : Bool) :
    (m.forWorld ns).Maps ns mva := ⟨h, fun hn => by simp [Mapping.forWorld, hn]⟩

theorem sectionMapping_offset (xp : Bool) (d mva : Word) : pageOffset (sectionMapping xp d mva).pa = pageOffset mva := by
  unfold sectionMapping
  dsimp only
  split <;> exact pageOffset_masked _ _ _ _ rfl rfl

theorem pageMapping_offset (xp : Bool) (l1 d mva : Word) : pageOffset (pageMapping xp l1 d mva).pa = pageOffset mva := by
  unfold pageMapping
  dsimp only
  split <;> exact pageOffset_masked _ _ _ _ rfl rfl

theorem TlbEntry.mapping_offset (e : TlbEntry) (mva : Word) : pageOffset (e.mapping mva).pa = pageOffset mva := by
  have sizes : e.sizeLog = 24 ∨ e.sizeLog = 12 ∨ e.sizeLog = 16 ∨ e.sizeLog = 20 := by
    unfold TlbEntry.sizeLog
    split <;> (try split) <;> (try split) <;> simp
  unfold TlbEntry.mapping
  dsimp only
  rcases sizes with h | h | h | h <;> rw [h] <;> exact pageOffset_masked _ _ _ _ (by decide) (by decide)

theorem State.walk_maps {s : State} {ns : Bool} {mva : Word} {m : Mapping} {l2 : Word}
    (h : (s.walk ns mva).found = .mapping m l2) : m.Maps ns mva := by
  unfold State.walk State.walkPage MmuFault.walk at h
  dsimp only at h
  split at h
  · cases h
  · split at h
    · cases h
    · split at h
      · cases h
        exact Mapping.maps_forWorld (sectionMapping_offset _ _ _) ns
      · split at h
        · split at h
          · cases h
          · split at h
            · cases h
            · cases h
              exact Mapping.maps_forWorld (pageMapping_offset _ _ _ _) ns
        · cases h

theorem State.lockMatches_maps {s : State} {ns : Bool} {asid : BitVec 8} {mva : Word} {m : Mapping}
    (h : m ∈ s.lockMatches ns asid mva) : m.Maps ns mva := by
  unfold State.lockMatches at h
  split at h
  · cases h
  · obtain ⟨e, -, rfl⟩ := List.mem_map.mp h
    exact Mapping.maps_forWorld (e.mapping_offset mva) ns

theorem State.lookup_maps {s t : State} {ns : Bool} {asid : BitVec 8} {mva : Word} {m : Mapping}
    (h : s.lookup ns asid mva = .found m t) : m.Maps ns mva := by
  obtain ⟨-, -, ⟨-, l2, hw, -⟩ | ⟨ms, hl, -, -⟩⟩ := State.lookup_found h
  · exact State.walk_maps hw
  · exact State.lockMatches_maps (hl ▸ List.mem_cons_self)

/-- What a check that passes answers is what it was given. -/
theorem State.checkMapping_answers {s t : State} {ns : Bool} {m : Mapping} {acc : Access} {priv : Bool} {who : Client}
    {x : Translation} (h : s.checkMapping ns m acc priv who = .ok x t) : x.pa = m.pa ∧ x.ns = m.ns := by
  unfold State.checkMapping at h
  dsimp only at h
  split at h
  · cases h
  · split at h
    · cases h
    · split at h
      · cases h
      · split at h <;> cases h
        exact ⟨rfl, rfl⟩

/-- A translation keeps the offset in the page, and takes the Non-secure world to Non-secure memory. -/
theorem State.translate_maps {s t : State} {ns : Bool} {asid : BitVec 8} {mva : Word} {acc : Access} {priv : Bool}
    {who : Client} {x : Translation} (h : s.translate ns asid mva acc priv who = .ok x t) :
    pageOffset x.pa = pageOffset mva ∧ (ns = true → x.ns = true) := by
  unfold State.translate at h
  dsimp only at h
  split at h
  · cases h
    exact ⟨rfl, id⟩
  · split at h
    · rename_i m u hl
      obtain ⟨hp, hn⟩ := State.checkMapping_answers h
      obtain ⟨ho, hw⟩ := State.lookup_maps hl
      exact ⟨hp ▸ ho, hn ▸ hw⟩
    · cases h
    · cases h


end Sys2Proof.Machine

namespace Sys2Proof.Machine

/-! What an access reads off the state does not change on its way -/

theorem Post.bindOk {α β : Type} {I J E : State → Prop} {m : Exec α} {f : α → Exec β} {s : State} (hm : Post J E (m s))
    (hf : ∀ a t, m s = .ok (a, t) → J t → Post I E (f a t)) : Post I E ((m >>= f) s) := by
  rw [exec_bind]
  cases e : m s with
  | error x => rw [e] at hm; cases x <;> exact hm
  | ok r => rw [e] at hm; exact hf r.1 r.2 e hm

theorem State.fixed_halted (b : Bool) (s : State) : (s.fixed b).halted = s.halted := by
  unfold State.halted State.fixed
  dsimp only
  split
  · exact (show (1#32).getLsbD 0 = true from rfl).trans (Eq.symm ‹_›)
  · rfl

namespace Within

variable {D : Scope} {c s : State} (h : Within D c s)

include h

theorem of_bare {t : State} (k : Bare s t) : Within D c t where
  mem := k.mem ▸ h.mem
  lines := fun l hl => h.lines l (k.lines hl)
  fixed := (k.fixed _).trans h.fixed
  wf := by rw [State.memWf, k.mem]; exact h.wf

/-- What a function reads off the fixed part. -/
theorem reads {α : Type} (f : State → α) (hf : ∀ u : State, f (u.fixed D.stores) = f u) : f s = f c :=
  (hf s).symm.trans ((congrArg f h.fixed).trans (hf c))

theorem pins : s.pins = c.pins := h.reads State.pins fun _ => rfl
theorem running : s.running = c.running := h.reads State.running fun _ => rfl
theorem isSecure : s.isSecure = c.isSecure := h.reads State.isSecure fun _ => rfl
theorem bigEndian : s.bigEndian = c.bigEndian := h.reads State.bigEndian fun _ => rfl
theorem halted : s.halted = c.halted := h.reads State.halted (State.fixed_halted _)
theorem extKey (ns : Bool) (pa : Word) : s.extKey ns pa = c.extKey ns pa :=
  h.reads (fun u => u.extKey ns pa) fun _ => rfl
theorem tcmOf (data ns : Bool) (pa : Word) : s.tcmOf data ns pa = c.tcmOf data ns pa :=
  h.reads (fun u => u.tcmOf data ns pa) fun _ => rfl
theorem tcmByteOf (data ns : Bool) (pa : Word) : s.tcmByteOf data ns pa = c.tcmByteOf data ns pa :=
  h.reads (fun u => u.tcmByteOf data ns pa) fun _ => rfl
theorem bytePa (x : Translation) (i : Nat) : s.bytePa x i = c.bytePa x i := h.reads (fun u => u.bytePa x i) fun _ => rfl
theorem pieceKey (x : Translation) (i : Nat) : s.pieceKey x i = c.pieceKey x i :=
  h.reads (fun u => u.pieceKey x i) fun _ => rfl

theorem sctlr (k : Nat) : s.sctlr k = c.sctlr k := by
  refine h.reads (fun u => u.sctlr k) fun u => ?_
  show ((u.fixed D.stores).bankOf (!u.isSecure)).sctlr.getLsbD k = (u.bankOf (!u.isSecure)).sctlr.getLsbD k
  cases u.isSecure <;> cases D.stores <;> rfl

theorem fcse (ns : Bool) (va : Word) : s.fcse ns va = c.fcse ns va := by
  refine h.reads (fun u => u.fcse ns va) fun u => ?_
  cases ns <;> cases D.stores <;> rfl

end Within

/-! Changes within a scope -/

@[simp] theorem State.dataAbort_dcache (s : State) (f : MmuFault) (far : Word) (w : Bool) :
    (s.dataAbort f far w).dcache = s.dcache := by
  unfold State.dataAbort
  dsimp only
  split <;> simp

/-- What a scope lets a write-back change, where no DMA transfer runs. -/
structure Scope.Allows (D : Scope) (c : State) : Prop where
  idle : c.running = none
  back : ∀ l, D.line l → l.dirty = true → ∀ i, i < 32 → D.byte (c.extKey l.ns (l.pa + BitVec.ofNat 32 i))

namespace Within

variable {D : Scope} {c s : State} (h : Within D c s)

include h

theorem storeByte {k : Nat} (hk : D.byte k) (v : Byte) : Within D c (s.storeByte k v) where
  mem := fun j hj => by
    rw [State.storeByte_read s k j v h.wf, if_neg fun e : j = k => hj (e ▸ hk)]
    exact h.mem j hj
  lines := h.lines
  fixed := h.fixed
  wf := State.storeByte_wf s k v h.wf

theorem dropLine (w : BitVec 2) (k : Nat) : Within D c (s.dropLine w k) := h.of_bare (s.dropLine_bare w k)

theorem putLine {l : CacheLine} (hl : D.line l) : Within D c (s.putLine l) where
  mem := h.mem
  lines := fun l' h' => by
    rcases List.mem_cons.mp h' with rfl | h'
    · exact hl
    · exact (h.dropLine l.way l.set).lines l' h'
  fixed := h.fixed
  wf := h.wf

theorem markDirty (hd : D.stores = true) (ns : Bool) : Within D c (s.markDirty ns) where
  mem := h.mem
  lines := h.lines
  fixed := by
    rw [← h.fixed, hd]
    rfl
  wf := h.wf

theorem dataAbort (f : MmuFault) (far : Word) (w : Bool) : D.Holds c.mem (s.dataAbort f far w) where
  mem := by rw [State.dataAbort_mem]; exact h.mem
  lines := by rw [State.dataAbort_dcache]; exact h.lines

theorem writeExternal {q : Request} {pa : Word} (hk : D.byte (c.extKey q.ns pa)) (v : Byte) :
    Within D c (s.writeExternal q pa v) := by
  unfold State.writeExternal
  split
  · exact h
  · exact h.storeByte (by rw [h.extKey]; exact hk) v

end Within

theorem Within.writeBytes {D : Scope} {c s : State} (h : Within D c s) {q : Request} {pa : Word} {bs : List Byte}
    (hk : ∀ i, i < bs.length → D.byte (c.extKey q.ns (pa + BitVec.ofNat 32 i))) : Within D c (s.writeBytes q pa bs) := by
  induction bs generalizing s pa with
  | nil => exact h
  | cons v bs ih =>
    have next (i : Nat) : pa + 1 + BitVec.ofNat 32 i = pa + BitVec.ofNat 32 (i + 1) := by
      rw [BitVec.ofNat_add, add_assoc, add_comm (1 : Word)]
      rfl
    have first := hk 0 (Nat.zero_lt_succ _)
    have tail : ∀ i, i < bs.length → D.byte (c.extKey q.ns (pa + 1 + BitVec.ofNat 32 i)) := fun i hi =>
      next i ▸ hk (i + 1) (Nat.succ_lt_succ hi)
    rw [show pa + BitVec.ofNat 32 0 = pa from add_zero pa] at first
    unfold State.writeBytes
    dsimp only
    split
    · exact ih h tail
    · exact ih (h.writeExternal first v) tail

/-! Write-backs and linefills -/

namespace Scope.Allows

variable {D : Scope} {c : State} (A : D.Allows c)

include A

theorem cleanLine {s : State} (h : Within D c s) {l : CacheLine} (hl : D.line l) (a : Word) :
    Within D c (s.cleanLine l a) := by
  unfold State.cleanLine
  split
  · rename_i hd
    dsimp only
    split
    · exact (h.of_bare (s.noteTransfer_bare _ _ _)).of_bare (State.impreciseAbort_bare _ _ _)
    · refine (h.writeBytes fun i hi => ?_).of_bare (State.noteTransfer_bare _ _ _ _)
      have key (first : Nat) (hf : first + i < 32) :
          D.byte (c.extKey l.ns (l.pa + BitVec.ofNat 32 first + BitVec.ofNat 32 i)) := by
        rw [add_assoc, ← BitVec.ofNat_add]
        exact A.back l hl hd _ hf
      have hlen : (if l.dirtyLow then 0 else 16) + i < 32 := by
        simp only [List.length_map, List.length_range, CacheLine.request] at hi
        cases hlow : l.dirtyLow <;> cases hhigh : l.dirtyHigh <;> simp_all <;> omega
      have := key _ hlen
      exact this
  · exact h

theorem evictLine {s : State} (h : Within D c s) {l : CacheLine} (hl : D.line l) (a : Word) :
    Within D c (s.evictLine l a) := (A.cleanLine h hl a).dropLine _ _

end Scope.Allows

end Sys2Proof.Machine

namespace Sys2Proof.Machine

/-! The parts of an access stay within its scope -/

/-- A part of a meaning stays within a scope; where it ends the instruction the bytes outside of it are as they were. -/
abbrev StaysWithin {α : Type} (D : Scope) (c : State) (m : Exec α) : Prop := Stays (Within D c) (D.Holds c.mem) m

/-- Clean lines may come into the data cache: the scope of an access that loads. -/
def Scope.Fills (D : Scope) : Prop := ∀ l : CacheLine, l.dirty = false → D.line l

theorem State.mem_of_lineIn {s : State} {w : BitVec 2} {k : Nat} {l : CacheLine} (h : s.lineIn w k = some l) :
    l ∈ s.dcache := List.mem_of_find?_eq_some h

/-- A line that an access hits is one of the data cache, with the NS tag of the access. -/
theorem State.mem_of_hitLine {s : State} {mva pa : Word} {ns : Bool} {l : CacheLine} (h : s.hitLine mva pa ns = some l) :
    l ∈ s.dcache ∧ l.ns = ns := by
  have hp := List.find?_some h
  simp only [Bool.and_eq_true, beq_iff_eq] at hp
  exact ⟨List.mem_of_find?_eq_some h, hp.1.2⟩

theorem lookupLine_ok {mva pa : Word} {ns : Bool} {s t : State} {l : CacheLine}
    (h : lookupLine mva pa ns s = .ok (some l, t)) : l ∈ t.dcache ∧ l.ns = ns := by
  unfold lookupLine at h
  split at h
  · cases h
  · rename_i l' hl
    split at h
    · obtain ⟨w, u, hd, h⟩ := exec_bind_ok_iff.mp h
      cases hd
      split at h
      · obtain ⟨_, _, -, h⟩ := exec_bind_ok_iff.mp h
        cases h
      · cases h
        exact State.mem_of_hitLine hl
    · cases h
      exact State.mem_of_hitLine hl

theorem cachedLine_ok {p : Acc} {mva : Word} {x : Translation} {s t : State} {l : CacheLine}
    (h : cachedLine p mva x s = .ok (some l, t)) : l ∈ t.dcache ∧ l.ns = x.ns := by
  unfold cachedLine at h
  split at h
  · cases h
  · split at h
    · obtain ⟨hl, rfl⟩ := Prod.mk.inj (Except.ok.inj h)
      exact State.mem_of_hitLine hl
    · exact lookupLine_ok h

section

variable {D : Scope} {c : State}

theorem updateBare {f : State → State} (h : ∀ s, Bare s (f s)) : StaysWithin D c (update f) :=
  .update fun s hs => hs.of_bare (h s)

theorem draw_within : StaysWithin D c draw := fun s hs => hs.of_bare s.draw_bare

theorem takeDataAbort_within {α : Type} (f : MmuFault) (far : Word) (w : Bool) :
    StaysWithin D c (takeDataAbort f far w : Exec α) := .endWith fun _ hs => hs.dataAbort f far w

theorem takeAlignmentFault_within {α : Type} (va : Word) (w : Bool) :
    StaysWithin D c (takeAlignmentFault va w : Exec α) := .endWith fun _ hs => hs.dataAbort _ _ w

theorem alignData_within (p : Acc) (a : Word) : StaysWithin D c (alignData p a) := by
  intro s hs
  unfold alignData
  split
  · exact hs
  · exact takeAlignmentFault_within _ _ s hs
  · trivial

theorem translateData_within (p : Acc) (va : Word) (u : Bool) : StaysWithin D c (translateData p va u) := by
  intro s hs
  have h := s.translate_bare (!s.isSecure) (s.asidOf !s.isSecure) (s.fcse (!s.isSecure) va)
    (if p.write then .write else .read) p.priv .data
  unfold translateData
  dsimp only
  revert h
  cases s.translate (!s.isSecure) (s.asidOf !s.isSecure) (s.fcse (!s.isSecure) va)
    (if p.write then .write else .read) p.priv .data with
  | refused r => exact fun _ => trivial
  | abort f t => exact fun h => takeDataAbort_within _ _ _ t (hs.of_bare h)
  | ok x t =>
    intro h
    have ht : Within D c t := hs.of_bare h
    dsimp only
    split
    · split
      · exact takeAlignmentFault_within _ _ t ht
      · trivial
    · split
      · trivial
      · exact ht

theorem reportError_within (p : Acc) (va : Word) (x : Translation) (e : BusError) :
    StaysWithin D c (reportError p va x e) := by
  intro s hs
  unfold reportError
  split
  · exact takeDataAbort_within _ _ _ s hs
  · exact hs.of_bare (s.impreciseAbort_bare _ _)

theorem readExternal_within (q : Request) (pa : Word) : StaysWithin D c (readExternal q pa) := by
  unfold readExternal
  exact .branch (.bind draw_within fun _ => .pure _) (.look _)

theorem readBytes_within (q : Request) (x : Translation) (n : Nat) : StaysWithin D c (readBytes q x n) := by
  induction n with
  | zero => exact .pure _
  | succ n ih => exact .bind ih fun _ => .bind (.look _) fun _ => .bind (readExternal_within _ _) fun _ => .pure _

theorem readLine_within (q : Request) (pa : Word) (n : Nat) : StaysWithin D c (readLine q pa n) := by
  induction n with
  | zero => exact .pure _
  | succ n ih => exact .bind ih fun _ => .bind (readExternal_within _ _) fun _ => .pure _

theorem openBytes_within (n : Nat) : StaysWithin D c (openBytes n) := by
  induction n with
  | zero => exact .pure _
  | succ n ih => exact .bind draw_within fun _ => .bind ih fun _ => .pure _

theorem chooseWay_within (set : Nat) : StaysWithin D c (chooseWay set) := by
  intro s hs
  unfold chooseWay
  split
  · exact hs
  · exact Stays.bind draw_within (fun _ => .pure _) s hs

theorem notePiece_within (p : Acc) (va : Word) (x : Translation) (q : Request) (bs : List Byte) :
    StaysWithin D c (notePiece p va x q bs) := by
  have note (w : Word) : StaysWithin D c (update fun s : State => (List.range (w.extractLsb' 0 8).toNat).foldl
      (fun t _ => t.noteTransfer (t.singleRequest p x bs.length) (t.pieceCells x bs) none)
      (s.notePiece p va x q bs none)) :=
    updateBare fun s => (s.notePiece_bare _ _ _ _ _ _).trans (.foldl (fun t _ => t.noteTransfer_bare _ _ _) _ _)
  unfold notePiece
  exact .ite (.bind draw_within note) (.bind (.pure _) note)

theorem readBus_within (p : Acc) (va : Word) (x : Translation) (n : Nat) : StaysWithin D c (readBus p va x n) := by
  refine .bind (.look _) fun q => .bind (.look _) fun e => ?_
  cases e with
  | none => exact .bind (readBytes_within _ _ _) fun _ => .bind (notePiece_within _ _ _ _ _) fun _ => .pure _
  | some e =>
    refine .bind (updateBare fun s => s.notePiece_bare _ _ _ _ _ _) fun _ => ?_
    have report : StaysWithin D c (do reportError p va x e; pure none : Exec (Option (List Byte))) :=
      .bind (reportError_within _ _ _ _) fun _ => .pure _
    exact .ite (.bind (updateBare fun s => s.noteTransfer_bare _ _ _) fun _ => report) report

variable (A : D.Allows c)

include A

theorem dmaInterval_within : StaysWithin D c dmaInterval := fun s hs => by
  rw [dmaInterval_idle (hs.running.trans A.idle)]
  exact hs

theorem lookupLine_within (mva pa : Word) (ns : Bool) : StaysWithin D c (lookupLine mva pa ns) := by
  intro s hs
  unfold lookupLine
  split
  · exact hs
  · rename_i l hl
    split
    · refine Post.bindOk (draw_within s hs) fun w t hd ht => ?_
      obtain ⟨-, rfl⟩ := Prod.mk.inj (Except.ok.inj hd)
      split
      · exact A.evictLine ht (hs.lines l (State.mem_of_hitLine hl).1) pa
      · exact ht
    · exact hs

theorem cachedLine_within (p : Acc) (mva : Word) (x : Translation) : StaysWithin D c (cachedLine p mva x) := by
  unfold cachedLine
  exact .branch (.pure _) (.branch (c := fun _ => _) (.look _) (lookupLine_within A _ _ _))

/-- What a load keeps of the line it hits. -/
theorem heldLine_within (p : Acc) (x : Translation) {hit : Option CacheLine} (hl : ∀ l ∈ hit, D.line l) :
    StaysWithin D c (heldLine p x hit) := by
  intro s hs
  unfold heldLine
  split
  · exact hs
  · split
    · exact hs
    · exact A.evictLine hs (hl _ rfl) _

section

variable (F : D.Fills)

include F

theorem fillLine_within (x : Translation) (mva pa : Word) (priv : Bool) : StaysWithin D c (fillLine x mva pa priv) := by
  refine .bind (.look _) fun set => .bind (chooseWay_within _) fun way => .bind (.update fun s hs => ?_) fun _ =>
    .bind (readLine_within _ _ _) fun data => .bind (.update fun s hs => ?_) fun _ => .pure _
  · split
    · exact A.evictLine hs (hs.lines _ (State.mem_of_lineIn ‹_›)) _
    · exact hs
  · exact ((hs.of_bare (s.noteTransfer_bare _ _ _)).of_bare (State.validate_bare _ _ _)).putLine (F _ rfl)

theorem readFill_within (p : Acc) (va mva : Word) (x : Translation) (n : Nat) :
    StaysWithin D c (readFill p va mva x n) := by
  refine .bind (.look _) fun e => ?_
  cases e with
  | none => exact .bind (fillLine_within A F _ _ _ _) fun l => .map _ (.look _)
  | some e =>
    exact .bind (updateBare fun s => s.noteTransfer_bare _ _ _) fun _ => .bind (reportError_within _ _ _ _) fun _ => .pure _

theorem readRouted_within (p : Acc) (va : Word) (x : Translation) (n : Nat) : StaysWithin D c (readRouted p va x n) := by
  refine .bind (.look _) fun mva => .bind (.look _) fun data => .ite (.map _ (.look _)) fun s hs => ?_
  refine Post.bindOk (cachedLine_within A p mva x s hs) fun hit t hok ht => ?_
  have hl : ∀ l ∈ hit, D.line l := fun l hl => by
    cases hl
    exact ht.lines l (cachedLine_ok hok).1
  refine Stays.bind (heldLine_within A p x hl) (fun held => ?_) t ht
  cases held with
  | some l => exact .map _ (.look _)
  | none =>
    exact .bind (.look _) fun instr => .ite (.map _ (.look _)) (.bind (.look _) fun fills =>
      .ite (readFill_within A F _ _ _ _ _) (readBus_within _ _ _ _))

theorem readPiece_within (p : Acc) (va : Word) (n : Nat) (u : Bool) : StaysWithin D c (readPiece p va n u) := by
  refine .bind (updateBare fun s => s.pieceState_bare p va n) fun _ => .bind (translateData_within _ _ _) fun x =>
    .bind (checkEndianness_stays _) fun _ => .bind (readRouted_within A F _ _ _ _) fun r => ?_
  cases r with
  | some bs => exact .bind (.pure _) fun _ => .pure _
  | none => exact .bind (openBytes_within _) fun _ => .pure _

theorem readSplit_within (p : Acc) (va : Word) (n : Nat) : StaysWithin D c (readSplit p va n) := by
  induction n generalizing va with
  | zero => exact .pure _
  | succ n ih =>
    exact .bind (readPiece_within A F _ _ _ _) fun _ => .bind (dmaInterval_within A) fun _ => .bind (ih _) fun _ => .pure _

theorem memRead_within (p : Acc) (a : Word) (n : Nat) : StaysWithin D c (memRead p a n) :=
  .bind (alignData_within _ _) fun _ => .ite
    (.bind (checkEndianness_stays _) fun _ => .bind (readSplit_within A F _ _ _) fun _ => .bind (.look _) fun _ => .pure _)
    (.bind (readPiece_within A F _ _ _ _) fun _ => .bind (.look _) fun _ => .pure _)

theorem readWordAt_within (p : Acc) (a : Word) : StaysWithin D c (readWordAt p a) :=
  .bind (readPiece_within A F _ _ _ _) fun _ => .bind (.look _) fun _ => .pure _

end

end

end Sys2Proof.Machine

namespace Sys2Proof.Machine

/-! Where the bytes of an aligned piece are -/

/-- A TCM covers whole blocks of 4KB. -/
theorem Tcm.covers_block (t : Tcm) (c : Config.TcmConfig) {a b : Word} (h : a.toNat / 4096 = b.toNat / 4096) :
    t.covers c a = t.covers c b := by
  obtain ⟨k, hk⟩ : ∃ k, c.bytes = 4096 * k := by
    unfold Config.TcmConfig.bytes Config.TcmConfig.sizeLog
    cases c
    · exact ⟨1, rfl⟩
    · exact ⟨1, rfl⟩
    · exact ⟨1, rfl⟩
    · exact ⟨2, rfl⟩
    · exact ⟨4, rfl⟩
    · exact ⟨8, rfl⟩
  simp only [Tcm.covers, hk, ← Nat.div_div_eq_div_mul, h]

theorem State.tcmOf_block (s : State) (data ns : Bool) {a b : Word} (h : a.toNat / 4096 = b.toNat / 4096) :
    s.tcmOf data ns a = s.tcmOf data ns b := by
  have hit (t : Tcm) : t.hit (s.tcmConfig data) a ns = t.hit (s.tcmConfig data) b ns := by
    rw [Tcm.hit, Tcm.hit, Tcm.covers_block _ _ h]
  unfold State.tcmOf
  dsimp only
  rw [hit, hit]

/-- A piece of one, two, four or eight bytes at a multiple of its size. -/
def Natural (pa : Word) (n : Nat) : Prop := n ∣ 8 ∧ pa.toNat % n = 0

theorem Natural.byte (pa : Word) : Natural pa 1 := ⟨one_dvd 8, Nat.mod_one _⟩

/-- Its bytes, numbered in the order of BE-32 too, are in one block of 4KB. -/
theorem State.bytePa_block (s : State) {x : Translation} {n i : Nat} (h : Natural x.pa n) (hi : i < n) :
    (s.bytePa x i).toNat / 4096 = x.pa.toNat / 4096 := by
  obtain ⟨hn, hpa⟩ := h
  have up : (x.pa + BitVec.ofNat 32 i).toNat / 4096 = x.pa.toNat / 4096 := by
    have hle : n ≤ 8 := Nat.le_of_dvd (by omega) hn
    rw [BitVec.toNat_add, BitVec.toNat_ofNat]
    interval_cases n <;> omega
  have swapped (w : Word) : (w ^^^ 3).toNat / 4096 = w.toNat / 4096 := by
    rw [BitVec.toNat_xor, show 4096 = 2 ^ 12 from rfl, Nat.xor_div_two_pow]
    exact Nat.xor_zero _
  unfold State.bytePa
  dsimp only
  split
  · rw [swapped, up]
  · exact up

/-- The key of a byte of a piece, by what serves its first byte. -/
theorem State.pieceKey_of_data {s : State} {x : Translation} {n i : Nat} (h : Natural x.pa n) (hi : i < n)
    (ht : (s.tcmOf true x.ns x.pa).isSome = true) :
    s.pieceKey x i = (s.tcmByteOf true x.ns (s.bytePa x i)).getD 0 := by
  have hb := s.tcmOf_block true x.ns (s.bytePa_block h hi)
  obtain ⟨k, hk⟩ := Option.isSome_iff_exists.mp ht
  simp [State.pieceKey, State.byteKey, State.tcmByte, State.tcmByteOf, hb, hk]

theorem State.pieceKey_of_instr {s : State} {x : Translation} {n i : Nat} (h : Natural x.pa n) (hi : i < n)
    (hd : s.tcmOf true x.ns x.pa = none) (ht : (s.tcmOf false x.ns x.pa).isSome = true) :
    s.pieceKey x i = (s.tcmByteOf false x.ns (s.bytePa x i)).getD 0 := by
  have hb (data : Bool) := s.tcmOf_block data x.ns (s.bytePa_block h hi)
  obtain ⟨k, hk⟩ := Option.isSome_iff_exists.mp ht
  simp [State.pieceKey, State.byteKey, State.tcmByte, State.tcmByteOf, hb, hk, hd]

theorem State.pieceKey_of_external {s : State} {x : Translation} {n i : Nat} (h : Natural x.pa n) (hi : i < n)
    (hd : s.tcmOf true x.ns x.pa = none) (ht : s.tcmOf false x.ns x.pa = none) :
    s.pieceKey x i = s.extKey x.ns (s.bytePa x i) := by
  have hb (data : Bool) := s.tcmOf_block data x.ns (s.bytePa_block h hi)
  simp [State.pieceKey, State.byteKey, State.tcmByte, State.tcmByteOf, hb, ht, hd]

/-! Stores within a scope -/

/-- What a store of `n` bytes at a translated address asks of a scope: its bytes, and the lines that it can hit. -/
structure Scope.Takes (D : Scope) (c : State) (x : Translation) (n : Nat) : Prop where
  stores : D.stores = true
  natural : Natural x.pa n
  bytes : ∀ i, i < n → D.byte (c.pieceKey x i)
  hit : ∀ l l' : CacheLine, D.line l → l.ns = x.ns → l'.ns = l.ns → l'.line = l.line → D.line l'

theorem valueBytes_length (big : Bool) (n : Nat) (v : Word) : (valueBytes big n v).length = n := by
  unfold valueBytes
  cases big <;> simp [littleBytes_length]

section

variable {D : Scope} {c s : State}

theorem Within.storeTcm (h : Within D c s) {data : Bool} {x : Translation} {i : Nat} {bs : List Byte}
    (hk : ∀ j, i ≤ j → j < i + bs.length → D.byte ((c.tcmByteOf data x.ns (c.bytePa x j)).getD 0)) :
    Within D c (s.storeTcm data x i bs) := by
  induction bs generalizing s i with
  | nil => exact h
  | cons b bs ih =>
    rw [List.length_cons] at hk
    refine ih (h.storeByte ?_ b) fun j hj hlen => hk j (by omega) (by omega)
    rw [h.bytePa, h.tcmByteOf]
    exact hk i (by omega) (by omega)

theorem Within.storeBytes (h : Within D c s) {q : Request} {x : Translation} {i : Nat} {bs : List Byte}
    (hk : ∀ j, i ≤ j → j < i + bs.length → D.byte (c.extKey q.ns (c.bytePa x j))) :
    Within D c (s.storeBytes q x i bs) := by
  induction bs generalizing s i with
  | nil => exact h
  | cons b bs ih =>
    rw [List.length_cons] at hk
    refine ih (h.writeExternal ?_ b) fun j hj hlen => hk j (by omega) (by omega)
    rw [h.bytePa]
    exact hk i (by omega) (by omega)

theorem CacheLine.setBytes_place (l : CacheLine) (pa : Nat → Word) (i : Nat) (bs : List Byte) :
    (l.setBytes pa i bs).ns = l.ns ∧ (l.setBytes pa i bs).line = l.line := by
  induction bs generalizing l i with
  | nil => exact ⟨rfl, rfl⟩
  | cons b bs ih => exact ih (l.setByte _ b) (i + 1)

theorem CacheLine.markDirty_place (l : CacheLine) (pa : Word) :
    (l.markDirty pa).ns = l.ns ∧ (l.markDirty pa).line = l.line := by
  unfold CacheLine.markDirty
  split <;> exact ⟨rfl, rfl⟩

theorem Scope.Takes.storeHit {x : Translation} {bs : List Byte} (T : D.Takes c x bs.length) (h : Within D c s)
    {l : CacheLine} (hl : D.line l) (hns : l.ns = x.ns) : Within D c (s.storeHit l x bs) := by
  obtain ⟨hset, hline⟩ := l.setBytes_place (s.bytePa x) 0 bs
  unfold State.storeHit
  dsimp only
  split
  · obtain ⟨hset', hline'⟩ := (l.setBytes (s.bytePa x) 0 bs).markDirty_place x.pa
    have touched : Bare s ((List.range bs.length).foldl (fun t i => t.touch (t.extKey x.ns (t.bytePa x i))) s) :=
      .foldl (fun t _ => t.touch_bare _) _ _
    exact ((h.of_bare touched).putLine (T.hit l _ hl hns (hset'.trans hset) (hline'.trans hline))).markDirty T.stores _
  · exact h.putLine (T.hit l _ hl hns hset hline)

/-- The request of a piece is to the kind of memory that its translation names. -/
theorem State.pieceRequest_ns (s : State) (p : Acc) (x : Translation) (va : Word) (n : Nat) :
    (s.pieceRequest p x va n).ns = x.ns := by
  unfold State.pieceRequest
  split <;> rfl

theorem writeBus_within {x : Translation} {bs : List Byte} (T : D.Takes c x bs.length)
    (hd : c.tcmOf true x.ns x.pa = none) (hi : c.tcmOf false x.ns x.pa = none) (p : Acc) (va : Word) :
    StaysWithin D c (writeBus p va x bs) := by
  intro s hs
  unfold writeBus
  rw [exec_bind_ok (look_run _ s), exec_bind_ok (look_run _ s)]
  cases s.pieceError (s.pieceRequest p x va bs.length) x bs.length with
  | some e => exact Stays.bind (updateBare fun s => s.notePiece_bare _ _ _ _ _ _) (fun _ => reportError_within _ _ _ _) s hs
  | none =>
    have stored : Within D c (s.storeBytes (s.pieceRequest p x va bs.length) x 0 bs) := by
      refine hs.storeBytes fun j _ hj => ?_
      rw [State.pieceRequest_ns, ← State.pieceKey_of_external T.natural (by omega) hd hi]
      exact T.bytes j (by omega)
    exact notePiece_within _ _ _ _ _ _ stored

variable (A : D.Allows c)

include A

/-- A store of a translated piece changes the bytes of the piece. -/
theorem writeRouted_within {x : Translation} {bs : List Byte} (T : D.Takes c x bs.length) (p : Acc) (va : Word) :
    StaysWithin D c (writeRouted p va x bs) := by
  intro s hs
  unfold writeRouted
  rw [exec_bind_ok (look_run _ s), exec_bind_ok (look_run _ s), hs.tcmOf]
  split
  · rename_i hd
    refine hs.storeTcm fun j _ hj => ?_
    rw [← State.pieceKey_of_data T.natural (by omega) hd]
    exact T.bytes j (by omega)
  · rename_i hd
    have hd : c.tcmOf true x.ns x.pa = none := by simpa using hd
    refine Post.bindOk (cachedLine_within A p _ x s hs) fun hit t hok ht => ?_
    rw [exec_bind_ok (look_run _ t)]
    have rest (kept : Bool) : StaysWithin D c (if kept then pure () else do
        let instr ← look fun s => (s.tcmOf false x.ns x.pa).isSome
        if instr then update fun s => s.storeTcm false x 0 bs else writeBus p va x bs) := by
      refine .ite (.pure _) fun u hu => ?_
      rw [exec_bind_ok (look_run _ u), hu.tcmOf]
      split
      · rename_i hi
        refine hu.storeTcm fun j _ hj => ?_
        rw [← State.pieceKey_of_instr T.natural (by omega) hd hi]
        exact T.bytes j (by omega)
      · rename_i hi
        exact writeBus_within T hd (by simpa using hi) p va u hu
    cases hit with
    | none =>
      exact rest _ t ht
    | some l =>
      obtain ⟨hl, hns⟩ := cachedLine_ok hok
      exact rest _ _ (T.storeHit ht (ht.lines l hl) hns)

/-- A store of a piece, where its translation is one that the scope takes. -/
theorem writePiece_post {p : Acc} {va : Word} {bs : List Byte} {un : Bool} (hs : Within D c s)
    (hT : ∀ x t, translateData p va un (s.pieceState p va bs.length) = .ok (x, t) → D.Takes c x bs.length) :
    Post (Within D c) (D.Holds c.mem) (writePiece p va bs un s) := by
  unfold writePiece
  rw [exec_bind_ok (update_run _ s)]
  have noted : Within D c (s.pieceState p va bs.length) := hs.of_bare (s.pieceState_bare p va _)
  refine Post.bindOk (translateData_within p va un _ noted) fun x t hx ht => ?_
  exact Stays.bind (checkEndianness_stays _) (fun _ => .bind (writeRouted_within A (hT x t hx) _ _) fun _ => .pure _) t ht

/-- Single bytes one after the other: `P` says of what is left that the scope takes it. -/
theorem writeSplit_post {p : Acc} {P : Word → List Byte → State → Prop}
    (step : ∀ va b bs s, Within D c s → P va (b :: bs) s →
      (∀ x t, translateData p va true (s.pieceState p va 1) = .ok (x, t) → D.Takes c x 1) ∧
      ∀ x u, writePiece p va [b] true s = .ok (x, u) → P (va + 1) bs u)
    {va : Word} {bs : List Byte} (hs : Within D c s) (h : P va bs s) :
    Post (Within D c) (D.Holds c.mem) (writeSplit p va bs s) := by
  induction bs generalizing va s with
  | nil => exact hs
  | cons b bs ih =>
    obtain ⟨hT, hnext⟩ := step va b bs s hs h
    unfold writeSplit
    refine Post.bindOk (writePiece_post A hs hT) fun x u hu hw => ?_
    rw [exec_bind_ok (dmaInterval_idle (hw.running.trans A.idle))]
    exact ih hw (hnext x u hu)

theorem writeWordAt_post {p : Acc} {a v : Word} (hs : Within D c s)
    (hT : ∀ x t, translateData p a false (s.pieceState p a 4) = .ok (x, t) → D.Takes c x 4) :
    Post (Within D c) (D.Holds c.mem) (writeWordAt p a v s) := by
  unfold writeWordAt
  rw [exec_bind_ok (look_run _ s)]
  have hlen := valueBytes_length s.bigEndian 4 v
  exact Post.bind (writePiece_post A hs (by rw [hlen]; exact hT)) fun _ _ h => h

/-- Words one after the other. -/
theorem writeWords_post {p : Acc} {P : Word → List Word → State → Prop}
    (step : ∀ a w ws s, Within D c s → P a (w :: ws) s →
      (∀ x t, translateData p a false (s.pieceState p a 4) = .ok (x, t) → D.Takes c x 4) ∧
      ∀ u, writeWordAt p a w s = .ok ((), u) → P (a + 4) ws u)
    {a : Word} {ws : List Word} (hs : Within D c s) (h : P a ws s) :
    Post (Within D c) (D.Holds c.mem) (writeWords p a ws s) := by
  induction ws generalizing a s with
  | nil => exact hs
  | cons w ws ih =>
    obtain ⟨hT, hnext⟩ := step a w ws s hs h
    unfold writeWords
    refine Post.bindOk (writeWordAt_post A hs hT) fun x u hu hw => ?_
    rw [exec_bind_ok (dmaInterval_idle (hw.running.trans A.idle))]
    exact ih hw (hnext u hu)

/-- A store of a byte, a halfword or a word, split or whole. -/
theorem memWrite_post {p : Acc} {a v : Word} {n : Nat} (hs : Within D c s)
    (hsplit : ∀ b, alignData p a s = .ok ((b, true), s) →
      Post (Within D c) (D.Holds c.mem) (writeSplit { p with first := b } b (valueBytes s.bigEndian n v) s))
    (hwhole : ∀ b, alignData p a s = .ok ((b, false), s) → ∀ x t,
      translateData (p.keepLow a b) b false (s.pieceState (p.keepLow a b) b n) = .ok (x, t) → D.Takes c x n) :
    Post (Within D c) (D.Holds c.mem) (memWrite p a n v s) := by
  unfold memWrite
  refine Post.bindOk (alignData_within p a s hs) fun r t hr ht => ?_
  obtain rfl := alignData_state hr
  obtain ⟨b, split⟩ := r
  dsimp only
  rw [exec_bind_ok (look_run _ t)]
  cases split
  · have hlen := valueBytes_length t.bigEndian n v
    exact Post.bind (writePiece_post A ht (by rw [hlen]; exact hwhole b hr)) fun _ _ h => h
  · refine Post.bindOk (checkEndianness_stays _ t ht) fun _ u hu _ => ?_
    obtain rfl := checkEndianness_state hu
    exact hsplit b hr

end

end Sys2Proof.Machine

namespace Sys2Proof.Machine

/-! Alignment on the way to the physical address -/

theorem AccType.size_dvd (ty : AccType) (u : Bool) : ty.size u ∣ 8 := by
  cases ty <;> cases u <;> decide

/-- Rounding down gives a multiple of the power of two. -/
theorem roundDown_mod (a : Word) {k : Nat} (hk : k ≤ 3) : (a - BitVec.ofNat 32 (a.toNat % 2 ^ k)).toNat % 2 ^ k = 0 := by
  rw [BitVec.toNat_sub, BitVec.toNat_ofNat]
  interval_cases k <;> omega

/-- An access that is not split is made at a multiple of the size of its type. -/
theorem alignmentCheck_natural {a u pc : Bool} {addr b : Word} {t : AccType}
    (h : alignmentCheck a u addr t pc = .at b false) : b.toNat % t.size u = 0 := by
  by_cases hz : addr.toNat % t.size u = 0
  · rw [alignmentCheck_aligned hz] at h
    cases h
    exact hz
  · rw [alignmentCheck_unaligned hz] at h
    cases a
    · cases u
      · cases t
        case half | hwsync => cases h; exact roundDown_mod addr (k := 1) (by omega)
        case wload => cases pc <;> cases h; exact roundDown_mod addr (k := 2) (by omega)
        case wstore | wsync | multi => cases h; exact roundDown_mod addr (k := 2) (by omega)
        case dwsync => cases h; exact roundDown_mod addr (k := 3) (by omega)
        case twoWord => cases h
        case byte | bsync => exact Nat.mod_one _
      · cases t <;> cases pc <;> cases h
    · cases h

theorem alignData_natural {p : Acc} {a b : Word} {s t : State} (h : alignData p a s = .ok ((b, false), t)) :
    b.toNat % p.ty.size (s.sctlr 22) = 0 := by
  unfold alignData at h
  split at h
  · rename_i hc
    obtain ⟨hr, -⟩ := Prod.mk.inj (Except.ok.inj h)
    obtain ⟨rfl, rfl⟩ := Prod.mk.inj hr
    exact alignmentCheck_natural hc
  · cases h
  · cases h

/-- The FCSE keeps the alignment of an address. -/
theorem State.fcse_mod {s : State} (hb : s.basesAligned = true) (ns : Bool) (va : Word) {n : Nat} (hn : n ∣ 8) :
    (s.fcse ns va).toNat % n = va.toNat % n := by
  obtain ⟨k, hk, rfl⟩ : ∃ k, k ≤ 3 ∧ n = 2 ^ k := (Nat.dvd_prime_pow Nat.prime_two).mp hn
  have pid : (s.bankOf ns).fcse.toNat % 2 ^ k = 0 := by
    have low : (s.bankOf ns).fcse.extractLsb' 0 25 = 0 := by
      simp only [State.basesAligned, Bool.and_eq_true, beq_iff_eq] at hb
      obtain ⟨⟨-, hsecure⟩, hnonSecure⟩ := hb
      cases ns
      · exact hsecure
      · exact hnonSecure
    rw [← Nat.mod_mod_of_dvd _ (Nat.pow_dvd_pow 2 (show k ≤ 25 by omega)), low_eq_zero_iff.mp low, Nat.zero_mod]
  unfold State.fcse
  split
  · rw [BitVec.toNat_or, Nat.or_mod_two_pow, pid, Nat.zero_or]
  · rfl

/-- The physical address of an aligned access is aligned as its virtual address is. -/
theorem Within.natural {D : Scope} {c s t : State} (hs : Within D c s) (hb : c.basesAligned = true) {p : Acc} {va : Word}
    {un : Bool} {x : Translation} {n : Nat} (hn : n ∣ 8) (ha : va.toNat % n = 0)
    (h : translateData p va un s = .ok (x, t)) : Natural x.pa n := by
  obtain ⟨hx, -⟩ := translateData_ok h
  have offset := congrArg BitVec.toNat (State.translate_maps hx).1
  have aligned := State.fcse_mod hb (!s.isSecure) va hn
  rw [pageOffset_toNat, pageOffset_toNat, hs.fcse] at offset
  have hpage : n ∣ 4096 := hn.trans (by decide)
  refine ⟨hn, ?_⟩
  rw [← Nat.mod_mod_of_dvd _ hpage, offset, Nat.mod_mod_of_dvd _ hpage, aligned, ha]

/-! What a data access changes -/

/-- A load may fill lines, and write back those dirty lines that were there. -/
def loadScope (s : State) : Scope where
  stores := false
  line l := l.dirty = true → ∃ l' ∈ s.dcache, l'.ns = l.ns ∧ l'.line = l.line
  byte k := s.holds k = true

/-- A store keeps to the lines that were there, and to the bytes stored. -/
def storeScope (s : State) (keys : List Nat) : Scope where
  stores := true
  line l := ∃ l' ∈ s.dcache, l'.ns = l.ns ∧ l'.line = l.line
  byte k := k ∈ keys ∨ s.holds k = true

/-- A byte of a line in the data cache. -/
theorem State.holds_line {s : State} {l l' : CacheLine} (hl : l' ∈ s.dcache) (hns : l'.ns = l.ns) (hline : l'.line = l.line)
    {i : Nat} (hi : i < 32) : s.holds (s.extKey l.ns (l.pa + BitVec.ofNat 32 i)) = true := by
  refine List.any_eq_true.mpr ⟨l', hl, List.any_eq_true.mpr ⟨i, List.mem_range.mpr hi, ?_⟩⟩
  rw [CacheLine.pa, CacheLine.pa, hns, hline]
  exact beq_self_eq_true _

theorem loadScope_allows {s : State} (h : s.running = none) : (loadScope s).Allows s where
  idle := h
  back := fun l hl hd i hi => by
    obtain ⟨l', hmem, hns, hline⟩ := hl hd
    exact State.holds_line hmem hns hline hi

theorem storeScope_allows {s : State} (h : s.running = none) (keys : List Nat) : (storeScope s keys).Allows s where
  idle := h
  back := fun l hl _ i hi => by
    obtain ⟨l', hmem, hns, hline⟩ := hl
    exact .inr (State.holds_line hmem hns hline hi)

theorem loadScope_fills (s : State) : (loadScope s).Fills := fun l hd h => by
  rw [hd] at h
  cases h

theorem within_self {D : Scope} {s : State} (hw : s.memWf) (hl : ∀ l ∈ s.dcache, D.line l) : Within D s s :=
  { mem := fun _ _ => rfl, lines := hl, fixed := rfl, wf := hw }

/-- A translated store whose keys the scope has. -/
theorem storeScope_takes {s : State} {keys : List Nat} {x : Translation} {n : Nat} (hx : Natural x.pa n)
    (hk : ∀ k ∈ (List.range n).map (s.pieceKey x), k ∈ keys) : (storeScope s keys).Takes s x n where
  stores := rfl
  natural := hx
  bytes := fun _ hi => .inl (hk _ (List.mem_map_of_mem (List.mem_range.mpr hi)))
  hit := fun _ _ ⟨l', hmem, hns, hline⟩ _ hns' hline' => ⟨l', hmem, hns.trans hns'.symm, hline.trans hline'.symm⟩

/-- What every data access leaves of a state. -/
def State.KeptBy (s u : State) : Prop :=
  u.gpr = s.gpr ∧ u.pc = s.pc ∧ u.cpsr = s.cpsr ∧ u.spsr = s.spsr ∧ u.vfp = s.vfp ∧ u.pins = s.pins ∧
  u.exclLocal = s.exclLocal ∧ u.exclGlobal = s.exclGlobal ∧ u.jumped = s.jumped ∧ u.irqAcks = s.irqAcks ∧
  { u.dbg with watchHit := s.dbg.watchHit, dscr := s.dbg.dscr } = s.dbg ∧
  (s.halted = false → u.dbg.dscr = s.dbg.dscr) ∧
  { u.cp15 with
    tlbLock := s.cp15.tlbLock, tlbLockdown := s.cp15.tlbLockdown, dMasterValid := s.cp15.dMasterValid } = s.cp15 ∧
  { u.secure with cacheDirty := s.secure.cacheDirty } = s.secure ∧
  { u.nonSecure with cacheDirty := s.nonSecure.cacheDirty } = s.nonSecure

/-- What lies within a scope keeps all this: the fixed part has it. -/
theorem Within.kept {D : Scope} {s u : State} (h : Within D s u) : s.KeptBy u := by
  have hdebug := h.reads (fun t => { t.dbg with watchHit := none, dscr := 0 }) fun _ => rfl
  have hcp15 := h.reads (fun t => { t.cp15 with
    tlbLock := Vector.replicate 8 { va := 0, pa := 0, attr := 0 }, tlbLockdown := 0
    dMasterValid := Vector.replicate 8 0 }) fun _ => rfl
  have hsecure := h.reads (fun t => { t.secure with cacheDirty := false }) fun t => by cases D.stores <;> rfl
  have hnonSecure := h.reads (fun t => { t.nonSecure with cacheDirty := false }) fun t => by cases D.stores <;> rfl
  refine ⟨h.reads State.gpr fun _ => rfl, h.reads State.pc fun _ => rfl, h.reads State.cpsr fun _ => rfl,
    h.reads State.spsr fun _ => rfl, h.reads State.vfp fun _ => rfl, h.pins, h.reads State.exclLocal fun _ => rfl,
    h.reads State.exclGlobal fun _ => rfl, h.reads State.jumped fun _ => rfl, h.reads State.irqAcks fun _ => rfl,
    ?_, fun hs => ?_, ?_, ?_, ?_⟩
  · exact congrArg (fun d : Debug => { d with watchHit := s.dbg.watchHit, dscr := s.dbg.dscr }) hdebug
  · have same := congrArg (fun t : State => t.dbg.dscr) h.fixed
    simpa [State.fixed, hs, h.halted] using same
  · exact congrArg (fun c : Cp15Common => { c with
      tlbLock := s.cp15.tlbLock, tlbLockdown := s.cp15.tlbLockdown, dMasterValid := s.cp15.dMasterValid }) hcp15
  · exact congrArg (fun b : Cp15Banked => { b with cacheDirty := s.secure.cacheDirty }) hsecure
  · exact congrArg (fun b : Cp15Banked => { b with cacheDirty := s.nonSecure.cacheDirty }) hnonSecure

/-- What `Post` says of a part that completes. -/
theorem Post.ok {α : Type} {I E : State → Prop} {r : Except Stop (α × State)} {a : α} {u : State} (h : Post I E r)
    (hr : r = .ok (a, u)) : I u := by
  rw [hr] at h
  exact h

/-! The keys that a store reaches -/

/-- A store of a piece that completes has been translated. -/
theorem translateData_of_writePiece {p : Acc} {va : Word} {bs : List Byte} {un : Bool} {s u : State} {y : Translation}
    (h : writePiece p va bs un s = .ok (y, u)) :
    ∃ x t, translateData p va un (s.pieceState p va bs.length) = .ok (x, t) := by
  unfold writePiece at h
  rw [exec_bind_ok (update_run _ s)] at h
  obtain ⟨x, t, hx, -⟩ := exec_bind_ok_iff.mp h
  exact ⟨x, t, hx⟩

section

variable {p : Acc} {va : Word} {s t u : State} {x : Translation}

theorem splitKeys_head {b : Byte} {bs : List Byte} (h : translateData p va true (s.pieceState p va 1) = .ok (x, t)) :
    t.pieceKey x 0 ∈ splitKeys p va s (b :: bs) := by
  unfold splitKeys
  rw [h]
  cases writePiece p va [b] true s with
  | ok r => exact List.mem_cons_self
  | error e => exact List.mem_cons_self

theorem splitKeys_tail {b : Byte} {bs : List Byte} {y : Translation} (h : writePiece p va [b] true s = .ok (y, u)) :
    splitKeys p (va + 1) u bs ⊆ splitKeys p va s (b :: bs) := by
  obtain ⟨x, t, hx⟩ := translateData_of_writePiece h
  have hx : translateData p va true (s.pieceState p va 1) = .ok (x, t) := hx
  conv => rhs; unfold splitKeys
  rw [hx, h]
  exact List.subset_cons_self _ _

theorem wordKeys_head {w : Word} {ws : List Word} (h : translateData p va false (s.pieceState p va 4) = .ok (x, t)) :
    (List.range 4).map (t.pieceKey x) ⊆ wordKeys p va s (w :: ws) := by
  unfold wordKeys
  rw [h]
  cases writeWordAt p va w s with
  | ok r => exact List.subset_append_left _ _
  | error e => exact List.Subset.refl _

theorem wordKeys_tail {w : Word} {ws : List Word} (h : writeWordAt p va w s = .ok ((), u)) :
    wordKeys p (va + 4) u ws ⊆ wordKeys p va s (w :: ws) := by
  obtain ⟨x, t, hx⟩ : ∃ x t, translateData p va false (s.pieceState p va 4) = .ok (x, t) := by
    unfold writeWordAt at h
    rw [exec_bind_ok (look_run _ s)] at h
    obtain ⟨y, v, hw, -⟩ := exec_bind_ok_iff.mp h
    obtain ⟨x, t, hx⟩ := translateData_of_writePiece hw
    rw [valueBytes_length] at hx
    exact ⟨x, t, hx⟩
  conv => rhs; unfold wordKeys
  rw [hx, h]
  exact List.subset_append_right _ _

end

section

variable {s : State} (hinv : s.Inv) (hidle : s.running = none)

include hinv

theorem loadScope_self : Within (loadScope s) s s := within_self hinv.memory fun l hl _ => ⟨l, hl, rfl, rfl⟩

theorem storeScope_self (keys : List Nat) : Within (storeScope s keys) s s :=
  within_self hinv.memory fun l hl => ⟨l, hl, rfl, rfl⟩

/-- A store of a piece whose keys, in the state after its translation, are among those of the scope. -/
theorem storeScope_takes_of {keys : List Nat} {p : Acc} {va : Word} {un : Bool} {n : Nat} {t u : State} {x : Translation}
    (ht : Within (storeScope s keys) s t) (hn : n ∣ 8) (ha : va.toNat % n = 0)
    (hx : translateData p va un (t.pieceState p va n) = .ok (x, u)) (hk : (List.range n).map (u.pieceKey x) ⊆ keys) :
    (storeScope s keys).Takes s x n := by
  have noted := ht.of_bare (t.pieceState_bare p va n)
  have hu : Within (storeScope s keys) s u := (translateData_within p va un _ noted).ok hx
  refine storeScope_takes (noted.natural hinv.bases hn ha hx) fun k hmem => hk ?_
  rwa [show u.pieceKey x = s.pieceKey x from funext fun i => hu.pieceKey x i]

include hidle

/-- The store of single bytes. -/
theorem writeSplit_stored {p : Acc} {va : Word} {bs : List Byte} {keys : List Nat} (hk : splitKeys p va s bs ⊆ keys) :
    Post (Within (storeScope s keys) s) ((storeScope s keys).Holds s.mem) (writeSplit p va bs s) := by
  refine writeSplit_post (P := fun va bs t => splitKeys p va t bs ⊆ keys) (storeScope_allows hidle keys)
    (fun va b bs t ht h => ⟨fun x u hx => ?_, fun x u hw => List.Subset.trans (splitKeys_tail hw) h⟩)
    (storeScope_self hinv keys) hk
  refine storeScope_takes_of hinv ht (one_dvd 8) (Nat.mod_one _) hx fun k hmem => h ?_
  obtain rfl : k = u.pieceKey x 0 := by simpa using hmem
  exact splitKeys_head hx

theorem memWrite_stored {p : Acc} {a v : Word} {n : Nat} (hn : n = p.ty.size (s.sctlr 22)) :
    Post (Within (storeScope s (storedKeys p a n v s)) s) ((storeScope s (storedKeys p a n v s)).Holds s.mem)
      (memWrite p a n v s) := by
  refine memWrite_post (storeScope_allows hidle _) (storeScope_self hinv _) (fun b hb => ?_) fun b hb x t hx => ?_
  · refine writeSplit_stored hinv hidle ?_
    unfold storedKeys
    rw [hb]
    exact List.Subset.refl _
  · have ha : b.toNat % n = 0 := hn ▸ alignData_natural hb
    refine storeScope_takes_of hinv (storeScope_self hinv _) (hn ▸ p.ty.size_dvd _) ha hx ?_
    unfold storedKeys
    rw [hb]
    dsimp only
    rw [hx]
    exact List.Subset.refl _

theorem writeWords_stored {p : Acc} {a : Word} {ws : List Word} (ha : a.toNat % 4 = 0) :
    Post (Within (storeScope s (wordKeys p a s ws)) s) ((storeScope s (wordKeys p a s ws)).Holds s.mem)
      (writeWords p a ws s) := by
  refine writeWords_post (P := fun b vs t => b.toNat % 4 = 0 ∧ wordKeys p b t vs ⊆ wordKeys p a s ws)
    (storeScope_allows hidle _) (fun b w vs t ht ⟨hb, h⟩ => ⟨fun x u hx => ?_, fun u hw => ⟨?_, ?_⟩⟩)
    (storeScope_self hinv _) ⟨ha, List.Subset.refl _⟩
  · exact storeScope_takes_of hinv ht (by decide) hb hx (List.Subset.trans (wordKeys_head hx) h)
  · rw [BitVec.toNat_add]
    have : (4 : Word).toNat = 4 := rfl
    omega
  · exact List.Subset.trans (wordKeys_tail hw) h

end

/-- A load that completes. -/
theorem loaded_of_within {s u : State} (h : Within (loadScope s) s u) :
    s.KeptBy u ∧ u.secure = s.secure ∧ u.nonSecure = s.nonSecure ∧
      ∀ k, s.holds k = false → Memory.read u.mem k = Memory.read s.mem k :=
  ⟨h.kept, h.reads State.secure fun _ => rfl, h.reads State.nonSecure fun _ => rfl,
    fun k hk => h.mem k fun hb : s.holds k = true => by rw [hk] at hb; cases hb⟩

/-- A store that completes. -/
theorem stored_of_within {s u : State} {keys : List Nat} (h : Within (storeScope s keys) s u) :
    s.KeptBy u ∧ ∀ k, k ∉ keys → s.holds k = false → Memory.read u.mem k = Memory.read s.mem k :=
  ⟨h.kept, fun k hk hl => h.mem k fun hb : k ∈ keys ∨ s.holds k = true =>
    hb.elim hk fun ht => by rw [hl] at ht; cases ht⟩

/-- Settles O55: a load and a store stay within their scopes (`memRead_within`, `memWrite_stored`). -/
theorem accessFrames : Obligations.AccessFrames := by
  intro p a v n ws s u hinv hidle
  have allows := loadScope_allows hidle
  have fills := loadScope_fills s
  have start := loadScope_self hinv
  exact ⟨fun hn _ => ⟨fun h => loaded_of_within ((memRead_within allows fills p a n s start).ok h),
      fun h => stored_of_within ((memWrite_stored hinv hidle hn).ok h)⟩,
    fun ha => ⟨fun h => loaded_of_within ((readWordAt_within allows fills p a s start).ok h),
      fun h => stored_of_within ((writeWords_stored hinv hidle (low_eq_zero_iff.mp ha)).ok h)⟩⟩

end Sys2Proof.Machine

namespace Sys2Proof.Machine

/-! Secure memory in the Non-secure world. Where the platform tells the two kinds of access apart, the keys below 4GB are
those of Secure external memory (R542). -/

/-- What the Non-secure world may change: no byte of Secure external memory; and no Secure line becomes dirty. -/
def nsScope : Scope where
  stores := true
  line l := l.dirty = true → l.ns = true
  byte k := 0x100000000 ≤ k

/-- The Non-secure world runs, and so far Secure memory is as in `m`. -/
structure SparesIn (m : List Host.Cell) (s : State) : Prop extends nsScope.Holds m s where
  wf : s.memWf
  idle : s.running = none
  world : s.isSecure = false
  split : ∀ pa, s.splits pa = true
  bases : s.basesAligned = true

theorem nsScope_fills : nsScope.Fills := fun l hd h => by
  rw [hd] at h
  cases h

theorem State.extKey_nonSecure {s : State} (h : ∀ pa, s.splits pa = true) (pa : Word) :
    nsScope.byte (s.extKey true pa) := by
  show 0x100000000 ≤ s.extKey true pa
  rw [State.extKey, h, Bool.and_self, if_pos rfl]
  omega

theorem State.tcmByteOf_high {s : State} {data ns : Bool} {pa : Word} {k : Nat} (h : s.tcmByteOf data ns pa = some k) :
    nsScope.byte k := by
  obtain ⟨second, -, rfl⟩ := Option.map_eq_some_iff.mp h
  show 0x100000000 ≤ tcmKey _ _ _
  unfold tcmKey
  omega

/-- No byte that a Non-secure access reaches is one of Secure external memory. -/
theorem State.pieceKey_nonSecure {s : State} (h : ∀ pa, s.splits pa = true) {x : Translation} (hx : x.ns = true) (i : Nat) :
    nsScope.byte (s.pieceKey x i) := by
  unfold State.pieceKey State.byteKey
  rw [hx]
  cases hk : s.tcmByte false true (s.bytePa x i) with
  | none => exact State.extKey_nonSecure h _
  | some k =>
    rw [State.tcmByte, if_neg Bool.false_ne_true, Option.or_eq_some_iff] at hk
    obtain hk | ⟨-, hk⟩ := hk
    · exact State.tcmByteOf_high hk
    · exact State.tcmByteOf_high hk

namespace SparesIn

variable {m : List Host.Cell} {s t u : State} (h : SparesIn m s)

include h

theorem allows : nsScope.Allows s where
  idle := h.idle
  back := fun l hl hd i _ => by
    rw [hl hd]
    exact State.extKey_nonSecure h.split _

theorem self : Within nsScope s s := within_self h.wf h.lines

theorem holds_of (k : nsScope.Holds s.mem t) : nsScope.Holds m t :=
  ⟨fun a ha => (k.mem a ha).trans (h.mem a ha), k.lines⟩

theorem of_within (k : Within nsScope s t) : SparesIn m t where
  toHolds := h.holds_of k.toHolds
  wf := k.wf
  idle := k.running.trans h.idle
  world := k.isSecure.trans h.world
  split := fun pa => (k.reads (fun u => u.splits pa) fun _ => rfl).trans (h.split pa)
  bases := (k.reads State.basesAligned fun _ => rfl).trans h.bases

/-- A translation of an aligned address is to Non-secure memory. -/
theorem translated (k : Within nsScope s t) {p : Acc} {va : Word} {un : Bool} {n : Nat} {x : Translation} (hn : n ∣ 8)
    (ha : va.toNat % n = 0) (hx : translateData p va un t = .ok (x, u)) : x.ns = true ∧ Natural x.pa n :=
  ⟨(State.translate_maps (translateData_ok hx).1).2 (by rw [k.isSecure, h.world]; rfl), k.natural h.bases hn ha hx⟩

theorem takes {x : Translation} {n : Nat} (hx : x.ns = true ∧ Natural x.pa n) : nsScope.Takes s x n where
  stores := rfl
  natural := hx.2
  bytes := fun i _ => State.pieceKey_nonSecure h.split hx.1 i
  hit := fun _ _ _ hl hl' _ _ => (hl'.trans hl).trans hx.1

end SparesIn

/-! Parts of a meaning that may come before an access -/

/-- A part that the Non-secure world runs, after which it still runs. -/
abbrev Spares {α : Type} (m : List Host.Cell) (f : Exec α) : Prop := Stays (SparesIn m) (nsScope.Holds m) f

section

variable {m : List Host.Cell}

/-- Whatever stays within the scope. -/
theorem Spares.of_within {α : Type} {f : Exec α}
    (h : ∀ s, SparesIn m s → Post (Within nsScope s) (nsScope.Holds s.mem) (f s)) : Spares m f := by
  intro s hs
  have k := h s hs
  match f s, k with
  | .ok _, k => exact hs.of_within k
  | .error (.took _), k => exact hs.holds_of k
  | .error (.refused _), _ => trivial

theorem Spares.of_stays {α : Type} {f : Exec α} (h : ∀ c, nsScope.Allows c → StaysWithin nsScope c f) : Spares m f :=
  .of_within fun s hs => h s hs.allows s hs.self

theorem Spares.updateBare {f : State → State} (h : ∀ s, Bare s (f s)) : Spares m (update f) :=
  .of_stays fun _ _ => Machine.updateBare h

theorem draw_spares : Spares m draw := .of_stays fun _ _ => draw_within
theorem dmaInterval_spares : Spares m dmaInterval := .of_stays fun _ A => dmaInterval_within A

theorem alignData_spares (p : Acc) (a : Word) : Spares m (alignData p a) := .of_stays fun _ _ => alignData_within p a

theorem translateData_spares (p : Acc) (va : Word) (u : Bool) : Spares m (translateData p va u) :=
  .of_stays fun _ _ => translateData_within p va u

theorem reportError_spares (p : Acc) (va : Word) (x : Translation) (e : BusError) : Spares m (reportError p va x e) :=
  .of_stays fun _ _ => reportError_within p va x e

/-! Loads -/

theorem readRouted_spares (p : Acc) (va : Word) (x : Translation) (n : Nat) : Spares m (readRouted p va x n) :=
  .of_stays fun _ A => readRouted_within A nsScope_fills p va x n

theorem memRead_spares (p : Acc) (a : Word) (n : Nat) : Spares m (memRead p a n) :=
  .of_stays fun _ A => memRead_within A nsScope_fills p a n

theorem readWordAt_spares (p : Acc) (a : Word) : Spares m (readWordAt p a) :=
  .of_stays fun _ A => readWordAt_within A nsScope_fills p a

/-! Stores -/

/-- The types whose unaligned accesses are split into bytes. -/
def AccType.splitsUnaligned : AccType → Bool
  | .half | .wload | .wstore => true
  | _ => false

theorem alignmentCheck_whole {a u pc : Bool} {addr b : Word} {t : AccType} (ht : t.splitsUnaligned = false) {split : Bool}
    (h : alignmentCheck a u addr t pc = .at b split) : split = false := by
  by_cases hz : addr.toNat % t.size u = 0
  · rw [alignmentCheck_aligned hz] at h
    cases h
    rfl
  · rw [alignmentCheck_unaligned hz] at h
    cases a <;> cases u <;> cases t <;> cases ht <;> cases h <;> rfl

/-- Other accesses are made at a multiple of the size of their type. -/
theorem alignData_whole {p : Acc} (ht : p.ty.splitsUnaligned = false) {a b : Word} {split : Bool} {s t : State}
    (h : alignData p a s = .ok ((b, split), t)) : t = s ∧ b.toNat % p.ty.size (s.sctlr 22) = 0 := by
  have hsplit : split = false := by
    unfold alignData at h
    split at h
    · rename_i hc
      obtain ⟨hr, -⟩ := Prod.mk.inj (Except.ok.inj h)
      obtain ⟨rfl, rfl⟩ := Prod.mk.inj hr
      exact alignmentCheck_whole ht hc
    · cases h
    · cases h
  rw [hsplit] at h
  exact ⟨alignData_state h, alignData_natural h⟩

theorem writeRouted_spares {x : Translation} {bs : List Byte} (hx : x.ns = true ∧ Natural x.pa bs.length)
    (p : Acc) (va : Word) : Spares m (writeRouted p va x bs) :=
  .of_within fun s hs => writeRouted_within hs.allows (hs.takes hx) p va s hs.self

/-- Single bytes are aligned. -/
theorem SparesIn.writeSplit {s : State} (hs : SparesIn m s) (p : Acc) (va : Word) (bs : List Byte) :
    Post (Within nsScope s) (nsScope.Holds s.mem) (writeSplit p va bs s) :=
  writeSplit_post (P := fun _ _ _ => True) hs.allows
    (fun va _ _ t ht _ => ⟨fun _ _ hx => hs.takes
      (hs.translated (ht.of_bare (t.pieceState_bare p va 1)) (one_dvd 8) (Nat.mod_one _) hx),
      fun _ _ _ => trivial⟩) hs.self trivial

theorem memWrite_spares (p : Acc) (a : Word) {n : Nat} (v : Word) (hn : ∀ u, p.ty.size u = n) :
    Spares m (memWrite p a n v) :=
  .of_within fun s hs => memWrite_post hs.allows hs.self (fun _ _ => hs.writeSplit _ _ _) fun b hb _ _ hx =>
    hs.takes (hs.translated (hs.self.of_bare (s.pieceState_bare _ b n)) (hn true ▸ p.ty.size_dvd true)
      (hn (s.sctlr 22) ▸ alignData_natural hb) hx)

theorem writeWordAt_spares (p : Acc) {a : Word} (v : Word) (ha : a.toNat % 4 = 0) : Spares m (writeWordAt p a v) :=
  .of_within fun s hs => writeWordAt_post hs.allows hs.self fun _ _ hx =>
    hs.takes (hs.translated (hs.self.of_bare (s.pieceState_bare p a 4)) (by decide) ha hx)

theorem writeWords_spares (p : Acc) {a : Word} (ws : List Word) (ha : a.toNat % 4 = 0) : Spares m (writeWords p a ws) := by
  refine .of_within fun s hs => writeWords_post (P := fun a _ _ => a.toNat % 4 = 0) hs.allows
    (fun a _ _ t ht ha => ⟨fun _ _ hx => hs.takes
      (hs.translated (ht.of_bare (t.pieceState_bare p a 4)) (by decide) ha hx), fun _ _ => ?_⟩)
    hs.self ha
  rw [BitVec.toNat_add]
  have : (4 : Word).toNat = 4 := rfl
  omega

end

end Sys2Proof.Machine

namespace Sys2Proof.Machine

/-! What an instruction does after its last access. No more is asked of it than that it leaves memory and the data cache
alone; it may leave the Non-secure world, or start a DMA transfer. -/

/-- Memory and the data cache. -/
def State.store (s : State) : List Host.Cell × List CacheLine := (s.mem, s.dcache)

/-- A part that leaves Secure memory, whatever world it runs in. -/
abbrev Retains {α : Type} (m : List Host.Cell) (f : Exec α) : Prop := Stays (nsScope.Holds m) (nsScope.Holds m) f

/-- All that is left of an instruction that the Non-secure world runs. -/
def Concludes {α : Type} (m : List Host.Cell) (f : Exec α) : Prop :=
  ∀ s, SparesIn m s → Post (nsScope.Holds m) (nsScope.Holds m) (f s)

section

variable {α β : Type} {m : List Host.Cell}

theorem Scope.Holds.of_store {D : Scope} {s t : State} (h : D.Holds m s) (hs : t.store = s.store) : D.Holds m t := by
  obtain ⟨hmem, hlines⟩ := Prod.mk.inj hs
  exact ⟨hmem ▸ h.mem, hlines ▸ h.lines⟩

theorem Scope.Holds.of_bare {D : Scope} {s t : State} (h : D.Holds m s) (k : Bare s t) : D.Holds m t :=
  ⟨k.mem ▸ h.mem, fun l hl => h.lines l (k.lines hl)⟩

/-- The world runs on, its DMA channels and its vectors are the same. -/
theorem SparesIn.of_store {s t : State} (h : SparesIn m s) (hs : t.store = s.store) (hr : t.running = s.running)
    (hw : t.isSecure = s.isSecure) (hp : t.pins = s.pins) (hb : t.basesAligned = s.basesAligned) : SparesIn m t where
  toHolds := h.toHolds.of_store hs
  wf := by rw [State.memWf, (Prod.mk.inj hs).1]; exact h.wf
  idle := hr.trans h.idle
  world := hw.trans h.world
  split := fun pa => (congrArg (fun p => p.split.any (·.holds pa)) hp).trans (h.split pa)
  bases := hb.trans h.bases

theorem Retains.update {f : State → State} (h : ∀ s, (f s).store = s.store) : Retains m (update f) :=
  fun s hs => hs.of_store (h s)

theorem Retains.concludes {f : Exec α} (h : Retains m f) : Concludes m f := fun s hs => h s hs.toHolds

namespace Concludes

/-- An access, and what follows it. -/
theorem after {f : Exec α} {g : α → Exec β} (hf : Spares m f) (hg : ∀ a, Concludes m (g a)) : Concludes m (f >>= g) :=
  fun s hs => (hf s hs).bind fun a t ht => hg a t ht

/-- The last access. -/
theorem bind {f : Exec α} {g : α → Exec β} (hf : Concludes m f) (hg : ∀ a, Retains m (g a)) : Concludes m (f >>= g) :=
  fun s hs => (hf s hs).bind fun a t ht => hg a t ht

theorem look {g : State → α} {f : α → Exec β} (h : ∀ a, Concludes m (f a)) : Concludes m (Machine.look g >>= f) :=
  .after (.look _) h

/-- What is read off the state is known of it. -/
theorem lookThen {g : State → α} {f : α → Exec β}
    (h : ∀ s, SparesIn m s → Post (nsScope.Holds m) (nsScope.Holds m) (f (g s) s)) :
    Concludes m (Machine.look g >>= f) := h

theorem of_spares {f : Exec α} (h : Spares m f) : Concludes m f := fun s hs => by
  have k := h s hs
  match f s, k with
  | .ok _, k => exact k.toHolds
  | .error (.took _), k => exact k
  | .error (.refused _), _ => trivial

theorem ite {c : Prop} [Decidable c] {a b : Exec α} (ha : Concludes m a) (hb : Concludes m b) :
    Concludes m (if c then a else b) := by
  split <;> assumption

end Concludes

/-- An access that starts at an aligned address, where its type is one that is not split. -/
theorem alignData_then {I : State → Prop} {p : Acc} {a : Word} {f : Word × Bool → Exec β}
    (ht : p.ty.splitsUnaligned = false)
    (h : ∀ b split s, b.toNat % p.ty.size (s.sctlr 22) = 0 → SparesIn m s → Post I (nsScope.Holds m) (f (b, split) s))
    (s : State) (hs : SparesIn m s) : Post I (nsScope.Holds m) ((alignData p a >>= f) s) :=
  Post.bindOk (alignData_spares p a s hs) fun r t hr k => by
    obtain ⟨rfl, hb⟩ := alignData_whole ht (b := r.1) (split := r.2) hr
    exact h r.1 r.2 t hb k

/-! Transfers of lists -/

theorem draw_retains : Retains m draw := fun _ hs => hs.of_store rfl

theorem storeBlock_spares (start : Word) (ws : List Word) : Spares m (storeBlock start ws) :=
  .bind (.look _) fun _ => alignData_then rfl fun _ _ s hb hs => writeWords_spares _ ws hb s hs

theorem openLoaded_retains (md : Mode) (base : Fin 32) (l : List (RegNo × Word)) : Retains m (openLoaded md base l) := by
  induction l with
  | nil => exact .pure _
  | cons x l ih => exact .bind draw_retains fun d => .bind (Retains.update fun s => ite_field _ _ _ _ rfl rfl) fun _ => ih

theorem State.putRegs_store (s : State) (md : Mode) (l : List (RegNo × Word)) : (s.putRegs md l).store = s.store := by
  induction l generalizing s with
  | nil => rfl
  | cons x l ih =>
    unfold State.putRegs
    exact ite_field _ _ _ _ (ih s) (ih _)

theorem State.putSingles_store (s : State) (l : List (BitVec 5 × Word)) : (s.putSingles l).store = s.store := by
  induction l generalizing s with
  | nil => rfl
  | cons x l ih => exact ih _

theorem openSingles_retains (p : Prec) (l : List (BitVec 5 × Word)) : Retains m (openSingles p l) := by
  have put (b : Bool) (l : List (BitVec 5 × Word)) : Retains m (Machine.update fun s => if b then s.putSingles l else s) :=
    Retains.update fun s => ite_field _ _ _ _ (s.putSingles_store l) rfl
  induction l using openSingles.induct with
  | case1 => exact .pure _
  | case2 x => exact .bind draw_retains fun d => Retains.update fun s => ite_field _ _ _ _ (s.putSingles_store _) rfl
  | case3 x y rest h1 h2 =>
    exact .bind draw_retains fun d => .ite (.bind (put _ _) fun _ => h1) (.bind (put _ _) fun _ => h2)

/-- A word of a list with what the engine does after it. -/
theorem listedWord_spares (p : Acc) (a : Word) : Spares m (do let w ← readWordAt p a; dmaInterval; pure w) :=
  .bind (readWordAt_spares p a) fun _ => .bind dmaInterval_spares fun _ => .pure _

theorem readListed_spares (p : Acc) (md : Mode) (base : Fin 32) (done l : List (RegNo × Word)) :
    Spares m (readListed p md base done l) := by
  induction l generalizing done with
  | nil => exact .pure _
  | cons x l ih =>
    obtain ⟨r, a⟩ := x
    intro s hs
    have h := listedWord_spares { p with loadsPc := p.loadsPc || r = 15 } a s hs
    unfold readListed
    split
    · rename_i w t e
      rw [e] at h
      exact ih _ t h
    · rename_i t e
      rw [e] at h
      exact Post.afterTook (openLoaded_retains _ _ _) h
    · rename_i x hx e
      rw [e] at h
      cases x with
      | took t => exact absurd rfl (hx t)
      | refused r => trivial
      | fault f => exact h

theorem readSingles_spares (p : Acc) (many : Option Prec) (a : Word) (done : List (BitVec 5 × Word)) (l : List (BitVec 5)) :
    Spares m (readSingles p many a done l) := by
  induction l generalizing a done with
  | nil => exact .pure _
  | cons r l ih =>
    intro s hs
    have h := listedWord_spares p a s hs
    unfold readSingles
    split
    · rename_i w t e
      rw [e] at h
      exact ih _ _ t h
    · rename_i t e
      rw [e] at h
      cases many with
      | some k => exact Post.afterTook (openSingles_retains _ _) h
      | none => exact Post.afterTook (.pure ()) h
    · rename_i x hx e
      rw [e] at h
      cases x with
      | took t => exact absurd rfl (hx t)
      | refused r => trivial
      | fault f => exact h

theorem loadBlock_spares (precise : Bool) (md : Mode) (rn : RegNo) (rs : List RegNo) (start : Word) :
    Spares m (loadBlock precise md rn rs start) :=
  .bind (.look _) fun _ => .bind (.look _) fun _ => .bind (alignData_spares _ _) fun _ => readListed_spares _ _ _ _ _

/-! Exclusive accesses -/

/-- The monitors, and the free words, are not in the scope. -/
theorem SparesIn.openMonitor {s : State} (h : SparesIn m s) : SparesIn m s.openMonitor := h.of_store rfl rfl rfl rfl rfl

theorem readExclusive_spares (p : Acc) (a : Word) (x : Translation) (n : Nat) : Spares m (readExclusive p a x n) := by
  intro s hs
  have h := readRouted_spares p a x n s hs
  unfold readExclusive
  match readRouted p a x n s, h with
  | .ok (some bs, t), h => exact h.of_store rfl rfl rfl rfl rfl
  | .ok (none, t), h => exact Spares.of_stays (fun _ _ => openBytes_within n) _ h.openMonitor
  | .error (.took t), h => exact h.of_store rfl
  | .error (.refused _), _ => trivial

theorem noteWatch_spares (p : Acc) (a : Word) (n : Nat) : Spares m (update fun s => s.noteWatch p a n) :=
  Spares.updateBare fun s => s.noteWatch_bare p a n

theorem loadExclusive_spares (ty : AccType) (n : Nat) (rn : RegNo) : Spares m (loadExclusive ty n rn) :=
  .bind (.look _) fun _ => .bind (.look _) fun _ => .bind (alignData_spares _ _) fun _ =>
    .bind (noteWatch_spares _ _ _) fun _ => .bind (translateData_spares _ _ _) fun _ =>
      .bind (checkEndianness_stays _) fun _ => readExclusive_spares _ _ _ _

theorem monitorPasses_spares (p : Acc) (x : Translation) (n : Nat) : Spares m (monitorPasses p x n) := by
  refine .ite (.bind (.look _) fun _ => .ite (.bind draw_spares fun d => .bind (.update fun s hs => ?_) fun _ => .pure _)
    (.pure _)) (.pure _)
  split
  · exact hs
  · exact hs.of_store rfl rfl rfl rfl rfl

theorem writeExclusive_spares {x : Translation} {bs : List Byte} (hx : x.ns = true ∧ Natural x.pa bs.length) (p : Acc)
    (a : Word) : Spares m (writeExclusive p a x bs) := by
  refine .bind (writeRouted_spares hx p a) fun _ => .bind (.update fun s hs => ?_) fun _ => .pure _
  split
  · exact hs.of_store rfl rfl rfl rfl rfl
  · exact hs

theorem refusedExclusive_spares (p : Acc) (a : Word) (x : Translation) (bs : List Byte) :
    Spares m (refusedExclusive p a x bs) := by
  refine .bind (.look _) fun q => .bind (.look _) fun e =>
    .bind (Spares.updateBare fun s => s.notePiece_bare _ _ _ _ _ _) fun _ => ?_
  cases e with
  | some e => exact .bind (reportError_spares _ _ _ _) fun _ => .pure _
  | none => exact .bind (.pure _) fun _ => .pure _

/-! Maintenance operations -/

theorem Within.clearDirtyStatus {D : Scope} {c s : State} (h : Within D c s) (hd : D.stores = true) :
    Within D c s.clearDirtyStatus := by
  have cleared : ∀ t : State, t.mem = s.mem → t.dcache = s.dcache → t.fixed true = s.fixed true → Within D c t :=
    fun t hm hl hf => ⟨⟨hm ▸ h.mem, hl ▸ h.lines⟩, by rw [← h.fixed, hd, hf], by rw [State.memWf, hm]; exact h.wf⟩
  unfold State.clearDirtyStatus
  dsimp only
  split
  · exact cleared _ rfl rfl rfl
  · exact cleared _ rfl rfl rfl

theorem State.invalidateLines_bare (s : State) (l : Lines) : Bare s (s.invalidateLines l) := by
  unfold State.invalidateLines
  exact .ite ⟨fun _ => rfl, rfl, List.filter_subset_self _⟩ ⟨fun _ => rfl, rfl, List.filter_subset_self _⟩

section

variable {D : Scope} {c s : State} (A : D.Allows c) (F : D.Fills)

include A F

theorem Within.cleanInPlace (h : Within D c s) {l : CacheLine} (hl : D.line l) (a : Word) :
    Within D c (s.cleanInPlace l a) := by
  unfold State.cleanInPlace
  split
  · exact (A.cleanLine h hl a).putLine (F _ rfl)
  · exact h

theorem Within.cleanLines (h : Within D c s) (l : Lines) : Within D c (s.cleanLines l) := by
  have each (ls : List CacheLine) : ∀ t, Within D c t → (∀ k ∈ ls, D.line k) →
      Within D c (ls.foldl (fun t k => t.cleanInPlace k l.address) t) := by
    induction ls with
    | nil => exact fun _ ht _ => ht
    | cons k ls ih =>
      exact fun t ht hk => ih _ (ht.cleanInPlace A F (hk k List.mem_cons_self) _) fun k' h' =>
        hk k' (List.mem_cons_of_mem _ h')
  exact each _ s h fun k hk => h.lines k (List.mem_filter.mp hk).1

theorem Within.cacheOperation (h : Within D c s) (op : CacheOp) (l : Lines) : Within D c (op.run l s) := by
  cases op with
  | clean => exact h.cleanLines A F l
  | invalidate => exact h.of_bare (s.invalidateLines_bare l)
  | cleanInvalidate => exact (h.cleanLines A F l).of_bare (State.invalidateLines_bare _ l)

end

theorem cacheOperation_spares (op : CacheOp) (l : Lines) : Spares m (op.apply l) :=
  .of_within fun s hs => by
    have h := hs.self.cacheOperation hs.allows nsScope_fills op l
    show Within nsScope s (if l = .all then (op.run l s).clearDirtyStatus else op.run l s)
    split
    · exact h.clearDirtyStatus rfl
    · exact h

theorem State.setBankOf_store (s : State) (ns : Bool) (f : Cp15Banked → Cp15Banked) :
    (s.setBankOf ns f).store = s.store := by simp [State.store]

theorem State.dataAbort_store (s : State) (f : MmuFault) (far : Word) (w : Bool) :
    (s.dataAbort f far w).store = s.store := Prod.ext (s.dataAbort_mem f far w) (s.dataAbort_dcache f far w)

theorem maintenanceAbort_spares (instr : Bool) (f : MmuFault) (mva : Word) : Spares m (maintenanceAbort instr f mva) := by
  refine .bind draw_spares fun w => .endWith fun s hs => hs.toHolds.of_store ?_
  dsimp only
  split
  · rw [State.setBankOf_store, State.dataAbort_store, State.setBankOf_store]
  · rw [State.dataAbort_store, State.setBankOf_store]

theorem SparesIn.of_bare {s t : State} (h : SparesIn m s) (k : Bare s t) : SparesIn m t := h.of_within (h.self.of_bare k)

theorem locate_spares (instr : Bool) (mva : Word) : Spares m (locate instr mva) := by
  intro s hs
  have h := s.lookup_bare (!s.isSecure) (s.asidOf !s.isSecure) mva
  unfold locate
  dsimp only
  split
  · exact hs
  · split
    · rename_i e
      rw [e] at h
      exact hs.of_bare h
    · rename_i e
      rw [e] at h
      exact Stays.bind (maintenanceAbort_spares _ _ _) (fun _ => .pure _) _ (hs.of_bare h)
    · trivial

theorem cacheAtMva_spares (op : CacheOp) (mva : Word) : Spares m (op.atMva mva) :=
  .bind (locate_spares _ _) fun _ => cacheOperation_spares _ _

theorem cacheOn_spares (op : CacheOp) (by_ : By) (v : Word) : Spares m (op.on by_ v) := by
  cases by_ with
  | all => exact cacheOperation_spares _ _
  | mva => exact cacheAtMva_spares _ _
  | index => exact .bind (.look _) fun _ => cacheOperation_spares _ _

theorem invalidateCodeMva_spares (mva : Word) : Spares m (invalidateCodeMva mva) :=
  .bind (locate_spares _ _) fun _ => Spares.updateBare fun s => s.passCode_bare _ _ _

theorem dropCode_spares : Spares m (update State.dropCode) := .update fun _ hs => hs.of_store rfl rfl rfl rfl rfl

theorem codeOperation_spares (by_ : By) (v : Word) : Spares m (codeOperation by_ v) := by
  cases by_ with
  | all => exact .update fun _ hs => hs.of_store rfl rfl rfl rfl rfl
  | mva => exact invalidateCodeMva_spares v
  | index => exact .update fun _ hs => hs.of_store rfl rfl rfl rfl rfl

/-- The PA Register is written in the copy of the Non-secure world. -/
theorem translateVa_retains (k : BitVec 3) (va : Word) : Retains m (translateVa k va) := by
  intro s hs
  have h := s.translate_bare (k.getLsbD 2 || !s.isSecure) (s.asidOf (k.getLsbD 2 || !s.isSecure))
    (s.fcse (k.getLsbD 2 || !s.isSecure) va) (if k.getLsbD 0 then .write else .read) (!k.getLsbD 1) .data
  unfold translateVa
  dsimp only
  split
  · rename_i e
    rw [e] at h
    exact (hs.of_bare h).of_store (State.setBankOf_store _ _ _)
  · rename_i t e
    rw [e] at h
    have hp (v : Word) : nsScope.Holds m (t.setPar v) := (hs.of_bare h).of_store (State.setBankOf_store _ _ _)
    split
    · exact (hp _).of_store (State.dataAbort_store _ _ _ _)
    · exact hp _
  · trivial

end

end Sys2Proof.Machine

namespace Sys2Proof.Machine

/-! Updates that leave memory and the data cache -/

section

variable (s : State)

theorem State.next_store : s.next.store = s.store := by simp [State.store]
theorem State.setCpsr_store (p : Psr) : (s.setCpsr p).store = s.store := by simp [State.store]
theorem enterException_store (x : Exc) : (enterException x s).store = s.store := by simp [State.store]
theorem State.setCopy_store (f : Cp15Banked → Cp15Banked) : (s.setCopy f).store = s.store := State.setBankOf_store _ _ _
theorem State.setFlagsIf_store (b : Bool) (p : Psr) : (if b then s.setFlags p else s).store = s.store :=
  ite_field _ _ _ _ rfl rfl

theorem State.undefined_store : s.undefined.store = s.store := by
  unfold State.undefined
  exact ite_field _ _ _ _ rfl (enterException_store _ _)

theorem State.debugPrefetchAbort_store : s.debugPrefetchAbort.store = s.store :=
  (enterException_store _ _).trans (State.setBankOf_store _ _ _)

theorem State.instructionEvent_store (e : Entry) : (s.instructionEvent e).store = s.store := by
  unfold State.instructionEvent
  exact ite_field _ _ _ _ rfl (State.debugPrefetchAbort_store _)

theorem State.promote_store (c : Bool) : (s.promote c).store = s.store := ite_field _ _ _ _ rfl rfl

theorem State.dmaStop_store (c : Bool) : (s.dmaStop c).store = s.store :=
  ite_field _ _ _ _ (State.promote_store _ _) (ite_field _ _ _ _ (State.promote_store _ _) rfl)

theorem State.dmaStart_store (c : Bool) : (s.dmaStart c).store = s.store := ite_field _ _ _ _ rfl rfl
theorem State.dmaClear_store (c : Bool) : (s.dmaClear c).store = s.store := ite_field _ _ _ _ rfl (State.promote_store _ _)
theorem State.barrierHalted_store : s.barrierHalted.store = s.store := ite_field _ _ _ _ rfl rfl

theorem State.withControl_store (v : Word) : (s.withControl v).store = s.store :=
  ite_field _ _ _ _ (s.setCopy_store _) (s.setCopy_store _)

theorem State.setFp_store (p : Prec) (n : BitVec 5) (v : DWord) : (s.setFp p n v).store = s.store := by
  cases p <;> rfl

theorem Cp14.put_store (r : Cp14) (v : Word) : (r.put v s).store = s.store := by cases r <;> rfl
theorem Cp14.afterRead_store (r : Cp14) : (r.afterRead s).store = s.store := ite_field _ _ _ _ rfl rfl

theorem State.tlbOperation_store (by_ : By) (v : Word) : (s.tlbOperation by_ v).store = s.store := by cases by_ <;> rfl

theorem State.writeFpReg_store (r : FpReg) (v : Word) : (s.writeFpReg r v).store = s.store := by cases r <;> rfl

end

section

variable {m : List Host.Cell}

/-! The end of an instruction -/

/-- The last update of an instruction that goes on to the next one. -/
theorem updateNext_retains {f : State → State} (h : ∀ s, (f s).store = s.store) : Retains m (update fun s => (f s).next) :=
  Retains.update fun s => (f s).next_store.trans (h s)

theorem advance_retains : Retains m advance := Retains.update State.next_store

theorem finishReg_retains (n : RegNo) (v : Word) : Retains m (finishReg n v) := updateNext_retains fun _ => rfl

theorem writeBase_retains (rn : RegNo) (v : Option Word) : Retains m (writeBase rn v) := by
  cases v with
  | none => exact .pure _
  | some v => exact Retains.update fun _ => rfl

theorem setFlags_retains (f : State → Psr) : Retains m (update fun s => s.setFlags (f s)) := Retains.update fun _ => rfl

theorem openFlags_retains : Retains m openFlags := .bind draw_retains fun _ => setFlags_retains _

theorem branchKeep_retains (f : State → Word) : Retains m (update fun s => s.branchKeep (f s)) :=
  Retains.update fun _ => rfl

theorem branchBy_retains (f : State → Word) : Retains m (update fun s => s.branchBy (f s)) :=
  Retains.update fun _ => rfl

theorem bxWritePc_retains (v : Word) : Retains m (bxWritePc v) :=
  .ite (Retains.update fun _ => rfl) (.ite (.refuse _) (Retains.update fun _ => rfl))

theorem loadPc_retains (v : Word) : Retains m (loadPc v) :=
  .bind (.look _) fun _ => .ite (branchKeep_retains _) (bxWritePc_retains v)

theorem link_retains (back bits : Word) : Retains m (link back bits) := Retains.update fun _ => rfl

theorem linkToThumb_retains (target : Word) : Retains m (linkToThumb target) := Retains.update fun _ => rfl

theorem putRegs_retains (f : State → Mode) (l : List (RegNo × Word)) : Retains m (update fun s => s.putRegs (f s) l) :=
  Retains.update fun s => s.putRegs_store _ l

theorem conditional_retains (c : Cond) {f : Exec Unit} (h : Retains m f) : Retains m (conditional c f) :=
  .branch (c := fun s => Cond.passes c s.cpsr = true) h advance_retains

theorem conditionalBranch_retains (c : Cond) {f : Exec Unit} (h : Retains m f) : Retains m (conditionalBranch c f) :=
  .branch (c := fun s => Cond.passes c s.cpsr = true) h
    (.branch (.bind draw_retains fun _ => branchKeep_retains _) advance_retains)

theorem conditional_concludes (c : Cond) {f : Exec Unit} (h : Concludes m f) : Concludes m (conditional c f) := by
  intro s hs
  unfold conditional
  split
  · exact h s hs
  · exact advance_retains s hs.toHolds

theorem finishHigh_retains (rd : RegNo) (v : Word) : Retains m (finishHigh rd v) :=
  .ite (branchKeep_retains _) (finishReg_retains _ _)

/-- An Undefined exception may be taken before an access, and where there is none. -/
theorem takeUndefined_stays {α : Type} {I : State → Prop} (hI : ∀ s, I s → nsScope.Holds m s) :
    Stays I (nsScope.Holds m) (takeUndefined : Exec α) :=
  .endWith fun s hs => (hI s hs).of_store s.undefined_store

theorem takeUndefined_retains {α : Type} : Retains m (takeUndefined : Exec α) := takeUndefined_stays fun _ => id

/-! Status and exceptions -/

theorem cpsrWriteByInstr_retains (v bytes : Word) : Retains m (cpsrWriteByInstr v bytes) := by
  intro s hs
  unfold cpsrWriteByInstr
  cases s.cpsr.merge v (s.instrMask v bytes) with
  | none => trivial
  | some p =>
    dsimp only
    split
    · exact hs
    · exact hs.of_store (s.setCpsr_store p)

theorem cpsrWriteHalted_retains (v bytes : Word) : Retains m (cpsrWriteHalted v bytes) := by
  intro s hs
  unfold cpsrWriteHalted
  cases s.cpsr.merge v (bytes &&& psrMask) with
  | none => trivial
  | some p =>
    dsimp only
    split
    · exact hs
    · exact hs.of_store (s.setCpsr_store p)

/-- In Debug state the return may be ignored: the state is then that of before the instruction. -/
theorem exceptionReturn_retains {before : State} (hb : nsScope.Holds m before) (v target : Word) :
    Retains m (exceptionReturn before v target) := by
  refine .bind (fun s hs => ?_) fun _ => Retains.update fun _ => rfl
  unfold cpsrWriteByReturn
  split
  · trivial
  · cases s.cpsr.merge v (s.returnMask v) with
    | none => trivial
    | some p =>
      dsimp only
      split
      · exact hb.of_store rfl
      · exact hs.of_store (s.setCpsr_store p)

theorem writeStatus_retains (spsr : Bool) (bytes v : Word) : Retains m (writeStatus spsr bytes v) := by
  cases spsr
  · exact .bind (.look _) fun _ => .ite
      (.bind (cpsrWriteHalted_retains v bytes) fun _ => advance_retains)
      (.bind (cpsrWriteByInstr_retains v bytes) fun _ => advance_retains)
  · exact .bind currentSpsr_stays fun _ => .bind (Retains.update fun _ => rfl) fun _ => advance_retains

theorem setEndian_retains (e : Bool) : Retains m (setEndian e) :=
  .bind (Retains.update fun s => s.setCpsr_store _) fun _ => advance_retains

theorem changeState_retains (disable change a i f : Bool) (mode : Option (BitVec 5)) :
    Retains m (changeState disable change a i f mode) :=
  .bind (.look _) fun _ => .ite (.bind (cpsrWriteByInstr_retains _ _) fun _ => advance_retains) advance_retains

theorem supervisorCall_retains : Retains m supervisorCall := by
  intro s hs
  unfold supervisorCall
  split
  · exact hs
  · exact hs.of_store (enterException_store _ _)

theorem softwareBreakpoint_retains : Retains m softwareBreakpoint := by
  intro s hs
  unfold softwareBreakpoint
  split
  · exact hs
  · split
    · exact hs.of_store (s.instructionEvent_store _)
    · exact hs.of_store s.debugPrefetchAbort_store

/-! Data processing, multiplies and media -/

theorem finishDp_retains (sf : Bool) (rd : RegNo) (r : Word) (flags : Psr → Psr) : Retains m (finishDp sf rd r flags) :=
  .ite (.ite (.bind currentSpsr_stays fun _ => .lookThen fun s hs => exceptionReturn_retains hs _ _ s hs)
    (branchKeep_retains _)) (updateNext_retains fun s => (s.setReg rd r).setFlagsIf_store sf _)

theorem dpLogical_retains (sf : Bool) (rd rn : RegNo) (f : Word → Word → Word) (o : Operand) :
    Retains m (dpLogical sf rd rn f o) := .bind (.look _) fun _ => .bind (.look _) fun _ => finishDp_retains _ _ _ _

theorem dpMove_retains (sf : Bool) (rd : RegNo) (f : Word → Word) (o : Operand) : Retains m (dpMove sf rd f o) :=
  .bind (.look _) fun _ => finishDp_retains _ _ _ _

theorem dpArithmetic_retains (sf : Bool) (rd rn : RegNo) (f : Word → Word → Bool → Sum) (o : Operand) :
    Retains m (dpArithmetic sf rd rn f o) := .bind (.look _) fun _ => .bind (.look _) fun _ => finishDp_retains _ _ _ _

theorem dpTest_retains (rn : RegNo) (f : Word → Word → Word) (o : Operand) : Retains m (dpTest rn f o) :=
  .bind (.look _) fun _ => updateNext_retains fun _ => rfl

theorem dpCompare_retains (rn : RegNo) (f : Word → Word → Sum) (o : Operand) : Retains m (dpCompare rn f o) :=
  .bind (.look _) fun _ => updateNext_retains fun _ => rfl

theorem finishMul_retains (sf : Bool) (rd : RegNo) (r : Word) : Retains m (finishMul sf rd r) :=
  updateNext_retains fun s => (s.setReg rd r).setFlagsIf_store sf _

theorem finishLong_retains (sf : Bool) (hi lo : RegNo) (r : DWord) : Retains m (finishLong sf hi lo r) :=
  updateNext_retains fun _ => State.setFlagsIf_store _ sf _

theorem finishQ_retains (rd : RegNo) (r : Word) (q : Bool) : Retains m (finishQ rd r q) := updateNext_retains fun _ => rfl

theorem saturating_retains (double : Bool) (rn rd rm : RegNo) (f : Int → Int → Int) :
    Retains m (saturating double rn rd rm f) :=
  .bind (noPc_stays _) fun _ => .bind (.look _) fun _ => .bind (.look _) fun _ => finishQ_retains _ _ _

theorem parallel_retains (p : LanePrefix) (o : LaneOp) (rn rd rm : RegNo) : Retains m (parallel p o rn rd rm) :=
  .bind (noPc_stays _) fun _ => .bind (.look _) fun _ => updateNext_retains fun _ => State.setFlagsIf_store _ _ _

theorem extend_retains (rd rm : RegNo) (rot : BitVec 2) (f : Word → Word) : Retains m (extend rd rm rot f) :=
  .bind (noPc_stays _) fun _ => .bind (.look _) fun _ => finishReg_retains _ _

theorem extendAdd_retains (rn rd rm : RegNo) (rot : BitVec 2) (f : Word → Word → Word) :
    Retains m (extendAdd rn rd rm rot f) :=
  .bind (noPc_stays _) fun _ => .bind (.look _) fun _ => finishReg_retains _ _

/-! The debug coprocessor -/

theorem openDestination_retains : Retains m (do openFlags; advance) := .bind openFlags_retains fun _ => advance_retains

theorem cp14Read_retains (op1 : BitVec 3) (crn crm : BitVec 4) (op2 : BitVec 3) (rd : RegNo) :
    Retains m (cp14Read op1 crn crm op2 rd) := by
  unfold cp14Read
  cases Cp14Space.of? op1 crn crm op2 with
  | none => exact takeUndefined_retains
  | some space =>
    cases space with
    | trace =>
      exact .bind (.look _) fun _ => .ite takeUndefined_retains (.ite openDestination_retains (finishReg_retains _ _))
    | debug r =>
      exact .bind (.look _) fun _ => .ite takeUndefined_retains (.bind (.look _) fun _ =>
        .bind (Retains.update fun s => Cp14.afterRead_store s r) fun _ => .ite
          (.ite (.bind (setFlags_retains _) fun _ => advance_retains) openDestination_retains) (finishReg_retains _ _))

theorem cp14Write_retains (op1 : BitVec 3) (crn crm : BitVec 4) (op2 : BitVec 3) (rd : RegNo) :
    Retains m (cp14Write op1 crn crm op2 rd) := by
  unfold cp14Write
  cases Cp14Space.of? op1 crn crm op2 with
  | none => exact takeUndefined_retains
  | some space =>
    cases space with
    | trace => exact .bind (.look _) fun _ => .ite takeUndefined_retains (.ite (.refuse _) advance_retains)
    | debug r =>
      exact .bind (.look _) fun _ => .ite takeUndefined_retains (.bind (.look _) fun _ =>
        .ite (.refuse _) (.bind (Retains.update fun s => Cp14.put_store s r _) fun _ => advance_retains))

/-! CP15 -/

theorem cp15Read_retains (crn : BitVec 4) (op1 : BitVec 3) (crm : BitVec 4) (op2 : BitVec 3) (rd : RegNo) :
    Retains m (cp15Read crn op1 crm op2 rd) := by
  unfold cp15Read
  cases Cp15.of? crn op1 crm op2 with
  | none => exact takeUndefined_retains
  | some r =>
    refine .bind (.look _) fun _ => .ite takeUndefined_retains (.bind (.look _) fun v => ?_)
    cases v with
    | some v => exact .ite openDestination_retains (finishReg_retains _ _)
    | none => exact advance_retains

/-- A change of the copy of a world. -/
theorem updateCopy_retains (f : Cp15Banked → Cp15Banked) : Retains m (update fun s => s.setCopy f) :=
  Retains.update fun s => s.setCopy_store f

/-- A change that the DMA engine may forbid. -/
theorem guarded_retains {g : State → Bool} {f : State → State} (h : ∀ s, (f s).store = s.store) :
    Retains m (do dmaGuard (← look g); update f) :=
  .bind (.look _) fun _ => .bind (dmaGuard_stays _) fun _ => Retains.update h

theorem changeTables_retains (f : Cp15Banked → Cp15Banked) : Retains m (changeTables f) :=
  guarded_retains fun s => s.setCopy_store f

theorem replaceLock_retains (f : State → TlbEntry) : Retains m (replaceLock f) := guarded_retains fun _ => rfl

/-- A write of CP15: the operations on the data cache may write lines back. -/
theorem write_concludes (r : Cp15) (v : Word) : Concludes m (r.write v) := by
  unfold Cp15.write
  refine .look fun shared => ?_
  cases r
  case dataCache op by_ => exact .of_spares (cacheOn_spares op by_ v)
  case invalidateBoth => exact .of_spares (.bind dropCode_spares fun _ => cacheOperation_spares _ _)
  case invalidateCode by_ => exact .of_spares (codeOperation_spares by_ v)
  case prefetchCode => exact .of_spares (.bind (locate_spares _ _) fun _ => .pure _)
  all_goals refine Retains.concludes ?_
  case ident | cacheType | tcmStatus | cacheDirty | dmaIdent | dmaStatus | interruptStatus | noOp | valCounter
    | valOperation => exact .pure _
  case sctlr => exact guarded_retains fun s => s.withControl_store v
  case nsacr => exact guarded_retains fun _ => rfl
  case ttbr0 | ttbr1 | ttbcr | dacr => exact changeTables_retains _
  case dfsr | ifsr | far | ifar | par | vbar | tidUserRw | tidUserRo | tidPriv | ppmr => exact updateCopy_retains _
  case scr | sder | mvbar | savc | cpacr | dLock | iLock | cbor | tlbLockdown | dmaUser | dmaChannel | ccnt | count
    | lockIndex | pmnc | wfar | flushPrefetch | flushBranches | flushBranchEntry | masterValid =>
    exact Retains.update fun _ => rfl
  case actlr => exact Retains.update fun _ => ite_field _ _ _ _ rfl rfl
  case tcmAccess => exact Retains.update fun _ => ite_field _ _ _ _ rfl rfl
  case wfi | dsb => exact Retains.update fun s => State.barrierHalted_store _
  case dmb => exact Retains.update fun s => s.barrierHalted_store
  case vaToPa k => exact translateVa_retains k v
  case tlb by_ => exact .bind (dmaGuard_stays _) fun _ => Retains.update fun s => s.tlbOperation_store by_ v
  case tcmRegion data => exact guarded_retains fun _ => rfl
  case tcmSelect => exact Retains.update fun s => ite_field _ _ _ _ rfl (s.setCopy_store _)
  case prrr | nmrr => exact .bind (dmaGuard_stays _) fun _ => updateCopy_retains _
  case dmaCommand k =>
    exact Retains.update fun s => ite_field _ _ _ _ (s.dmaStop_store _)
      (ite_field _ _ _ _ (s.dmaStart_store _) (s.dmaClear_store _))
  case dmaControl | dmaIntStart | dmaExtStart | dmaIntEnd | dmaContext =>
    exact Retains.update fun _ => ite_field _ _ _ _ rfl rfl
  case fcse => exact .bind (changeTables_retains _) fun _ => Retains.update fun _ => rfl
  case contextId => exact Retains.update fun s => s.setCopy_store _
  case cacheSizeMask => exact .ite (.refuse _) (.pure _)
  case lockVa | lockPa | lockAttr => exact replaceLock_retains _

theorem cp15Write_concludes (crn : BitVec 4) (op1 : BitVec 3) (crm : BitVec 4) (op2 : BitVec 3) (rd : RegNo) :
    Concludes m (cp15Write crn op1 crm op2 rd) := by
  unfold cp15Write
  cases Cp15.of? crn op1 crm op2 with
  | none => exact Retains.concludes takeUndefined_retains
  | some r =>
    exact .look fun _ => .ite (Retains.concludes takeUndefined_retains) (.ite (Retains.concludes (.refuse _))
      (.look fun v => .bind (write_concludes r v) fun _ => advance_retains))

theorem cp15Range_concludes (op1 crm : BitVec 4) (rd rn : RegNo) : Concludes m (cp15Range op1 crm rd rn) := by
  unfold cp15Range
  cases RangeOp.of? op1 crm with
  | none => exact Retains.concludes takeUndefined_retains
  | some r =>
    refine .look fun _ => .ite (Retains.concludes takeUndefined_retains) (.ite (Retains.concludes (.refuse _))
      (.look fun first => .look fun last => .after (onRange_stays ?_ first last) fun _ =>
        Retains.concludes advance_retains))
    cases r with
    | invalidateCode => exact invalidateCodeMva_spares
    | dataCache op => exact cacheAtMva_spares op

end

end Sys2Proof.Machine

namespace Sys2Proof.Machine

section

variable {m : List Host.Cell}

/-! The VFP11 -/

section

variable {I : State → Prop} (hI : ∀ s, I s → nsScope.Holds m s)

include hI

theorem vfpAccess_stays (cp11 sys : Bool) : Stays I (nsScope.Holds m) (vfpAccess cp11 sys) :=
  .branch (takeUndefined_stays hI) (.branch (takeUndefined_stays hI) (.branch (.refuse _)
    (.branch (takeUndefined_stays hI) (.pure _))))

theorem vfpReady_stays (cp11 : Bool) : Stays I (nsScope.Holds m) (vfpReady cp11) :=
  .bind (vfpAccess_stays hI _ _) fun _ => .bind (.look _) fun _ => .ite (takeUndefined_stays hI) (.pure _)

end

theorem vfpReady_retains (cp11 : Bool) : Retains m (vfpReady cp11) := vfpReady_stays (fun _ => id) cp11

theorem vfpReady_spares (cp11 : Bool) : Spares m (vfpReady cp11) := vfpReady_stays (fun _ h => h.toHolds) cp11

theorem settle_retains {put : DWord → State → State} (h : ∀ r s, (put r s).store = s.store) (word : Word) (n : Nat)
    (v : Verdict) : Retains m (settle word n put v) := by
  cases v with
  | bounce f => exact .bind (Retains.update fun _ => rfl) fun _ => .pure _
  | done r => exact .bind (Retains.update fun s => h _ s) fun _ => .pure _

theorem iterate_retains (p : Prec) (op : FpOp) (base : Word) (d n k : BitVec 5) (i : Nat) :
    Retains m (iterate p op base d n k i) :=
  .bind (.look _) fun _ => settle_retains (fun _ s => s.setFp_store _ _ _) _ _ _

theorem moveOne_retains (p : Prec) (f : DWord → DWord) (d n k : BitVec 5) (i : Nat) : Retains m (moveOne p f d n k i) :=
  .bind (Retains.update fun s => s.setFp_store _ _ _) fun _ => .pure _

theorem inexactBounce_retains : Retains m inexactBounce := by
  intro s hs
  unfold inexactBounce
  split
  · exact takeUndefined_retains _ (hs.of_store rfl)
  · exact hs

theorem vectorArithmetic_retains (p : Prec) (op : FpOp) (base : Word) (d n k : BitVec 5) :
    Retains m (vectorArithmetic p op base d n k) :=
  .bind (vfpReady_retains _) fun _ => .bind inexactBounce_retains fun _ => .bind (.look _) fun _ => .ite (.refuse _)
    (.bind (shortVector_stays (iterate_retains p op base) _ _ _ _ _) fun _ => advance_retains)

theorem vectorMove_retains (p : Prec) (f : DWord → DWord) (d k : BitVec 5) : Retains m (vectorMove p f d k) :=
  .bind (vfpReady_retains _) fun _ => .bind (shortVector_stays (moveOne_retains p f) _ _ _ _ _) fun _ => advance_retains

theorem scalarOnly_retains (cp11 : Bool) (word : Word) (v : State → Verdict) {put : DWord → State → State}
    (h : ∀ r s, (put r s).store = s.store) : Retains m (scalarOnly cp11 word v put) :=
  .bind (vfpReady_retains _) fun _ => .bind inexactBounce_retains fun _ => .bind (.look _) fun _ =>
    .bind (settle_retains h _ _ _) fun _ => advance_retains

theorem fpToCore_retains (cp11 : Bool) (rd : RegNo) (value : State → Word) : Retains m (fpToCore cp11 rd value) :=
  .bind (vfpReady_retains _) fun _ => .bind (noPc_stays _) fun _ => .bind (.look _) fun _ => finishReg_retains _ _

theorem fpFromCore_retains (cp11 : Bool) (sources : List RegNo) {f : State → State} (h : ∀ s, (f s).store = s.store) :
    Retains m (fpFromCore cp11 sources f) :=
  .bind (vfpReady_retains _) fun _ => .bind (noPc_stays _) fun _ => .bind (Retains.update h) fun _ => advance_retains

theorem fpFromPair_retains (cp11 last : Bool) (rd rn : RegNo) (a b : BitVec 5) :
    Retains m (fpFromPair cp11 last rd rn a b) :=
  .bind (vfpReady_retains _) fun _ => .bind (checkPair_stays _ _ _ _) fun _ => .bind (Retains.update fun _ => rfl) fun _ =>
    advance_retains

theorem fpToPair_retains (cp11 last : Bool) (rd rn : RegNo) (a b : BitVec 5) : Retains m (fpToPair cp11 last rd rn a b) :=
  .bind (vfpReady_retains _) fun _ => .bind (checkPair_stays _ _ _ _) fun _ => .bind (.look _) fun _ =>
    .bind (.look _) fun _ => .bind (Retains.update fun _ => rfl) fun _ => finishReg_retains _ _

theorem fpSystem_retains (sysReg : BitVec 4) : Retains m (fpSystem sysReg) := by
  refine .bind (vfpAccess_stays (fun _ => id) _ _) fun _ => .bind (.look _) fun _ => .ite takeUndefined_retains
    (.bind (.look _) fun _ => ?_)
  cases FpReg.of? sysReg with
  | none => exact takeUndefined_retains
  | some r => exact .ite takeUndefined_retains (.pure _)

theorem readFpReg_retains (r : FpReg) : Retains m (readFpReg r) := by
  cases r
  case fpinst2 => exact .bind (.look _) fun _ => .ite (.look _) draw_retains
  all_goals exact .look _

/-! Loads and stores -/

theorem loadSingle_concludes (ty : AccType) (n : Nat) (user : Bool) (f : Word → Word) (rn rd : RegNo) (a : Indexed) :
    Concludes m (loadSingle ty n user f rn rd a) :=
  .look fun _ => .after (memRead_spares _ _ _) fun _ =>
    Retains.concludes (.bind (writeBase_retains _ _) fun _ => finishReg_retains _ _)

theorem loadWord_concludes (rn rd : RegNo) (a : Indexed) : Concludes m (loadWord rn rd a) :=
  .ite (.look fun _ => .after (memRead_spares _ _ _) fun _ =>
    Retains.concludes (.bind (writeBase_retains _ _) fun _ => loadPc_retains _)) (loadSingle_concludes _ _ _ _ _ _ _)

theorem storeSingle_concludes {ty : AccType} {n : Nat} (hn : ∀ u, ty.size u = n) (user : Bool) (rn rd : RegNo)
    (a : Indexed) : Concludes m (storeSingle ty n user rn rd a) :=
  .look fun _ => .look fun _ => .after (memWrite_spares _ _ _ hn) fun _ =>
    Retains.concludes (.bind (writeBase_retains _ _) fun _ => advance_retains)

theorem loadDouble_concludes (rn rd : RegNo) (a : Indexed) : Concludes m (loadDouble rn rd a) :=
  .look fun _ => .after (alignData_spares _ _) fun _ => .after (readWordAt_spares _ _) fun _ =>
    .after dmaInterval_spares fun _ => .after (readWordAt_spares _ _) fun _ =>
      Retains.concludes (.bind (writeBase_retains _ _) fun _ => .bind (Retains.update fun _ => rfl) fun _ =>
        finishReg_retains _ _)

theorem storeDouble_concludes (rn rd : RegNo) (a : Indexed) : Concludes m (storeDouble rn rd a) := by
  refine .look fun _ => .look fun _ => .look fun _ => alignData_then rfl fun b _ s hb hs => ?_
  have hsize : 4 ∣ AccType.twoWord.size (s.sctlr 22) := by cases s.sctlr 22 <;> decide
  have ha : b.toNat % 4 = 0 := Nat.mod_eq_zero_of_dvd (hsize.trans (Nat.dvd_of_mod_eq_zero hb))
  exact Concludes.after (writeWords_spares _ _ ha) (fun _ =>
    Retains.concludes (.bind (writeBase_retains _ _) fun _ => advance_retains)) s hs

theorem loadMultiple_concludes (p u wb : Bool) (rn : RegNo) (rs : List RegNo) : Concludes m (loadMultiple p u wb rn rs) :=
  .after (checkLoadList_stays _ _ _) fun _ => .look fun _ => .look fun _ => .after (loadBlock_spares _ _ _ _ _) fun _ =>
    Retains.concludes (.bind (writeBase_retains _ _) fun _ => .bind (putRegs_retains _ _) fun _ =>
      .ite (loadPc_retains _) advance_retains)

theorem storeMultiple_concludes (p u wb : Bool) (rn : RegNo) (rs : List RegNo) : Concludes m (storeMultiple p u wb rn rs) :=
  .after (checkStoreList_stays _ _ _) fun _ => .look fun _ => .look fun _ => .after (storeBlock_spares _ _) fun _ =>
    Retains.concludes (.bind (writeBase_retains _ _) fun _ => advance_retains)

theorem storeExclusive_concludes {ty : AccType} (hty : ty.splitsUnaligned = false) (rn rd : RegNo)
    {value : State → List Byte} (hn : ∀ s u, (value s).length = ty.size u) :
    Concludes m (storeExclusive ty rn rd value) := by
  have finish (w : Word) : Retains m (do update fun s => { s with exclLocal := false }; finishReg rd w) :=
    .bind (Retains.update fun _ => rfl) fun _ => finishReg_retains _ _
  refine .look fun _ => .look fun _ => .lookThen fun s hs => ?_
  have hlen := hn s
  generalize value s = bs at hlen
  refine alignData_then hty (fun b _ t hb ht => ?_) s hs
  refine Concludes.after (noteWatch_spares _ _ _) (fun _ => .look fun _ => .ite (fun u hu => ?_)
    (.after (.pure _) fun w => (finish w).concludes)) t ht
  refine Post.bindOk (translateData_spares _ _ _ u hu) fun x v hx hv => ?_
  have reach : x.ns = true ∧ Natural x.pa bs.length :=
    hu.translated hu.self (hlen true ▸ ty.size_dvd true) (hlen (t.sctlr 22) ▸ hb) hx
  exact Concludes.after (checkEndianness_stays _) (fun _ => .after (monitorPasses_spares _ _ _) fun _ =>
    .ite (.after (writeExclusive_spares reach _ _) fun w => (finish w).concludes)
      (.after (refusedExclusive_spares _ _ _ _) fun w => (finish w).concludes)) v hv

theorem loadExclusiveReg_concludes (ty : AccType) (n : Nat) (rn rd : RegNo) :
    Concludes m (loadExclusiveReg ty n rn rd) :=
  .after (noPc_stays _) fun _ => .after (loadExclusive_spares _ _ _) fun _ =>
    Retains.concludes (.bind (.look _) fun _ => finishReg_retains _ _)

theorem storeExclusiveReg_concludes {ty : AccType} {n : Nat} (hty : ty.splitsUnaligned = false) (hn : ∀ u, ty.size u = n)
    (rn rd rm : RegNo) : Concludes m (storeExclusiveReg ty n rn rd rm) :=
  .after (noPc_stays _) fun _ => .after (refuseIf_stays _) fun _ =>
    storeExclusive_concludes hty _ _ fun _ u => (valueBytes_length _ _ _).trans (hn u).symm

theorem swap_concludes (byte : Bool) (rn rd rm : RegNo) : Concludes m (swap byte rn rd rm) := by
  refine .after (noPc_stays _) fun _ => .after (refuseIf_stays _) fun _ => .look fun _ => .look fun u => .look fun _ =>
    .look fun _ => .after (alignData_spares _ _) fun _ => .after (translateData_spares _ _ _) fun _ =>
      .after (translateData_spares _ _ _) fun _ => .after (memRead_spares _ _ _) fun _ =>
        .after (memWrite_spares _ _ _ fun _ => ?_) fun _ => (finishReg_retains _ _).concludes
  cases byte <;> cases u <;> rfl

/-! Returns -/

theorem Concludes.sound {f : Exec Unit} (h : Concludes m f) {s : State} (hs : SparesIn m s) :
    Sound (nsScope.Holds m) (outcome f s) := Post.sound (fun _ => id) (h s hs)

theorem execRfe_spares (p u wb : Bool) (rn : RegNo) {s : State} (hs : SparesIn m s) :
    Sound (nsScope.Holds m) (execRfe p u wb rn s) := by
  refine Concludes.sound (.look fun _ => .ite (Retains.concludes (.refuse _)) (.lookThen fun s hs => ?_)) hs
  refine Concludes.look (fun _ => .after (alignData_spares _ _) fun _ => .after (readWordAt_spares _ _) fun _ =>
    .after dmaInterval_spares fun _ => .after (readWordAt_spares _ _) fun _ => Retains.concludes ?_) s hs
  exact .bind (writeBase_retains _ _) fun _ => exceptionReturn_retains hs.toHolds _ _

theorem execLdm3_spares (c : Cond) (p u wb : Bool) (rn : RegNo) (regs : BitVec 15) {s : State} (hs : SparesIn m s) :
    Sound (nsScope.Holds m) (execLdm3 c p u wb rn regs s) := by
  refine Concludes.sound (conditional_concludes c (.after exceptionModeOnly_stays fun _ =>
    .after (checkLoadList_stays _ _ _) fun _ => .lookThen fun s hs => ?_)) hs
  refine Concludes.look (fun _ => .look fun _ => .after (loadBlock_spares _ _ _ _ _) fun _ => Retains.concludes ?_) s hs
  exact .bind (writeBase_retains _ _) fun _ => .bind (putRegs_retains _ _) fun _ => .bind currentSpsr_stays fun _ =>
    exceptionReturn_retains hs.toHolds _ _

theorem execSrs_spares (p u wb : Bool) (mode : BitVec 5) {s : State} (hs : SparesIn m s) :
    Sound (nsScope.Holds m) (execSrs p u wb mode s) := by
  refine Concludes.sound (.after currentSpsr_stays fun _ => .look fun _ =>
    .ite (Retains.concludes takeUndefined_retains) ?_) hs
  cases Mode.ofBits? mode with
  | none => exact Retains.concludes (.refuse _)
  | some md =>
    exact .look fun _ => .look fun _ => .after (storeBlock_spares _ _) fun _ => Retains.concludes
      (.bind (Retains.update fun _ => ite_field _ _ _ _ rfl rfl) fun _ => advance_retains)

theorem execSmc_spares (c : Cond) (imm : BitVec 16) {s : State} (hs : SparesIn m s) :
    Sound (nsScope.Holds m) (execSmc c imm s) :=
  Concludes.sound (Retains.concludes (conditional_retains c (.bind (.look _) fun _ => .bind (.look _) fun _ =>
    .ite advance_retains (.ite (.endWith fun _ hs => hs.of_store (enterException_store _ _)) takeUndefined_retains)))) hs

/-! Coprocessor instructions -/

theorem noCoprocessor_retains (cp : BitVec 4) : Retains m (noCoprocessor cp) := by
  have absent (cp11 : Bool) {f : Exec Unit} (h : Retains m f) : Retains m (do vfpAccess cp11 false; f) :=
    .bind (vfpAccess_stays (fun _ => id) _ _) fun _ => h
  have second := Stays.ite (c := cp = 11) (absent true takeUndefined_retains) takeUndefined_retains
  exact .ite (absent false second) second

theorem debugTransfer_spares (nBit : Bool) (crd : BitVec 4) (rn : RegNo) (a : Mode5) (w : Bool) :
    Spares m (debugTransfer nBit crd rn a w) :=
  .bind (.look _) fun _ => .ite (takeUndefined_stays fun _ h => h.toHolds) (.bind (.look _) fun _ =>
    .bind (refuseIf_stays _) fun _ => .pure _)

theorem debugLoad_concludes (nBit : Bool) (crd : BitVec 4) (rn : RegNo) (a : Mode5) :
    Concludes m (debugLoad nBit crd rn a) :=
  .after (debugTransfer_spares _ _ _ _ _) fun _ => .look fun _ => .after (alignData_spares _ _) fun _ =>
    .after (readWordAt_spares _ _) fun _ => Retains.concludes (.bind (writeBase_retains _ _) fun _ =>
      .bind (Retains.update fun _ => rfl) fun _ => advance_retains)

theorem debugStore_concludes (nBit : Bool) (crd : BitVec 4) (rn : RegNo) (a : Mode5) :
    Concludes m (debugStore nBit crd rn a) := by
  refine .after (debugTransfer_spares _ _ _ _ _) fun _ => .look fun _ => alignData_then rfl fun b split s hb hs => ?_
  refine Concludes.look (g := fun s => s.dbg.rdtr) (fun w => .after (writeWordAt_spares _ w hb) fun _ =>
    Retains.concludes ?_) s hs
  exact .bind (writeBase_retains _ _) fun _ => .bind (Retains.update fun _ => rfl) fun _ => advance_retains

theorem coprocWrite_concludes (cp : BitVec 4) (op1 : BitVec 3) (crn crm : BitVec 4) (op2 : BitVec 3) (rd : RegNo) :
    Concludes m (coprocWrite cp op1 crn crm op2 rd) :=
  .ite (cp15Write_concludes _ _ _ _ _) (Retains.concludes (.ite (cp14Write_retains _ _ _ _ _) (noCoprocessor_retains _)))

theorem coprocRead_retains (cp : BitVec 4) (op1 : BitVec 3) (crn crm : BitVec 4) (op2 : BitVec 3) (rd : RegNo) :
    Retains m (coprocRead cp op1 crn crm op2 rd) :=
  .ite (cp15Read_retains _ _ _ _ _) (.ite (cp14Read_retains _ _ _ _ _) (noCoprocessor_retains _))

theorem coprocLoad_concludes (cp : BitVec 4) (nBit : Bool) (crd : BitVec 4) (rn : RegNo) (a : Mode5) :
    Concludes m (coprocLoad cp nBit crd rn a) :=
  .ite (debugLoad_concludes _ _ _ _) (Retains.concludes (noCoprocessor_retains _))

theorem coprocStore_concludes (cp : BitVec 4) (nBit : Bool) (crd : BitVec 4) (rn : RegNo) (a : Mode5) :
    Concludes m (coprocStore cp nBit crd rn a) :=
  .ite (debugStore_concludes _ _ _ _) (Retains.concludes (noCoprocessor_retains _))

/-! Loads and stores of the VFP11 -/

theorem fpLoad_concludes (many : Option Prec) (rn : RegNo) (start : Word) (back : Option Word) (rs : List (BitVec 5)) :
    Concludes m (fpLoad many rn start back rs) :=
  .look fun _ => .after (alignData_spares _ _) fun _ => .after (readSingles_spares _ _ _ _ _) fun _ =>
    Retains.concludes (.bind (Retains.update fun s => s.putSingles_store _) fun _ => .bind (writeBase_retains _ _) fun _ =>
      advance_retains)

theorem fpStore_concludes (rn : RegNo) (start : Word) (back : Option Word) (rs : List (BitVec 5)) :
    Concludes m (fpStore rn start back rs) :=
  .look fun _ => .after (storeBlock_spares _ _) fun _ =>
    Retains.concludes (.bind (writeBase_retains _ _) fun _ => advance_retains)

theorem fpLoadOne_concludes (p : Prec) (u : Bool) (rn : RegNo) (d : BitVec 5) (imm : BitVec 8) :
    Concludes m (fpLoadOne p u rn d imm) :=
  .after (vfpReady_spares _) fun _ => .look fun _ => .look fun _ => fpLoad_concludes _ _ _ _ _

theorem fpStoreOne_concludes (p : Prec) (u : Bool) (rn : RegNo) (d : BitVec 5) (imm : BitVec 8) :
    Concludes m (fpStoreOne p u rn d imm) :=
  .after (vfpReady_spares _) fun _ => .look fun _ => .look fun _ => fpStore_concludes _ _ _ _

theorem fpLoadMany_concludes (p : Prec) (up wb : Bool) (rn : RegNo) (d : BitVec 5) (count words : Nat) :
    Concludes m (fpLoadMany p up wb rn d count words) :=
  .after (vfpReady_spares _) fun _ => .after (checkCount_stays _ _ _ _ _) fun _ => .look fun _ => .look fun _ =>
    fpLoad_concludes _ _ _ _ _

theorem fpStoreMany_concludes (p : Prec) (up wb : Bool) (rn : RegNo) (d : BitVec 5) (count words : Nat) :
    Concludes m (fpStoreMany p up wb rn d count words) :=
  .after (vfpReady_spares _) fun _ => .after (checkCount_stays _ _ _ _ _) fun _ => .look fun _ => .look fun _ =>
    fpStore_concludes _ _ _ _

end

end Sys2Proof.Machine

namespace Sys2Proof.Machine

section

variable {m : List Host.Cell}

theorem doubleBytes_length (s : State) (a b : RegNo) : (s.regBytes 4 a ++ s.regBytes 4 b).length = 8 := by
  rw [List.length_append, State.regBytes, State.regBytes, valueBytes_length, valueBytes_length]

/-- No instruction that the Non-secure world runs changes Secure external memory or makes a Secure line dirty. -/
theorem exec_spares (i : Instr) {s : State} (hs : SparesIn m s) : Sound (nsScope.Holds m) (exec i s) := by
  have run {f : Exec Unit} (h : Concludes m f) : Sound (nsScope.Holds m) (outcome f s) := h.sound hs
  have runIf {c : Cond} {f : Exec Unit} (h : Concludes m f) : Sound (nsScope.Holds m) (outcome (conditional c f) s) :=
    run (conditional_concludes c h)
  have keep {f : Exec Unit} (h : Retains m f) : Sound (nsScope.Holds m) (outcome f s) := run h.concludes
  have keepIf {c : Cond} {f : Exec Unit} (h : Retains m f) : Sound (nsScope.Holds m) (outcome (conditional c f) s) :=
    keep (conditional_retains c h)
  cases i
  case cps | tCps => exact keep (.ite (.refuse _) (changeState_retains _ _ _ _ _ _))
  case setend | tSetend => exact keep (setEndian_retains _)
  case clrex =>
    unfold exec
    refine keep ?_
    exact .bind (Retains.update fun _ => rfl) fun _ => advance_retains
  case pldImm | nop | yield | nopReservedHint => exact keep advance_retains
  case pldReg => exact keep (.bind (noPc_stays _) fun _ => advance_retains)
  case srs => exact execSrs_spares _ _ _ _ hs
  case rfe => exact execRfe_spares _ _ _ _ hs
  case bkpt | tBkpt => exact keep softwareBreakpoint_retains
  case smc c imm => exact execSmc_spares c imm hs
  case svc => exact keepIf supervisorCall_retains
  case tSvc => exact keep supervisorCall_retains
  case mrs =>
    exact keepIf (.bind (noPc_stays _) fun _ => .bind (.look _) fun _ =>
      .ite (.bind currentSpsr_stays fun _ => finishReg_retains _ _) (.bind (.pure _) fun _ => finishReg_retains _ _))
  case msrReg =>
    exact keepIf (.bind (noPc_stays _) fun _ => .bind (.look _) fun _ => writeStatus_retains _ _ _)
  case msrImm => exact keepIf (writeStatus_retains _ _ _)
  -- branches
  case blxImm =>
    unfold exec
    refine keep ?_
    exact .bind (.look _) fun _ => linkToThumb_retains _
  case b | tB1 => exact keep (conditionalBranch_retains _ (branchBy_retains _))
  case bl =>
    exact keep (conditionalBranch_retains _ (.bind (.look _) fun _ => .bind (link_retains _ _) fun _ => branchBy_retains _))
  case bx => exact keep (conditionalBranch_retains _ (.bind (.look _) fun _ => bxWritePc_retains _))
  case bxj =>
    exact keep (conditionalBranch_retains _ (.bind (noPc_stays _) fun _ => .bind (.look _) fun _ => bxWritePc_retains _))
  case blxReg =>
    exact keep (conditionalBranch_retains _ (.bind (noPc_stays _) fun _ => .bind (.look _) fun _ =>
      .bind (link_retains _ _) fun _ => bxWritePc_retains _))
  case tBx => exact keep (.bind (.look _) fun _ => bxWritePc_retains _)
  case tBlx2 =>
    exact keep (.bind (noPc_stays _) fun _ => .bind (.look _) fun _ =>
      .bind (link_retains _ _) fun _ => bxWritePc_retains _)
  case tB2 =>
    unfold exec
    exact keep (branchBy_retains _)
  case tBlSuffix | tBlx1Suffix =>
    unfold exec
    refine keep ?_
    exact Retains.update fun _ => rfl
  -- data processing
  case andImm | andShift | eorImm | eorShift | orrImm | orrShift | bicImm | bicShift =>
    exact keepIf (dpLogical_retains _ _ _ _ _)
  case andRegShift | eorRegShift | orrRegShift | bicRegShift =>
    exact keepIf (.bind (noPc_stays _) fun _ => dpLogical_retains _ _ _ _ _)
  case subImm | subShift | rsbImm | rsbShift | addImm | addShift | adcImm | adcShift | sbcImm | sbcShift | rscImm
    | rscShift => exact keepIf (dpArithmetic_retains _ _ _ _ _)
  case subRegShift | rsbRegShift | addRegShift | adcRegShift | sbcRegShift | rscRegShift =>
    exact keepIf (.bind (noPc_stays _) fun _ => dpArithmetic_retains _ _ _ _ _)
  case movImm | movShift | mvnImm | mvnShift => exact keepIf (dpMove_retains _ _ _ _)
  case movRegShift | mvnRegShift => exact keepIf (.bind (noPc_stays _) fun _ => dpMove_retains _ _ _ _)
  case cpy => exact keepIf (dpMove_retains _ _ _ _)
  case tstImm | tstShift | teqImm | teqShift => exact keepIf (dpTest_retains _ _ _)
  case tstRegShift | teqRegShift => exact keepIf (.bind (noPc_stays _) fun _ => dpTest_retains _ _ _)
  case cmpImm | cmpShift | cmnImm | cmnShift => exact keepIf (dpCompare_retains _ _ _)
  case cmpRegShift | cmnRegShift => exact keepIf (.bind (noPc_stays _) fun _ => dpCompare_retains _ _ _)
  case tMov2 | tAdd3 | tSub3 | tAdd1 | tSub1 | tAdd2 | tSub2 | tAdc | tSbc | tNeg =>
    exact keep (dpArithmetic_retains _ _ _ _ _)
  case tLsl1 | tLsr1 | tAsr1 | tMov1 | tLsl2 | tLsr2 | tAsr2 | tRor | tMvn => exact keep (dpMove_retains _ _ _ _)
  case tAnd | tEor | tOrr | tBic => exact keep (dpLogical_retains _ _ _ _ _)
  case tCmp1 | tCmp2 | tCmn => unfold exec; exact keep (dpCompare_retains _ _ _)
  case tCmp3 => exact keep (.bind (refuseIf_stays _) fun _ => dpCompare_retains _ _ _)
  case tTst => exact keep (dpTest_retains _ _ _)
  case tAdd4 => exact keep (.bind (refuseIf_stays _) fun _ => .bind (.look _) fun _ => finishHigh_retains _ _)
  case tMov3 => exact keep (.bind (.look _) fun _ => finishHigh_retains _ _)
  case tCpy | tAdd5 | tAdd6 | tAdd7 | tSub4 | tSxth | tSxtb | tUxth | tUxtb | tRev | tRev16 | tRevsh | tBlBlxPrefix =>
    unfold exec
    exact keep (.bind (.look _) fun _ => finishReg_retains _ _)
  -- multiplies and media
  case clz | sel | rev | rev16 | revsh | smusd | smmul | usad8 | usada8 =>
    exact keepIf (.bind (noPc_stays _) fun _ => .bind (.look _) fun _ => finishReg_retains _ _)
  case pkhbt | pkhtb | smmla | smmls =>
    exact keepIf (.bind (noPc_stays _) fun _ => .bind (.look _) fun _ => .bind (.look _) fun _ =>
      finishReg_retains _ _)
  case qadd | qsub | qdadd | qdsub => exact keepIf (saturating_retains _ _ _ _ _)
  case smlaXY | smlawY | ssat16 | usat16 | ssat | usat | smuad =>
    exact keepIf (.bind (noPc_stays _) fun _ => .bind (.look _) fun _ => finishQ_retains _ _ _)
  case smlad | smlsd =>
    exact keepIf (.bind (noPc_stays _) fun _ => .bind (.look _) fun _ => .bind (.look _) fun _ =>
      finishQ_retains _ _ _)
  case smulwY | smulXY | mul | mla =>
    exact keepIf (.bind (noPc_stays _) fun _ => .bind (.look _) fun _ => finishMul_retains _ _ _)
  case tMul => unfold exec; exact keep (.bind (.look _) fun _ => finishMul_retains _ _ _)
  case smlalXY | umaal | umull | umlal | smull | smlal =>
    exact keepIf (.bind (noPc_stays _) fun _ => .bind (distinct_stays _ _) fun _ => .bind (.look _) fun _ =>
      finishLong_retains _ _ _ _)
  case smlald | smlsld =>
    exact keepIf (.bind (noPc_stays _) fun _ => .bind (distinct_stays _ _) fun _ => .bind (.look _) fun _ =>
      .bind (.look _) fun _ => finishLong_retains _ _ _ _)
  case sadd16 | qadd16 | shadd16 | uadd16 | uqadd16 | uhadd16 | saddsubx | qaddsubx | shaddsubx | uaddsubx | uqaddsubx
    | uhaddsubx | ssubaddx | qsubaddx | shsubaddx | usubaddx | uqsubaddx | uhsubaddx | ssub16 | qsub16 | shsub16 | usub16
    | uqsub16 | uhsub16 | sadd8 | qadd8 | shadd8 | uadd8 | uqadd8 | uhadd8 | ssub8 | qsub8 | shsub8 | usub8 | uqsub8
    | uhsub8 => exact keepIf (parallel_retains _ _ _ _ _)
  case sxtb16 | sxtb | sxth | uxtb16 | uxtb | uxth => exact keepIf (extend_retains _ _ _ _)
  case sxtab16 | sxtab | sxtah | uxtab16 | uxtab | uxtah => exact keepIf (extendAdd_retains _ _ _ _ _)
  -- loads and stores
  case ldrImm | ldrReg =>
    exact runIf (.after (checkSingle_stays _ _ _ _ _) fun _ => .look fun _ => loadWord_concludes _ _ _)
  case ldrtImm | ldrtReg | ldrbtImm | ldrbtReg | ldrbImm | ldrbReg =>
    exact runIf (.after (checkSingle_stays _ _ _ _ _) fun _ => .look fun _ => loadSingle_concludes _ _ _ _ _ _ _)
  case strtImm | strtReg | strbtImm | strbtReg | strImm | strReg | strbImm | strbReg =>
    exact runIf (.after (checkSingle_stays _ _ _ _ _) fun _ => .look fun _ => storeSingle_concludes (fun _ => rfl) _ _ _ _)
  case ldrhImm | ldrhReg | ldrsbImm | ldrsbReg | ldrshImm | ldrshReg =>
    exact runIf (.after (checkMode3_stays _ _) fun _ => .after (checkSingle_stays _ _ _ _ _) fun _ => .look fun _ =>
      loadSingle_concludes _ _ _ _ _ _ _)
  case strhImm | strhReg =>
    exact runIf (.after (checkMode3_stays _ _) fun _ => .after (checkSingle_stays _ _ _ _ _) fun _ => .look fun _ =>
      storeSingle_concludes (fun _ => rfl) _ _ _ _)
  case ldrdImm | ldrdReg =>
    exact runIf (.after (checkMode3_stays _ _) fun _ => .after (checkDouble_stays _ _ _ _ _) fun _ => .look fun _ =>
      loadDouble_concludes _ _ _)
  case strdImm | strdReg =>
    exact runIf (.after (checkMode3_stays _ _) fun _ => .after (checkDouble_stays _ _ _ _ _) fun _ => .look fun _ =>
      storeDouble_concludes _ _ _)
  case tLdr3 | tLdrsb | tLdr2 | tLdrh2 | tLdrb2 | tLdrsh | tLdr1 | tLdrb1 | tLdrh1 | tLdr4 =>
    exact run (.look fun _ => loadSingle_concludes _ _ _ _ _ _ _)
  case tStr2 | tStrh2 | tStrb2 | tStr1 | tStrb1 | tStrh1 | tStr3 =>
    exact run (.look fun _ => storeSingle_concludes (fun _ => rfl) _ _ _ _)
  case swp | swpb => exact runIf (swap_concludes _ _ _ _)
  case ldrex | ldrexb | ldrexh => exact runIf (loadExclusiveReg_concludes _ _ _ _)
  case strex | strexb | strexh => exact runIf (storeExclusiveReg_concludes rfl (fun _ => rfl) _ _ _)
  case ldrexd =>
    exact runIf (.after (noPc_stays _) fun _ => .after (refuseIf_stays _) fun _ =>
      .after (loadExclusive_spares _ _ _) fun _ => Retains.concludes (.bind (.look _) fun _ =>
        .bind (Retains.update fun _ => rfl) fun _ => finishReg_retains _ _))
  case strexd =>
    exact runIf (.after (noPc_stays _) fun _ => .after (refuseIf_stays _) fun _ =>
      storeExclusive_concludes rfl _ _ fun _ _ => doubleBytes_length _ _ _)
  case ldm1 => exact runIf (loadMultiple_concludes _ _ _ _ _)
  case tPop => exact run (loadMultiple_concludes _ _ _ _ _)
  case stm1 => exact runIf (storeMultiple_concludes _ _ _ _ _)
  case tPush | tStmia => exact run (storeMultiple_concludes _ _ _ _ _)
  case ldm3 => exact execLdm3_spares _ _ _ _ _ _ hs
  case ldm2 =>
    exact runIf (.after exceptionModeOnly_stays fun _ => .after (checkLoadList_stays _ _ _) fun _ => .look fun _ =>
      .after (loadBlock_spares _ _ _ _ _) fun _ => Retains.concludes (.bind (putRegs_retains _ _) fun _ => advance_retains))
  case stm2 =>
    exact runIf (.after exceptionModeOnly_stays fun _ => .after (checkStoreList_stays _ _ _) fun _ => .look fun _ =>
      .look fun _ => .after (storeBlock_spares _ _) fun _ => Retains.concludes advance_retains)
  case tLdmia =>
    exact run (.after (.ite (.refuse _) (.pure _)) fun _ => .look fun _ => .look fun _ =>
      .after (loadBlock_spares _ _ _ _ _) fun _ => Retains.concludes (.bind (writeBase_retains _ _) fun _ =>
        .bind (putRegs_retains _ _) fun _ => advance_retains))
  -- coprocessors
  case mcrr2 => exact run (.ite (cp15Range_concludes _ _ _ _) (Retains.concludes takeUndefined_retains))
  case mrrc2 | stc2Offset | stc2Post | stc2Unindexed | ldc2Offset | ldc2Post | ldc2Unindexed | cdp2 | mcr2 | mrc2
    | undefinedArm | tUndefined => exact keep takeUndefined_retains
  case mcrr => exact runIf (.ite (cp15Range_concludes _ _ _ _) (Retains.concludes (noCoprocessor_retains _)))
  case mrrc | cdp => exact keepIf (noCoprocessor_retains _)
  case stcOffset | stcPost | stcUnindexed => exact runIf (coprocStore_concludes _ _ _ _ _)
  case ldcOffset | ldcPost | ldcUnindexed => exact runIf (coprocLoad_concludes _ _ _ _ _)
  case mcr => exact runIf (coprocWrite_concludes _ _ _ _ _ _)
  case mrc => exact keepIf (coprocRead_retains _ _ _ _ _ _)
  -- the VFP11
  case fmacs | fmacd | fnmacs | fnmacd | fmscs | fmscd | fnmscs | fnmscd | fmuls | fmuld | fnmuls | fnmuld | fadds | faddd
    | fsubs | fsubd | fdivs | fdivd | fsqrts | fsqrtd =>
    exact keepIf (vectorArithmetic_retains _ _ _ _ _ _)
  case fcpys | fcpyd | fabss | fabsd | fnegs | fnegd => exact keepIf (vectorMove_retains _ _ _ _)
  case fcmps | fcmpd | fcmpes | fcmped | fcmpzs | fcmpzd | fcmpezs | fcmpezd =>
    exact keepIf (scalarOnly_retains _ _ _ fun _ _ => rfl)
  case fcvtds | fcvtsd | fuitos | fuitod | fsitos | fsitod | ftouis | ftouid | ftouizs | ftouizd | ftosis | ftosid | ftosizs
    | ftosizd => exact keepIf (scalarOnly_retains _ _ _ fun _ s => s.setFp_store _ _ _)
  case flds | fldd => exact runIf (fpLoadOne_concludes _ _ _ _ _)
  case fsts | fstd => exact runIf (fpStoreOne_concludes _ _ _ _ _)
  case fldmsIa | fldmsDb | fldmdIa | fldmdDb | fldmxIa | fldmxDb =>
    exact runIf (fpLoadMany_concludes _ _ _ _ _ _ _)
  case fstmsIa | fstmsDb | fstmdIa | fstmdDb | fstmxIa | fstmxDb =>
    exact runIf (fpStoreMany_concludes _ _ _ _ _ _ _)
  case fmsr | fmdlr | fmdhr => exact keepIf (fpFromCore_retains _ _ fun _ => rfl)
  case fmrs | fmrdl | fmrdh => exact keepIf (fpToCore_retains _ _ _)
  case fmdrr | fmsrr => exact keepIf (fpFromPair_retains _ _ _ _ _ _)
  case fmrrd | fmrrs => exact keepIf (fpToPair_retains _ _ _ _ _ _)
  case fmxr =>
    exact keepIf (.bind (fpSystem_retains _) fun _ => .bind (noPc_stays _) fun _ =>
      .bind (Retains.update fun s => s.writeFpReg_store _ _) fun _ => advance_retains)
  case fmrx =>
    exact keepIf (.bind (fpSystem_retains _) fun _ => .bind (readFpReg_retains _) fun _ =>
      .ite openDestination_retains (finishReg_retains _ _))
  case fmstat =>
    exact keepIf (.bind (fpSystem_retains _) fun _ => .bind (setFlags_retains _) fun _ => advance_retains)

end

/-- Settles O15: an instruction keeps to the scope of the Non-secure world, whose bytes are Non-secure ones and those of
the TCMs, and whose dirty lines are Non-secure (`exec_spares`). -/
theorem secureMemoryUntouched : Obligations.SecureMemoryUntouched := by
  intro i s t hinv hworld _ hsplit hidle hlines hstep
  have start : SparesIn s.mem s :=
    { mem := fun _ _ => rfl
      lines := fun l hl hd => by
        by_contra hns
        rw [hlines l hl (Bool.eq_false_iff.mpr hns)] at hd
        cases hd
      wf := hinv.memory, idle := hidle, world := hworld, split := hsplit, bases := hinv.bases }
  have h := exec_spares i start
  rw [hstep] at h
  have h : nsScope.Holds s.mem t := h
  refine ⟨fun k hk => h.mem k (Nat.not_le.mpr hk), fun l hl hns => ?_⟩
  by_contra hd
  rw [h.lines l hl (Bool.eq_true_of_not_eq_false hd)] at hns
  cases hns

end Sys2Proof.Machine

namespace Sys2Proof.Machine

/-! The space of CPS, where a well-formed instruction does not decode to itself -/

/-- A word of the space of CPS with bit 16 set is no row of `uncondRows`, so that the closing row of the table counts as
well-formed there. The decoder takes it for a CPS with a should-be bit wrong (R842, R845). -/
theorem decodeArm_cpsSpace : decodeArm (encode (.undefinedArm 0x1010010)) = .shouldBe (.cps 0 false false false false 0x10) :=
  rfl

/-- Refutes O8: `.undefinedArm 0x1010010` is well-formed, and its word 0xF1010010 decodes to a CPS that is refused
(`decodeArm_cpsSpace`). -/
theorem not_decodeEncode : ¬ Obligations.DecodeEncode := by
  intro h
  have back : decodeArm (encode (.undefinedArm 0x1010010)) = .instr (.undefinedArm 0x1010010) :=
    h (.undefinedArm 0x1010010) (by decide)
  rw [decodeArm_cpsSpace] at back
  cases back

/-! Words and conditions -/

/-- Settles O10: the decoder evaluates on each word. -/
theorem decodedWords : Obligations.DecodedWords :=
  ⟨rfl, rfl, rfl, rfl, rfl, rfl, rfl, rfl, rfl, rfl, rfl, rfl, rfl, rfl⟩

/-- A condition is read back from its code (R823). -/
theorem Cond.ofBits_toBits (c : Cond) : Cond.ofBits c.toBits = some c := by cases c <;> rfl

/-- Settles O11: each code names its condition, whose check is the formula of R823. -/
theorem conditionTable : Obligations.ConditionTable :=
  ⟨Cond.ofBits_toBits, rfl, fun _ => ⟨rfl, rfl, rfl, rfl, rfl, rfl, rfl, rfl, rfl, rfl, rfl, rfl, rfl, rfl, rfl⟩⟩

/-! An instruction whose condition fails -/

/-- Every instruction with a condition that fails goes on to the next one. -/
theorem exec_of_failed {i : Instr} {c : Cond} {s : State} (hcond : condOf? i = some c)
    (hc : Cond.passes c s.cpsr = false) (hs : s.halted = false) : exec i s = .next s.next := by
  have skips (m : Exec Unit) : outcome (conditional c m) s = .next s.next := outcome_of_ok (conditional_fail m hc)
  have skipsBranch (m : Exec Unit) : outcome (conditionalBranch c m) s = .next s.next :=
    outcome_of_ok (conditionalBranch_fail m hc hs)
  cases i <;> cases hcond
  case b | bl | bx | bxj | blxReg | tB1 => exact skipsBranch _
  all_goals exact skips _

/-- Outside Debug state the length of an instruction is that of CPSR.T. -/
theorem State.instrLength_of_running {s : State} (hs : s.halted = false) :
    s.instrLength = BitVec.ofNat 32 (if s.cpsr.t then 2 else 4) := by
  simp only [State.instrLength, State.thumb, hs]
  cases s.cpsr.t <;> rfl

/-- Settles O12: the instruction only advances (`exec_of_failed`), by the length of CPSR.T. -/
theorem failedConditionSkips : Obligations.FailedConditionSkips := by
  intro i c s hcond hc hs n
  have hlen : s.instrLength = BitVec.ofNat 32 n := State.instrLength_of_running hs
  have hn : (BitVec.ofNat 32 n).toNat = n := by
    simp only [n]
    split <;> rfl
  rw [exec_of_failed hcond hc hs, State.next_of_running hs, hlen, hn]

/-! Undefined instructions -/

/-- A coprocessor that is not there is Undefined; 10 and 11 are the VFP11, and so where it may be used (R1301, R1310). -/
theorem noCoprocessor_undefined {cp : BitVec 4} {s : State}
    (h : (cp ≠ 10 ∧ cp ≠ 11) ∨ (cp = 10 ∧ s.vfpUsable false = true) ∨ (cp = 11 ∧ s.vfpUsable true = true)) :
    noCoprocessor cp s = .error (.took s.undefined) := by
  obtain ⟨h10, h11⟩ | ⟨rfl, hu⟩ | ⟨rfl, hu⟩ := h
  · exact noCoprocessor_run h10 h11 s
  · exact exec_bind_ok (vfpAccess_run false hu)
  · exact exec_bind_ok (vfpAccess_run false hu)

/-- Settles O20: each of these only takes the exception, those of the conditional space where their condition passes. -/
theorem undefinedResults : Obligations.UndefinedResults := by
  intro s c a b d e f x y g h p q r hs
  have ends {m : Exec Unit} (hm : m s = .error (.took s.undefined)) : outcome m s = .next (enterException .undefined s) := by
    rw [outcome_of_took hm, State.undefined_of_running hs]
  have u : outcome takeUndefined s = .next (enterException .undefined s) := ends (takeUndefined_run s)
  refine ⟨u, u, u, u, u, u, u, u, u, u, u, u, fun hd => ?_, fun hc hcp => ?_, fun hc => ?_, fun hc => ?_, u⟩
  · exact ends ((congrFun (if_neg hd) s).trans (takeUndefined_run s))
  · have absent : outcome (conditional c (noCoprocessor e)) s = .next (enterException .undefined s) :=
      ends ((conditional_pass _ hc).trans (noCoprocessor_undefined hcp))
    exact ⟨absent, absent⟩
  · exact ends ((conditional_pass _ hc).trans (takeUndefined_run s))
  · exact outcome_of_ok (conditional_fail _ hc)

end Sys2Proof.Machine

namespace Sys2Proof.Machine

/-! Checks of the operands. Each of them is `refuseIf` of the combinations that it refuses (R846, R961, R1147) -/

/-- A check that refuses where `b` holds, and changes nothing. -/
def Checks (b : Bool) (m : Exec Unit) : Prop := m = refuseIf b

namespace Checks

theorem refuseIf (b : Bool) : Checks b (refuseIf b) := rfl

theorem noPc (l : List RegNo) : Checks (l.contains 15) (noPc l) := by
  funext s
  simp only [Machine.noPc, Machine.refuseIf]
  cases l.contains 15 <;> rfl

theorem distinct (hi lo : RegNo) : Checks (hi == lo) (distinct hi lo) := by
  funext s
  by_cases h : hi = lo <;> simp [Machine.distinct, Machine.refuseIf, h] <;> rfl

theorem mode3 (p wb : Bool) : Checks (!p && wb) (checkMode3 p wb) := rfl

/-- One register, with an immediate offset. -/
theorem singleImm (writes : Bool) (rn rd : RegNo) (pc : Bool) :
    Checks (writes && (rn == 15 || rd == rn) || (!pc && rd == 15)) (checkSingle writes rn rd none pc) := by
  simp [Checks, checkSingle, Machine.refuseIf]

/-- One register, with a register offset. -/
theorem singleReg (writes : Bool) (rn rd rm : RegNo) (pc : Bool) :
    Checks (writes && (rn == 15 || rd == rn || rm == rn) || rm == 15 || (!pc && rd == 15))
      (checkSingle writes rn rd (some rm) pc) := by
  cases writes <;> simp [Checks, checkSingle, Machine.refuseIf, or_comm, or_left_comm]

/-- Two registers, with an immediate offset. -/
theorem doubleImm (writes load : Bool) (rn rd : RegNo) :
    Checks (rd.getLsbD 0 || rd == 14 || writes && (rn == 15 || rd == rn || rd + 1 == rn))
      (checkDouble writes load rn rd none) := by
  simp [Checks, checkDouble, Machine.refuseIf, or_assoc]

/-- Two registers, with a register offset: a load must not have it among them. -/
theorem doubleReg (writes load : Bool) (rn rd rm : RegNo) :
    Checks (rd.getLsbD 0 || rd == 14 || writes && (rn == 15 || rd == rn || rd + 1 == rn || rm == rn) || rm == 15 ||
      load && (rm == rd || rm == rd + 1)) (checkDouble writes load rn rd (some rm)) := by
  cases writes <;> simp [Checks, checkDouble, Machine.refuseIf, or_assoc, or_left_comm]

theorem loadList (wb : Bool) (rn : RegNo) (rs : List RegNo) :
    Checks (rs == [] || rn == 15 || (wb && rs.contains rn)) (checkLoadList wb rn rs) := by
  simp [Checks, checkLoadList, Machine.refuseIf]

theorem storeList (wb : Bool) (rn : RegNo) (rs : List RegNo) :
    Checks (rs == [] || rn == 15 || (wb && rs.contains rn && rs.head? != some rn)) (checkStoreList wb rn rs) := by
  simp [Checks, checkStoreList, Machine.refuseIf]

variable {a b : Bool} {m n : Exec Unit} {f : Unit → Exec Unit}

/-- What a check refuses does not go on. -/
theorem stops (hm : Checks b m) (h : b = true) (s : State) :
    (m >>= f) s = .error (.refused .unpredictableEncoding) := by
  rw [hm, h]
  rfl

/-- Of two checks one after the other, either may refuse. -/
theorem stopsEither (hm : Checks a m) (hn : Checks b n) (h : (a || b) = true) (s : State) :
    (m >>= fun _ => n >>= f) s = .error (.refused .unpredictableEncoding) := by
  cases a
  · rw [hm, exec_bind_ok (refuseIf_run rfl s), hn.stops h]
  · exact hm.stops rfl s

end Checks

/-! The registers of a list -/

theorem mem_listed {regs : BitVec 16} {r : RegNo} : r ∈ listed regs ↔ regs.getLsbD r.toNat = true := by
  simp only [listed, List.mem_filterMap, List.mem_finRange, true_and, Option.ite_none_right_eq_some, Option.some.injEq]
  constructor
  · rintro ⟨k, hk, rfl⟩
    rwa [BitVec.toNat_ofNat, Nat.mod_eq_of_lt k.isLt]
  · exact fun h => ⟨⟨r.toNat, r.isLt⟩, h, by simp⟩

theorem listed_eq_nil {regs : BitVec 16} : listed regs = [] ↔ regs = 0 := by
  constructor
  · intro h
    ext k hk
    have : BitVec.ofNat 4 k ∉ listed regs := by simp [h]
    rw [mem_listed, BitVec.toNat_ofNat, Nat.mod_eq_of_lt hk] at this
    simpa [BitVec.getLsbD_eq_getElem hk] using this
  · rintro rfl
    rfl


/-- A list in fewer bits has the same registers. -/
theorem mem_listed_setWidth {n : Nat} {regs : BitVec n} {r : RegNo} :
    r ∈ listed (regs.setWidth 16) ↔ regs.getLsbD r.toNat = true := by
  rw [mem_listed, BitVec.getLsbD_setWidth, decide_eq_true r.isLt, Bool.true_and]

theorem listed_setWidth_eq_nil {n : Nat} (h : n ≤ 16) {regs : BitVec n} :
    listed (regs.setWidth 16) = [] ↔ regs = 0 := by
  rw [listed_eq_nil]
  constructor
  · intro e
    have : (regs.setWidth 16).setWidth n = 0 := by rw [e]; simp
    rwa [BitVec.setWidth_setWidth_of_le _ h, BitVec.setWidth_eq] at this
  · rintro rfl
    simp

theorem mem_lowListed {regs : BitVec 8} {r : LowReg} : low r ∈ lowListed regs ↔ regs.getLsbD r.toNat = true := by
  rw [lowListed, mem_listed_setWidth, low, BitVec.toNat_setWidth_of_le (by decide)]

theorem lowListed_eq_nil {regs : BitVec 8} : lowListed regs = [] ↔ regs = 0 := listed_setWidth_eq_nil (by decide)

/-! Combinations that are refused -/

/-- The `^` forms of the block transfers are refused in the modes without an SPSR, and go on in the others. -/
theorem exceptionModeOnly_eq (s : State) : exceptionModeOnly s =
    if (s.spsr.get? s.cpsr.mode).isNone then .error (.refused .noSpsr) else .ok ((), s) := by
  unfold exceptionModeOnly
  cases s.cpsr.mode <;> rfl

/-- How an instruction with a forbidden combination ends: refused for it, or before that for a missing SPSR. -/
def RefusedIn (s : State) (o : Host.Outcome State Fault Refusal) : Prop :=
  o = .refused .unpredictableEncoding ∨ (s.spsr.get? s.cpsr.mode = none ∧ o = .refused .noSpsr)

theorem RefusedIn.of_error {m : Exec Unit} {s : State} (h : m s = .error (.refused .unpredictableEncoding)) :
    RefusedIn s (outcome m s) := .inl (outcome_of_refused h)

/-- A `^` form looks for the SPSR first. -/
theorem RefusedIn.of_exceptionMode {m : Exec Unit} {f : Unit → Exec Unit} {s : State} (hm : m s = (exceptionModeOnly >>= f) s)
    (h : f () s = .error (.refused .unpredictableEncoding)) : RefusedIn s (outcome m s) := by
  cases hp : s.spsr.get? s.cpsr.mode with
  | none => exact .inr ⟨hp, outcome_of_refused (hm.trans (exec_bind_error (by simp [exceptionModeOnly_eq, hp])))⟩
  | some v => exact .of_error (hm.trans ((exec_bind_ok (by simp [exceptionModeOnly_eq, hp])).trans h))

/-- Every instruction with a forbidden combination ends so. -/
theorem exec_forbidden {i : Instr} {s : State} (h : forbidden i = true)
    (hc : ∀ c, condOf? i = some c → Cond.passes c s.cpsr = true) : RefusedIn s (exec i s) := by
  have stop {m : Exec Unit} (hm : m s = .error (.refused .unpredictableEncoding)) : RefusedIn s (outcome m s) := .of_error hm
  have stopIf {c : Cond} {m : Exec Unit} (hp : ∀ c', some c = some c' → Cond.passes c' s.cpsr = true)
      (hm : m s = .error (.refused .unpredictableEncoding)) : RefusedIn s (outcome (conditional c m) s) :=
    .of_error ((conditional_pass m (hp c rfl)).trans hm)
  have stopBranch {c : Cond} {m : Exec Unit} (hp : ∀ c', some c = some c' → Cond.passes c' s.cpsr = true)
      (hm : m s = .error (.refused .unpredictableEncoding)) : RefusedIn s (outcome (conditionalBranch c m) s) :=
    .of_error ((conditionalBranch_pass m (hp c rfl)).trans hm)
  cases i
  case cps | tCps => exact stop (congrFun (if_pos h) s)
  case pldReg => exact stop (Checks.stops (.noPc _) h s)
  case bxj | blxReg => exact stopBranch hc (Checks.stops (.noPc _) h s)
  case tBlx2 => exact stop (Checks.stops (.noPc _) (by simp_all [forbidden]) s)
  -- data processing, multiplies and media
  case mrs | msrReg | clz | smlaXY | smlawY | smulwY | smulXY | mul | mla | sel | rev | rev16 | revsh | smuad | smusd
    | smlad | smlsd | smmul | smmla | smmls | usad8 | usada8 | pkhbt | pkhtb | ssat16 | usat16 | ssat | usat
    | andRegShift | eorRegShift | subRegShift | rsbRegShift | addRegShift | adcRegShift | sbcRegShift | rscRegShift
    | tstRegShift | teqRegShift | cmpRegShift | cmnRegShift | orrRegShift | movRegShift | bicRegShift | mvnRegShift
    | qadd | qsub | qdadd | qdsub | sxtb16 | sxtb | sxth | uxtb16 | uxtb | uxth | sxtab16 | sxtab | sxtah | uxtab16
    | uxtab | uxtah | sadd16 | qadd16 | shadd16 | uadd16 | uqadd16 | uhadd16 | saddsubx | qaddsubx | shaddsubx | uaddsubx
    | uqaddsubx | uhaddsubx | ssubaddx | qsubaddx | shsubaddx | usubaddx | uqsubaddx | uhsubaddx | ssub16 | qsub16
    | shsub16 | usub16 | uqsub16 | uhsub16 | sadd8 | qadd8 | shadd8 | uadd8 | uqadd8 | uhadd8 | ssub8 | qsub8 | shsub8
    | usub8 | uqsub8 | uhsub8 | ldrex | ldrexb | ldrexh => exact stopIf hc (Checks.stops (.noPc _) h s)
  case smlalXY | umaal | umull | umlal | smull | smlal | smlald | smlsld =>
    exact stopIf hc (Checks.stopsEither (.noPc _) (.distinct _ _) h s)
  case tAdd4 | tCmp3 => exact stop (Checks.stops (.refuseIf _) (by simpa [forbidden] using h) s)
  -- swaps and exclusives
  case swp | swpb | strex | strexb | strexh | strexd | ldrexd =>
    exact stopIf hc (Checks.stopsEither (.noPc _) (.refuseIf _) (by simpa [forbidden, or_assoc] using h) s)
  -- loads and stores
  case ldrImm | strImm => exact stopIf hc (Checks.stops (.singleImm _ _ _ _) (by simpa [forbidden] using h) s)
  case ldrReg | strReg => exact stopIf hc (Checks.stops (.singleReg _ _ _ _ _) (by simpa [forbidden] using h) s)
  case ldrbImm | strbImm | ldrtImm | ldrbtImm | strtImm | strbtImm =>
    exact stopIf hc (Checks.stops (.singleImm _ _ _ _) (by exact h) s)
  case ldrbReg | strbReg | ldrtReg | ldrbtReg | strtReg | strbtReg =>
    exact stopIf hc (Checks.stops (.singleReg _ _ _ _ _) (by exact h) s)
  case strhImm | ldrhImm | ldrsbImm | ldrshImm =>
    exact stopIf hc (Checks.stopsEither (.mode3 _ _) (.singleImm _ _ _ _) ((Bool.or_comm _ _).trans (by exact h)) s)
  case strhReg | ldrhReg | ldrsbReg | ldrshReg =>
    exact stopIf hc (Checks.stopsEither (.mode3 _ _) (.singleReg _ _ _ _ _) ((Bool.or_comm _ _).trans (by exact h)) s)
  case ldrdImm | strdImm =>
    exact stopIf hc (Checks.stopsEither (.mode3 _ _) (.doubleImm _ _ _ _) ((Bool.or_comm _ _).trans (by exact h)) s)
  case ldrdReg | strdReg =>
    exact stopIf hc (Checks.stopsEither (.mode3 _ _) (.doubleReg _ _ _ _ _)
      ((Bool.or_comm _ _).trans (by simpa [forbidden, or_assoc] using h)) s)
  -- lists of registers
  case ldm1 => exact stopIf hc (Checks.stops (.loadList _ _ _) (by simpa [forbidden, mem_listed, listed_eq_nil] using h) s)
  case stm1 => exact stopIf hc (Checks.stops (.storeList _ _ _) (by simpa [forbidden, mem_listed, listed_eq_nil] using h) s)
  case tPush =>
    exact stop (Checks.stops (.storeList _ _ _) (by simp_all [forbidden, lowListed_eq_nil]) s)
  case tPop =>
    exact stop (Checks.stops (.loadList _ _ _) (by simp_all [forbidden, lowListed_eq_nil]) s)
  case tStmia =>
    refine stop (Checks.stops (.storeList _ _ _) ?_ s)
    simp only [forbidden, Bool.or_eq_true, beq_iff_eq, Bool.and_eq_true] at h
    obtain h | ⟨hr, hh⟩ := h
    · simp [lowListed_eq_nil, h]
    · simp [mem_lowListed, hr, hh]
  case tLdmia => exact stop (exec_bind_error (congrFun (if_pos (by simpa [forbidden, lowListed_eq_nil] using h)) s))
  case ldm2 =>
    exact .of_exceptionMode (conditional_pass _ (hc _ rfl))
      (Checks.stops (.loadList _ _ _) (by simpa [forbidden, listed_setWidth_eq_nil] using h) s)
  case ldm3 =>
    refine .of_exceptionMode (conditional_pass _ (hc _ rfl)) (Checks.stops (.loadList _ _ _) ?_ s)
    simp only [forbidden, Bool.or_eq_true, beq_iff_eq, Bool.and_eq_true] at h
    obtain h | ⟨hw, hr⟩ := h
    · simp [h]
    · simp [hw, mem_listed_setWidth, hr]
  case stm2 =>
    exact .of_exceptionMode (conditional_pass _ (hc _ rfl))
      (Checks.stops (.storeList _ _ _) (by simpa [forbidden, listed_eq_nil] using h) s)
  all_goals cases h

/-- Settles O49: the check of the combination is the first or second thing that the instruction does (`exec_forbidden`). -/
theorem forbiddenRefused : Obligations.ForbiddenRefused := fun _ _ h hc => exec_forbidden h hc

end Sys2Proof.Machine

namespace Sys2Proof

/-! Fields of an instruction: what the decoder pulls out of a word, the encoder puts back in its place (R821) -/

theorem getLsbD_place {n : Nat} (b : BitVec n) (lo k : Nat) :
    (place b lo).getLsbD k = (decide (k < 32) && decide (lo ≤ k) && b.getLsbD (k - lo)) := by
  simp only [place, BitVec.getLsbD_shiftLeft, BitVec.getLsbD_setWidth]
  by_cases hl : lo ≤ k
  · have hk : k < 32 → k - lo < 32 := fun h => by omega
    by_cases h : k < 32 <;> simp [h, hl, hk, Nat.not_lt.mpr]
  · simp [hl, Nat.lt_of_not_le]

/-- The bits of a word from which a field of `n` bits at `lo` is read. -/
def span (lo n : Nat) : Word := place (BitVec.allOnes n) lo

theorem getLsbD_span (lo n k : Nat) :
    (span lo n).getLsbD k = (decide (k < 32) && decide (lo ≤ k) && decide (k - lo < n)) := by
  rw [span, getLsbD_place, BitVec.getLsbD_allOnes]

/-- A field of an instruction, put back where it was read. -/
theorem place_field {k : Nat} (w : BitVec k) (lo n : Nat) : place (field w lo n) lo = w.setWidth 32 &&& span lo n := by
  apply BitVec.eq_of_getLsbD_eq
  intro j hj
  rw [getLsbD_place, BitVec.getLsbD_and, getLsbD_span, BitVec.getLsbD_setWidth, field, BitVec.getLsbD_extractLsb']
  by_cases hl : lo ≤ j
  · rw [Nat.add_sub_cancel' hl]
    cases w.getLsbD j <;> simp [hj, hl]
  · simp [hl]

theorem ofBool_getLsbD {k : Nat} (w : BitVec k) (lo : Nat) : BitVec.ofBool (w.getLsbD lo) = field w lo 1 := by
  apply BitVec.eq_of_getLsbD_eq
  intro j hj
  obtain rfl : j = 0 := by omega
  simp [field]

/-- A bit of an instruction, put back where it was read. -/
theorem placeB_getLsbD {k : Nat} (w : BitVec k) (lo : Nat) : placeB (w.getLsbD lo) lo = w.setWidth 32 &&& span lo 1 := by
  rw [placeB, ofBool_getLsbD, place_field]

theorem Cond.toBits_of_ofBits {b : BitVec 4} {c : Cond} (h : Cond.ofBits b = some c) : c.toBits = b := by
  revert b c; decide

theorem ShiftTy.toBits_ofBits (b : BitVec 2) : (ShiftTy.ofBits b).toBits = b := by
  revert b; decide

theorem field_append_high {m n : Nat} (a : BitVec m) (b : BitVec n) : field (a ++ b) n m = a := by
  apply BitVec.eq_of_getLsbD_eq
  intro j hj
  simp [field, hj, BitVec.getLsbD_append]

theorem field_append_low {m n : Nat} (a : BitVec m) (b : BitVec n) : field (a ++ b) 0 n = b := by
  apply BitVec.eq_of_getLsbD_eq
  intro j hj
  simp [field, hj, BitVec.getLsbD_append]

/-- Two parts of a word that are known are known together. -/
theorem and_join {k : Nat} {w m v m' v' : BitVec k} (h : w &&& m = v) (h' : w &&& m' = v') :
    w &&& (m ||| m') = v ||| v' := by rw [BitVec.and_or_distrib_left, h, h']

/-- The fixed bits of a row together with the bits of its fields are the bits under `t`. -/
theorem recombineUnder {w m v x r t : Word} (h : w &&& m = v) (hx : x = v) (hr : m ||| r = t) :
    x ||| w &&& r = w &&& t := by rw [hx, ← h, ← BitVec.and_or_distrib_left, hr]

/-- Those of a whole instruction are the instruction. -/
theorem recombine {k : Nat} {w m v : BitVec k} {x r : Word} (h : w &&& m = v) (hx : x = v.setWidth 32)
    (hr : m.setWidth 32 ||| r = (BitVec.allOnes k).setWidth 32) : x ||| w.setWidth 32 &&& r = w.setWidth 32 := by
  rw [recombineUnder (by rw [← BitVec.setWidth_and, h]) hx hr, ← BitVec.setWidth_and, BitVec.and_allOnes]

/-! Through the rows of a decoder -/

/-- Where the bits of `w` under `m` are `v`, an instruction decoded as `d` has the property `P`. -/
def Reads {k : Nat} (w m v : BitVec k) (P : Instr → Prop) : Decoded → Prop
  | .instr i => w &&& m = v → P i
  | _ => True

/-- A row of a decoder: what it reads has its fixed bits; for the rows after it the word does not match it. -/
theorem Reads.row {k : Nat} {w m v m' v' : BitVec k} {P : Instr → Prop} {d e : Decoded}
    (hd : Reads w (m ||| m') (v ||| v') P d) (he : ¬ w &&& m' = v' → Reads w m v P e) :
    Reads w m v P (if w &&& m' = v' then d else e) := by
  split
  · cases d with
    | instr i => exact fun hm => hd (by rw [BitVec.and_or_distrib_left, hm, ‹w &&& m' = v'›])
    | _ => trivial
  · exact he ‹_›

theorem Reads.of_eq {k : Nat} {w m v : BitVec k} {P : Instr → Prop} {d : Decoded} {i : Instr} (h : Reads w m v P d)
    (hm : w &&& m = v) (hd : d = .instr i) : P i := by
  subst hd
  exact h hm

/-- The instruction is one of the set `isa`, and its encoding is `w`. -/
def EncodesTo (isa : Isa) {k : Nat} (w : BitVec k) (i : Instr) : Prop := i.isa = isa ∧ encode i = w.setWidth 32

/-! What is decoded encodes to the same word: each row puts its fixed bits and its fields back -/

section

variable {c : Cond} {w : Word}

theorem decodeClass000_encodes (hc : place c.toBits 28 = w.setWidth 32 &&& span 28 4) :
    Reads w 0 0 (EncodesTo .arm w) (decodeClass000 c w) := by
  unfold decodeClass000 sb
  repeat' refine .row ?_ fun _ => ?_
  all_goals first
    | exact True.intro
    | refine fun h => ⟨rfl, ?_⟩
      simp only [encode, hc, place_field, placeB_getLsbD, field_append_high, field_append_low,
        ShiftTy.toBits_ofBits, BitVec.or_assoc, ← BitVec.and_or_distrib_left]
      exact recombine h rfl rfl

theorem decodeVfp110_encodes (hc : place c.toBits 28 = w.setWidth 32 &&& span 28 4) :
    Reads w 0 0 (EncodesTo .arm w) (decodeVfp110 c w) := by
  unfold decodeVfp110 decodeClass110
  repeat' refine .row ?_ fun _ => ?_
  all_goals first
    | exact True.intro
    | refine fun h => ⟨rfl, ?_⟩
      simp only [encode, hc, place_field, placeB_getLsbD, BitVec.or_assoc, ← BitVec.and_or_distrib_left]
      exact recombine h rfl rfl

theorem decodeVfp111_encodes (hc : place c.toBits 28 = w.setWidth 32 &&& span 28 4) :
    Reads w 0 0 (EncodesTo .arm w) (decodeVfp111 c w) := by
  unfold decodeVfp111 decodeClass111 sb
  repeat' refine .row ?_ fun _ => ?_
  all_goals first
    | exact True.intro
    | refine fun h => ⟨rfl, ?_⟩
      simp only [encode, hc, place_field, placeB_getLsbD, BitVec.or_assoc, ← BitVec.and_or_distrib_left]
      exact recombine h rfl rfl

theorem decodeCond_encodes (hc : place c.toBits 28 = w.setWidth 32 &&& span 28 4) :
    Reads w 0 0 (EncodesTo .arm w) (decodeCond c w) := by
  unfold decodeCond
  split
  · exact decodeClass000_encodes hc
  on_goal 7 => exact decodeVfp111_encodes hc
  on_goal 6 => exact decodeVfp110_encodes hc
  on_goal 1 => unfold decodeClass001 sb
  on_goal 2 => unfold decodeClass010
  on_goal 3 => unfold decodeClass011 sb
  on_goal 4 => unfold decodeClass100 sb
  on_goal 5 => unfold decodeClass101
  all_goals
    repeat' refine .row ?_ fun _ => ?_
  all_goals first
    | exact True.intro
    | refine fun h => ⟨rfl, ?_⟩
      simp only [encode, hc, place_field, placeB_getLsbD, ShiftTy.toBits_ofBits, BitVec.or_assoc,
        ← BitVec.and_or_distrib_left]
      exact recombine h rfl rfl

end

theorem decodeUncond_encodes {w : Word} :
    Reads w 0xF0000000 0xF0000000 (EncodesTo .arm w) (decodeUncond w) := by
  unfold decodeUncond sb
  repeat' refine .row ?_ fun _ => ?_
  all_goals first
    | exact True.intro
    | refine fun h => ⟨rfl, ?_⟩
      simp only [encode, place_field, placeB_getLsbD, ShiftTy.toBits_ofBits, BitVec.or_assoc,
        ← BitVec.and_or_distrib_left]
      exact recombine h rfl rfl
    | exact fun h => ⟨rfl, by simpa using recombine (x := encode .clrex) (r := 0) h rfl rfl⟩

theorem decodeThumb_encodes {w : BitVec 16} : Reads w 0 0 (EncodesTo .thumb w) (decodeThumb w) := by
  unfold decodeThumb sb
  repeat' refine .row ?_ fun _ => ?_
  all_goals first
    | exact True.intro
    | refine fun h => ⟨rfl, ?_⟩
      simp only [encode, place_field, placeB_getLsbD, BitVec.or_assoc, ← BitVec.and_or_distrib_left]
      exact recombine h rfl rfl
    | split
      · rename_i c hc
        refine fun h => ⟨rfl, ?_⟩
        simp only [encode, Cond.toBits_of_ofBits hc, place_field, BitVec.or_assoc, ← BitVec.and_or_distrib_left]
        exact recombine h rfl rfl
      · exact True.intro

/-! What is decoded is well-formed: an instruction with another row before its own is decoded only where that row does not
match (R829) -/

/-- Bits read as `b`, as fixed bits. -/
theorem and_span {w : Word} {lo n : Nat} {b : BitVec n} (h : field w lo n = b) : w &&& span lo n = place b lo := by
  rw [← h, place_field, BitVec.setWidth_eq]

theorem and_span_bit {w : Word} {lo : Nat} {b : Bool} (h : w.getLsbD lo = b) : w &&& span lo 1 = placeB b lo := by
  rw [← h, placeB_getLsbD, BitVec.setWidth_eq]

/-- A row whose fixed bits are among the known ones, as they are known, matches. -/
theorem row_matches {k : Nat} {w m v m' v' : BitVec k} (h : w &&& m = v) (hm : m &&& m' = m') (hv : v &&& m' = v') :
    w &&& m' = v' := by rw [← hm, ← BitVec.and_assoc, h, hv]

/-- The value of a field with which an earlier row would have matched. -/
theorem field_ne {w m v m' v' : Word} {lo n : Nat} {b : BitVec n} (h : w &&& m = v) (miss : ¬ w &&& m' = v')
    (hm : (m ||| span lo n) &&& m' = m') (hv : (v ||| place b lo) &&& m' = v') : field w lo n ≠ b :=
  fun e => miss (row_matches (and_join h (and_span e)) hm hv)

/-- P = 0 with W = 1 belongs to the unprivileged loads and stores, whose rows come first. -/
theorem not_unprivileged {w m v m' v' : Word} (h : w &&& m = v) (miss : ¬ w &&& m' = v')
    (hm : (m ||| span 24 1 ||| span 21 1) &&& m' = m')
    (hv : (v ||| placeB false 24 ||| placeB true 21) &&& m' = v') : (!(!w.getLsbD 24 && w.getLsbD 21)) = true := by
  rw [Bool.not_eq_true', Bool.eq_false_iff, ne_eq, Bool.and_eq_true, Bool.not_eq_true']
  rintro ⟨hp, hw⟩
  exact miss (row_matches (and_join (and_join h (and_span_bit hp)) (and_span_bit hw)) hm hv)

theorem ShiftTy.eq_zero_of_lsl {b : BitVec 2} (h : ShiftTy.ofBits b = .lsl) : b = 0 := by
  revert b; decide

theorem decodeClass000_wellFormed (c : Cond) (w : Word) : Reads w 0 0 Instr.WellFormed (decodeClass000 c w) := by
  unfold decodeClass000 sb
  repeat' refine .row ?_ fun _ => ?_
  all_goals try first
    | exact True.intro
    | exact fun _ => rfl
  -- MOV with a shift, after CPY
  intro h
  show (!(!w.getLsbD 20 && field w 7 5 == 0 && ShiftTy.ofBits (field w 5 2) == .lsl)) = true
  rw [Bool.not_eq_true', Bool.eq_false_iff, ne_eq, Bool.and_eq_true, Bool.and_eq_true, Bool.not_eq_true', beq_iff_eq,
    beq_iff_eq]
  rintro ⟨⟨hs, ha⟩, ht⟩
  exact ‹¬ w &&& 0x0FF00FF0#32 = 0x01A00000#32› (row_matches (and_join (and_join (and_join h (and_span_bit hs))
    (and_span ha)) (and_span (ShiftTy.eq_zero_of_lsl ht))) rfl rfl)

theorem decodeClass001_wellFormed (c : Cond) (w : Word) : Reads w 0 0 Instr.WellFormed (decodeClass001 c w) := by
  unfold decodeClass001 sb
  repeat' refine .row ?_ fun _ => ?_
  all_goals try first
    | exact True.intro
    | exact fun _ => rfl
  · -- the reserved hints, after NOP and YIELD
    intro h
    have h0 : field w 0 8 ≠ 0#8 := field_ne h ‹¬ w &&& 0x0FFF0FFF#32 = 0x03200000#32› rfl rfl
    have h1 : field w 0 8 ≠ 1#8 := field_ne h ‹¬ w &&& 0x0FFF0FFF#32 = 0x03200001#32› rfl rfl
    show (!(field w 0 8 == 0 || field w 0 8 == 1)) = true
    simp [h0, h1]
  · -- MSR, after the hints
    intro h
    show (!(!w.getLsbD 22 && field w 16 4 == 0 && field w 8 4 == 0)) = true
    rw [Bool.not_eq_true', Bool.eq_false_iff, ne_eq, Bool.and_eq_true, Bool.and_eq_true, Bool.not_eq_true', beq_iff_eq,
      beq_iff_eq]
    rintro ⟨⟨hr, hf⟩, hrot⟩
    exact ‹¬ w &&& 0x0FFF0F00#32 = 0x03200000#32› (row_matches (and_join (and_join (and_join h (and_span_bit hr))
      (and_span hf)) (and_span hrot)) rfl rfl)

theorem decodeClass010_wellFormed (c : Cond) (w : Word) : Reads w 0 0 Instr.WellFormed (decodeClass010 c w) := by
  unfold decodeClass010
  repeat' refine .row ?_ fun _ => ?_
  all_goals try first
    | exact True.intro
    | exact fun _ => rfl
  · exact fun h => not_unprivileged h ‹¬ w &&& 0x0F700000#32 = 0x04300000#32› rfl rfl
  · exact fun h => not_unprivileged h ‹¬ w &&& 0x0F700000#32 = 0x04700000#32› rfl rfl
  · exact fun h => not_unprivileged h ‹¬ w &&& 0x0F700000#32 = 0x04200000#32› rfl rfl
  · exact fun h => not_unprivileged h ‹¬ w &&& 0x0F700000#32 = 0x04600000#32› rfl rfl

theorem decodeClass011_wellFormed (c : Cond) (w : Word) : Reads w 0 0 Instr.WellFormed (decodeClass011 c w) := by
  unfold decodeClass011 sb
  repeat' refine .row ?_ fun _ => ?_
  all_goals try first
    | exact True.intro
    | exact fun _ => rfl
  -- loads and stores, after the unprivileged ones
  · exact fun h => not_unprivileged h ‹¬ w &&& 0x0F700010#32 = 0x06300000#32› rfl rfl
  · exact fun h => not_unprivileged h ‹¬ w &&& 0x0F700010#32 = 0x06700000#32› rfl rfl
  · exact fun h => not_unprivileged h ‹¬ w &&& 0x0F700010#32 = 0x06200000#32› rfl rfl
  · exact fun h => not_unprivileged h ‹¬ w &&& 0x0F700010#32 = 0x06600000#32› rfl rfl
  -- extensions that add, after those that do not
  · exact fun h => bne_iff_ne.mpr (field_ne h ‹¬ w &&& 0x0FFF00F0#32 = 0x068F0070#32› rfl rfl)
  · exact fun h => bne_iff_ne.mpr (field_ne h ‹¬ w &&& 0x0FFF00F0#32 = 0x06AF0070#32› rfl rfl)
  · exact fun h => bne_iff_ne.mpr (field_ne h ‹¬ w &&& 0x0FFF00F0#32 = 0x06BF0070#32› rfl rfl)
  · exact fun h => bne_iff_ne.mpr (field_ne h ‹¬ w &&& 0x0FFF00F0#32 = 0x06CF0070#32› rfl rfl)
  · exact fun h => bne_iff_ne.mpr (field_ne h ‹¬ w &&& 0x0FFF00F0#32 = 0x06EF0070#32› rfl rfl)
  · exact fun h => bne_iff_ne.mpr (field_ne h ‹¬ w &&& 0x0FFF00F0#32 = 0x06FF0070#32› rfl rfl)
  -- multiplies that accumulate, after those that do not
  · exact fun h => bne_iff_ne.mpr (field_ne h ‹¬ w &&& 0x0FF0F0D0#32 = 0x0700F010#32› rfl rfl)
  · exact fun h => bne_iff_ne.mpr (field_ne h ‹¬ w &&& 0x0FF0F0D0#32 = 0x0700F050#32› rfl rfl)
  · exact fun h => bne_iff_ne.mpr (field_ne h ‹¬ w &&& 0x0FF0F0D0#32 = 0x0750F010#32› rfl rfl)
  · exact fun h => bne_iff_ne.mpr (field_ne h ‹¬ w &&& 0x0FF0F0F0#32 = 0x0780F010#32› rfl rfl)

theorem at'_eq_place {n : Nat} (b : BitVec n) (lo : Nat) : at' b lo = place b lo := rfl
theorem atB_eq_placeB (b : Bool) (lo : Nat) : atB b lo = placeB b lo := rfl

/-- No row of a list that does not match the instruction matches it without its condition. -/
theorem unclaimed {w x : Word} {rows : List (Word × Word)} (hx : x = w &&& 0x0FFFFFFF#32)
    (bits : rows.all (fun r => 0x0FFFFFFF#32 &&& r.1 == r.1) = true) (misses : ∀ r ∈ rows, ¬ w &&& r.1 = r.2) :
    (!(rows.any (fits x))) = true := by
  rw [Bool.not_eq_true', List.any_eq_false]
  intro r hr
  have hb : 0x0FFFFFFF#32 &&& r.1 = r.1 := beq_iff_eq.mp (List.all_eq_true.mp bits r hr)
  rw [fits, hx, BitVec.and_assoc, hb, beq_iff_eq]
  exact misses r hr

theorem decodeVfp110_wellFormed (c : Cond) (w : Word) : Reads w 0 0 Instr.WellFormed (decodeVfp110 c w) := by
  unfold decodeVfp110 decodeClass110
  repeat' refine .row ?_ fun _ => ?_
  all_goals try first
    | exact True.intro
    | exact fun _ => rfl
  all_goals
    have loads : ∀ r ∈ vfpLsRows, ¬ w &&& r.1 = r.2 := by simp [vfpLsRows, *]
    have pairs : ∀ r ∈ vfpPairRows, ¬ w &&& r.1 = r.2 := by simp [vfpPairRows, *]
    intro h
    first
    | refine unclaimed ?_ (by decide) loads
    | refine unclaimed ?_ (by decide) pairs
    simp only [at'_eq_place, atB_eq_placeB, place_field, placeB_getLsbD, BitVec.setWidth_eq, BitVec.or_assoc,
      ← BitVec.and_or_distrib_left]
    exact recombineUnder h rfl rfl

theorem decodeVfp111_wellFormed (c : Cond) (w : Word) : Reads w 0 0 Instr.WellFormed (decodeVfp111 c w) := by
  unfold decodeVfp111 decodeClass111 sb
  repeat' refine .row ?_ fun _ => ?_
  all_goals try first
    | exact True.intro
    | exact fun _ => rfl
  · -- FMRX, after FMSTAT
    intro h
    show (!(field w 16 4 == 1 && field w 12 4 == 15)) = true
    rw [Bool.not_eq_true', Bool.eq_false_iff, ne_eq, Bool.and_eq_true, beq_iff_eq, beq_iff_eq]
    rintro ⟨hn, hd⟩
    exact ‹¬ w &&& 0x0FFFFF90#32 = 0x0EF1FA10#32›
      (row_matches (and_join (and_join h (and_span hn)) (and_span hd)) rfl rfl)
  · -- the generic coprocessor instructions, after those of the VFP11
    have rows : ∀ r ∈ vfpCdpRows, ¬ w &&& r.1 = r.2 := by simp [vfpCdpRows, *]
    refine fun h => unclaimed ?_ (by decide) rows
    simp only [at'_eq_place, place_field, BitVec.setWidth_eq, BitVec.or_assoc, ← BitVec.and_or_distrib_left]
    exact recombineUnder h rfl rfl
  · have rows : ∀ r ∈ vfpMcrRows, ¬ w &&& r.1 = r.2 := by simp [vfpMcrRows, *]
    refine fun h => unclaimed ?_ (by decide) rows
    simp only [at'_eq_place, place_field, BitVec.setWidth_eq, BitVec.or_assoc, ← BitVec.and_or_distrib_left]
    exact recombineUnder h rfl rfl
  · have rows : ∀ r ∈ vfpMrcRows, ¬ w &&& r.1 = r.2 := by simp [vfpMrcRows, *]
    refine fun h => unclaimed ?_ (by decide) rows
    simp only [at'_eq_place, place_field, BitVec.setWidth_eq, BitVec.or_assoc, ← BitVec.and_or_distrib_left]
    exact recombineUnder h rfl rfl

theorem decodeCond_wellFormed (c : Cond) (w : Word) : Reads w 0 0 Instr.WellFormed (decodeCond c w) := by
  unfold decodeCond
  split
  · exact decodeClass000_wellFormed c w
  · exact decodeClass001_wellFormed c w
  · exact decodeClass010_wellFormed c w
  · exact decodeClass011_wellFormed c w
  · unfold decodeClass100 sb
    repeat' refine .row ?_ fun _ => ?_
    all_goals first
      | exact True.intro
      | exact fun _ => rfl
  · unfold decodeClass101
    exact .row (fun _ => rfl) fun _ => .row (fun _ => rfl) fun _ => True.intro
  · exact decodeVfp110_wellFormed c w
  · exact decodeVfp111_wellFormed c w

theorem decodeUncond_wellFormed (w : Word) : Reads w 0xF0000000 0xF0000000 Instr.WellFormed (decodeUncond w) := by
  unfold decodeUncond sb
  repeat' refine .row ?_ fun _ => ?_
  all_goals try first
    | exact True.intro
    | exact fun _ => rfl
  -- the closing row, after all the others
  intro h
  have rows : ∀ r ∈ uncondRows, ¬ w &&& (0xF0000000 ||| r.1) = 0xF0000000 ||| r.2 := by simp [uncondRows, *]
  refine unclaimed ?_ (by decide) fun r hr e => rows r hr (and_join h e)
  rw [at'_eq_place, place_field, BitVec.setWidth_eq]
  rfl

/-- A halfword matches a row just where the word that it is the lower half of does. -/
theorem wide_row_iff {w m v : BitVec 16} : w.setWidth 32 &&& m.setWidth 32 = v.setWidth 32 ↔ w &&& m = v := by
  rw [← BitVec.setWidth_and]
  refine ⟨fun h => ?_, fun h => by rw [h]⟩
  have low (x : BitVec 16) : (x.setWidth 32).setWidth 16 = x := by
    rw [BitVec.setWidth_setWidth_of_le _ (by decide), BitVec.setWidth_eq]
  rw [← low (w &&& m), h, low]

theorem wide_field {w : BitVec 16} {lo n : Nat} (h : lo + n ≤ 16) : field (w.setWidth 32) lo n = field w lo n := by
  apply BitVec.eq_of_getLsbD_eq
  intro j hj
  simp only [field, BitVec.getLsbD_extractLsb', BitVec.getLsbD_setWidth, decide_eq_true (show lo + j < 32 by omega),
    Bool.true_and]

theorem wide_bit {w : BitVec 16} {k : Nat} (h : k < 16) : (w.setWidth 32).getLsbD k = w.getLsbD k := by
  rw [BitVec.getLsbD_setWidth, decide_eq_true (by omega), Bool.true_and]

theorem decodeThumb_wellFormed (w : BitVec 16) : Reads w 0 0 Instr.WellFormed (decodeThumb w) := by
  unfold decodeThumb sb
  repeat' refine .row ?_ fun _ => ?_
  all_goals try first
    | exact True.intro
    | exact fun _ => rfl
  · -- ADD (1), after MOV (2)
    intro h
    have hi : field (w.setWidth 32) 6 3 ≠ 0#3 :=
      field_ne (wide_row_iff.mpr h) (mt wide_row_iff.mp ‹¬ w &&& 0xFFC0#16 = 0x1C00#16›) rfl rfl
    rw [wide_field (by decide)] at hi
    exact bne_iff_ne.mpr hi
  · -- MOV (3), after CPY
    intro h
    by_contra hb
    have hb : (w.getLsbD 7 || w.getLsbD 6) = false := Bool.eq_false_iff.mpr hb
    rw [Bool.or_eq_false_iff, ← wide_bit (by decide), ← wide_bit (by decide)] at hb
    obtain ⟨h7, h6⟩ := hb
    exact ‹¬ w &&& 0xFFC0#16 = 0x4600#16› (wide_row_iff.mp
      (row_matches (and_join (and_join (wide_row_iff.mpr h) (and_span_bit h7)) (and_span_bit h6)) rfl rfl))
  · -- B (1), after the Undefined halfwords
    split
    · rename_i c hc
      refine fun h => bne_iff_ne.mpr ?_
      rintro rfl
      have ht : field (w.setWidth 32) 8 4 ≠ Cond.al.toBits :=
        field_ne (wide_row_iff.mpr h) (mt wide_row_iff.mp ‹¬ w &&& 0xFF00#16 = 0xDE00#16›) rfl rfl
      exact ht ((wide_field (by decide)).trans (Cond.toBits_of_ofBits hc).symm)
    · exact True.intro

/-! Both directions of the decoders' rows together -/

/-- Without a condition the top four bits are 0b1111 (R825). -/
theorem and_of_no_condition {w : Word} (h : Cond.ofBits (field w 28 4) = none) : w &&& 0xF0000000 = 0xF0000000 := by
  have onlyOnes : ∀ b : BitVec 4, Cond.ofBits b = none → b = 15 := by decide
  exact and_span (onlyOnes _ h)

theorem decodeArm_instr {w : Word} {i : Instr} (h : decodeArm w = .instr i) :
    i.WellFormed ∧ i.isa = .arm ∧ encode i = w := by
  unfold decodeArm at h
  split at h
  · rename_i c hc
    have hcond : place c.toBits 28 = w.setWidth 32 &&& span 28 4 := by rw [Cond.toBits_of_ofBits hc, place_field]
    obtain ⟨hisa, he⟩ := (decodeCond_encodes hcond).of_eq BitVec.and_zero h
    exact ⟨(decodeCond_wellFormed c w).of_eq BitVec.and_zero h, hisa, he.trans (BitVec.setWidth_eq w)⟩
  · rename_i hc
    have top := and_of_no_condition hc
    obtain ⟨hisa, he⟩ := decodeUncond_encodes.of_eq top h
    exact ⟨(decodeUncond_wellFormed w).of_eq top h, hisa, he.trans (BitVec.setWidth_eq w)⟩

theorem decodeThumb_instr {w : BitVec 16} {i : Instr} (h : decodeThumb w = .instr i) :
    i.WellFormed ∧ i.isa = .thumb ∧ encode i = w.setWidth 32 :=
  ⟨(decodeThumb_wellFormed w).of_eq BitVec.and_zero h, decodeThumb_encodes.of_eq BitVec.and_zero h⟩

/-- Settles O9: each row of the decoders gives a well-formed instruction, and puts the word together again. -/
theorem encodeDecode : Obligations.EncodeDecode :=
  ⟨fun _ _ => decodeArm_instr, fun _ _ => decodeThumb_instr⟩

end Sys2Proof

namespace Sys2Proof.Machine

/-! The multiplies that set no Q flag (R961 to R974, R1060, R1075 to R1082) -/

theorem finishMul_run (sf : Bool) (rd : RegNo) (r : Word) (s : State) :
    finishMul sf rd r s = .ok ((), s.mulDone sf rd r) := rfl

/-- Without S no flag is written: only the register is. -/
theorem finishMul_run_keepsFlags (rd : RegNo) (r : Word) (s : State) :
    finishMul false rd r s = .ok ((), s.wrote rd r) := rfl

theorem finishLong_run (sf : Bool) (hi lo : RegNo) (r : DWord) (s : State) :
    finishLong sf hi lo r s = .ok ((), s.longDone sf hi lo r) := rfl

theorem distinct_run {hi lo : RegNo} (h : hi ≠ lo) (s : State) : distinct hi lo s = .ok ((), s) := if_neg h

section

variable {α : Type} {l : List RegNo} {c : Cond} {s t : State}

/-- Without R15 an instruction that computes a value from its registers ends as what it does with that value. -/
theorem exec_computed (hc : Cond.passes c s.cpsr = true) (hl : 15 ∉ l) {f : State → α} {finish : α → Exec Unit}
    (h : finish (f s) s = .ok ((), t)) :
    outcome (conditional c (do noPc l; let r ← look f; finish r)) s = .next t := by
  apply outcome_conditional_of_ok hc
  rw [exec_bind_ok (noPc_run hl s), exec_bind_ok (look_run f s), h]

/-- The same for a result in two registers, which must differ (R961). -/
theorem exec_computedLong (hc : Cond.passes c s.cpsr = true) (hl : 15 ∉ l) {hi lo : RegNo} (hd : hi ≠ lo) {f : State → α}
    {finish : α → Exec Unit} (h : finish (f s) s = .ok ((), t)) :
    outcome (conditional c (do noPc l; distinct hi lo; let r ← look f; finish r)) s = .next t := by
  apply outcome_conditional_of_ok hc
  rw [exec_bind_ok (noPc_run hl s), exec_bind_ok (distinct_run hd s), exec_bind_ok (look_run f s), h]

end

/-- Settles O27: each form computes its result from its registers and writes it, in one register (`exec_computed`) or in
two that differ (`exec_computedLong`). -/
theorem multiplyResults : Obligations.MultiplyResults := by
  intro s c sf x y r rd rn rs rm hc four
  have three : 15 ∉ [rd, rs, rm] := mt (by simp only [List.mem_cons]; tauto) four
  simp only [List.forall_mem_cons, List.not_mem_nil, false_implies, implies_true, and_true]
  refine ⟨?mul, ?mla, ?words, fun hd => ⟨?longs, ?plainLongs⟩⟩
  case mul => exact exec_computed hc three (finishMul_run _ _ _ s)
  case mla => exact exec_computed hc four (finishMul_run _ _ _ s)
  case words =>
    refine ⟨?smulXY, ?smulwY, ?smusd, ?smmul, ?smmla, ?smmls, ?usad8, ?usada8⟩
    case smulXY | smulwY => exact exec_computed hc three (finishMul_run_keepsFlags _ _ s)
    case smusd | smmul | usad8 => exact exec_computed hc three (finishReg_run _ _ s)
    case usada8 => exact exec_computed hc four (finishReg_run _ _ s)
    -- these look at the accumulator after the product
    case smmla | smmls => exact exec_computed hc four ((exec_bind_ok (look_run _ s)).trans (finishReg_run _ _ s))
  case longs =>
    refine ⟨?umull, ?umlal, ?smull, ?smlal⟩
    all_goals exact exec_computedLong hc four hd (finishLong_run _ _ _ _ s)
  case plainLongs =>
    refine ⟨?umaal, ?smlalXY, ?smlald, ?smlsld⟩
    case umaal | smlalXY => exact exec_computedLong hc four hd (finishLong_run _ _ _ _ s)
    -- these look at the accumulator after the products
    case smlald | smlsld =>
      exact exec_computedLong hc four hd ((exec_bind_ok (look_run _ s)).trans (finishLong_run _ _ _ _ s))

end Sys2Proof.Machine

namespace Sys2Proof.Machine

/-! The lanes that the parallel additions and subtractions write (R1022) -/

theorem clamp_fst {lo hi : Int} (h : lo ≤ hi) (x : Int) : (clamp lo hi x).1 = max lo (min hi x) := by
  unfold clamp
  split_ifs <;> dsimp only <;> omega

theorem signedSat_fst (x : Int) (w : Nat) :
    (signedSat x w).1 = max (-2 ^ (w - 1)) (min (2 ^ (w - 1) - 1) x) := by
  have : (0 : Int) < 2 ^ (w - 1) := by positivity
  exact clamp_fst (by omega) x

theorem unsignedSat_fst (x : Int) (w : Nat) : (unsignedSat x w).1 = max 0 (min (2 ^ w - 1) x) := by
  have : (0 : Int) < 2 ^ w := by positivity
  exact clamp_fst (by omega) x

/-- Saturation to `w` signed bits loses nothing in a lane of `w` bits. -/
theorem toInt_ofInt_signedSat {w : Nat} (hw : 0 < w) (x : Int) :
    (BitVec.ofInt w (signedSat x w).1).toInt = (signedSat x w).1 := by
  have : (0 : Int) < 2 ^ (w - 1) := by positivity
  rw [signedSat_fst]
  exact BitVec.toInt_ofInt_eq_self hw (by omega) (by omega)

/-- A lane holds the exact value modulo its width. -/
theorem toNat_ofInt_emod (w : Nat) (x : Int) : ((BitVec.ofInt w x).toNat : Int) = x % 2 ^ w := by
  have : (0 : Int) < 2 ^ w := by positivity
  rw [BitVec.toNat_ofInt, Int.natCast_pow, Nat.cast_ofNat, Int.toNat_of_nonneg (Int.emod_nonneg x (by omega))]

/-- Saturation to `w` unsigned bits loses nothing in a lane of `w` bits. -/
theorem toNat_ofInt_unsignedSat (w : Nat) (x : Int) :
    ((BitVec.ofInt w (unsignedSat x w).1).toNat : Int) = (unsignedSat x w).1 := by
  have : (0 : Int) < 2 ^ w := by positivity
  rw [toNat_ofInt_emod, unsignedSat_fst, Int.emod_eq_of_lt] <;> omega

/-- What a lane holds of the exact result `x` of a prefix: `x` modulo the width, saturated, or halved (R1022). -/
def LanePrefix.Holds (p : LanePrefix) {w : Nat} (r : BitVec w) (x : Int) : Prop :=
  match p with
  | .s => (r.toNat : Int) = x % 2 ^ w
  | .u => (r.toNat : Int) = x % 2 ^ w
  | .q => r.toInt = max (-2 ^ (w - 1)) (min (2 ^ (w - 1) - 1) x)
  | .uq => (r.toNat : Int) = max 0 (min (2 ^ w - 1) x)
  | .sh => (r.toNat : Int) = x / 2 % 2 ^ w
  | .uh => (r.toNat : Int) = x / 2 % 2 ^ w

theorem LanePrefix.holds_narrow (p : LanePrefix) {w : Nat} (hw : 0 < w) (x : Int) : p.Holds (p.narrow w x) x :=
  match p with
  | .s | .u => toNat_ofInt_emod w x
  | .sh | .uh => toNat_ofInt_emod w (x / 2)
  | .q => (toInt_ofInt_signedSat hw x).trans (signedSat_fst x w)
  | .uq => (toNat_ofInt_unsignedSat w x).trans (unsignedSat_fst x w)

/-- Both halfwords of a halfword operation hold their exact results. -/
theorem parallelHalves_holds (p : LanePrefix) (o : LaneOp) (a b : Word) :
    let v := (parallelHalves p o a b).1
    let r := o.halves p.signed a b
    p.Holds (v.extractLsb' 16 16) r.1.1 ∧ p.Holds (v.extractLsb' 0 16) r.2.1 := by
  have high : (parallelHalves p o a b).1.extractLsb' 16 16 = p.narrow 16 (o.halves p.signed a b).1.1 :=
    BitVec.extractLsb'_append_eq_left
  have low : (parallelHalves p o a b).1.extractLsb' 0 16 = p.narrow 16 (o.halves p.signed a b).2.1 :=
    BitVec.extractLsb'_append_eq_right
  dsimp only
  rw [high, low]
  exact ⟨p.holds_narrow (by decide) _, p.holds_narrow (by decide) _⟩

/-- Each byte of a byte operation holds its exact result. -/
theorem parallelBytes_holds (p : LanePrefix) (sub : Bool) (a b : Word) {i : Nat} (hi : i < 4) :
    p.Holds ((parallelBytes p sub a b).1.extractLsb' (8 * i) 8) (byteLane p sub a b i) := by
  have byte : (parallelBytes p sub a b).1.extractLsb' (8 * i) 8 = p.narrow 8 (byteLane p sub a b i) :=
    extractLsb'_four (fun i => p.narrow 8 (byteLane p sub a b i)) hi
  rw [byte]
  exact p.holds_narrow (by decide) _

/-- The prefixes S, Q and SH read their lanes as signed, the others as unsigned. -/
theorem read_eq_lane (p : LanePrefix) (v : Word) (lo w : Nat) :
    (if p = .s ∨ p = .q ∨ p = .sh then (v.extractLsb' lo w).toInt else ((v.extractLsb' lo w).toNat : Int)) =
      lane p.signed w v lo := by
  cases p <;> simp [lane, LanePrefix.signed]

/-- Settles O30: each lane of a result holds its exact value as the prefix asks (`parallelHalves_holds`,
`parallelBytes_holds`), and each instruction is one `parallel` (`parallel_run`). -/
theorem parallelResults : Obligations.ParallelResults := by
  refine ⟨fun p a b => ?lanes, fun s c rn rd rm hc hr => ?instructions⟩
  case lanes =>
    intro X put
    have read : ∀ v lo w, X v lo w = lane p.signed w v lo := read_eq_lane p
    simp only [read]
    obtain ⟨addHigh, addLow⟩ := parallelHalves_holds p .add16 a b
    obtain ⟨addSubHigh, addSubLow⟩ := parallelHalves_holds p .addsubx a b
    obtain ⟨subAddHigh, subAddLow⟩ := parallelHalves_holds p .subaddx a b
    obtain ⟨subHigh, subLow⟩ := parallelHalves_holds p .sub16 a b
    exact ⟨addHigh, addLow, addSubHigh, addSubLow, subAddHigh, subAddLow, subHigh, subLow,
      fun i hi => ⟨parallelBytes_holds p false a b hi, parallelBytes_holds p true a b hi⟩⟩
  case instructions =>
    have run (p : LanePrefix) (o : LaneOp) : outcome (conditional c (parallel p o rn rd rm)) s =
        .next (s.lanesDone rd (o.apply p (s.reg rn) (s.reg rm)) p.writesGe) :=
      outcome_conditional_of_ok hc (parallel_run p o hr)
    simp only [List.forall_mem_cons, List.not_mem_nil, false_implies, implies_true, and_true]
    and_intros <;> exact run _ _

end Sys2Proof.Machine

namespace Sys2Proof.Machine

/-! The branches (R1121 to R1128, R1383, R1384, R1413 to R1415) -/

/-- The link of a branch in ARM state is the address after it, with no bit added. -/
theorem link_zero_run (back : Word) (s : State) : link back 0 s = .ok ((), s.setReg 14 (s.readPc - back)) := by
  show Except.ok ((), s.setReg 14 ((s.readPc - back) ||| 0#32)) = _
  rw [BitVec.or_zero]

theorem outcome_branch_of_ok {c : Cond} {m : Exec Unit} {s t : State} (hc : Cond.passes c s.cpsr = true)
    (h : m s = .ok ((), t)) : outcome (conditionalBranch c m) s = .next t :=
  outcome_of_ok ((conditionalBranch_pass m hc).trans h)

theorem outcome_branch_of_refused {c : Cond} {m : Exec Unit} {s : State} {r : Refusal}
    (hc : Cond.passes c s.cpsr = true) (h : m s = .error (.refused r)) :
    outcome (conditionalBranch c m) s = .refused r :=
  outcome_of_refused ((conditionalBranch_pass m hc).trans h)

/-- A branch to a register that links does both in the state it found: the target is read before R14 is written (R1128). -/
theorem linkedBranch_run {prepare : Exec Unit} {r : RegNo} {s u : State} (hr : r ≠ 15)
    (hp : prepare s = .ok ((), u)) :
    (do noPc [r]; let v ← look fun s => s.reg r; prepare; bxWritePc v) s = bxWritePc (s.reg r) u := by
  rw [exec_bind_ok (noPc_run (by simpa using hr.symm) s), exec_bind_ok (look_run _ s), exec_bind_ok hp]

/-- The same without a link (R1127). -/
theorem checkedBranch_run {r : RegNo} {s : State} (hr : r ≠ 15) :
    (do noPc [r]; let v ← look fun s => s.reg r; bxWritePc v) s = bxWritePc (s.reg r) s := by
  rw [exec_bind_ok (noPc_run (by simpa using hr.symm) s), exec_bind_ok (look_run _ s)]

/-- Settles O33: a branch by an offset is one `State.branchBy`, and one to a register is `bxWritePc` of what the register
held before the link. -/
theorem branchResults : Obligations.BranchResults := by
  refine ⟨fun s c imm h rm hc => ⟨?b, ?bl, ?blx, fun hv => ⟨?bx, fun hm => ⟨?bxj, ?blxReg⟩⟩,
    fun h0 h1 => ⟨?bxOdd, fun hm => ⟨?bxjOdd, ?blxRegOdd⟩⟩, ?bxjPc, ?blxRegPc⟩,
    fun s c i8 i10 i11 h rm => ⟨fun hc => ?tB1, rfl, rfl, rfl, rfl, fun hv => ⟨?tBx, fun hm => ?tBlx2⟩,
      fun h0 h1 => ⟨?tBxOdd, fun hm => ?tBlx2Odd⟩, fun hm => ?tBlx2Pc⟩⟩
  case b | tB1 => exact outcome_branch_of_ok hc rfl
  case bl => exact outcome_branch_of_ok hc ((exec_bind_ok (look_run _ s)).trans (exec_bind_ok (link_zero_run 4 s)))
  case blx => cases h <;> rfl
  case bx => exact outcome_branch_of_ok hc (bxWritePc_run hv s)
  case bxj => exact outcome_branch_of_ok hc ((checkedBranch_run hm).trans (bxWritePc_run hv s))
  case blxReg => exact outcome_branch_of_ok hc ((linkedBranch_run hm (link_zero_run 4 s)).trans (bxWritePc_run hv _))
  case bxOdd => exact outcome_branch_of_refused hc (bxWritePc_refused h0 h1 s)
  case bxjOdd => exact outcome_branch_of_refused hc ((checkedBranch_run hm).trans (bxWritePc_refused h0 h1 s))
  case blxRegOdd =>
    exact outcome_branch_of_refused hc ((linkedBranch_run hm (link_zero_run 4 s)).trans (bxWritePc_refused h0 h1 _))
  case bxjPc | blxRegPc => exact outcome_branch_of_refused hc (exec_bind_error (noPc_refused (by simp) s))
  case tBx => exact outcome_of_ok (bxWritePc_run hv s)
  case tBlx2 => exact outcome_of_ok ((linkedBranch_run hm rfl).trans (bxWritePc_run hv _))
  case tBxOdd => exact outcome_of_refused (bxWritePc_refused h0 h1 s)
  case tBlx2Odd => exact outcome_of_refused ((linkedBranch_run hm rfl).trans (bxWritePc_refused h0 h1 _))
  case tBlx2Pc => exact outcome_of_refused (exec_bind_error (noPc_refused (by simp [hm]) s))

/-! Exceptions that instructions raise (R1268 to R1270, R1420, R1421) -/

theorem supervisorCall_run {s : State} (h : s.halted = false) :
    supervisorCall s = .error (.took (enterException .svc s)) := by simp [supervisorCall, h]

/-- BKPT by the debug mode that is selected and permitted. -/
theorem softwareBreakpoint_run {s : State} (h : s.halted = false) :
    softwareBreakpoint s = .error (.took
      (if s.haltingDebug then s.enterDebug .bkpt
        else if s.monitorDebug then (s.setEntry .bkpt).debugPrefetchAbort else s.debugPrefetchAbort)) := by
  unfold softwareBreakpoint State.breaksOnBkpt State.instructionEvent
  cases s.haltingDebug <;> cases s.monitorDebug <;> simp [h]

theorem State.debugPrefetchAbort_eq (s : State) : s.debugPrefetchAbort =
    enterException (.prefetchAbort false) (s.setBankOf (!s.isSecure) fun b => { b with ifsr := 2 }) := by
  simp [State.debugPrefetchAbort, State.faultWorld]

/-- Settles O19: SVC, SMC and BKPT end with the exception, or with the entry to Debug state. -/
theorem systemCallResults : Obligations.SystemCallResults := by
  intro s c imm imm16 imm8 hh
  have callIf {m : Exec Unit} {t : State} (hc : Cond.passes c s.cpsr = true) (h : m s = .error (.took t)) :
      outcome (conditional c m) s = .next t := outcome_of_took ((conditional_pass m hc).trans h)
  refine ⟨fun hc => ⟨callIf hc (supervisorCall_run hh), fun hp => callIf hc ?_, fun hp => callIf hc ?_⟩,
    outcome_of_took (supervisorCall_run hh), fun i hi => ?_⟩
  · simp only [exec_bind_ok (look_run _ s), hh, hp]
    rfl
  · simp only [exec_bind_ok (look_run _ s), hh, hp]
    exact congrArg (fun t => Except.error (Stop.took t)) (State.undefined_of_running hh)
  · have run : exec i s = outcome softwareBreakpoint s := by rcases hi with rfl | rfl <;> rfl
    rw [run, outcome_of_took (softwareBreakpoint_run hh)]
    refine ⟨fun h1 h2 => ?_, fun h1 => ?_, fun h1 h2 => ?_⟩
    · simp [h1, h2, State.debugPrefetchAbort_eq]
    · simp [h1]
    · simp [h1, h2]

end Sys2Proof.Machine

namespace Sys2Proof.Machine

/-! Loads and stores of one or two registers (R1142 to R1165, R583) -/

/-- Combinations that a check does not refuse go on in the same state. -/
theorem Checks.passes {b : Bool} {m : Exec Unit} (hm : Checks b m) (h : b = false) (s : State) : m s = .ok ((), s) := by
  rw [hm, refuseIf_run h s]

/-- The base register is another one than R15 and than those of the access, where it is written back. -/
theorem checkSingle_imm_run {writes pc : Bool} {rn rd : RegNo} (hb : writes = true → rn ≠ 15 ∧ rd ≠ rn)
    (hd : pc = true ∨ rd ≠ 15) (s : State) : checkSingle writes rn rd none pc s = .ok ((), s) := by
  refine (Checks.singleImm writes rn rd pc).passes ?_ s
  cases writes <;> cases pc <;> simp_all

theorem checkSingle_reg_run {writes pc : Bool} {rn rd rm : RegNo}
    (hb : writes = true → rn ≠ 15 ∧ rd ≠ rn ∧ rm ≠ rn) (hm : rm ≠ 15) (hd : pc = true ∨ rd ≠ 15) (s : State) :
    checkSingle writes rn rd (some rm) pc s = .ok ((), s) := by
  refine (Checks.singleReg writes rn rd rm pc).passes ?_ s
  cases writes <;> cases pc <;> simp_all

theorem checkDouble_imm_run {writes load : Bool} {rn rd : RegNo} (he : rd.getLsbD 0 = false) (hd : rd ≠ 14)
    (hb : writes = true → rn ≠ 15 ∧ rd ≠ rn ∧ rd + 1 ≠ rn) (s : State) :
    checkDouble writes load rn rd none s = .ok ((), s) := by
  refine (Checks.doubleImm writes load rn rd).passes ?_ s
  cases writes <;> simp_all

theorem checkDouble_reg_run {writes load : Bool} {rn rd rm : RegNo} (he : rd.getLsbD 0 = false) (hd : rd ≠ 14)
    (hb : writes = true → rn ≠ 15 ∧ rd ≠ rn ∧ rd + 1 ≠ rn ∧ rm ≠ rn) (hm : rm ≠ 15)
    (hl : load = true → rm ≠ rd ∧ rm ≠ rd + 1) (s : State) :
    checkDouble writes load rn rd (some rm) s = .ok ((), s) := by
  refine (Checks.doubleReg writes load rn rd rm).passes ?_ s
  cases writes <;> cases load <;> simp_all

/-- How an instruction ends depends on what its meaning answers only. -/
theorem outcome_congr {m n : Exec Unit} {s t : State} (h : m s = n t) : outcome m s = outcome n t := by
  unfold outcome
  rw [h]

section

variable {c : Cond} {check : Exec Unit} {address : State → Indexed} {access : Indexed → Exec Unit} {s t : State}

/-- An instruction whose registers are allowed is its access at the address that it computes. -/
theorem exec_access (hc : Cond.passes c s.cpsr = true) (hk : check s = .ok ((), s)) :
    outcome (conditional c (do check; let a ← look address; access a)) s = outcome (access (address s)) s :=
  outcome_congr ((conditional_pass _ hc).trans ((exec_bind_ok hk).trans (exec_bind_ok (look_run _ s))))

/-- The same in addressing mode 3, which has no form with P = 0 and W = 1 (R1144). -/
theorem exec_access3 {p w : Bool} (hc : Cond.passes c s.cpsr = true) (hp : p = true ∨ w = false)
    (hk : check s = .ok ((), s)) :
    outcome (conditional c (do checkMode3 p w; check; let a ← look address; access a)) s =
      outcome (access (address s)) s := by
  have h3 : checkMode3 p w s = .ok ((), s) := (Checks.mode3 p w).passes (by rcases hp with h | h <;> simp [h]) s
  exact outcome_congr ((conditional_pass _ hc).trans ((exec_bind_ok h3).trans ((exec_bind_ok hk).trans
    (exec_bind_ok (look_run _ s)))))

end

section

variable {ty : AccType} {n : Nat} {user priv : Bool} {rn rd : RegNo} {a : Indexed} {s t : State}

theorem loadSingle_run {v : Word} (f : Word → Word) (hp : (s.privileged && !user) = priv)
    (h : memRead (loadOf ty priv) a.addr n s = .ok (v, t)) :
    outcome (loadSingle ty n user f rn rd a) s = .next ((t.based rn a.back).wrote rd (f v)) := by
  subst hp
  exact outcome_of_ok ((exec_bind_ok (look_run _ s)).trans ((exec_bind_ok h).trans (exec_bind_ok (writeBase_run _ _ t))))

theorem storeSingle_run (hp : (s.privileged && !user) = priv)
    (h : memWrite (storeOf ty priv) a.addr n (s.storedReg rd) s = .ok ((), t)) :
    outcome (storeSingle ty n user rn rd a) s = .next (t.based rn a.back).next := by
  subst hp
  exact outcome_of_ok ((exec_bind_ok (look_run _ s)).trans ((exec_bind_ok (look_run _ s)).trans ((exec_bind_ok h).trans
    (exec_bind_ok (writeBase_run _ _ t)))))

/-- LDRD: the word at the lower address, the engine, the word above it. -/
theorem loadDouble_run {v w : State} {b x y : Word} {k : Bool}
    (ha : alignData (loadOf .twoWord s.privileged) a.addr s = .ok ((b, k), s))
    (hx : readWordAt ((loadOf .twoWord s.privileged).block b 2) b s = .ok (x, t)) (hd : dmaInterval t = .ok ((), v))
    (hy : readWordAt ((loadOf .twoWord s.privileged).block b 2) (b + 4) v = .ok (y, w)) :
    outcome (loadDouble rn rd a) s = .next (((w.based rn a.back).setReg rd x).wrote (rd + 1) y) := by
  exact outcome_of_ok ((exec_bind_ok (look_run _ s)).trans ((exec_bind_ok ha).trans ((exec_bind_ok hx).trans
    ((exec_bind_ok hd).trans ((exec_bind_ok hy).trans (exec_bind_ok (writeBase_run _ _ w)))))))

theorem storeDouble_run {b : Word} {k : Bool}
    (ha : alignData (storeOf .twoWord s.privileged) a.addr s = .ok ((b, k), s))
    (hw : writeWords ((storeOf .twoWord s.privileged).block b 2) b [s.reg rd, s.reg (rd + 1)] s = .ok ((), t)) :
    outcome (storeDouble rn rd a) s = .next (t.based rn a.back).next := by
  exact outcome_of_ok ((exec_bind_ok (look_run _ s)).trans ((exec_bind_ok (look_run _ s)).trans
    ((exec_bind_ok (look_run _ s)).trans ((exec_bind_ok ha).trans ((exec_bind_ok hw).trans
      (exec_bind_ok (writeBase_run _ _ t)))))))

end

/-- Settles O34: each form is one `loadSingle` at the address of its addressing mode (`exec_access`, `exec_access3`). -/
theorem loadResults : Obligations.LoadResults := by
  intro s t c p u wb rn rd rm imm hi lo ty amount v hc hd
  have word (a : Indexed) : loadWord rn rd a = loadSingle .wload 4 false id rn rd a := if_neg hd
  have own : (s.privileged && !false) = s.privileged := Bool.and_true _
  have user : (s.privileged && !true) = false := Bool.and_false _
  refine ⟨fun hb => ?imm, fun hb hm => ?reg, fun hp => ⟨fun hb => ?imm3, fun hb hm => ?reg3⟩,
    fun hn hr => ⟨?ldrt, ?ldrbt, fun hm hmn => ?userReg⟩⟩
  case imm =>
    have check (pc : Bool) := checkSingle_imm_run (pc := pc) (fun hw => ⟨(hb hw).1, (hb hw).2.1⟩) (.inr hd) s
    exact ⟨fun h => (exec_access hc (check true)).trans (word _ ▸ loadSingle_run id own h),
      fun h => (exec_access hc (check false)).trans (loadSingle_run id own h)⟩
  case reg =>
    have check (pc : Bool) := checkSingle_reg_run (pc := pc) hb hm (.inr hd) s
    exact ⟨fun h => (exec_access hc (check true)).trans (word _ ▸ loadSingle_run id own h),
      fun h => (exec_access hc (check false)).trans (loadSingle_run id own h)⟩
  case imm3 =>
    have check := checkSingle_imm_run (pc := false) (fun hw => ⟨(hb hw).1, (hb hw).2.1⟩) (.inr hd) s
    exact ⟨fun h => (exec_access3 hc hp check).trans (loadSingle_run id own h),
      fun h => (exec_access3 hc hp check).trans (loadSingle_run sextByte own h),
      fun h => (exec_access3 hc hp check).trans (loadSingle_run sextHalf own h)⟩
  case reg3 =>
    have check := checkSingle_reg_run (pc := false) hb hm (.inr hd) s
    exact ⟨fun h => (exec_access3 hc hp check).trans (loadSingle_run id own h),
      fun h => (exec_access3 hc hp check).trans (loadSingle_run sextByte own h),
      fun h => (exec_access3 hc hp check).trans (loadSingle_run sextHalf own h)⟩
  case ldrt | ldrbt =>
    exact fun h => (exec_access hc (checkSingle_imm_run (fun _ => ⟨hn, hr⟩) (.inr hd) s)).trans (loadSingle_run id user h)
  case userReg =>
    have check := checkSingle_reg_run (writes := true) (pc := false) (fun _ => ⟨hn, hr, hmn⟩) hm (.inr hd) s
    exact ⟨fun h => (exec_access hc check).trans (loadSingle_run id user h),
      fun h => (exec_access hc check).trans (loadSingle_run id user h)⟩

/-- Settles O35: each form is one `storeSingle` at the address of its addressing mode. -/
theorem storeResults : Obligations.StoreResults := by
  intro s t c p u wb rn rd rm imm hi lo ty amount hc
  have own : (s.privileged && !false) = s.privileged := Bool.and_true _
  have user : (s.privileged && !true) = false := Bool.and_false _
  refine ⟨fun hb => ?imm, fun hb hm => ?reg, fun hd hp => ⟨fun hb => ?imm3, fun hb hm => ?reg3⟩,
    fun hd hn hr => ⟨?strt, ?strbt, fun hm hmn => ?userReg⟩⟩
  case imm =>
    have check {pc : Bool} := checkSingle_imm_run (pc := pc) (rd := rd) (fun hw => ⟨(hb hw).1, (hb hw).2.1⟩)
    exact ⟨fun h => (exec_access hc (check (.inl rfl) s)).trans (storeSingle_run own h),
      fun hd h => (exec_access hc (check (.inr hd) s)).trans (storeSingle_run own h)⟩
  case reg =>
    have check {pc : Bool} := checkSingle_reg_run (pc := pc) hb hm
    exact ⟨fun h => (exec_access hc (check (.inl rfl) s)).trans (storeSingle_run own h),
      fun hd h => (exec_access hc (check (.inr hd) s)).trans (storeSingle_run own h)⟩
  case imm3 =>
    have check := checkSingle_imm_run (pc := false) (fun hw => ⟨(hb hw).1, (hb hw).2.1⟩) (.inr hd) s
    exact fun h => (exec_access3 hc hp check).trans (storeSingle_run own h)
  case reg3 =>
    exact fun h => (exec_access3 hc hp (checkSingle_reg_run hb hm (.inr hd) s)).trans (storeSingle_run own h)
  case strt | strbt =>
    exact fun h => (exec_access hc (checkSingle_imm_run (fun _ => ⟨hn, hr⟩) (.inr hd) s)).trans (storeSingle_run user h)
  case userReg =>
    have check := checkSingle_reg_run (writes := true) (pc := false) (fun _ => ⟨hn, hr, hmn⟩) hm (.inr hd) s
    exact ⟨fun h => (exec_access hc check).trans (storeSingle_run user h),
      fun h => (exec_access hc check).trans (storeSingle_run user h)⟩

/-- Settles O37: each form is one `loadDouble` or `storeDouble`. -/
theorem doubleResults : Obligations.DoubleResults := by
  intro s t v w c p u wb k rn rd rm hi lo b x y hc hp he hd hb hm
  have imm (load : Bool) := checkDouble_imm_run (load := load) he hd
    (fun hw => ⟨(hb hw).1, (hb hw).2.1, (hb hw).2.2.1⟩) s
  constructor
  · simp only [List.forall_mem_cons, List.not_mem_nil, false_implies, implies_true, and_true]
    refine ⟨fun _ _ ha hx hi hy => ?_, fun hm1 hm2 ha hx hi hy => ?_⟩
    · exact (exec_access3 hc hp (imm true)).trans (loadDouble_run ha hx hi hy)
    · exact (exec_access3 hc hp (checkDouble_reg_run he hd hb hm (fun _ => ⟨hm1, hm2⟩) s)).trans
        (loadDouble_run ha hx hi hy)
  · simp only [List.forall_mem_cons, List.not_mem_nil, false_implies, implies_true, and_true]
    refine ⟨fun ha hw => ?_, fun ha hw => ?_⟩
    · exact (exec_access3 hc hp (imm false)).trans (storeDouble_run ha hw)
    · exact (exec_access3 hc hp (checkDouble_reg_run he hd hb hm (fun h => Bool.noConfusion h) s)).trans (storeDouble_run ha hw)

/-! Loads of the PC (R1121, R1148, R1190, R140) -/

/-- A word loaded into the PC: with L4 set the instruction set stays (log 41), else bit 0 chooses it. -/
theorem outcome_loadPc (v : Word) (s : State) :
    (s.cp15.sctlr.getLsbD 15 = true → outcome (loadPc v) s = .next (s.branchKeep v)) ∧
    (s.cp15.sctlr.getLsbD 15 = false → v.getLsbD 0 = true ∨ v.getLsbD 1 = false →
      outcome (loadPc v) s = .next (s.interwork v)) ∧
    (s.cp15.sctlr.getLsbD 15 = false → v.getLsbD 0 = false → v.getLsbD 1 = true →
      outcome (loadPc v) s = .refused .branchTarget) := by
  have run : loadPc v s = (if s.cp15.sctlr.getLsbD 15 then update fun s => s.branchKeep v else bxWritePc v) s := rfl
  refine ⟨fun h => outcome_of_ok ?_, fun h hv => outcome_of_ok ?_, fun h h0 h1 => outcome_of_refused ?_⟩
  · rw [run, h]; rfl
  · rw [run, h]; exact bxWritePc_run hv s
  · rw [run, h]; exact bxWritePc_refused h0 h1 s

@[simp] theorem State.based_cp15 (s : State) (rn : RegNo) (v : Option Word) : (s.based rn v).cp15 = s.cp15 := by
  cases v <;> rfl

@[simp] theorem State.based_cpsr (s : State) (rn : RegNo) (v : Option Word) : (s.based rn v).cpsr = s.cpsr := by
  cases v <;> rfl

theorem loadWord_pc {rn : RegNo} {a : Indexed} {s t : State} {v : Word}
    (h : memRead { loadOf .wload s.privileged with loadsPc := true } a.addr 4 s = .ok (v, t)) :
    outcome (loadWord rn 15 a) s = outcome (loadPc v) (t.based rn a.back) := by
  exact outcome_congr ((exec_bind_ok (look_run _ s)).trans ((exec_bind_ok h).trans
    (exec_bind_ok (writeBase_run _ _ t))))

/-- Settles O36: either form is `loadPc` of the word read, after the writeback. -/
theorem pcTransferResults : Obligations.PcTransferResults := by
  intro s t c p u wb rn rm imm ty amount v hc hb hm shifted x hx hread w
  have run : exec x.1 s = outcome (loadPc v) w := by
    simp only [List.mem_cons, List.not_mem_nil, or_false] at hx
    rcases hx with rfl | rfl
    · exact (exec_access hc (checkSingle_imm_run (fun hw => ⟨(hb hw).1, (hb hw).1.symm⟩) (.inl rfl) s)).trans
        (loadWord_pc hread)
    · exact (exec_access hc (checkSingle_reg_run (fun hw => ⟨(hb hw).1, (hb hw).1.symm, (hb hw).2⟩) hm (.inl rfl)
        s)).trans (loadWord_pc hread)
  have hl : t.cp15 = w.cp15 := (State.based_cp15 _ _ _).symm
  rw [run, hl]
  exact outcome_loadPc v w

end Sys2Proof.Machine

namespace Sys2Proof.Machine

/-! Transfers of lists of registers (R1145, R1190 to R1197, R1416 to R1419) -/

/-- No data access that completes changes the status register. -/
theorem accesses_cpsr (p : Psr) : Accesses (fun s => s.cpsr = p) (fun _ => True) where
  frame := fun _ _ h k => h.cpsr.trans k
  frameE := fun _ _ _ _ => trivial
  done := fun _ _ => trivial
  watched := fun _ _ h => h
  abort := fun _ _ _ _ => trivial

theorem loadBlock_cpsr {precise : Bool} {m : Mode} {rn : RegNo} {rs : List RegNo} {start : Word} {s t : State}
    {ws : List (RegNo × Word)} (h : loadBlock precise m rn rs start s = .ok (ws, t)) : t.cpsr = s.cpsr := by
  have k := (accesses_cpsr s.cpsr).loadBlock precise m rn rs start s rfl
  rw [h] at k
  exact k

theorem exceptionModeOnly_run {s : State} (hu : s.cpsr.mode ≠ .usr) (hs : s.cpsr.mode ≠ .sys) :
    exceptionModeOnly s = .ok ((), s) := by simp [exceptionModeOnly, hu, hs]

theorem checkLoadList_run {wb : Bool} {rn : RegNo} {rs : List RegNo} (hr : rs ≠ []) (hn : rn ≠ 15)
    (hb : wb = true → rn ∉ rs) (s : State) : checkLoadList wb rn rs s = .ok ((), s) :=
  (Checks.loadList wb rn rs).passes (by cases wb <;> simp_all) s

theorem checkStoreList_run {wb : Bool} {rn : RegNo} {rs : List RegNo} (hr : rs ≠ []) (hn : rn ≠ 15)
    (hb : wb = true → rn ∈ rs → rs.head? = some rn) (s : State) : checkStoreList wb rn rs s = .ok ((), s) :=
  (Checks.storeList wb rn rs).passes (by cases wb <;> by_cases h : rn ∈ rs <;> simp_all) s

section

variable {p u wb : Bool} {rn : RegNo} {rs : List RegNo} {s t : State} {ws : List (RegNo × Word)}

/-- What a load multiple has written when its words are read: the base, and over it the registers of the list. -/
theorem putListed_run (b : Option Word) (f : Unit → Exec Unit) (hm : t.cpsr.mode = s.cpsr.mode) :
    (writeBase rn b >>= fun _ => update (fun s => s.putRegs s.cpsr.mode ws) >>= f) t =
      f () ((t.based rn b).putRegs s.cpsr.mode ws) := by
  rw [exec_bind_ok (writeBase_run _ _ t), exec_bind_ok (update_run _ _), State.based_cpsr, hm]

/-- LDM (1) and POP end with the word for the PC, where it is in the list. -/
theorem outcome_loadMultiple (hr : rs ≠ []) (hn : rn ≠ 15) (hb : wb = true → rn ∉ rs)
    (h : loadBlock false s.cpsr.mode rn rs (block p u (s.reg rn) rs.length).start s = .ok (ws, t)) :
    outcome (loadMultiple p u wb rn rs) s = outcome (if rs.contains 15 then loadPc (pcWord ws) else advance)
      ((t.based rn (if wb then some (block p u (s.reg rn) rs.length).back else none)).putRegs s.cpsr.mode ws) :=
  outcome_congr ((exec_bind_ok (checkLoadList_run hr hn hb s)).trans ((exec_bind_ok (look_run _ s)).trans
    ((exec_bind_ok (look_run _ s)).trans ((exec_bind_ok h).trans
      (putListed_run _ _ (congrArg Psr.mode (loadBlock_cpsr h)))))))

theorem outcome_storeMultiple (hr : rs ≠ []) (hn : rn ≠ 15) (hb : wb = true → rn ∈ rs → rs.head? = some rn)
    (h : storeBlock (block p u (s.reg rn) rs.length).start (rs.map s.storedReg) s = .ok ((), t)) :
    outcome (storeMultiple p u wb rn rs) s =
      .next (t.based rn (if wb then some (block p u (s.reg rn) rs.length).back else none)).next :=
  outcome_of_ok ((exec_bind_ok (checkStoreList_run hr hn hb s)).trans ((exec_bind_ok (look_run _ s)).trans
    ((exec_bind_ok (look_run _ s)).trans ((exec_bind_ok h).trans (exec_bind_ok (writeBase_run _ _ t))))))

/-- LDM (3): the return from the exception comes after the base and the registers are written (R1192). -/
theorem loadReturning_run {n : Nat} (hlen : (rs ++ [15]).length = n) (hu : s.cpsr.mode ≠ .usr) (hs : s.cpsr.mode ≠ .sys)
    (hn : rn ≠ 15) (hb : wb = true → rn ∉ rs ++ [15])
    (h : loadBlock true s.cpsr.mode rn (rs ++ [15]) (block p u (s.reg rn) n).start s = .ok (ws, t)) {w : State}
    (hw : w = (t.based rn (if wb then some (block p u (s.reg rn) n).back else none)).putRegs s.cpsr.mode ws)
    {v : Word} {q : Psr} (hh : w.halted = false) (hv : w.spsr.get? s.cpsr.mode = some v)
    (hm : (Mode.ofBits? (v.extractLsb' 0 5)).isSome = true) (hq : w.cpsr.merge v (w.returnMask v) = some q) :
    (do
      exceptionModeOnly
      let rs := rs ++ [15]
      checkLoadList wb rn rs
      let before ← look id
      let k ← look fun s => block p u (s.reg rn) rs.length
      let ws ← loadBlock true (← look fun s => s.cpsr.mode) rn rs k.start
      writeBase rn (if wb then some k.back else none)
      update fun s => s.putRegs s.cpsr.mode ws
      let v ← currentSpsr
      exceptionReturn before v (pcWord ws) : Exec Unit) s = .ok ((), w.returned q (pcWord ws)) := by
  subst hlen
  have hmode : t.cpsr.mode = s.cpsr.mode := congrArg Psr.mode (loadBlock_cpsr h)
  have hspsr : w.spsr.get? w.cpsr.mode = some v := by
    rw [← hv, hw, (State.putRegs_same _ _ _).cpsr, State.based_cpsr, hmode]
  refine (exec_bind_ok (exceptionModeOnly_run hu hs)).trans
    ((exec_bind_ok (checkLoadList_run (by simp) hn hb s)).trans ((exec_bind_ok (look_run _ s)).trans
      ((exec_bind_ok (look_run _ s)).trans ((exec_bind_ok (look_run _ s)).trans ((exec_bind_ok h).trans
        ((putListed_run _ _ hmode).trans ?_))))))
  rw [← hw, exec_bind_ok (currentSpsr_run hspsr)]
  exact exceptionReturn_run hm hq hh

end

/-- Settles O38: the forms run `loadBlock` or `storeBlock` and then write the base, the registers, and the PC by `loadPc` or
`exceptionReturn`. -/
theorem multipleResults : Obligations.MultipleResults := by
  intro s t c p u wb rn regs low ws hc hn m rs ls k back banked
  refine ⟨fun hr hb h => ?ldm1, fun ⟨hu, hs⟩ hl h => ?ldm2, fun ⟨hu, hs⟩ hb h => ?ldm3, fun hr hb h => ?stm1,
    fun ⟨hu, hs⟩ hr h => ?stm2⟩
  case ldm1 =>
    intro w
    have run : exec (.ldm1 c p u wb rn regs) s =
        outcome (if rs.contains 15 then loadPc (pcWord ws) else advance) w :=
      (outcome_congr (conditional_pass _ hc)).trans (outcome_loadMultiple hr hn hb h)
    have pc (h15 : 15 ∈ rs) : exec (.ldm1 c p u wb rn regs) s = outcome (loadPc (pcWord ws)) w := by
      rw [run, if_pos (by simpa using h15)]
    obtain ⟨keep, exchange, refused⟩ := outcome_loadPc (pcWord ws) w
    refine ⟨fun h15 => ?_, fun h15 hk => (pc h15).trans (keep hk), fun h15 hk hv => (pc h15).trans (exchange hk hv),
      fun h15 hk h0 h1 => (pc h15).trans (refused hk h0 h1)⟩
    rw [run, if_neg (by simpa using h15)]
    rfl
  case ldm2 =>
    exact outcome_conditional_of_ok hc ((exec_bind_ok (exceptionModeOnly_run hu hs)).trans
      ((exec_bind_ok (checkLoadList_run (wb := false) hl hn (Bool.noConfusion ·) s)).trans
        ((exec_bind_ok (look_run _ s)).trans (exec_bind_ok h))))
  case ldm3 =>
    intro w v q hh hv hm hq
    exact outcome_conditional_of_ok hc (loadReturning_run (by simp) hu hs hn (fun hw => by simpa using ⟨hb hw, hn⟩) h rfl hh hv
      hm hq)
  case stm1 => exact (outcome_congr (conditional_pass _ hc)).trans (outcome_storeMultiple hr hn hb h)
  case stm2 =>
    exact outcome_conditional_of_ok hc ((exec_bind_ok (exceptionModeOnly_run hu hs)).trans
      ((exec_bind_ok (checkStoreList_run (wb := false) hr hn (Bool.noConfusion ·) s)).trans ((exec_bind_ok (look_run _ s)).trans
        ((exec_bind_ok (look_run _ s)).trans (exec_bind_ok h)))))

/-- Settles O39: SRS is one `storeBlock` between its reads and its writeback, RFE two reads before an exception return. -/
theorem saveReturnResults : Obligations.SaveReturnResults := by
  intro s t d w p u wb k rn mode m b v a q
  refine ⟨fun psr hp hm hw h => ?srs, fun hp => ?noSpsr, fun hp hw hmode => ?undefined, fun h => ?refused,
    fun hp hn ha hv hd hr hh hmode hq => ?rfe⟩
  case srs =>
    have hallowed : ¬(!s.isSecure && decide (mode = 0b10110#5)) = true := by
      rintro hc
      obtain ⟨hs, rfl⟩ : s.isSecure = false ∧ mode = 0b10110#5 := by simpa using hc
      cases hm
      simp [hs] at hw
    refine outcome_of_ok ((exec_bind_ok (currentSpsr_run hp)).trans ((exec_bind_ok (look_run _ s)).trans ?_))
    rw [if_neg hallowed, hm]
    exact (exec_bind_ok (look_run _ s)).trans ((exec_bind_ok (look_run _ s)).trans ((exec_bind_ok h).trans
      (exec_bind_ok (update_run _ t))))
  case noSpsr => exact outcome_of_refused (exec_bind_error (currentSpsr_none hp))
  case undefined =>
    obtain ⟨psr, hp⟩ := Option.isSome_iff_exists.mp hp
    refine outcome_of_took ((exec_bind_ok (currentSpsr_run hp)).trans ((exec_bind_ok (look_run _ s)).trans ?_))
    rw [if_pos (by simp [hw, hmode])]
    rfl
  case refused =>
    refine outcome_of_refused ((exec_bind_ok (look_run _ s)).trans ?_)
    rw [if_pos (by simpa using h)]
    rfl
  case rfe =>
    refine outcome_of_ok ((exec_bind_ok (look_run _ s)).trans ?_)
    rw [hp, if_neg (by simpa using hn)]
    exact (exec_bind_ok (look_run _ s)).trans ((exec_bind_ok (look_run _ s)).trans ((exec_bind_ok ha).trans
      ((exec_bind_ok hv).trans ((exec_bind_ok hd).trans ((exec_bind_ok hr).trans
        ((exec_bind_ok (writeBase_run _ _ w)).trans (exceptionReturn_run hmode hq hh)))))))

end Sys2Proof.Machine

namespace Sys2Proof.Machine

/-! Thumb data processing (R1340 to R1372, R1380 to R1382, R1402 to R1412) -/

section

variable {sf : Bool} {rd : RegNo} (hd : rd ≠ 15) (rn : RegNo) (o : Operand) (s : State)
include hd

theorem dpLogical_run (f : Word → Word → Word) : dpLogical sf rd rn f o s =
    .ok ((), s.logicalDone sf rd (f (s.reg rn) (o s).value) (o s)) :=
  (exec_bind_ok (look_run _ s)).trans ((exec_bind_ok (look_run _ s)).trans (finishDp_run sf hd _ _ s))

theorem dpMove_run (f : Word → Word) : dpMove sf rd f o s = .ok ((), s.logicalDone sf rd (f (o s).value) (o s)) :=
  (exec_bind_ok (look_run _ s)).trans (finishDp_run sf hd _ _ s)

theorem dpArithmetic_run (f : Word → Word → Bool → Sum) : dpArithmetic sf rd rn f o s =
    .ok ((), s.sumDone sf rd (f (s.reg rn) (o s).value s.cpsr.c)) :=
  (exec_bind_ok (look_run _ s)).trans ((exec_bind_ok (look_run _ s)).trans (finishDp_run sf hd _ _ s))

end

theorem dpTest_run (rn : RegNo) (f : Word → Word → Word) (o : Operand) (s : State) :
    dpTest rn f o s = .ok ((), s.flagged (s.cpsr.logical (f (s.reg rn) (o s).value) (o s).carry)) := rfl

theorem dpCompare_run (rn : RegNo) (f : Word → Word → Sum) (o : Operand) (s : State) :
    dpCompare rn f o s = .ok ((), s.flagged (s.cpsr.arithmetic (f (s.reg rn) (o s).value))) := rfl

/-- Settles O46: the destination is a low register, so that each form is one run of its template of R901. -/
theorem thumbDataResults : Obligations.ThumbDataResults := by
  intro s rm rn rd i3 i5 i8
  have hd : low rd ≠ 15 := low_ne_pc rd
  have sum (rn : RegNo) (o : Operand) (f : Word → Word → Bool → Sum) : outcome (dpArithmetic true (low rd) rn f o) s =
      .next (s.sumDone true (low rd) (f (s.reg rn) (o s).value s.cpsr.c)) := outcome_of_ok (dpArithmetic_run hd rn o s f)
  have move (o : Operand) (f : Word → Word) : outcome (dpMove true (low rd) f o) s =
      .next (s.logicalDone true (low rd) (f (o s).value) (o s)) := outcome_of_ok (dpMove_run hd o s f)
  have logical (rn : RegNo) (o : Operand) (f : Word → Word → Word) : outcome (dpLogical true (low rd) rn f o) s =
      .next (s.logicalDone true (low rd) (f (s.reg rn) (o s).value) (o s)) := outcome_of_ok (dpLogical_run hd rn o s f)
  have compare (rn : RegNo) (f : Word → Word → Sum) (o : Operand) : outcome (dpCompare rn f o) s =
      .next (s.flagged (s.cpsr.arithmetic (f (s.reg rn) (o s).value))) := outcome_of_ok (dpCompare_run rn f o s)
  simp only [List.forall_mem_cons, List.not_mem_nil, false_implies, implies_true, and_true]
  refine ⟨?sums, ⟨?lsl1, ?lsr1, ?asr1, ?lsl2, ?lsr2, ?asr2, ?ror, ?mov1, ?and, ?eor, ?orr, ?bic, ?mvn⟩,
    ⟨?cmp1, ?cmp2, ?cmn, ?tst⟩, ?mul⟩
  case sums => and_intros <;> (unfold exec; exact sum _ _ _)
  case lsl1 | lsr1 | asr1 | lsl2 | lsr2 | asr2 | ror | mov1 | mvn => unfold exec; exact move _ _
  case and | eor | orr | bic => unfold exec; exact logical _ _ _
  case cmp1 | cmp2 | cmn => unfold exec; exact compare _ _ _
  case tst =>
    have test (rn : RegNo) (o : Operand) : outcome (dpTest rn (· &&& ·) o) s =
        .next (s.flagged (s.cpsr.logical (s.reg rn &&& (o s).value) (o s).carry)) := outcome_of_ok (dpTest_run rn _ o s)
    unfold exec
    exact test _ _
  case mul =>
    have product (f : State → Word) : outcome (do let r ← look f; finishMul true (low rd) r) s =
        .next (s.mulDone true (low rd) (f s)) := outcome_of_ok ((exec_bind_ok (look_run f s)).trans (finishMul_run _ _ _ s))
    unfold exec
    exact product _

theorem finishHigh_run {rd : RegNo} (h : rd ≠ 15) (v : Word) (s : State) : finishHigh rd v s = .ok ((), s.wrote rd v) := by
  rw [finishHigh, if_neg h]
  exact finishReg_run rd v s

theorem finishHigh_branch {rd : RegNo} (h : rd = 15) (v : Word) (s : State) :
    finishHigh rd v s = .ok ((), s.branchKeep v) := by
  rw [finishHigh, if_pos h]
  rfl

/-- Settles O47: a value that is computed from registers goes to a register, or with R15 to the PC. -/
theorem thumbHighResults : Obligations.ThumbHighResults := by
  intro s h1 h2 rm rd i7 i8
  refine ⟨?values, fun h => ?mov, fun h => ?movPc, fun hh => ⟨fun h => ⟨?add, ?cmp⟩, fun h => ⟨?addPc, ?cmpPc⟩⟩, ?addLow,
    ?cmpLow⟩
  case values =>
    have write (r : RegNo) (f : State → Word) : outcome (do let v ← look f; finishReg r v) s = .next (s.wrote r (f s)) :=
      outcome_of_ok ((exec_bind_ok (look_run f s)).trans (finishReg_run r (f s) s))
    simp only [List.forall_mem_cons, List.not_mem_nil, false_implies, implies_true, and_true]
    and_intros <;> (unfold exec; exact write _ _)
  case mov => exact outcome_of_ok ((exec_bind_ok (look_run _ s)).trans (finishHigh_run h _ s))
  case movPc => exact outcome_of_ok ((exec_bind_ok (look_run _ s)).trans (finishHigh_branch h _ s))
  case addLow | cmpLow => rfl
  all_goals have low : (!h1 && !h2) = false := by rw [← Bool.not_or, hh]; rfl
  case add =>
    exact outcome_of_ok ((exec_bind_ok (refuseIf_run low s)).trans ((exec_bind_ok (look_run _ s)).trans
      (finishHigh_run h _ s)))
  case addPc =>
    exact outcome_of_ok ((exec_bind_ok (refuseIf_run low s)).trans ((exec_bind_ok (look_run _ s)).trans
      (finishHigh_branch h _ s)))
  case cmp =>
    exact outcome_of_ok ((exec_bind_ok (refuseIf_run (by rw [low, decide_eq_false h]; rfl) s)).trans
      (dpCompare_run _ _ _ s))
  case cmpPc => exact outcome_of_refused (Checks.stops (.refuseIf _) (by rw [decide_eq_true h, Bool.or_true]) s)

/-! Thumb loads and stores (R1385 to R1401, R1416 to R1419) -/

/-- A Thumb list names low registers only. -/
theorem not_mem_lowListed (regs : BitVec 8) {r : RegNo} (h : 8 ≤ r.toNat) : r ∉ lowListed regs := by
  rw [lowListed, mem_listed_setWidth, BitVec.getLsbD_of_ge _ _ h]
  exact Bool.false_ne_true

/-- Where R15 is not in it a list is stored as it is read. -/
theorem map_storedReg {rs : List RegNo} (h : 15 ∉ rs) (s : State) : rs.map s.storedReg = rs.map s.reg :=
  List.map_congr_left fun _ hr => if_neg (ne_of_mem_of_not_mem hr h)

/-- Settles O48: the forms are the single and multiple transfers of the ARM instructions, at their own addresses. -/
theorem thumbMemoryResults : Obligations.ThumbMemoryResults := by
  intro s t rm rn rd i5 i8 v r ws n sum w5 w8 priv
  have own : (s.privileged && !false) = s.privileged := Bool.and_true _
  have stored : s.storedReg (low rd) = s.reg (low rd) := if_neg (low_ne_pc rd)
  refine ⟨?loads, ?stores, fun hr h => ?ldmia, fun hr hb h => ?stmia, fun hr h => ?push, fun hr h => ?pop⟩
  case loads =>
    have run {ty : AccType} {n : Nat} {f : Word → Word} {b : RegNo} {address : State → Indexed} {a : Word}
        (ha : address s = plain a) (h : memRead (loadOf ty priv) a n s = .ok (v, t)) :
        outcome (do let a ← look address; loadSingle ty n false f b (low rd) a) s = .next (t.wrote (low rd) (f v)) :=
      (outcome_congr (exec_bind_ok (look_run _ s))).trans (by rw [ha]; exact loadSingle_run f own h)
    simp only [List.forall_mem_cons, List.not_mem_nil, false_implies, implies_true, and_true]
    and_intros <;> exact run rfl
  case stores =>
    have run {ty : AccType} {n : Nat} {b : RegNo} {address : State → Indexed} {a : Word} (ha : address s = plain a)
        (h : memWrite (storeOf ty priv) a n (s.reg (low rd)) s = .ok ((), t)) :
        outcome (do let a ← look address; storeSingle ty n false b (low rd) a) s = .next t.next :=
      (outcome_congr (exec_bind_ok (look_run _ s))).trans (by rw [ha]; exact storeSingle_run own (stored ▸ h))
    simp only [List.forall_mem_cons, List.not_mem_nil, false_implies, implies_true, and_true]
    and_intros <;> exact run rfl
  case ldmia =>
    have check : notEmpty (lowListed i8) s = .ok ((), s) := congrFun (if_neg hr) s
    exact outcome_of_ok ((exec_bind_ok check).trans ((exec_bind_ok (look_run _ s)).trans
      ((exec_bind_ok (look_run _ s)).trans ((exec_bind_ok h).trans
        (putListed_run _ _ (congrArg Psr.mode (loadBlock_cpsr h)))))))
  case stmia =>
    refine outcome_storeMultiple (p := false) (u := true) (wb := true) hr (low_ne_pc rn) (fun _ => hb) ?_
    rw [map_storedReg (not_mem_lowListed i8 (by decide))]
    exact h
  case push =>
    have absent {x : RegNo} (h8 : 8 ≤ x.toNat) (h14 : x ≠ 14) : x ∉ lowListed i8 ++ if r then [14] else [] := by
      have := not_mem_lowListed i8 h8
      cases r <;> simp_all
    refine outcome_storeMultiple (p := true) (u := false) (wb := true) hr (by decide)
      (fun _ hm => absurd hm (absent (by decide) (by decide))) ?_
    rw [map_storedReg (absent (by decide) (by decide))]
    exact h
  case pop =>
    intro w
    have absent : (13 : RegNo) ∉ lowListed i8 ++ if r then [15] else [] := by
      have := not_mem_lowListed i8 (r := 13) (by decide)
      cases r <;> simp_all
    have run : exec (.tPop r i8) s = outcome (if r then loadPc (pcWord ws) else advance) w := by
      have hpc : List.contains (lowListed i8 ++ if r then [15] else []) (15 : RegNo) = r := by
        have := not_mem_lowListed i8 (r := 15) (by decide)
        cases r <;> simp_all
      refine (outcome_loadMultiple (p := false) (u := true) (wb := true) hr (by decide) (fun _ => absent) h).trans ?_
      exact congrArg (fun b => outcome (if b then loadPc (pcWord ws) else advance) w) hpc
    obtain ⟨keep, exchange, refused⟩ := outcome_loadPc (pcWord ws) w
    cases r with
    | false => exact ⟨fun _ => run, nofun, nofun, nofun⟩
    | true =>
      exact ⟨nofun, fun _ hk hv => run.trans (exchange hk hv), fun _ hk h0 h1 => run.trans (refused hk h0 h1),
        fun _ hk => run.trans (keep hk)⟩

end Sys2Proof.Machine

namespace Sys2Proof.Machine

/-! The entry sequence of an exception (R1540, R1541, R1544, R1545) -/

/-- SCR once an exception is entered: one taken in Secure Monitor mode clears NS (R1561). -/
def State.entryScr (s : State) : Word := if s.cpsr.mode = .mon then s.cp15.scr &&& ~~~1#32 else s.cp15.scr

/-- Whether the exception is entered in the Non-secure world. -/
def Exc.entersNonSecure (x : Exc) (s : State) : Bool := !x.toMonitor s.cp15.scr && s.entryScr.getLsbD 0

/-- Only NS is cleared. -/
theorem State.entryScr_bit (s : State) {i : Nat} (h : i ≠ 0) : s.entryScr.getLsbD i = s.cp15.scr.getLsbD i := by
  unfold State.entryScr
  split
  · rw [BitVec.getLsbD_and, BitVec.getLsbD_not, BitVec.getLsbD_one, decide_eq_false h]
    simpa using BitVec.lt_of_getLsbD (x := s.cp15.scr) (i := i)
  · rfl

theorem enterException_entryPsr (x : Exc) (s : State) : (enterException x s).cpsr =
    x.entryPsr s.cpsr (x.toMonitor s.cp15.scr) (!x.entersNonSecure s || s.entryScr.getLsbD 4)
      (!x.entersNonSecure s || s.entryScr.getLsbD 5) ((s.bankOf (x.entersNonSecure s)).sctlr.getLsbD 25) :=
  State.switchedFrom_cpsr _ _

theorem enterException_scr (x : Exc) (s : State) : (enterException x s).cp15.scr = s.entryScr :=
  congrArg (·.scr) (State.switchedFrom_cp15 _ _)

theorem enterException_link {x : Exc} {s : State} {m : Mode} (h : m = if x.toMonitor s.cp15.scr then .mon else x.mode) :
    (enterException x s).gpr[slot m 14] = x.link s.pc s.thumb := by
  subst h
  rw [enterException, State.switchedFrom_gpr]
  exact Vector.getElem_set_self _

/-- Which exceptions SCR routes to Secure Monitor mode. -/
theorem Exc.toMonitor_iff (x : Exc) (scr : Word) : x.toMonitor scr = true ↔
    x = .smc ∨ ((x = .prefetchAbort true ∨ x = .dataAbort true) ∧ scr.getLsbD 3 = true) ∨
      (x = .irq ∧ scr.getLsbD 1 = true) ∨ (x = .fiq ∧ scr.getLsbD 2 = true) := by
  cases x <;> simp [Exc.toMonitor]

theorem Exc.entryPsr_f (x : Exc) (p : Psr) (m setsF setsA ee : Bool) :
    (x.entryPsr p m setsF setsA ee).f = true ↔ p.f = true ∨ m = true ∨ (x = .fiq ∧ setsF = true) := by
  simp [Exc.entryPsr, or_assoc]

/-- SMC, which always goes to the Monitor, needs no word of its own about A. -/
theorem Exc.entryPsr_a {x : Exc} {m : Bool} (h : x = .smc → m = true) (p : Psr) (setsF setsA ee : Bool) :
    (x.entryPsr p m setsF setsA ee).a = true ↔ p.a = true ∨ m = true ∨ (x ≠ .undefined ∧ x ≠ .svc ∧ setsA = true) := by
  cases x <;> simp_all [Exc.entryPsr, Exc.masksAborts, or_assoc]

/-- An exception has a mode with an SPSR. -/
theorem Exc.mode_banked (x : Exc) (monitor : Bool) :
    (if monitor then Mode.mon else x.mode) ≠ .usr ∧ (if monitor then Mode.mon else x.mode) ≠ .sys := by
  cases x <;> cases monitor <;> exact ⟨nofun, nofun⟩

/-- Settles O16: each part of the state is read off the entry sequence, with the statement's `monitor` and `secure` as
the model's two tests. -/
theorem exceptionEntry : Obligations.ExceptionEntry := by
  intro x s monitor t mode secure
  have hm : monitor ↔ x.toMonitor s.cp15.scr = true := (x.toMonitor_iff _).symm
  have hmode : mode = if x.toMonitor s.cp15.scr then .mon else x.mode := if_congr hm rfl rfl
  have hscr : t.cp15.scr = s.entryScr := enterException_scr x s
  have hs : secure ↔ x.entersNonSecure s = false := by
    rw [Exc.entersNonSecure, Bool.and_eq_false_iff, Bool.not_eq_false', ← hm, ← hscr]
  have hcpsr := enterException_entryPsr x s
  rw [s.entryScr_bit (by decide), s.entryScr_bit (by decide)] at hcpsr
  obtain ⟨husr, hsys⟩ := x.mode_banked (x.toMonitor s.cp15.scr)
  refine ⟨hscr, ?mode, ?link, ?spsr, ?t, ?j, ?i, ?f, ?a, ?secureE, ?nonSecureE, ?pc⟩
  case mode => exact (enterException_mode x s).trans hmode.symm
  case link => exact enterException_link hmode
  case spsr => rw [hmode, enterException_spsr]; exact Spsrs.get_put _ _ husr hsys
  case t => exact enterException_t x s
  case j => rw [hcpsr]; rfl
  case i => exact enterException_i x s
  case f => rw [hcpsr, Exc.entryPsr_f, hm, hs, Bool.or_eq_true, Bool.not_eq_true']
  case a =>
    rw [hcpsr, Exc.entryPsr_a (fun h => h ▸ rfl), hm, hs, Bool.or_eq_true, Bool.not_eq_true']
  case secureE => intro h; rw [hcpsr, Exc.entryPsr, hs.mp h]; rfl
  case nonSecureE => intro h; rw [hcpsr, Exc.entryPsr, Bool.eq_true_of_not_eq_false (mt hs.mpr h)]; rfl
  case pc =>
    have hns : decide (¬secure) = x.entersNonSecure s := by simp only [hs, Bool.not_eq_false, Bool.decide_eq_true]
    have hmon : decide monitor = x.toMonitor s.cp15.scr := by simp only [hm, Bool.decide_eq_true]
    rw [hns, hmon]
    exact enterException_pc x s

/-- A vector address of the VIC is the top 30 bits of an address. -/
theorem append_zero_eq_shift (v : BitVec 30) : v ++ 0#2 = v.setWidth 32 <<< 2 := by
  ext i hi
  rw [BitVec.getElem_append, BitVec.getElem_shiftLeft]
  simp only [BitVec.getElem_zero, BitVec.getElem_setWidth]
  by_cases h : i < 2
  · simp [h]
  · rw [BitVec.getLsbD_eq_getElem (by omega)]
    simp [h]

/-- Settles O17: the tables of R1540, R1541 and R1545, row by row. -/
theorem exceptionVectors : Obligations.ExceptionVectors := by
  refine ⟨fun _ _ => ?links, ?modes, fun s ns => ?vectors⟩
  case links => exact ⟨rfl, rfl, rfl, rfl, rfl, fun _ => ⟨rfl, rfl⟩⟩
  case modes => exact ⟨rfl, rfl, rfl, rfl, rfl, fun _ => ⟨rfl, rfl⟩⟩
  case vectors =>
    refine ⟨rfl, rfl, fun _ => ⟨rfl, rfl⟩, ?irq, rfl, rfl, rfl, rfl, rfl, rfl⟩
    rw [append_zero_eq_shift]
    rfl

end Sys2Proof.Machine

namespace Sys2Proof.Machine

/-! The bits of a status register (R57) -/

/-- The layout of R57, bit by bit. -/
def Psr.bit (p : Psr) : Nat → Bool
  | 31 => p.n | 30 => p.z | 29 => p.c | 28 => p.v | 27 => p.q | 24 => p.j
  | 19 => p.ge.getLsbD 3 | 18 => p.ge.getLsbD 2 | 17 => p.ge.getLsbD 1 | 16 => p.ge.getLsbD 0
  | 9 => p.e | 8 => p.a | 7 => p.i | 6 => p.f | 5 => p.t
  | 4 => p.mode.toBits.getLsbD 4 | 3 => p.mode.toBits.getLsbD 3 | 2 => p.mode.toBits.getLsbD 2
  | 1 => p.mode.toBits.getLsbD 1 | 0 => p.mode.toBits.getLsbD 0
  | _ => false

theorem getLsbD_bitAt (b : Bool) (k i : Nat) : (bitAt b k).getLsbD i = (b && decide (i = k ∧ k < 32)) := by
  cases b
  · simp [bitAt]
  · simp only [bitAt, if_true, BitVec.getLsbD_shiftLeft, BitVec.getLsbD_one, Bool.true_and]
    rw [Bool.eq_iff_iff]
    simp
    omega

theorem Psr.getLsbD_toWord (p : Psr) {i : Nat} (h : i < 32) : p.toWord.getLsbD i = p.bit i := by
  unfold Psr.toWord
  simp only [BitVec.getLsbD_or, getLsbD_bitAt, BitVec.getLsbD_shiftLeft, BitVec.getLsbD_setWidth]
  interval_cases i <;> simp [Psr.bit]

theorem Mode.toBits_injective {m n : Mode} (h : m.toBits = n.toBits) : m = n := by
  revert h
  cases m <;> cases n <;> decide

/-- A status register is given by the bits that it has. -/
theorem Psr.eq_of_bits {p q : Psr} (same : ∀ i, psrMask.getLsbD i = true → p.bit i = q.bit i) : p = q := by
  have mode : p.mode = q.mode := by
    refine Mode.toBits_injective (BitVec.eq_of_getLsbD_eq fun i hi => ?_)
    interval_cases i
    exacts [same 0 rfl, same 1 rfl, same 2 rfl, same 3 rfl, same 4 rfl]
  have ge : p.ge = q.ge := by
    refine BitVec.eq_of_getLsbD_eq fun i hi => ?_
    interval_cases i
    exacts [same 16 rfl, same 17 rfl, same 18 rfl, same 19 rfl]
  cases p; cases q
  simp only [Psr.mk.injEq]
  exact ⟨same 31 rfl, same 30 rfl, same 29 rfl, same 28 rfl, same 27 rfl, same 24 rfl, ge, same 9 rfl, same 8 rfl,
    same 7 rfl, same 6 rfl, same 5 rfl, mode⟩

/-- The mask selects the mode field and the GE field as wholes. -/
def WholeFields (m : Word) : Prop :=
  (∀ i < 5, m.getLsbD i = m.getLsbD 0) ∧ ∀ i < 4, m.getLsbD (16 + i) = m.getLsbD 16

theorem WholeFields.and {a b : Word} (ha : WholeFields a) (hb : WholeFields b) : WholeFields (a &&& b) :=
  ⟨fun i hi => by simp only [BitVec.getLsbD_and, ha.1 i hi, hb.1 i hi],
    fun i hi => by simp only [BitVec.getLsbD_and, ha.2 i hi, hb.2 i hi]⟩

theorem WholeFields.or {a b : Word} (ha : WholeFields a) (hb : WholeFields b) : WholeFields (a ||| b) :=
  ⟨fun i hi => by simp only [BitVec.getLsbD_or, ha.1 i hi, hb.1 i hi],
    fun i hi => by simp only [BitVec.getLsbD_or, ha.2 i hi, hb.2 i hi]⟩

theorem WholeFields.not {a : Word} (ha : WholeFields a) : WholeFields (~~~a) :=
  ⟨fun i hi => by simp [BitVec.getLsbD_not, ha.1 i hi]; omega,
    fun i hi => by simp [BitVec.getLsbD_not, ha.2 i hi]; omega⟩

theorem WholeFields.ite {c : Prop} [Decidable c] {a b : Word} (ha : WholeFields a) (hb : WholeFields b) :
    WholeFields (if c then a else b) := by
  split
  · exact ha
  · exact hb

theorem WholeFields.bitAt (b : Bool) {k : Nat} (h : 4 < k ∧ k < 16) : WholeFields (bitAt b k) := by
  constructor <;> intro i hi <;> rw [getLsbD_bitAt, getLsbD_bitAt, decide_eq_false (by omega), decide_eq_false (by omega)]

theorem Mode.toBits_of_ofBits {b : BitVec 5} {m : Mode} (h : Mode.ofBits? b = some m) : m.toBits = b := by
  revert h
  cases m <;> revert b <;> decide

/-- The mode that a merge gives. -/
theorem Psr.merge_toBits {p q : Psr} {v mask : Word} (h : p.merge v mask = some q) :
    q.mode.toBits = if mask.getLsbD 0 then v.extractLsb' 0 5 else p.mode.toBits := by
  unfold Psr.merge at h
  dsimp only at h
  split at h
  · rename_i h0
    obtain ⟨m, hm, rfl⟩ := Option.map_eq_some_iff.mp h
    rw [if_pos h0, Mode.toBits_of_ofBits hm]
  · rename_i h0
    cases h
    rw [if_neg h0]

/-- The fields of a merge but for the mode. -/
theorem Psr.merge_rest {p q : Psr} {v mask : Word} (h : p.merge v mask = some q) : ∃ m, q =
    { n := if mask.getLsbD 31 then v.getLsbD 31 else p.n, z := if mask.getLsbD 30 then v.getLsbD 30 else p.z
      c := if mask.getLsbD 29 then v.getLsbD 29 else p.c, v := if mask.getLsbD 28 then v.getLsbD 28 else p.v
      q := if mask.getLsbD 27 then v.getLsbD 27 else p.q, j := if mask.getLsbD 24 then v.getLsbD 24 else p.j
      ge := if mask.getLsbD 16 then v.extractLsb' 16 4 else p.ge
      e := if mask.getLsbD 9 then v.getLsbD 9 else p.e, a := if mask.getLsbD 8 then v.getLsbD 8 else p.a
      i := if mask.getLsbD 7 then v.getLsbD 7 else p.i, f := if mask.getLsbD 6 then v.getLsbD 6 else p.f
      t := if mask.getLsbD 5 then v.getLsbD 5 else p.t, mode := m } := by
  unfold Psr.merge at h
  dsimp only at h
  split at h
  · obtain ⟨m, -, rfl⟩ := Option.map_eq_some_iff.mp h
    exact ⟨m, rfl⟩
  · cases h
    exact ⟨_, rfl⟩

/-- A merge takes the selected bits of a status register from the value and the others from the register. -/
theorem Psr.merge_bit {p q : Psr} {v mask : Word} (hw : WholeFields mask) (h : p.merge v mask = some q)
    {i : Nat} (hi : psrMask.getLsbD i = true) : q.bit i = if mask.getLsbD i then v.getLsbD i else p.bit i := by
  have h32 : i < 32 := BitVec.lt_of_getLsbD hi
  have choose {n : Nat} (c : Bool) (a b : BitVec n) (k : Nat) :
      (if c then a else b).getLsbD k = if c then a.getLsbD k else b.getLsbD k := by cases c <;> rfl
  by_cases hm : i < 5
  · have field (r : Psr) : r.bit i = r.mode.toBits.getLsbD i := by interval_cases i <;> rfl
    rw [field, field, Psr.merge_toBits h, hw.1 i hm, choose, BitVec.getLsbD_extractLsb']
    simp [hm]
  obtain ⟨m, rfl⟩ := Psr.merge_rest h
  by_cases hg : 16 ≤ i ∧ i < 20
  · obtain ⟨k, rfl⟩ := Nat.exists_eq_add_of_le hg.1
    have hk : k < 4 := by omega
    have field (r : Psr) : r.bit (16 + k) = r.ge.getLsbD k := by interval_cases k <;> rfl
    rw [field, field, hw.2 k hk, choose, BitVec.getLsbD_extractLsb']
    simp [hk]
  · interval_cases i <;> simp [psrMask] at hi hg hm <;> rfl

/-- The word of a merge. -/
theorem Psr.merge_toWord {p q : Psr} {v mask : Word} (hw : WholeFields mask) (hr : mask &&& ~~~psrMask = 0)
    (h : p.merge v mask = some q) : q.toWord = (p.toWord &&& ~~~mask) ||| (v &&& mask) := by
  refine BitVec.eq_of_getLsbD_eq fun i hi => ?_
  rw [Psr.getLsbD_toWord _ hi]
  simp only [BitVec.getLsbD_or, BitVec.getLsbD_and, BitVec.getLsbD_not, hi, decide_true, Bool.true_and,
    Psr.getLsbD_toWord]
  cases hb : psrMask.getLsbD i
  · have reserved {w : Word} (hz : w &&& ~~~psrMask = 0) : w.getLsbD i = false := by
      calc w.getLsbD i = (w &&& ~~~psrMask).getLsbD i := by
            simp only [BitVec.getLsbD_and, BitVec.getLsbD_not, hi, hb, decide_true, Bool.not_false, Bool.and_true]
        _ = false := by rw [hz]; exact BitVec.getLsbD_zero
    have absent (r : Psr) : r.bit i = false := by rw [← Psr.getLsbD_toWord r hi, reserved r.toWord_reserved]
    simp [absent, reserved hr]
  · rw [Psr.merge_bit hw h hb]
    cases mask.getLsbD i <;> simp

/-- A merge fails only where it selects a mode field that is no mode. -/
theorem Psr.merge_eq_none_iff {p : Psr} {v mask : Word} :
    p.merge v mask = none ↔ mask.getLsbD 0 = true ∧ Mode.ofBits? (v.extractLsb' 0 5) = none := by
  unfold Psr.merge
  cases mask.getLsbD 0 <;> simp

theorem Mode.ofBits_eq_none_iff (b : BitVec 5) : Mode.ofBits? b = none ↔ b ∉
    [0b10000#5, 0b10001#5, 0b10010#5, 0b10011#5, 0b10110#5, 0b10111#5, 0b11011#5, 0b11111#5] := by
  revert b
  decide

/-! A write of the CPSR outside Debug state (R1261) -/

theorem State.setCpsr_of_running {s : State} {p : Psr} (hh : s.halted = false) (hw : s.isSecure = false → p.mode ≠ .mon) :
    s.setCpsr p = { s with cpsr := p } := by
  have written : s.setCpsr p = State.switchedFrom { s with cpsr := p } s := by
    unfold State.setCpsr
    simp [hh]
  rw [written]
  refine if_neg fun h => ?_
  obtain ⟨hs, ht⟩ : s.isSecure = false ∧ State.isSecure { s with cpsr := p } = true := by simpa using h
  have hmode : (p.mode == .mon) = false := beq_eq_false_iff_ne.mpr (hw hs)
  simp only [State.isSecure, hmode, Bool.false_or, Bool.or_eq_false_iff] at hs ht
  exact Bool.noConfusion (ht.symm.trans hs.2)

theorem cpsrWriteByInstr_run {s : State} {v bytes : Word} {q : Psr} (hh : s.halted = false)
    (h : s.cpsr.merge v (s.instrMask v bytes) = some q) :
    cpsrWriteByInstr v bytes s = .ok ((), { s with cpsr := q }) := by
  have hw : s.isSecure = false → q.mode ≠ .mon := fun hs =>
    Psr.merge_mode_ne_mon h (by rintro hm; simp [State.isSecure, hm] at hs) (s.instrMask_monitor hs v bytes)
  simp [cpsrWriteByInstr, h, hh, State.setCpsr_of_running hh hw]

theorem cpsrWriteByInstr_refused {s : State} {v bytes : Word} (h : s.cpsr.merge v (s.instrMask v bytes) = none) :
    cpsrWriteByInstr v bytes s = .error (.refused .illegalMode) := by
  simp [cpsrWriteByInstr, h]

/-- What the Non-secure world may not change (R1261, R63, R64, R66). -/
def State.keptBits (s : State) (v : Word) : Word :=
  let ns := !s.isSecure
  (if ns && !s.cp15.scr.getLsbD 5 then 0x100#32 else 0) ||| (if ns && !s.cp15.scr.getLsbD 4 then 0x40#32 else 0) |||
    (if ns && v.extractLsb' 0 5 == 0b10110#5 then 0x1F#32 else 0)

/-- Of the bits that an instruction selects, those it may write (R1261). -/
def State.writtenBits (s : State) (v chosen : Word) : Word :=
  chosen &&& (if s.privileged then 0xF80F0200#32 ||| 0x1DF#32 else 0xF80F0200#32) &&& ~~~s.keptBits v

theorem State.instrMask_eq (s : State) (v bytes : Word) : s.instrMask v bytes = s.writtenBits v bytes := by
  unfold State.instrMask State.writtenBits State.keptBits
  cases s.isSecure
  · simp [bitAt, BitVec.not_or, BitVec.and_assoc]
  · simp only [if_true, Bool.not_true, Bool.false_and, Bool.false_eq_true, if_false]
    exact (BitVec.and_allOnes (x := bytes &&& _)).symm

theorem State.keptBits_whole (s : State) (v : Word) : WholeFields (s.keptBits v) := by
  have whole {c : Prop} [Decidable c] {m : Word} (h : WholeFields m) : WholeFields (if c then m else 0) :=
    .ite h ⟨by decide, by decide⟩
  exact ((whole ⟨by decide, by decide⟩).or (whole ⟨by decide, by decide⟩)).or (whole ⟨by decide, by decide⟩)

theorem State.instrMask_whole (s : State) (v : Word) {bytes : Word} (h : WholeFields bytes) :
    WholeFields (s.instrMask v bytes) := by
  rw [State.instrMask_eq, State.writtenBits]
  exact (h.and (.ite ⟨by decide, by decide⟩ ⟨by decide, by decide⟩)).and (s.keptBits_whole v).not

theorem State.instrMask_reserved (s : State) (v bytes : Word) : s.instrMask v bytes &&& ~~~psrMask = 0 := by
  have named : (if s.privileged then 0xF80F0200#32 ||| 0x1DF#32 else 0xF80F0200#32) &&& ~~~psrMask = 0#32 := by
    split <;> rfl
  rw [State.instrMask_eq, State.writtenBits, BitVec.and_assoc, BitVec.and_comm (~~~_), ← BitVec.and_assoc,
    BitVec.and_assoc bytes, named, BitVec.and_zero]
  exact BitVec.zero_and

/-- A mask with whole fields selects the mode field as a whole. -/
theorem WholeFields.mode_iff {m : Word} (h : WholeFields m) : m &&& 0x1F#32 ≠ 0 ↔ m.getLsbD 0 = true := by
  constructor
  · intro hn
    by_contra h0
    refine hn (BitVec.eq_of_getLsbD_eq fun i hi => ?_)
    refine (BitVec.getLsbD_and ..).trans (Eq.trans ?_ BitVec.getLsbD_zero.symm)
    by_cases h5 : i < 5
    · rw [h.1 i h5, Bool.eq_false_iff.mpr h0, Bool.false_and]
    · have : (0x1F#32).getLsbD i = false := by interval_cases i <;> rfl
      rw [this, Bool.and_false]
  · intro h0 hz
    have : (m &&& 0x1F#32).getLsbD 0 = true := by rw [BitVec.getLsbD_and, h0]; rfl
    rw [hz] at this
    exact Bool.noConfusion this

/-- The result of an instruction that writes the bits `m` of the CPSR and goes on. -/
def WritesStatus (s : State) (o : Host.Outcome State Fault Refusal) (v m : Word) : Prop :=
  let wrong := m &&& 0x1F#32 ≠ 0 ∧ v.extractLsb' 0 5 ∉
    [0b10000#5, 0b10001#5, 0b10010#5, 0b10011#5, 0b10110#5, 0b10111#5, 0b11011#5, 0b11111#5]
  (wrong → o = .refused .illegalMode) ∧
  (¬wrong → ∃ q : Psr, q.toWord = (s.cpsr.toWord &&& ~~~m) ||| (v &&& m) ∧ o = .next { s with cpsr := q }.next)

theorem writesStatus_run {s : State} (hh : s.halted = false) (v : Word) {bytes : Word} (hb : WholeFields bytes) :
    WritesStatus s (outcome (do cpsrWriteByInstr v bytes; advance) s) v (s.writtenBits v bytes) := by
  have whole := s.instrMask_whole v hb
  rw [← State.instrMask_eq]
  refine ⟨fun ⟨hm, hv⟩ => ?_, fun h => ?_⟩
  · have none := Psr.merge_eq_none_iff (p := s.cpsr).mpr ⟨whole.mode_iff.mp hm, (Mode.ofBits_eq_none_iff _).mpr hv⟩
    exact outcome_of_refused (exec_bind_error (cpsrWriteByInstr_refused none))
  · rw [whole.mode_iff, ← Mode.ofBits_eq_none_iff, ← Psr.merge_eq_none_iff (p := s.cpsr)] at h
    obtain ⟨q, hq⟩ := Option.ne_none_iff_exists'.mp h
    exact ⟨q, Psr.merge_toWord whole (s.instrMask_reserved v bytes) hq,
      outcome_of_ok (exec_bind_ok (cpsrWriteByInstr_run hh hq))⟩

theorem fieldMask_whole (fields : BitVec 4) : WholeFields (fieldMask fields) := by
  have byte {c : Prop} [Decidable c] {m : Word} (h : WholeFields m) : WholeFields (if c then m else 0) :=
    .ite h ⟨by decide, by decide⟩
  exact (((byte ⟨by decide, by decide⟩).or (byte ⟨by decide, by decide⟩)).or (byte ⟨by decide, by decide⟩)).or
    (byte ⟨by decide, by decide⟩)

/-- The masks A, I and F. -/
theorem maskBits_whole (a i f : Bool) : WholeFields (bitAt a 8 ||| bitAt i 7 ||| bitAt f 6) :=
  ((WholeFields.bitAt a (by decide)).or (.bitAt i (by decide))).or (.bitAt f (by decide))

/-- The SPSR of the mode, whose value was `old`, with the bits of `v` that `mask` selects. -/
def State.mergeSpsr (s : State) (old v mask : Word) : State :=
  { s with spsr := s.spsr.put s.cpsr.mode ((old &&& ~~~mask) ||| (v &&& mask)) }

theorem changeState_unprivileged {s : State} (h : s.privileged = false) (disable change a i f : Bool)
    (mode : Option (BitVec 5)) : outcome (changeState disable change a i f mode) s = .next s.next := by
  refine outcome_of_ok ?_
  rw [changeState, exec_bind_ok (look_run _ s), h]
  rfl

theorem changeState_privileged {s : State} (h : s.privileged = true) (disable change a i f : Bool)
    (mode : Option (BitVec 5)) : outcome (changeState disable change a i f mode) s =
      outcome (do
        cpsrWriteByInstr
          ((if disable then bitAt a 8 ||| bitAt i 7 ||| bitAt f 6 else 0) ||| ((mode.getD 0).setWidth 32))
          ((if change then bitAt a 8 ||| bitAt i 7 ||| bitAt f 6 else 0) ||| (if mode.isSome then 0x1F#32 else 0))
        advance) s := by
  refine outcome_congr ?_
  rw [changeState, exec_bind_ok (look_run _ s), h]
  rfl

theorem changeState_writesStatus {s : State} (hh : s.halted = false) (hp : s.privileged = true)
    {disable change a i f : Bool} {mode : Option (BitVec 5)} {v chosen : Word}
    (hv : v = (if disable then bitAt a 8 ||| bitAt i 7 ||| bitAt f 6 else 0) ||| ((mode.getD 0).setWidth 32))
    (hc : chosen = (if change then bitAt a 8 ||| bitAt i 7 ||| bitAt f 6 else 0) |||
      (if mode.isSome then 0x1F#32 else 0)) :
    WritesStatus s (outcome (changeState disable change a i f mode) s) v (s.writtenBits v chosen) := by
  have whole : WholeFields chosen := hc ▸ (WholeFields.ite (maskBits_whole a i f) ⟨by decide, by decide⟩).or
    (.ite ⟨by decide, by decide⟩ ⟨by decide, by decide⟩)
  rw [changeState_privileged hp, ← hv, ← hc]
  exact writesStatus_run hh v whole

/-- Settles O42: a write of the CPSR is `writesStatus_run` with the bytes or fields that the instruction selects. -/
theorem statusResults : Obligations.StatusResults := by
  intro s c rd rm fields rot imm im mm a f i mode hc hh hd hm
  have noRd : 15 ∉ [rd] := by simpa using Ne.symm hd
  have noRm : 15 ∉ [rm] := by simpa using Ne.symm hm
  have form {r : Bool} {p : Word → Host.Outcome State Fault Refusal → Prop}
      (h : ∀ v, p v (outcome (writeStatus r (fieldMask fields) v) s)) :
      ∀ x ∈ [(Instr.msrReg c r fields rm, s.reg rm),
        (.msrImm c r fields rot imm, (imm.setWidth 32).rotateRight (2 * rot.toNat))], p x.2 (exec x.1 s) := by
    have reg : exec (.msrReg c r fields rm) s = outcome (writeStatus r (fieldMask fields) (s.reg rm)) s :=
      outcome_congr ((conditional_pass _ hc).trans ((exec_bind_ok (noPc_run noRm s)).trans (exec_bind_ok (look_run _ s))))
    have imm : exec (.msrImm c r fields rot imm) s =
        outcome (writeStatus r (fieldMask fields) ((imm.setWidth 32).rotateRight (2 * rot.toNat))) s :=
      outcome_congr (conditional_pass _ hc)
    simp only [List.forall_mem_cons, List.not_mem_nil, false_implies, implies_true, and_true, reg, imm]
    exact ⟨h _, h _⟩
  have mrs {r : Bool} {m : Exec Unit} (h : (do
      let v ← if r then currentSpsr else pure s.cpsr.toWord
      finishReg rd v) s = m s) : exec (.mrs c r rd) s = outcome m s :=
    outcome_congr ((conditional_pass _ hc).trans ((exec_bind_ok (noPc_run noRd s)).trans
      ((exec_bind_ok (look_run _ s)).trans h)))
  refine ⟨?mrs, fun v hv => ?mrsSpsr, fun hv => ⟨?mrsNone, ?msrNone⟩, ?msr, fun x hx v hv => ?msrSpsr,
    fun h => ⟨fun hp => ?cpsUser, fun hp => ?cps⟩, fun h => ?cpsRefused, fun h => ⟨fun hp => ?tCpsUser, fun hp => ?tCps⟩,
    fun h => ?tCpsRefused⟩
  case mrs => exact (mrs (m := finishReg rd s.cpsr.toWord) rfl).trans (outcome_of_ok (finishReg_run _ _ s))
  case mrsSpsr =>
    exact (mrs (m := finishReg rd v) (exec_bind_ok (currentSpsr_run hv))).trans (outcome_of_ok (finishReg_run _ _ s))
  case mrsNone => exact (mrs (m := refuse .noSpsr) (exec_bind_error (currentSpsr_none hv))).trans rfl
  case msrNone =>
    exact form (p := fun _ o => o = .refused .noSpsr) fun v =>
      outcome_of_refused (exec_bind_error (currentSpsr_none hv))
  case msr =>
    refine form (p := fun v o => WritesStatus s o v (s.writtenBits v (fieldMask fields))) fun v => ?_
    have run : outcome (writeStatus false (fieldMask fields) v) s =
        outcome (do cpsrWriteByInstr v (fieldMask fields); advance) s := by
      refine outcome_congr ((exec_bind_ok (look_run _ s)).trans ?_)
      rw [hh]
      rfl
    rw [run]
    exact writesStatus_run hh v (fieldMask_whole fields)
  case msrSpsr =>
    exact form (p := fun x o => o = .next (s.mergeSpsr v x (fieldMask fields &&& psrMask)).next)
      (fun x => outcome_of_ok (exec_bind_ok (currentSpsr_run hv))) x hx
  case cpsRefused => exact outcome_of_refused (congrFun (if_pos h) s)
  case tCpsRefused => exact outcome_of_refused (congrFun (if_pos (by rw [h]; rfl)) s)
  case cpsUser => exact (outcome_congr (congrFun (if_neg (ne_true_of_eq_false h)) s)).trans (changeState_unprivileged hp ..)
  case tCpsUser =>
    exact (outcome_congr (congrFun (if_neg (by rw [h]; decide)) s)).trans (changeState_unprivileged hp ..)
  case cps =>
    have run : exec (.cps im mm a i f mode) s = outcome (changeState _ _ a i f (if mm then some mode else none)) s :=
      outcome_congr (congrFun (if_neg (ne_true_of_eq_false h)) s)
    exact (congrArg (WritesStatus s · _ _) run).mpr
      (changeState_writesStatus hh hp (by cases mm <;> rfl) (by cases mm <;> rfl))
  case tCps =>
    have run : exec (.tCps mm a i f) s = outcome (changeState mm true a i f none) s :=
      outcome_congr (congrFun (if_neg (by rw [h]; decide)) s)
    exact (congrArg (WritesStatus s · _ _) run).mpr
      (changeState_writesStatus hh hp BitVec.or_zero.symm BitVec.or_zero.symm)

end Sys2Proof.Machine

namespace Sys2Proof.Machine

/-! Interrupts at the boundary (R1557, R1558, R1572) -/

/-- Outside Debug state and with no DMA transfer, an exception at the boundary is the whole step. -/
theorem step_of_took {s t : State} (hh : s.halted = false) (hr : s.running = none)
    (h : nextInstruction s = .error (.took t)) : step s = .next (t.count s none) := by
  simp [step, machineStep, dmaInterval_idle hr, coreStep, hh, h, stopped]

theorem nextInstruction_interrupt {s : State} {x : Exc} (hrequest : s.debugRequest = none) (hx : s.interrupt = some x) :
    nextInstruction s = .error (.took (enterException x s)) := by
  unfold nextInstruction
  simp only [exec_bind_ok (look_run _ s), hrequest, hx]
  rfl

/-- Settles O18: the interrupt that stands at the boundary is what the step takes. -/
theorem interruptsAreTaken : Obligations.InterruptsAreTaken := by
  intro s hr hrequest hh hinhibit hvic
  have taken {x : Exc} (hx : s.interrupt = some x) : step s = .next ((enterException x s).count s none) :=
    step_of_took hh hr (nextInstruction_interrupt hrequest hx)
  refine ⟨fun hp hf => taken ?_, fun hfiq hp hi => taken ?_⟩
  · rw [State.interrupt, hinhibit, hvic, hp, hf]
    rfl
  · have noFiq : (!s.pins.nFIQ && !s.cpsr.f) = false := by rcases hfiq with h | h <;> simp [h]
    rw [State.interrupt, hinhibit, hvic, noFiq, hp, hi]
    rfl

/-! Hints (R1186, R1245, R1267, R1271) -/

theorem toNat_mod_four {a : Word} (h : a &&& 3 = 0) : a.toNat % 4 = 0 := by
  have low : (a &&& 3).toNat = a.toNat % 4 := Nat.and_two_pow_sub_one_eq_mod a.toNat 2
  rw [← low, h]
  rfl

/-- With the local monitor open an aligned STREX stores nothing and answers 1. -/
theorem strex_closed {s : State} {c : Cond} {rn rd rm : RegNo} (hl : s.exclLocal = false)
    (hc : Cond.passes c s.cpsr = true) (hr : 15 ∉ [rn, rd, rm]) (hn : rd ≠ rn) (hm : rd ≠ rm) (ha : s.reg rn &&& 3 = 0) :
    ∃ v, exec (.strex c rn rd rm) s = .next v ∧ v.reg rd = 1 ∧ v.mem = s.mem := by
  have aligned (p : Acc) (hp : p.ty = .wsync) : alignData p (s.reg rn) s = .ok ((s.reg rn, false), s) := by
    rw [alignData, hp, alignmentCheck_aligned (toNat_mod_four ha)]
  have distinct : (decide (rd = rn) || decide (rd = rm)) = false := by simp [hn, hm]
  refine ⟨_, outcome_conditional_of_ok hc ((exec_bind_ok (noPc_run hr s)).trans ((exec_bind_ok (refuseIf_run distinct s)).trans
    (storeExclusive_closed rd rfl (aligned _ rfl) hl))), State.wrote_reg_same ?_ 1, ?_⟩
  · rintro rfl
    simp at hr
  · rw [State.wrote, State.next_mem, State.setReg_mem, State.noteWatch_mem]

theorem setEndian_run {s : State} (hh : s.halted = false) (e : Bool) :
    setEndian e s = .ok ((), State.next { s with cpsr := { s.cpsr with e := e } }) := by
  have same : s.setCpsr { s.cpsr with e := e } = { s with cpsr := { s.cpsr with e := e } } := by
    refine State.setCpsr_of_running hh fun hs hm => ?_
    rw [State.isSecure, show s.cpsr.mode = .mon from hm] at hs
    exact Bool.noConfusion hs
  exact (exec_bind_ok (update_run _ s)).trans (congrArg (fun t => advance t) same)

/-- Settles O41: each form is one update and one advance of the PC. -/
theorem hintResults : Obligations.HintResults := by
  intro s c hint e u rn rd rm imm ty amount hh
  refine ⟨⟨rfl, rfl, rfl, rfl, rfl, rfl, rfl, rfl, rfl, rfl⟩, ?clrex, fun t ht => ?strex, fun i hi => ?setend,
    fun i hi => ?nop, ?pld, ?length⟩
  case clrex => exact congrArg _ (State.next_of_running (s := { s with exclLocal := false }) hh)
  case strex =>
    obtain rfl : State.next { s with exclLocal := false } = t := Host.Outcome.next.inj ht
    intro hc hr hn hm ha
    obtain ⟨v, hv, hone, hmem⟩ := strex_closed (c := c) (rm := rm) (State.next_exclLocal _) (by simpa using hc) hr hn hm ha
    exact ⟨v, hv, hone, hmem.trans (State.next_mem _)⟩
  case setend =>
    have run : exec i s = outcome (setEndian e) s := by rcases hi with rfl | rfl <;> rfl
    rw [run, outcome_of_ok (setEndian_run hh e)]
    exact congrArg _ (State.next_of_running (s := { s with cpsr := { s.cpsr with e := e } }) hh)
  case nop =>
    rw [← State.next_of_running hh]
    rcases hi with rfl | rfl | rfl | rfl | ⟨hm, rfl⟩
    case inr.inr.inr.inr =>
      have noRm : 15 ∉ [rm] := by simpa using Ne.symm hm
      exact outcome_of_ok ((exec_bind_ok (noPc_run noRm s)).trans (advance_run s))
    all_goals rfl
  case pld => rfl
  case length =>
    intro ht
    rw [State.instrLength_of_running hh, ht]
    rfl

/-! MOVS PC, R14 after SVC (R1268, R905) -/

/-- An opcode of R901 that moves, with S = 1 and R15 as destination, is an exception return (R905). -/
theorem dpMove_returns {f : Word → Word} {o : Operand} {s : State} {v : Word} {p : Psr} (hh : s.halted = false)
    (hv : s.spsr.get? s.cpsr.mode = some v) (hm : (Mode.ofBits? (v.extractLsb' 0 5)).isSome = true)
    (hp : s.cpsr.merge v (s.returnMask v) = some p) :
    dpMove true 15 f o s = .ok ((), s.returned p (f (o s).value)) :=
  (exec_bind_ok (look_run _ s)).trans ((exec_bind_ok (currentSpsr_run hv)).trans ((exec_bind_ok (look_run _ s)).trans
    (exceptionReturn_run hm hp hh)))

theorem Mode.ofBits_toBits (m : Mode) : Mode.ofBits? m.toBits = some m := by cases m <;> rfl

theorem State.returnMask_whole (s : State) (v : Word) : WholeFields (s.returnMask v) := by
  have named : WholeFields psrMask := ⟨by decide, by decide⟩
  exact .ite named (((named.and (WholeFields.bitAt _ (by decide)).not).and (WholeFields.bitAt _ (by decide)).not).and
    (WholeFields.ite ⟨by decide, by decide⟩ ⟨by decide, by decide⟩).not)

/-- A return to any mode but the Monitor writes all bits but, in the Non-secure world, perhaps A and F. -/
theorem State.returnMask_getLsbD {s : State} {v : Word} (hv : v.extractLsb' 0 5 ≠ 0b10110#5) {i : Nat}
    (hi : psrMask.getLsbD i = true) (ha : i ≠ 8) (hf : i ≠ 6) : (s.returnMask v).getLsbD i = true := by
  have h32 : i < 32 := BitVec.lt_of_getLsbD hi
  rw [State.returnMask, if_neg hv]
  split
  · exact hi
  · simp only [BitVec.getLsbD_and, BitVec.getLsbD_not, getLsbD_bitAt, hi, h32, ha, hf]
    simp

/-- A status word is read back whole where A and F are as it has them. -/
theorem Psr.merge_returned {s : State} {p : Psr} (ha : s.cpsr.a = p.a) (hf : s.cpsr.f = p.f) (hm : p.mode ≠ .mon) :
    s.cpsr.merge p.toWord (s.returnMask p.toWord) = some p := by
  have bits := p.toWord_mode
  have hv : p.toWord.extractLsb' 0 5 ≠ 0b10110#5 := by
    rw [bits]
    exact fun h => hm (Mode.toBits_injective (n := .mon) h)
  cases h : s.cpsr.merge p.toWord (s.returnMask p.toWord) with
  | none =>
    have wrong := (Psr.merge_eq_none_iff.mp h).2
    rw [bits, Mode.ofBits_toBits] at wrong
    cases wrong
  | some q =>
    refine congrArg some (Psr.eq_of_bits fun i hi => ?_)
    rw [Psr.merge_bit (s.returnMask_whole _) h hi, Psr.getLsbD_toWord _ (BitVec.lt_of_getLsbD hi)]
    by_cases h8 : i = 8
    · subst h8; exact ite_eq_left_iff.mpr fun _ => ha
    by_cases h6 : i = 6
    · subst h6; exact ite_eq_left_iff.mpr fun _ => hf
    rw [if_pos (State.returnMask_getLsbD hv hi h8 h6)]

theorem clearLow_of_aligned {a : Word} (h : a.extractLsb' 0 2 = 0) : a &&& ~~~3#32 = a := by
  have low (i : Nat) (hi : i < 2) : a.getLsbD i = false := by
    have := congrArg (BitVec.getLsbD · i) h
    simpa [hi] using this
  refine BitVec.eq_of_getLsbD_eq fun i hi => ?_
  rw [BitVec.getLsbD_and]
  by_cases h2 : i < 2
  · rw [low i h2, Bool.false_and]
  · have : (~~~3#32).getLsbD i = true := by interval_cases i <;> rfl
    rw [this, Bool.and_true]

theorem aligned_add_four {a : Word} (h : a.extractLsb' 0 2 = 0) : (a + 4).extractLsb' 0 2 = 0 := by
  have := congrArg BitVec.toNat h
  refine BitVec.eq_of_toNat_eq ?_
  simp only [BitVec.extractLsb'_toNat, BitVec.toNat_add, Nat.shiftRight_zero] at *
  simp at *
  omega

/-- Outside Supervisor mode no register is the R14 of that mode. -/
theorem slot_ne_svcLink {m : Mode} {n : RegNo} (hm : m ≠ .svc) (hn : n ≠ 15) : slot m n ≠ slot .svc 14 := by
  revert n hm
  cases m <;> decide

/-- The entry of SVC, from a mode other than the Monitor. -/
theorem enterException_svc {s : State} (hm : s.cpsr.mode ≠ .mon) :
    (enterException .svc s).cp15 = s.cp15 ∧ (enterException .svc s).cpsr.mode = .svc ∧
      (enterException .svc s).cpsr.a = s.cpsr.a ∧ (enterException .svc s).cpsr.f = s.cpsr.f ∧
      (enterException .svc s).gpr = s.gpr.set (slot .svc 14) (s.pc + (if s.thumb then 2 else 4)) := by
  have hcpsr := enterException_entryPsr .svc s
  refine ⟨?_, enterException_mode .svc s, ?_, ?_, State.switchedFrom_gpr _ _⟩
  · refine (State.switchedFrom_cp15 _ _).trans ?_
    simp only [if_neg hm]
  · rw [hcpsr]; simp [Exc.entryPsr, Exc.toMonitor, Exc.masksAborts]
  · rw [hcpsr]; simp [Exc.entryPsr, Exc.toMonitor]

/-- Settles O21: SVC saves the status and the return address, and the return merges that status back whole
(`Psr.merge_returned`), since the entry leaves A and F. -/
theorem supervisorCallReturns : Obligations.SupervisorCallReturns := by
  intro s t imm hh ht _ haligned hsvc hmon hexec
  obtain rfl : enterException .svc s = t :=
    Host.Outcome.next.inj ((outcome_of_took ((conditional_pass _ rfl).trans (supervisorCall_run hh))).symm.trans hexec)
  obtain ⟨hcp15, hmode, ha, hf, hgpr⟩ := enterException_svc hmon
  have hhalted : (enterException .svc s).halted = false := by
    rw [State.halted, enterException, State.switchedFrom_dbg]
    exact hh
  have hspsr : (enterException .svc s).spsr.get? (enterException .svc s).cpsr.mode = some s.cpsr.toWord := by
    rw [hmode, enterException_spsr]
    rfl
  have hlink : (enterException .svc s).reg 14 = s.pc + 4 := by
    have hthumb : s.thumb = false := by rw [State.thumb, ht]; rfl
    have link := enterException_link (x := .svc) (s := s) (m := .svc) rfl
    rw [hthumb] at link
    rw [State.reg, State.regOf, if_neg (by decide), hmode]
    exact link
  have hsome : (Mode.ofBits? (s.cpsr.toWord.extractLsb' 0 5)).isSome = true := by
    rw [Psr.toWord_mode, Mode.ofBits_toBits]
    rfl
  have run := dpMove_returns (f := id) (o := constOperand .lsl 0 14) hhalted hspsr hsome (Psr.merge_returned ha hf hmon)
  refine ⟨_, outcome_conditional_of_ok rfl run, State.setCpsr_cpsr _ _, ?pc, fun n hn => ?reg, ?mem, ?cp15, ?secure,
    ?nonSecure⟩
  case pc =>
    have aligned : s.pc.extractLsb' 0 2 = 0 := by simpa [State.pcAligned, ht] using haligned
    show (if s.cpsr.t then (enterException .svc s).reg 14 &&& ~~~1#32 else (enterException .svc s).reg 14 &&& ~~~3#32) = _
    rw [ht, hlink]
    exact clearLow_of_aligned (aligned_add_four aligned)
  case reg =>
    have other : (slot s.cpsr.mode n).val ≠ (slot .svc 14).val := fun h => slot_ne_svcLink hsvc hn (Fin.ext h)
    rw [State.reg, State.reg, State.regOf, State.regOf, if_neg hn, if_neg hn]
    simp only [State.returned, State.branchTo_gpr, State.setCpsr_gpr, State.branchTo_cpsr, State.setCpsr_cpsr, hgpr]
    exact Vector.getElem_set_ne _ _ (Ne.symm other)
  case mem => simp [State.returned]
  case cp15 => simp [State.returned, hcp15]
  case secure => simp [State.returned]
  case nonSecure => simp [State.returned]

end Sys2Proof.Machine

namespace Sys2Proof.Machine

/-! Updates that leave the pins -/

section

variable (s : State)

@[simp] theorem State.openMonitor_pins : s.openMonitor.pins = s.pins := rfl

@[simp] theorem State.clearGlobal_pins (pa : Word) : (s.clearGlobal pa).pins = s.pins := by
  unfold State.clearGlobal
  split
  · exact ite_field _ _ _ _ rfl rfl
  · rfl

theorem State.foldl_pins {α : Type} {f : State → α → State} (h : ∀ s a, (f s a).pins = s.pins) (l : List α) (s : State) :
    (l.foldl f s).pins = s.pins := by
  induction l generalizing s with
  | nil => rfl
  | cons a l ih => rw [List.foldl_cons, ih, h]

@[simp] theorem State.writeBytes_pins (q : Request) (pa : Word) (bs : List Byte) : (s.writeBytes q pa bs).pins = s.pins := by
  induction bs generalizing s pa with
  | nil => rfl
  | cons b bs ih => exact (ih _ _).trans (ite_field _ _ _ _ rfl (s.writeExternal_pins q pa b))

@[simp] theorem State.cleanLine_pins (l : CacheLine) (a : Word) : (s.cleanLine l a).pins = s.pins := by
  unfold State.cleanLine
  dsimp only
  split
  · split <;> simp
  · rfl

@[simp] theorem State.evictLine_pins (l : CacheLine) (a : Word) : (s.evictLine l a).pins = s.pins := by
  simp [State.evictLine]

@[simp] theorem State.promote_pins (c : Bool) : (s.promote c).pins = s.pins := ite_field _ _ _ _ rfl rfl

@[simp] theorem State.dmaComplete_pins (c : Bool) : (s.dmaComplete c).pins = s.pins := State.promote_pins _ _

@[simp] theorem State.storeTcm_pins (data : Bool) (x : Translation) (i : Nat) (bs : List Byte) :
    (s.storeTcm data x i bs).pins = s.pins := by
  induction bs generalizing s i with
  | nil => rfl
  | cons b bs ih => exact ih _ _

@[simp] theorem State.storeBytes_pins (q : Request) (x : Translation) (i : Nat) (bs : List Byte) :
    (s.storeBytes q x i bs).pins = s.pins := by
  induction bs generalizing s i with
  | nil => rfl
  | cons b bs ih => exact (ih _ _).trans (s.writeExternal_pins _ _ _)

@[simp] theorem State.storeHit_pins (l : CacheLine) (x : Translation) (bs : List Byte) :
    (s.storeHit l x bs).pins = s.pins := by
  unfold State.storeHit
  dsimp only
  split
  · simp only [State.markDirty_pins, State.putLine_pins]
    exact State.foldl_pins (fun t _ => t.touch_pins _) _ s
  · rfl

@[simp] theorem State.putRegs_pins (m : Mode) (l : List (RegNo × Word)) : (s.putRegs m l).pins = s.pins := by
  induction l generalizing s with
  | nil => rfl
  | cons x l ih =>
    unfold State.putRegs
    exact ite_field _ _ _ _ (ih s) (ih _)

@[simp] theorem State.putSingles_pins (l : List (BitVec 5 × Word)) : (s.putSingles l).pins = s.pins := by
  induction l generalizing s with
  | nil => rfl
  | cons x l ih => exact ih _

theorem State.setFlagsIf_pins (b : Bool) (p : Psr) : (if b then s.setFlags p else s).pins = s.pins :=
  ite_field _ _ _ _ rfl rfl

/-! Exceptions and Debug state -/

@[simp] theorem State.dataAbort_pins (f : MmuFault) (far : Word) (w : Bool) : (s.dataAbort f far w).pins = s.pins := by
  unfold State.dataAbort
  dsimp only
  split <;> simp

@[simp] theorem State.undefined_pins : s.undefined.pins = s.pins := by
  unfold State.undefined
  split <;> simp

@[simp] theorem State.debugPrefetchAbort_pins : s.debugPrefetchAbort.pins = s.pins := by simp [State.debugPrefetchAbort]

@[simp] theorem State.instructionEvent_pins (e : Entry) : (s.instructionEvent e).pins = s.pins :=
  ite_field _ _ _ _ rfl (State.debugPrefetchAbort_pins _)

@[simp] theorem State.takeImprecise_pins (p : PendingAbort) : (s.takeImprecise p).pins = s.pins := by
  simp [State.takeImprecise]

@[simp] theorem State.prefetchAbort_pins (f : MmuFault) : (s.prefetchAbort f).pins = s.pins := by
  simp [State.prefetchAbort]

theorem State.watchpointEvent_pins (t : State) : (s.watchpointEvent t).pins = t.pins := by
  unfold State.watchpointEvent
  split
  · rfl
  · dsimp only
    split
    · rfl
    · split
      · simp [State.setEntry]
      · rfl

theorem State.count_pins (t : State) (i : Option Instr) : (t.count s i).pins = t.pins := ite_field _ _ _ _ rfl rfl

end

/-! Parts of a meaning that leave the pins -/

/-- A part of a meaning leaves the pins, whether it completes or ends the instruction. -/
def KeepsPins {α : Type} (m : Exec α) : Prop := ∀ p, Stays (fun s => s.pins = p) (fun s => s.pins = p) m

section

variable {α β : Type}

namespace KeepsPins

theorem bind {m : Exec α} {f : α → Exec β} (hm : KeepsPins m) (hf : ∀ a, KeepsPins (f a)) : KeepsPins (m >>= f) :=
  fun p => (hm p).bind fun a => hf a p

theorem map {m : Exec α} (f : α → β) (hm : KeepsPins m) : KeepsPins (f <$> m) := fun p => (hm p).map f
theorem pure (a : α) : KeepsPins (Pure.pure a) := fun _ => Stays.pure a
theorem look (f : State → α) : KeepsPins (look f) := fun _ => Stays.look f
theorem refuse (r : Refusal) : KeepsPins (refuse r : Exec α) := fun _ => Stays.refuse r

theorem update {f : State → State} (h : ∀ s, (f s).pins = s.pins) : KeepsPins (update f) :=
  fun _ => Stays.update fun s hs => (h s).trans hs

theorem endWith {f : State → State} (h : ∀ s, (f s).pins = s.pins) : KeepsPins (endWith f : Exec α) :=
  fun _ => Stays.endWith fun s hs => (h s).trans hs

theorem ite {p : Prop} [Decidable p] {a b : Exec α} (ha : KeepsPins a) (hb : KeepsPins b) :
    KeepsPins (if p then a else b) := fun q => (ha q).ite (hb q)

theorem branch {p : State → Prop} [DecidablePred p] {a b : Exec α} (ha : KeepsPins a) (hb : KeepsPins b) :
    KeepsPins (fun s => if p s then a s else b s) := fun q => (ha q).branch (hb q)

/-- A part of which it is known what it does in each state. -/
theorem of_run {m : Exec α} (h : ∀ s, Post (fun t => t.pins = s.pins) (fun t => t.pins = s.pins) (m s)) : KeepsPins m := by
  rintro _ s rfl
  exact h s

/-- A part that is run from a state with the same pins. -/
theorem run {m : Exec α} (h : KeepsPins m) {s t : State} (ht : t.pins = s.pins) :
    Post (fun u => u.pins = s.pins) (fun u => u.pins = s.pins) (m t) := h _ t ht

/-- What follows a look at the whole state may use that it had these pins. -/
theorem lookThen {f : State → Exec β} (h : ∀ b, Stays (fun s => s.pins = b.pins) (fun s => s.pins = b.pins) (f b)) :
    KeepsPins (Machine.look id >>= f) := of_run fun s => h s s rfl

theorem outcome {m : Exec Unit} (h : KeepsPins m) (s : State) : Sound (fun t => t.pins = s.pins) (outcome m s) :=
  (h.run rfl).sound fun _ => id

end KeepsPins

end

theorem checkEndianness_keepsPins (n : Nat) : KeepsPins (checkEndianness n) := fun _ => checkEndianness_stays n
theorem dmaGuard_keepsPins (b : Bool) : KeepsPins (dmaGuard b) := fun _ => dmaGuard_stays b
theorem noPc_keepsPins (l : List RegNo) : KeepsPins (noPc l) := fun _ => noPc_stays l
theorem refuseIf_keepsPins (b : Bool) : KeepsPins (refuseIf b) := fun _ => refuseIf_stays b
theorem distinct_keepsPins (a b : RegNo) : KeepsPins (distinct a b) := fun _ => distinct_stays a b
theorem currentSpsr_keepsPins : KeepsPins currentSpsr := fun _ => currentSpsr_stays
theorem exceptionModeOnly_keepsPins : KeepsPins exceptionModeOnly := fun _ => exceptionModeOnly_stays
theorem draw_keepsPins : KeepsPins draw := .of_run fun _ => rfl
theorem advance_keepsPins : KeepsPins advance := .update State.next_pins
theorem finishReg_keepsPins (n : RegNo) (v : Word) : KeepsPins (finishReg n v) := .update fun s => by simp

/-! Lines and transfers -/

theorem readExternal_keepsPins (q : Request) (pa : Word) : KeepsPins (readExternal q pa) :=
  .branch (.bind draw_keepsPins fun _ => .pure _) (.look _)

theorem readLine_keepsPins (q : Request) (pa : Word) (n : Nat) : KeepsPins (readLine q pa n) := by
  induction n with
  | zero => exact .pure _
  | succ n ih => exact .bind ih fun _ => .bind (readExternal_keepsPins _ _) fun _ => .pure _

theorem chooseWay_keepsPins (set : Nat) : KeepsPins (chooseWay set) := by
  refine .of_run fun s => ?_
  unfold chooseWay
  split
  · rfl
  · exact (KeepsPins.bind draw_keepsPins fun _ => .pure _).run rfl

theorem fillLine_keepsPins (x : Translation) (mva pa : Word) (priv : Bool) : KeepsPins (fillLine x mva pa priv) := by
  refine .bind (.look _) fun set => .bind (chooseWay_keepsPins set) fun way => .bind (.update fun s => ?_) fun _ =>
    .bind (readLine_keepsPins _ _ _) fun data => .bind (.update fun s => by simp) fun _ => .pure _
  split
  · exact s.evictLine_pins _ _
  · rfl

theorem lookupLine_keepsPins (mva pa : Word) (ns : Bool) : KeepsPins (lookupLine mva pa ns) := by
  refine .of_run fun s => ?_
  unfold lookupLine
  split
  · rfl
  · split
    · exact (KeepsPins.bind draw_keepsPins fun w => .ite (.bind (.update fun s => s.evictLine_pins _ _) fun _ => .pure _)
        (.pure _)).run rfl
    · rfl

theorem cachedLine_keepsPins (p : Acc) (mva : Word) (x : Translation) : KeepsPins (cachedLine p mva x) := by
  unfold cachedLine
  exact .branch (.pure _) (.branch (p := fun _ => _) (.look _) (lookupLine_keepsPins _ _ _))

theorem heldLine_keepsPins (p : Acc) (x : Translation) (hit : Option CacheLine) : KeepsPins (heldLine p x hit) := by
  refine .of_run fun s => ?_
  unfold heldLine
  split
  · rfl
  · split
    · rfl
    · exact s.evictLine_pins _ _

theorem notePiece_keepsPins (p : Acc) (va : Word) (x : Translation) (q : Request) (bs : List Byte) :
    KeepsPins (notePiece p va x q bs) := by
  have note (w : Word) := KeepsPins.update (f := fun s : State =>
    (List.range (w.extractLsb' 0 8).toNat).foldl
      (fun t _ => t.noteTransfer (t.singleRequest p x bs.length) (t.pieceCells x bs) none)
      (s.notePiece p va x q bs none))
    fun s => State.foldl_pins (fun t _ => t.noteTransfer_pins _ _ _) _ _
  unfold notePiece
  exact .ite (.bind draw_keepsPins note) (.bind (.pure _) note)

theorem readBytes_keepsPins (q : Request) (x : Translation) (n : Nat) : KeepsPins (readBytes q x n) := by
  induction n with
  | zero => exact .pure _
  | succ n ih => exact .bind ih fun _ => .bind (.look _) fun _ => .bind (readExternal_keepsPins _ _) fun _ => .pure _

theorem openBytes_keepsPins (n : Nat) : KeepsPins (openBytes n) := by
  induction n with
  | zero => exact .pure _
  | succ n ih => exact .bind draw_keepsPins fun _ => .bind ih fun _ => .pure _

/-! Translation -/

theorem State.lookup_pins (s : State) (ns : Bool) (asid : BitVec 8) (mva : Word) :
    (s.lookup ns asid mva).Leaves (fun t => t.pins = s.pins) := by
  unfold State.lookup
  dsimp only
  split
  · trivial
  · split
    · trivial
    · split
      · exact State.recordFault_pins _ _ _ _
      · split
        · exact State.recordWalk_pins _ _ _ _ _ _
        · exact (State.lockWalk_pins _ _ _ _ _ _).trans (State.recordWalk_pins _ _ _ _ _ _)
      · split
        · exact s.drawWalk_pins
        · trivial
      · split
        · exact s.drawWalk_pins
        · trivial

theorem State.translate_pins (s : State) (ns : Bool) (asid : BitVec 8) (mva : Word) (acc : Access) (priv : Bool)
    (who : Client) : (s.translate ns asid mva acc priv who).Leaves (fun t => t.pins = s.pins) := by
  unfold State.translate
  dsimp only
  split
  · rfl
  · have hl := s.lookup_pins ns asid mva
    revert hl
    cases s.lookup ns asid mva with
    | found m t =>
      intro (hl : t.pins = s.pins)
      have h := t.checkMapping_leaves ns m acc priv who
      dsimp only
      revert h
      cases t.checkMapping ns m acc priv who with
      | ok x u => intro (h : u = t); exact h ▸ hl
      | abort f u => intro (h : u = t); exact h ▸ hl
      | refused r => exact id
    | abort f t => exact id
    | refused r => exact id

/-! The DMA engine -/

theorem dmaTranslate_keepsPins (c : Bool) (va : Word) (acc : Access) (bits : MmuFault → Word) :
    KeepsPins (dmaTranslate c va acc bits) := by
  refine .of_run fun s => ?_
  have h := s.translate_pins s.dmaNs ((s.channel c).context.extractLsb' 0 8) (s.fcse s.dmaNs va) acc
    (!(s.channel c).userTransfer) .dma
  unfold dmaTranslate
  dsimp only
  revert h
  cases s.translate s.dmaNs ((s.channel c).context.extractLsb' 0 8) (s.fcse s.dmaNs va) acc
    (!(s.channel c).userTransfer) .dma with
  | ok x t => exact id
  | abort f t => exact id
  | refused r => exact id

theorem dmaRead_keepsPins (q : Request) (pa : Word) : KeepsPins (dmaRead q pa) := by
  refine .bind (.look _) fun k => .bind (.look _) fun held => ?_
  cases held with
  | none => exact readExternal_keepsPins q pa
  | some l => exact .bind draw_keepsPins fun w => .ite (.pure _) (readExternal_keepsPins q pa)

theorem dmaIn_keepsPins (q : Request) (data second : Bool) (off n : Nat) : KeepsPins (dmaIn q data second off n) := by
  induction n with
  | zero => exact .pure _
  | succ n ih =>
    exact .bind ih fun _ => .bind (dmaRead_keepsPins _ _) fun b => .bind (.update fun s => s.storeByte_pins _ _) fun _ =>
      .pure _

theorem dmaOut_keepsPins (q : Request) (data second : Bool) (off n : Nat) : KeepsPins (dmaOut q data second off n) := by
  induction n with
  | zero => exact .pure _
  | succ n ih =>
    exact .bind ih fun _ => .bind (.look _) fun b => .bind (.update fun s => by simp) fun _ => .pure _

theorem dmaTransfer_keepsPins (c : Bool) : KeepsPins (dmaTransfer c) := by
  have ends {f : State → State} (h : ∀ s, (f s).pins = s.pins) : KeepsPins (endWith f : Exec Unit) :=
    .endWith h
  refine .bind (.look _) fun d => .ite (ends fun s => s.dmaComplete_pins c) ?_
  refine .bind (.look _) fun ns => .bind (.look _) fun device => .bind (dmaTranslate_keepsPins _ _ _ _) fun i =>
    .bind (.look _) fun tcm => ?_
  cases tcm with
  | none => exact ends fun _ => rfl
  | some second =>
    refine .ite (.refuse _) (.bind (dmaTranslate_keepsPins _ _ _ _) fun e => .bind (.look _) fun region =>
      .ite (ends fun _ => rfl) (.bind (.look _) fun pa => .bind (.look _) fun err => ?_))
    cases err with
    | some x => exact .bind draw_keepsPins fun v => .bind draw_keepsPins fun w => ends fun _ => rfl
    | none =>
      exact .bind (.look _) fun off => .ite (.bind (dmaOut_keepsPins _ _ _ _ _) fun _ => .update fun _ => rfl)
        (.bind (dmaIn_keepsPins _ _ _ _ _) fun _ => .update fun _ => rfl)

/-- One step of the engine completes, whatever the transfer ends with. -/
theorem dmaStep_keepsPins : KeepsPins dmaStep := by
  refine .of_run fun s => ?_
  unfold dmaStep
  split
  · rfl
  · rename_i c _
    have h := (dmaTransfer_keepsPins c).run (s := s) rfl
    match dmaTransfer c s, h with
    | .ok _, h => exact h
    | .error (.took _), h => exact h
    | .error (.refused _), _ => trivial

theorem dmaSteps_keepsPins (n : Nat) : KeepsPins (dmaSteps n) := by
  induction n with
  | zero => exact .pure _
  | succ n ih => exact .bind dmaStep_keepsPins fun _ => ih

theorem dmaInterval_keepsPins : KeepsPins dmaInterval := by
  refine .of_run fun s => ?_
  unfold dmaInterval
  split
  · rfl
  · exact (KeepsPins.bind draw_keepsPins fun _ => dmaSteps_keepsPins _).run rfl

/-! How an instruction ends early -/

theorem takeUndefined_keepsPins {α : Type} : KeepsPins (takeUndefined : Exec α) := .endWith State.undefined_pins

theorem takeDataAbort_keepsPins {α : Type} (f : MmuFault) (far : Word) (w : Bool) :
    KeepsPins (takeDataAbort f far w : Exec α) := .endWith fun s => s.dataAbort_pins f far w

theorem takeAlignmentFault_keepsPins {α : Type} (va : Word) (w : Bool) :
    KeepsPins (takeAlignmentFault va w : Exec α) := .endWith fun s => s.dataAbort_pins _ _ w

/-! The data access path -/

theorem alignData_keepsPins (p : Acc) (a : Word) : KeepsPins (alignData p a) := by
  refine .of_run fun s => ?_
  unfold alignData
  split
  · rfl
  · exact (takeAlignmentFault_keepsPins _ _).run rfl
  · trivial

theorem translateData_keepsPins (p : Acc) (va : Word) (u : Bool) : KeepsPins (translateData p va u) := by
  refine .of_run fun s => ?_
  have h := s.translate_pins (!s.isSecure) (s.asidOf !s.isSecure) (s.fcse (!s.isSecure) va)
    (if p.write then .write else .read) p.priv .data
  unfold translateData
  dsimp only
  revert h
  cases s.translate (!s.isSecure) (s.asidOf !s.isSecure) (s.fcse (!s.isSecure) va) (if p.write then .write else .read)
    p.priv .data with
  | refused r => intro _; trivial
  | abort f t =>
    intro (h : t.pins = s.pins)
    exact (takeDataAbort_keepsPins _ _ _).run h
  | ok x t =>
    intro (h : t.pins = s.pins)
    dsimp only
    split
    · split
      · exact (takeAlignmentFault_keepsPins _ _).run h
      · trivial
    · split
      · trivial
      · exact h

theorem reportError_keepsPins (p : Acc) (va : Word) (x : Translation) (e : BusError) : KeepsPins (reportError p va x e) := by
  refine .of_run fun s => ?_
  unfold reportError
  split
  · exact (takeDataAbort_keepsPins _ _ _).run rfl
  · exact s.impreciseAbort_pins _ _

/-! Loads -/

theorem readBus_keepsPins (p : Acc) (va : Word) (x : Translation) (n : Nat) : KeepsPins (readBus p va x n) := by
  refine .bind (.look _) fun q => .bind (.look _) fun e => ?_
  cases e with
  | none => exact .bind (readBytes_keepsPins _ _ _) fun bs => .bind (notePiece_keepsPins _ _ _ _ _) fun _ => .pure _
  | some e =>
    exact .bind (.update fun _ => rfl) fun _ =>
      .ite (.bind (.update fun _ => rfl) fun _ => .bind (reportError_keepsPins _ _ _ _) fun _ => .pure _)
        (.bind (reportError_keepsPins _ _ _ _) fun _ => .pure _)

theorem readFill_keepsPins (p : Acc) (va mva : Word) (x : Translation) (n : Nat) : KeepsPins (readFill p va mva x n) := by
  refine .bind (.look _) fun e => ?_
  cases e with
  | none => exact .bind (fillLine_keepsPins _ _ _ _) fun l => .map _ (.look _)
  | some e => exact .bind (.update fun _ => rfl) fun _ => .bind (reportError_keepsPins _ _ _ _) fun _ => .pure _

theorem readRouted_keepsPins (p : Acc) (va : Word) (x : Translation) (n : Nat) : KeepsPins (readRouted p va x n) := by
  refine .bind (.look _) fun mva => .bind (.look _) fun data => .ite (.map _ (.look _)) ?_
  refine .bind (cachedLine_keepsPins _ _ _) fun hit => .bind (heldLine_keepsPins _ _ _) fun held => ?_
  cases held with
  | some l => exact .map _ (.look _)
  | none =>
    exact .bind (.look _) fun instr => .ite (.map _ (.look _))
      (.bind (.look _) fun fills => .ite (readFill_keepsPins _ _ _ _ _) (readBus_keepsPins _ _ _ _))

theorem readPiece_keepsPins (p : Acc) (va : Word) (n : Nat) (u : Bool) : KeepsPins (readPiece p va n u) := by
  refine .bind (.update fun s => by simp) fun _ => .bind (translateData_keepsPins _ _ _) fun x =>
    .bind (checkEndianness_keepsPins _) fun _ => .bind (readRouted_keepsPins _ _ _ _) fun r => ?_
  cases r with
  | some bs => exact .bind (.pure _) fun _ => .pure _
  | none => exact .bind (openBytes_keepsPins _) fun _ => .pure _

theorem readSplit_keepsPins (p : Acc) (va : Word) (n : Nat) : KeepsPins (readSplit p va n) := by
  induction n generalizing va with
  | zero => exact .pure _
  | succ n ih =>
    exact .bind (readPiece_keepsPins _ _ _ _) fun r => .bind dmaInterval_keepsPins fun _ => .bind (ih _) fun _ => .pure _

theorem memRead_keepsPins (p : Acc) (a : Word) (n : Nat) : KeepsPins (memRead p a n) :=
  .bind (alignData_keepsPins _ _) fun _ => .ite
    (.bind (checkEndianness_keepsPins _) fun _ => .bind (readSplit_keepsPins _ _ _) fun _ => .bind (.look _) fun _ => .pure _)
    (.bind (readPiece_keepsPins _ _ _ _) fun _ => .bind (.look _) fun _ => .pure _)

theorem readWordAt_keepsPins (p : Acc) (a : Word) : KeepsPins (readWordAt p a) :=
  .bind (readPiece_keepsPins _ _ _ _) fun _ => .bind (.look _) fun _ => .pure _

/-! Stores -/

theorem writeBus_keepsPins (p : Acc) (va : Word) (x : Translation) (bs : List Byte) : KeepsPins (writeBus p va x bs) := by
  refine .bind (.look _) fun q => .bind (.look _) fun e => ?_
  cases e with
  | none => exact .bind (.update fun s => s.storeBytes_pins _ _ _ _) fun _ => notePiece_keepsPins _ _ _ _ _
  | some e => exact .bind (.update fun _ => rfl) fun _ => reportError_keepsPins _ _ _ _

theorem writeRouted_keepsPins (p : Acc) (va : Word) (x : Translation) (bs : List Byte) :
    KeepsPins (writeRouted p va x bs) := by
  have store (data : Bool) : KeepsPins (update fun s => s.storeTcm data x 0 bs) :=
    .update fun s => s.storeTcm_pins _ _ _ _
  refine .bind (.look _) fun mva => .bind (.look _) fun data => .ite (store true) ?_
  refine .bind (cachedLine_keepsPins _ _ _) fun hit => .bind (.look _) fun kept => ?_
  have rest : KeepsPins (if kept then pure () else do
      let instr ← look fun s => (s.tcmOf false x.ns x.pa).isSome
      if instr then update fun s => s.storeTcm false x 0 bs else writeBus p va x bs) :=
    .ite (.pure _) (.bind (.look _) fun _ => .ite (store false) (writeBus_keepsPins _ _ _ _))
  cases hit with
  | some l => exact .bind (.update fun s => s.storeHit_pins _ _ _) fun _ => rest
  | none => exact rest

theorem writePiece_keepsPins (p : Acc) (va : Word) (bs : List Byte) (u : Bool) : KeepsPins (writePiece p va bs u) :=
  .bind (.update fun s => by simp) fun _ => .bind (translateData_keepsPins _ _ _) fun _ =>
    .bind (checkEndianness_keepsPins _) fun _ => .bind (writeRouted_keepsPins _ _ _ _) fun _ => .pure _

theorem writeSplit_keepsPins (p : Acc) (va : Word) (bs : List Byte) : KeepsPins (writeSplit p va bs) := by
  induction bs generalizing va with
  | nil => exact .pure _
  | cons b bs ih => exact .bind (writePiece_keepsPins _ _ _ _) fun _ => .bind dmaInterval_keepsPins fun _ => ih _

theorem memWrite_keepsPins (p : Acc) (a : Word) (n : Nat) (v : Word) : KeepsPins (memWrite p a n v) :=
  .bind (alignData_keepsPins _ _) fun _ => .bind (.look _) fun _ => .ite
    (.bind (checkEndianness_keepsPins _) fun _ => writeSplit_keepsPins _ _ _)
    (.bind (writePiece_keepsPins _ _ _ _) fun _ => .pure _)

theorem writeWordAt_keepsPins (p : Acc) (a v : Word) : KeepsPins (writeWordAt p a v) :=
  .bind (.look _) fun _ => .bind (writePiece_keepsPins _ _ _ _) fun _ => .pure _

theorem writeWords_keepsPins (p : Acc) (a : Word) (vs : List Word) : KeepsPins (writeWords p a vs) := by
  induction vs generalizing a with
  | nil => exact .pure _
  | cons v vs ih => exact .bind (writeWordAt_keepsPins _ _ _) fun _ => .bind dmaInterval_keepsPins fun _ => ih _

/-! Transfers of lists, which an abort leaves in any part -/

theorem writeBase_keepsPins (rn : RegNo) (v : Option Word) : KeepsPins (writeBase rn v) := by
  cases v with
  | none => exact .pure _
  | some v => exact .update fun _ => rfl

theorem openLoaded_keepsPins (m : Mode) (base : Fin 32) (l : List (RegNo × Word)) : KeepsPins (openLoaded m base l) := by
  induction l with
  | nil => exact .pure _
  | cons x l ih =>
    exact .bind draw_keepsPins fun d => .bind (.update fun _ => ite_field _ _ _ _ rfl rfl) fun _ => ih

theorem openSingles_keepsPins (p : Prec) (l : List (BitVec 5 × Word)) : KeepsPins (openSingles p l) := by
  have put (b : Bool) (l : List (BitVec 5 × Word)) : KeepsPins (update fun s => if b then s.putSingles l else s) :=
    .update fun s => ite_field _ _ _ _ (s.putSingles_pins l) rfl
  induction l using openSingles.induct with
  | case1 => exact .pure _
  | case2 x => exact .bind draw_keepsPins fun d => .update fun s => ite_field _ _ _ _ (s.putSingles_pins _) rfl
  | case3 x y rest h1 h2 =>
    exact .bind draw_keepsPins fun d => .ite (.bind (put _ _) fun _ => h1) (.bind (put _ _) fun _ => h2)

theorem listedWord_keepsPins (p : Acc) (a : Word) : KeepsPins (do let w ← readWordAt p a; dmaInterval; pure w) :=
  .bind (readWordAt_keepsPins p a) fun _ => .bind dmaInterval_keepsPins fun _ => .pure _

theorem readListed_keepsPins (p : Acc) (m : Mode) (base : Fin 32) (done l : List (RegNo × Word)) :
    KeepsPins (readListed p m base done l) := by
  induction l generalizing done with
  | nil => exact .pure _
  | cons x l ih =>
    obtain ⟨r, a⟩ := x
    refine .of_run fun s => ?_
    have h := (listedWord_keepsPins { p with loadsPc := p.loadsPc || r = 15 } a).run (s := s) rfl
    unfold readListed
    split
    · rename_i w t e
      rw [e] at h
      exact (ih _).run h
    · rename_i t e
      rw [e] at h
      exact Post.afterTook (openLoaded_keepsPins _ _ _ _) h
    · rename_i x hx e
      rw [e] at h
      cases x with
      | took t => exact absurd rfl (hx t)
      | refused r => trivial
      | fault f => exact h

theorem readSingles_keepsPins (p : Acc) (many : Option Prec) (a : Word) (done : List (BitVec 5 × Word))
    (l : List (BitVec 5)) : KeepsPins (readSingles p many a done l) := by
  induction l generalizing a done with
  | nil => exact .pure _
  | cons r l ih =>
    refine .of_run fun s => ?_
    have h := (listedWord_keepsPins p a).run (s := s) rfl
    unfold readSingles
    split
    · rename_i w t e
      rw [e] at h
      exact (ih _ _).run h
    · rename_i t e
      rw [e] at h
      cases many with
      | some k => exact Post.afterTook (openSingles_keepsPins _ _ _) h
      | none => exact Post.afterTook (.pure ()) h
    · rename_i x hx e
      rw [e] at h
      cases x with
      | took t => exact absurd rfl (hx t)
      | refused r => trivial
      | fault f => exact h

theorem loadBlock_keepsPins (precise : Bool) (m : Mode) (rn : RegNo) (rs : List RegNo) (start : Word) :
    KeepsPins (loadBlock precise m rn rs start) :=
  .bind (.look _) fun _ => .bind (.look _) fun _ => .bind (alignData_keepsPins _ _) fun _ => readListed_keepsPins _ _ _ _ _

theorem storeBlock_keepsPins (start : Word) (ws : List Word) : KeepsPins (storeBlock start ws) :=
  .bind (.look _) fun _ => .bind (alignData_keepsPins _ _) fun _ => writeWords_keepsPins _ _ _

/-! Exclusive accesses -/

theorem readExclusive_keepsPins (p : Acc) (a : Word) (x : Translation) (n : Nat) : KeepsPins (readExclusive p a x n) := by
  refine .of_run fun s => ?_
  have h := (readRouted_keepsPins p a x n).run (s := s) rfl
  unfold readExclusive
  match readRouted p a x n s, h with
  | .ok (some bs, t), h => exact h
  | .ok (none, t), h =>
    have h : t.openMonitor.pins = s.pins := h
    exact (openBytes_keepsPins n).run h
  | .error (.took t), h => exact h
  | .error (.refused _), _ => trivial

theorem loadExclusive_keepsPins (ty : AccType) (n : Nat) (rn : RegNo) : KeepsPins (loadExclusive ty n rn) :=
  .bind (.look _) fun _ => .bind (.look _) fun _ => .bind (alignData_keepsPins _ _) fun _ =>
    .bind (.update fun s => s.noteWatch_pins _ _ _) fun _ => .bind (translateData_keepsPins _ _ _) fun _ =>
      .bind (checkEndianness_keepsPins _) fun _ => readExclusive_keepsPins _ _ _ _

theorem monitorPasses_keepsPins (p : Acc) (x : Translation) (n : Nat) :
    KeepsPins (monitorPasses p x n) :=
  .ite (.bind (.look _) fun _ => .ite
    (.bind draw_keepsPins fun _ => .bind (.update fun _ => ite_field _ _ _ _ rfl rfl) fun _ => .pure _)
    (.pure _)) (.pure _)

theorem writeExclusive_keepsPins (p : Acc) (a : Word) (x : Translation) (bs : List Byte) :
    KeepsPins (writeExclusive p a x bs) :=
  .bind (writeRouted_keepsPins _ _ _ _) fun _ => .bind (.update fun _ => ite_field _ _ _ _ rfl rfl) fun _ => .pure _

theorem refusedExclusive_keepsPins (p : Acc) (a : Word) (x : Translation) (bs : List Byte) :
    KeepsPins (refusedExclusive p a x bs) := by
  refine .bind (.look _) fun q => .bind (.look _) fun e => .bind (.update fun _ => rfl) fun _ => ?_
  cases e with
  | some e => exact .bind (reportError_keepsPins _ _ _ _) fun _ => .pure _
  | none => exact .pure _

/-! Writing the CPSR -/

theorem cpsrWriteByInstr_keepsPins (v bytes : Word) : KeepsPins (cpsrWriteByInstr v bytes) := by
  refine .of_run fun s => ?_
  unfold cpsrWriteByInstr
  split
  · trivial
  · dsimp only
    split
    · rfl
    · exact s.setCpsr_pins _

theorem cpsrWriteHalted_keepsPins (v bytes : Word) : KeepsPins (cpsrWriteHalted v bytes) := by
  refine .of_run fun s => ?_
  unfold cpsrWriteHalted
  split
  · trivial
  · dsimp only
    split
    · rfl
    · exact s.setCpsr_pins _

/-! The end of an instruction -/

/-- The last update of an instruction that goes on to the next one. -/
theorem updateNext_keepsPins {f : State → State} (h : ∀ s, (f s).pins = s.pins) :
    KeepsPins (update fun s => (f s).next) := .update fun s => (f s).next_pins.trans (h s)

theorem openFlags_keepsPins : KeepsPins openFlags := .bind draw_keepsPins fun _ => .update fun s => s.setFlags_pins _

theorem bxWritePc_keepsPins (v : Word) : KeepsPins (bxWritePc v) :=
  .ite (.update fun _ => rfl) (.ite (.refuse _) (.update fun _ => rfl))

theorem loadPc_keepsPins (v : Word) : KeepsPins (loadPc v) :=
  .bind (.look _) fun _ => .ite (.update fun _ => rfl) (bxWritePc_keepsPins v)

theorem link_keepsPins (back bits : Word) : KeepsPins (link back bits) := .update fun _ => rfl

theorem conditional_keepsPins (c : Cond) {m : Exec Unit} (h : KeepsPins m) : KeepsPins (conditional c m) :=
  .branch (p := fun s => Cond.passes c s.cpsr = true) h advance_keepsPins

theorem conditionalBranch_keepsPins (c : Cond) {m : Exec Unit} (h : KeepsPins m) : KeepsPins (conditionalBranch c m) :=
  .branch (p := fun s => Cond.passes c s.cpsr = true) h
    (.branch (.bind draw_keepsPins fun _ => .update fun _ => rfl) advance_keepsPins)

theorem finishHigh_keepsPins (rd : RegNo) (v : Word) : KeepsPins (finishHigh rd v) :=
  .ite (.update fun _ => rfl) (finishReg_keepsPins _ _)

theorem setEndian_keepsPins (e : Bool) : KeepsPins (setEndian e) :=
  .bind (.update fun s => s.setCpsr_pins _) fun _ => advance_keepsPins

theorem checkSingle_keepsPins (w : Bool) (rn rd : RegNo) (rm : Option RegNo) (pc : Bool) :
    KeepsPins (checkSingle w rn rd rm pc) := .ite (.refuse _) (.pure _)

theorem checkDouble_keepsPins (w l : Bool) (rn rd : RegNo) (rm : Option RegNo) : KeepsPins (checkDouble w l rn rd rm) :=
  .ite (.refuse _) (.pure _)

theorem checkMode3_keepsPins (p w : Bool) : KeepsPins (checkMode3 p w) := .ite (.refuse _) (.pure _)

theorem checkLoadList_keepsPins (wb : Bool) (rn : RegNo) (rs : List RegNo) : KeepsPins (checkLoadList wb rn rs) :=
  .ite (.refuse _) (.pure _)

theorem checkStoreList_keepsPins (wb : Bool) (rn : RegNo) (rs : List RegNo) : KeepsPins (checkStoreList wb rn rs) :=
  .ite (.refuse _) (.pure _)

theorem checkCount_keepsPins (p : Prec) (d : BitVec 5) (n : Nat) (wb : Bool) (rn : RegNo) :
    KeepsPins (checkCount p d n wb rn) := .ite (.refuse _) (.ite (.refuse _) (.pure _))

theorem checkPair_keepsPins (rd rn : RegNo) (toCore last : Bool) : KeepsPins (checkPair rd rn toCore last) :=
  .ite (.refuse _) (.pure _)

/-! Data processing, multiplies and media -/

theorem dpTest_keepsPins (rn : RegNo) (f : Word → Word → Word) (o : Operand) : KeepsPins (dpTest rn f o) :=
  .bind (.look _) fun _ => updateNext_keepsPins fun s => s.setFlags_pins _

theorem dpCompare_keepsPins (rn : RegNo) (f : Word → Word → Sum) (o : Operand) : KeepsPins (dpCompare rn f o) :=
  .bind (.look _) fun _ => updateNext_keepsPins fun s => s.setFlags_pins _

theorem finishMul_keepsPins (sf : Bool) (rd : RegNo) (r : Word) : KeepsPins (finishMul sf rd r) :=
  updateNext_keepsPins fun _ => State.setFlagsIf_pins _ sf _

theorem finishLong_keepsPins (sf : Bool) (hi lo : RegNo) (r : DWord) : KeepsPins (finishLong sf hi lo r) :=
  updateNext_keepsPins fun _ => State.setFlagsIf_pins _ sf _

theorem finishQ_keepsPins (rd : RegNo) (r : Word) (q : Bool) : KeepsPins (finishQ rd r q) :=
  updateNext_keepsPins fun _ => rfl

theorem saturating_keepsPins (double : Bool) (rn rd rm : RegNo) (f : Int → Int → Int) :
    KeepsPins (saturating double rn rd rm f) :=
  .bind (noPc_keepsPins _) fun _ => .bind (.look _) fun _ => .bind (.look _) fun _ => finishQ_keepsPins _ _ _

theorem parallel_keepsPins (p : LanePrefix) (o : LaneOp) (rn rd rm : RegNo) : KeepsPins (parallel p o rn rd rm) :=
  .bind (noPc_keepsPins _) fun _ => .bind (.look _) fun _ => updateNext_keepsPins fun _ => State.setFlagsIf_pins _ _ _

theorem extend_keepsPins (rd rm : RegNo) (rot : BitVec 2) (f : Word → Word) : KeepsPins (extend rd rm rot f) :=
  .bind (noPc_keepsPins _) fun _ => .bind (.look _) fun _ => finishReg_keepsPins _ _

theorem extendAdd_keepsPins (rn rd rm : RegNo) (rot : BitVec 2) (f : Word → Word → Word) :
    KeepsPins (extendAdd rn rd rm rot f) :=
  .bind (noPc_keepsPins _) fun _ => .bind (.look _) fun _ => finishReg_keepsPins _ _

/-- In Debug state the return may be ignored, so that the state is again the one before the instruction. -/
theorem exceptionReturn_keepsPins (before : State) (v target : Word) :
    Stays (fun s => s.pins = before.pins) (fun s => s.pins = before.pins) (exceptionReturn before v target) := by
  refine .bind (fun s (hs : s.pins = before.pins) => ?_) fun _ => .update fun _ => id
  unfold cpsrWriteByReturn
  split
  · trivial
  · split
    · trivial
    · dsimp only
      split
      · rfl
      · exact (s.setCpsr_pins _).trans hs

theorem finishDp_keepsPins (sf : Bool) (rd : RegNo) (r : Word) (flags : Psr → Psr) :
    KeepsPins (finishDp sf rd r flags) :=
  .ite (.ite (.bind currentSpsr_keepsPins fun _ => .lookThen fun _ => exceptionReturn_keepsPins _ _ _)
    (.update fun _ => rfl)) (updateNext_keepsPins fun _ => State.setFlagsIf_pins _ sf _)

theorem dpLogical_keepsPins (sf : Bool) (rd rn : RegNo) (f : Word → Word → Word) (o : Operand) :
    KeepsPins (dpLogical sf rd rn f o) :=
  .bind (.look _) fun _ => .bind (.look _) fun _ => finishDp_keepsPins _ _ _ _

theorem dpMove_keepsPins (sf : Bool) (rd : RegNo) (f : Word → Word) (o : Operand) : KeepsPins (dpMove sf rd f o) :=
  .bind (.look _) fun _ => finishDp_keepsPins _ _ _ _

theorem dpArithmetic_keepsPins (sf : Bool) (rd rn : RegNo) (f : Word → Word → Bool → Sum) (o : Operand) :
    KeepsPins (dpArithmetic sf rd rn f o) :=
  .bind (.look _) fun _ => .bind (.look _) fun _ => finishDp_keepsPins _ _ _ _

/-! Loads and stores -/

theorem loadSingle_keepsPins (ty : AccType) (n : Nat) (user : Bool) (f : Word → Word) (rn rd : RegNo) (a : Indexed) :
    KeepsPins (loadSingle ty n user f rn rd a) :=
  .bind (.look _) fun _ => .bind (memRead_keepsPins _ _ _) fun _ => .bind (writeBase_keepsPins _ _) fun _ =>
    finishReg_keepsPins _ _

theorem loadWord_keepsPins (rn rd : RegNo) (a : Indexed) : KeepsPins (loadWord rn rd a) :=
  .ite (.bind (.look _) fun _ => .bind (memRead_keepsPins _ _ _) fun _ => .bind (writeBase_keepsPins _ _) fun _ =>
    loadPc_keepsPins _) (loadSingle_keepsPins _ _ _ _ _ _ _)

theorem storeSingle_keepsPins (ty : AccType) (n : Nat) (user : Bool) (rn rd : RegNo) (a : Indexed) :
    KeepsPins (storeSingle ty n user rn rd a) :=
  .bind (.look _) fun _ => .bind (.look _) fun _ => .bind (memWrite_keepsPins _ _ _ _) fun _ =>
    .bind (writeBase_keepsPins _ _) fun _ => advance_keepsPins

theorem loadDouble_keepsPins (rn rd : RegNo) (a : Indexed) : KeepsPins (loadDouble rn rd a) :=
  .bind (.look _) fun _ => .bind (alignData_keepsPins _ _) fun _ => .bind (readWordAt_keepsPins _ _) fun _ =>
    .bind dmaInterval_keepsPins fun _ => .bind (readWordAt_keepsPins _ _) fun _ => .bind (writeBase_keepsPins _ _) fun _ =>
      .bind (.update fun _ => rfl) fun _ => finishReg_keepsPins _ _

theorem storeDouble_keepsPins (rn rd : RegNo) (a : Indexed) : KeepsPins (storeDouble rn rd a) :=
  .bind (.look _) fun _ => .bind (.look _) fun _ => .bind (.look _) fun _ => .bind (alignData_keepsPins _ _) fun _ =>
    .bind (writeWords_keepsPins _ _ _) fun _ => .bind (writeBase_keepsPins _ _) fun _ => advance_keepsPins

theorem loadMultiple_keepsPins (p u wb : Bool) (rn : RegNo) (rs : List RegNo) :
    KeepsPins (loadMultiple p u wb rn rs) :=
  .bind (checkLoadList_keepsPins _ _ _) fun _ => .bind (.look _) fun _ => .bind (.look _) fun _ =>
    .bind (loadBlock_keepsPins _ _ _ _ _) fun _ => .bind (writeBase_keepsPins _ _) fun _ =>
      .bind (.update fun s => s.putRegs_pins _ _) fun _ => .ite (loadPc_keepsPins _) advance_keepsPins

theorem storeMultiple_keepsPins (p u wb : Bool) (rn : RegNo) (rs : List RegNo) :
    KeepsPins (storeMultiple p u wb rn rs) :=
  .bind (checkStoreList_keepsPins _ _ _) fun _ => .bind (.look _) fun _ => .bind (.look _) fun _ =>
    .bind (storeBlock_keepsPins _ _) fun _ => .bind (writeBase_keepsPins _ _) fun _ => advance_keepsPins

theorem storeExclusive_keepsPins (ty : AccType) (rn rd : RegNo) (value : State → List Byte) :
    KeepsPins (storeExclusive ty rn rd value) := by
  have finish (w : Word) : KeepsPins (do update fun s => { s with exclLocal := false }; finishReg rd w) :=
    .bind (.update fun _ => rfl) fun _ => finishReg_keepsPins _ _
  refine .bind (.look _) fun _ => .bind (.look _) fun _ => .bind (.look _) fun _ => .bind (alignData_keepsPins _ _) fun _ =>
    .bind (.update fun s => s.noteWatch_pins _ _ _) fun _ => .bind (.look _) fun _ => .ite ?_ (.bind (.pure _) finish)
  exact .bind (translateData_keepsPins _ _ _) fun _ => .bind (checkEndianness_keepsPins _) fun _ =>
    .bind (monitorPasses_keepsPins _ _ _) fun _ =>
      .ite (.bind (writeExclusive_keepsPins _ _ _ _) finish) (.bind (refusedExclusive_keepsPins _ _ _ _) finish)

theorem loadExclusiveReg_keepsPins (ty : AccType) (n : Nat) (rn rd : RegNo) : KeepsPins (loadExclusiveReg ty n rn rd) :=
  .bind (noPc_keepsPins _) fun _ => .bind (loadExclusive_keepsPins _ _ _) fun _ => .bind (.look _) fun _ =>
    finishReg_keepsPins _ _

theorem storeExclusiveReg_keepsPins (ty : AccType) (n : Nat) (rn rd rm : RegNo) :
    KeepsPins (storeExclusiveReg ty n rn rd rm) :=
  .bind (noPc_keepsPins _) fun _ => .bind (refuseIf_keepsPins _) fun _ => storeExclusive_keepsPins _ _ _ _

theorem swap_keepsPins (byte : Bool) (rn rd rm : RegNo) : KeepsPins (swap byte rn rd rm) :=
  .bind (noPc_keepsPins _) fun _ => .bind (refuseIf_keepsPins _) fun _ => .bind (.look _) fun _ => .bind (.look _) fun _ =>
    .bind (.look _) fun _ => .bind (.look _) fun _ => .bind (alignData_keepsPins _ _) fun _ =>
      .bind (translateData_keepsPins _ _ _) fun _ => .bind (translateData_keepsPins _ _ _) fun _ =>
        .bind (memRead_keepsPins _ _ _) fun _ => .bind (memWrite_keepsPins _ _ _ _) fun _ => finishReg_keepsPins _ _

/-! Status and exceptions -/

theorem writeStatus_keepsPins (spsr : Bool) (bytes v : Word) : KeepsPins (writeStatus spsr bytes v) :=
  .ite (.bind currentSpsr_keepsPins fun _ => .bind (.update fun _ => rfl) fun _ => advance_keepsPins)
    (.bind (.look _) fun _ => .ite (.bind (cpsrWriteHalted_keepsPins _ _) fun _ => advance_keepsPins)
      (.bind (cpsrWriteByInstr_keepsPins _ _) fun _ => advance_keepsPins))

theorem changeState_keepsPins (disable change a i f : Bool) (mode : Option (BitVec 5)) :
    KeepsPins (changeState disable change a i f mode) :=
  .bind (.look _) fun _ => .ite (.bind (cpsrWriteByInstr_keepsPins _ _) fun _ => advance_keepsPins) advance_keepsPins

theorem supervisorCall_keepsPins : KeepsPins supervisorCall := by
  refine .of_run fun s => ?_
  unfold supervisorCall
  split
  · rfl
  · exact enterException_pins _ s

theorem softwareBreakpoint_keepsPins : KeepsPins softwareBreakpoint := by
  refine .of_run fun s => ?_
  unfold softwareBreakpoint
  split
  · rfl
  · split
    · exact s.instructionEvent_pins _
    · exact s.debugPrefetchAbort_pins

/-! The debug coprocessor -/

theorem Cp14.afterRead_pins (r : Cp14) (s : State) : (r.afterRead s).pins = s.pins := ite_field _ _ _ _ rfl rfl

theorem Cp14.put_pins (r : Cp14) (v : Word) (s : State) : (r.put v s).pins = s.pins := by
  cases r <;> rfl

theorem cp14Read_keepsPins (op1 : BitVec 3) (crn crm : BitVec 4) (op2 : BitVec 3) (rd : RegNo) :
    KeepsPins (cp14Read op1 crn crm op2 rd) := by
  have open_ : KeepsPins (do openFlags; advance) := .bind openFlags_keepsPins fun _ => advance_keepsPins
  unfold cp14Read
  cases Cp14Space.of? op1 crn crm op2 with
  | none => exact takeUndefined_keepsPins
  | some space =>
    cases space with
    | trace =>
      exact .bind (.look _) fun _ => .ite takeUndefined_keepsPins (.ite open_ (finishReg_keepsPins _ _))
    | debug r =>
      refine .bind (.look _) fun _ => .ite takeUndefined_keepsPins (.bind (.look _) fun _ =>
        .bind (.update r.afterRead_pins) fun _ => .ite (.ite ?_ open_) (finishReg_keepsPins _ _))
      exact .bind (.update fun s => s.setFlags_pins _) fun _ => advance_keepsPins

theorem cp14Write_keepsPins (op1 : BitVec 3) (crn crm : BitVec 4) (op2 : BitVec 3) (rd : RegNo) :
    KeepsPins (cp14Write op1 crn crm op2 rd) := by
  unfold cp14Write
  cases Cp14Space.of? op1 crn crm op2 with
  | none => exact takeUndefined_keepsPins
  | some space =>
    cases space with
    | trace => exact .bind (.look _) fun _ => .ite takeUndefined_keepsPins (.ite (.refuse _) advance_keepsPins)
    | debug r =>
      exact .bind (.look _) fun _ => .ite takeUndefined_keepsPins (.bind (.look _) fun _ =>
        .ite (.refuse _) (.bind (.update (r.put_pins _)) fun _ => advance_keepsPins))

theorem debugTransfer_keepsPins (nBit : Bool) (crd : BitVec 4) (rn : RegNo) (m : Mode5) (w : Bool) :
    KeepsPins (debugTransfer nBit crd rn m w) :=
  .bind (.look _) fun _ => .ite takeUndefined_keepsPins (.bind (.look _) fun _ => .bind (refuseIf_keepsPins _) fun _ => .pure _)

theorem debugLoad_keepsPins (nBit : Bool) (crd : BitVec 4) (rn : RegNo) (m : Mode5) :
    KeepsPins (debugLoad nBit crd rn m) :=
  .bind (debugTransfer_keepsPins _ _ _ _ _) fun _ => .bind (.look _) fun _ => .bind (alignData_keepsPins _ _) fun _ =>
    .bind (readWordAt_keepsPins _ _) fun _ => .bind (writeBase_keepsPins _ _) fun _ =>
      .bind (.update fun _ => rfl) fun _ => advance_keepsPins

theorem debugStore_keepsPins (nBit : Bool) (crd : BitVec 4) (rn : RegNo) (m : Mode5) :
    KeepsPins (debugStore nBit crd rn m) :=
  .bind (debugTransfer_keepsPins _ _ _ _ _) fun _ => .bind (.look _) fun _ => .bind (alignData_keepsPins _ _) fun _ =>
    .bind (.look _) fun _ => .bind (writeWordAt_keepsPins _ _ _) fun _ => .bind (writeBase_keepsPins _ _) fun _ =>
      .bind (.update fun _ => rfl) fun _ => advance_keepsPins

/-! Maintenance operations -/

section

variable (s : State)

theorem State.dataSync_pins : s.dataSync.pins = s.pins :=
  ite_field _ _ _ _ rfl rfl

theorem State.barrierHalted_pins : s.barrierHalted.pins = s.pins :=
  ite_field _ _ _ _ rfl rfl

@[simp] theorem State.clearMasterValid_pins (data : Bool) : (s.clearMasterValid data).pins = s.pins := by
  cases data <;> rfl

@[simp] theorem State.dropCode_pins : s.dropCode.pins = s.pins := State.clearMasterValid_pins _ _

@[simp] theorem State.cleanInPlace_pins (l : CacheLine) (a : Word) :
    (s.cleanInPlace l a).pins = s.pins := ite_field _ _ _ _ (s.cleanLine_pins l a) rfl

@[simp] theorem State.cleanLines_pins (l : Lines) : (s.cleanLines l).pins = s.pins :=
  State.foldl_pins (fun t c => t.cleanInPlace_pins c _) _ s

@[simp] theorem State.invalidateLines_pins (l : Lines) : (s.invalidateLines l).pins = s.pins :=
  ite_field _ _ _ _ (State.clearMasterValid_pins _ _) rfl

@[simp] theorem State.clearDirtyStatus_pins : s.clearDirtyStatus.pins = s.pins :=
  ite_field _ _ _ _ rfl rfl

@[simp] theorem CacheOp.run_pins (op : CacheOp) (l : Lines) : (op.run l s).pins = s.pins := by
  cases op with
  | clean => exact s.cleanLines_pins l
  | invalidate => exact s.invalidateLines_pins l
  | cleanInvalidate => exact (State.invalidateLines_pins _ l).trans (s.cleanLines_pins l)

theorem State.dmaStop_pins (c : Bool) : (s.dmaStop c).pins = s.pins :=
  ite_field _ _ _ _ (s.dmaComplete_pins c) (ite_field _ _ _ _ (State.promote_pins _ _) rfl)

theorem State.dmaStart_pins (c : Bool) : (s.dmaStart c).pins = s.pins := ite_field _ _ _ _ rfl rfl

theorem State.dmaClear_pins (c : Bool) : (s.dmaClear c).pins = s.pins :=
  ite_field _ _ _ _ rfl (State.promote_pins _ _)

theorem State.tlbOperation_pins (by_ : By) (v : Word) : (s.tlbOperation by_ v).pins = s.pins := by
  cases by_ <;> rfl

theorem State.writeMasterValid_pins (data : Bool) (n : Nat) (v : Word) :
    (s.writeMasterValid data n v).pins = s.pins := by
  cases data <;> rfl

end

theorem onRange_keepsPins {f : Word → Exec Unit} (h : ∀ a, KeepsPins (f a)) (first last : Word) :
    KeepsPins (onRange f first last) := fun p => onRange_stays (fun a => h a p) first last

@[simp] theorem State.setCopy_pins (s : State) (f : Cp15Banked → Cp15Banked) : (s.setCopy f).pins = s.pins :=
  s.setBankOf_pins _ _

theorem maintenanceAbort_keepsPins (instr : Bool) (f : MmuFault) (mva : Word) :
    KeepsPins (maintenanceAbort instr f mva) :=
  .bind draw_keepsPins fun w => .endWith fun s => by
    dsimp only
    split <;> simp

theorem locate_keepsPins (instr : Bool) (mva : Word) : KeepsPins (locate instr mva) := by
  refine .of_run fun s => ?_
  have h := s.lookup_pins (!s.isSecure) (s.asidOf !s.isSecure) mva
  unfold locate
  dsimp only
  split
  · rfl
  · split
    · rename_i e
      rw [e] at h
      exact h
    · rename_i e
      rw [e] at h
      exact (KeepsPins.bind (maintenanceAbort_keepsPins _ _ _) fun _ => .pure _).run h
    · trivial

theorem cacheOperation_keepsPins (op : CacheOp) (l : Lines) :
    KeepsPins (op.apply l) := .update fun s => ite_field _ _ _ _ (by simp) (by simp)

theorem cacheAtMva_keepsPins (op : CacheOp) (mva : Word) : KeepsPins (op.atMva mva) :=
  .bind (locate_keepsPins _ _) fun _ => cacheOperation_keepsPins _ _

theorem cacheOn_keepsPins (op : CacheOp) (by_ : By) (v : Word) : KeepsPins (op.on by_ v) := by
  cases by_ with
  | all => exact cacheOperation_keepsPins _ _
  | mva => exact cacheAtMva_keepsPins _ _
  | index => exact .bind (.look _) fun _ => cacheOperation_keepsPins _ _

theorem invalidateCodeMva_keepsPins (mva : Word) : KeepsPins (invalidateCodeMva mva) :=
  .bind (locate_keepsPins _ _) fun _ => .update fun _ => rfl

theorem codeOperation_keepsPins (by_ : By) (v : Word) : KeepsPins (codeOperation by_ v) := by
  cases by_ with
  | all => exact .update fun s => s.dropCode_pins
  | mva => exact invalidateCodeMva_keepsPins _
  | index => exact .update fun _ => rfl

theorem translateVa_keepsPins (k : BitVec 3) (va : Word) : KeepsPins (translateVa k va) := by
  refine .of_run fun s => ?_
  have h := s.translate_pins (k.getLsbD 2 || !s.isSecure) (s.asidOf (k.getLsbD 2 || !s.isSecure))
    (s.fcse (k.getLsbD 2 || !s.isSecure) va) (if k.getLsbD 0 then .write else .read) (!k.getLsbD 1) .data
  have put (t : State) (ht : t.pins = s.pins) (v : Word) : (t.setPar v).pins = s.pins := (t.setBankOf_pins _ _).trans ht
  unfold translateVa
  dsimp only
  split
  · rename_i e
    rw [e] at h
    exact put _ h _
  · rename_i e
    rw [e] at h
    split
    · exact (takeDataAbort_keepsPins _ _ _).run (put _ h _)
    · exact put _ h _
  · trivial

/-! Writes of CP15 -/

theorem updateCopy_keepsPins (f : Cp15Banked → Cp15Banked) : KeepsPins (update fun s => s.setCopy f) :=
  .update fun s => s.setCopy_pins f

/-- A change that the DMA engine may forbid. -/
theorem guarded_keepsPins {g : State → Bool} {f : State → State} (h : ∀ s, (f s).pins = s.pins) :
    KeepsPins (do dmaGuard (← look g); update f) :=
  .bind (.look _) fun _ => .bind (dmaGuard_keepsPins _) fun _ => .update h

theorem changeTables_keepsPins (f : Cp15Banked → Cp15Banked) : KeepsPins (changeTables f) :=
  guarded_keepsPins fun s => s.setCopy_pins f

theorem replaceLock_keepsPins (f : State → TlbEntry) : KeepsPins (replaceLock f) := guarded_keepsPins fun _ => rfl

theorem State.withControl_pins (s : State) (v : Word) : (s.withControl v).pins = s.pins :=
  ite_field _ _ _ _ (s.setCopy_pins _) (s.setCopy_pins _)

theorem write_keepsPins (r : Cp15) (v : Word) : KeepsPins (r.write v) := by
  unfold Cp15.write
  refine .bind (.look _) fun shared => ?_
  cases r
  case ident | cacheType | tcmStatus | cacheDirty | dmaIdent | dmaStatus | interruptStatus | noOp | valCounter
    | valOperation => exact .pure _
  case sctlr => exact guarded_keepsPins fun s => s.withControl_pins v
  case nsacr | tcmRegion => exact guarded_keepsPins fun _ => rfl
  case ttbr0 | ttbr1 | ttbcr | dacr => exact changeTables_keepsPins _
  case dfsr | ifsr | far | ifar | par | vbar | tidUserRw | tidUserRo | tidPriv | ppmr => exact updateCopy_keepsPins _
  case scr | sder | mvbar | savc | cpacr | dLock | iLock | cbor | tlbLockdown | dmaUser | dmaChannel | ccnt | count
    | lockIndex | pmnc | wfar | flushPrefetch | flushBranches | flushBranchEntry => exact .update fun _ => rfl
  case actlr | tcmAccess => exact .update fun _ => ite_field _ _ _ _ rfl rfl
  case wfi | dsb => exact .update State.dataSync_pins
  case dmb => exact .update State.barrierHalted_pins
  case invalidateCode by_ => exact codeOperation_keepsPins by_ v
  case prefetchCode => exact .bind (locate_keepsPins _ _) fun _ => .pure _
  case dataCache op by_ => exact cacheOn_keepsPins op by_ v
  case invalidateBoth => exact .bind (.update State.dropCode_pins) fun _ => cacheOperation_keepsPins _ _
  case vaToPa k => exact translateVa_keepsPins k v
  case tlb by_ => exact .bind (dmaGuard_keepsPins _) fun _ => .update fun s => s.tlbOperation_pins by_ v
  case tcmSelect => exact .update fun s => ite_field _ _ _ _ rfl (s.setCopy_pins _)
  case prrr | nmrr => exact .bind (dmaGuard_keepsPins _) fun _ => updateCopy_keepsPins _
  case dmaCommand k =>
    exact .update fun s => ite_field _ _ _ _ (s.dmaStop_pins _)
      (ite_field _ _ _ _ (s.dmaStart_pins _) (s.dmaClear_pins _))
  case dmaControl | dmaIntStart | dmaExtStart | dmaIntEnd | dmaContext =>
    exact .update fun _ => ite_field _ _ _ _ rfl rfl
  case fcse => exact .bind (changeTables_keepsPins _) fun _ => .update fun _ => rfl
  case contextId => exact .update fun s => s.setCopy_pins fun b => { b with contextId := v }
  case cacheSizeMask => exact .ite (.refuse _) (.pure _)
  case masterValid data n => exact .update fun s => s.writeMasterValid_pins data n v
  case lockVa | lockPa | lockAttr => exact replaceLock_keepsPins _

theorem cp15Read_keepsPins (crn : BitVec 4) (op1 : BitVec 3) (crm : BitVec 4) (op2 : BitVec 3) (rd : RegNo) :
    KeepsPins (cp15Read crn op1 crm op2 rd) := by
  unfold cp15Read
  cases Cp15.of? crn op1 crm op2 with
  | none => exact takeUndefined_keepsPins
  | some r =>
    refine .bind (.look _) fun _ => .ite takeUndefined_keepsPins (.bind (.look _) fun v => ?_)
    cases v with
    | some v => exact .ite (.bind openFlags_keepsPins fun _ => advance_keepsPins) (finishReg_keepsPins _ _)
    | none => exact advance_keepsPins

theorem cp15Write_keepsPins (crn : BitVec 4) (op1 : BitVec 3) (crm : BitVec 4) (op2 : BitVec 3) (rd : RegNo) :
    KeepsPins (cp15Write crn op1 crm op2 rd) := by
  unfold cp15Write
  cases Cp15.of? crn op1 crm op2 with
  | none => exact takeUndefined_keepsPins
  | some r =>
    exact .bind (.look _) fun _ => .ite takeUndefined_keepsPins (.ite (.refuse _)
      (.bind (.look _) fun v => .bind (write_keepsPins r v) fun _ => advance_keepsPins))

theorem cp15Range_keepsPins (op1 crm : BitVec 4) (rd rn : RegNo) : KeepsPins (cp15Range op1 crm rd rn) := by
  unfold cp15Range
  cases RangeOp.of? op1 crm with
  | none => exact takeUndefined_keepsPins
  | some r =>
    refine .bind (.look _) fun _ => .ite takeUndefined_keepsPins (.ite (.refuse _) (.bind (.look _) fun _ =>
      .bind (.look _) fun _ => .bind (onRange_keepsPins ?_ _ _) fun _ => advance_keepsPins))
    cases r with
    | invalidateCode => exact invalidateCodeMva_keepsPins
    | dataCache op => exact cacheAtMva_keepsPins op

/-! The VFP11 -/

theorem State.writeFpReg_pins (s : State) (r : FpReg) (v : Word) : (s.writeFpReg r v).pins = s.pins := by
  cases r <;> rfl

theorem settle_keepsPins {put : DWord → State → State} (h : ∀ r s, (put r s).pins = s.pins) (word : Word)
    (n : Nat) (v : Verdict) : KeepsPins (settle word n put v) := by
  cases v with
  | bounce f => exact .bind (.update fun _ => rfl) fun _ => .pure _
  | done r => exact .bind (.update fun s => h _ s) fun _ => .pure _

theorem iterate_keepsPins (p : Prec) (op : FpOp) (base : Word) (d n m : BitVec 5) (k : Nat) :
    KeepsPins (iterate p op base d n m k) :=
  .bind (.look _) fun _ => settle_keepsPins (fun _ s => s.setFp_pins _ _ _) _ _ _

theorem moveOne_keepsPins (p : Prec) (f : DWord → DWord) (d n m : BitVec 5) (k : Nat) : KeepsPins (moveOne p f d n m k) :=
  .bind (.update fun s => s.setFp_pins _ _ _) fun _ => .pure _

theorem shortVector_keepsPins {body : BitVec 5 → BitVec 5 → BitVec 5 → Nat → Exec Bool}
    (h : ∀ d n m k, KeepsPins (body d n m k)) (p : Prec) (d n m : BitVec 5) (useN : Bool) :
    KeepsPins (shortVector p d n m useN body) := fun c =>
  shortVector_stays (fun d n m k => h d n m k c) _ _ _ _ _

theorem readFpReg_keepsPins (r : FpReg) : KeepsPins (readFpReg r) := by
  cases r
  case fpinst2 => exact .bind (.look _) fun _ => .ite (.look _) draw_keepsPins
  all_goals exact .look _

theorem vfpAccess_keepsPins (cp11 sys : Bool) : KeepsPins (vfpAccess cp11 sys) :=
  .branch takeUndefined_keepsPins (.branch takeUndefined_keepsPins (.branch (.refuse _)
    (.branch takeUndefined_keepsPins (.pure _))))

theorem vfpReady_keepsPins (cp11 : Bool) : KeepsPins (vfpReady cp11) :=
  .bind (vfpAccess_keepsPins _ _) fun _ => .bind (.look _) fun _ => .ite takeUndefined_keepsPins (.pure _)

theorem inexactBounce_keepsPins : KeepsPins inexactBounce := by
  refine .of_run fun s => ?_
  unfold inexactBounce
  split
  · exact takeUndefined_keepsPins.run (t := { s with vfp := { s.vfp with fpexc := s.vfp.fpexc ||| 0x80000000#32 } }) rfl
  · rfl

theorem vectorArithmetic_keepsPins (p : Prec) (op : FpOp) (base : Word) (d n m : BitVec 5) :
    KeepsPins (vectorArithmetic p op base d n m) :=
  .bind (vfpReady_keepsPins _) fun _ => .bind inexactBounce_keepsPins fun _ => .bind (.look _) fun _ => .ite (.refuse _)
    (.bind (shortVector_keepsPins (iterate_keepsPins p op base) _ _ _ _ _) fun _ => advance_keepsPins)

theorem vectorMove_keepsPins (p : Prec) (f : DWord → DWord) (d m : BitVec 5) : KeepsPins (vectorMove p f d m) :=
  .bind (vfpReady_keepsPins _) fun _ => .bind (shortVector_keepsPins (moveOne_keepsPins p f) _ _ _ _ _) fun _ => advance_keepsPins

theorem scalarOnly_keepsPins (cp11 : Bool) (word : Word) (v : State → Verdict) {put : DWord → State → State}
    (h : ∀ r s, (put r s).pins = s.pins) : KeepsPins (scalarOnly cp11 word v put) :=
  .bind (vfpReady_keepsPins _) fun _ => .bind inexactBounce_keepsPins fun _ => .bind (.look _) fun _ =>
    .bind (settle_keepsPins h _ _ _) fun _ => advance_keepsPins

theorem fpCompare_keepsPins (p : Prec) (signal : Bool) (base : Word) (d : BitVec 5) (m : Option (BitVec 5)) :
    KeepsPins (fpCompare p signal base d m) := scalarOnly_keepsPins _ _ _ fun _ s => s.setFpscr_pins _

theorem fpFromInt_keepsPins (p : Prec) (value : Word → Int) (base : Word) (d m : BitVec 5) :
    KeepsPins (fpFromInt p value base d m) := scalarOnly_keepsPins _ _ _ fun _ s => s.setFp_pins _ _ _

theorem fpToInt_keepsPins (p : Prec) (signed zero : Bool) (base : Word) (d m : BitVec 5) :
    KeepsPins (fpToInt p signed zero base d m) := scalarOnly_keepsPins _ _ _ fun _ s => s.setFp_pins _ _ _

theorem fpLoad_keepsPins (many : Option Prec) (rn : RegNo) (start : Word) (back : Option Word) (rs : List (BitVec 5)) :
    KeepsPins (fpLoad many rn start back rs) :=
  .bind (.look _) fun _ => .bind (alignData_keepsPins _ _) fun _ => .bind (readSingles_keepsPins _ _ _ _ _) fun _ =>
    .bind (.update fun s => s.putSingles_pins _) fun _ => .bind (writeBase_keepsPins _ _) fun _ => advance_keepsPins

theorem fpStore_keepsPins (rn : RegNo) (start : Word) (back : Option Word) (rs : List (BitVec 5)) :
    KeepsPins (fpStore rn start back rs) :=
  .bind (.look _) fun _ => .bind (storeBlock_keepsPins _ _) fun _ => .bind (writeBase_keepsPins _ _) fun _ => advance_keepsPins

theorem fpLoadOne_keepsPins (p : Prec) (u : Bool) (rn : RegNo) (d : BitVec 5) (imm : BitVec 8) :
    KeepsPins (fpLoadOne p u rn d imm) :=
  .bind (vfpReady_keepsPins _) fun _ => .bind (.look _) fun _ => .bind (.look _) fun _ => fpLoad_keepsPins _ _ _ _ _

theorem fpStoreOne_keepsPins (p : Prec) (u : Bool) (rn : RegNo) (d : BitVec 5) (imm : BitVec 8) :
    KeepsPins (fpStoreOne p u rn d imm) :=
  .bind (vfpReady_keepsPins _) fun _ => .bind (.look _) fun _ => .bind (.look _) fun _ => fpStore_keepsPins _ _ _ _

theorem fpLoadMany_keepsPins (p : Prec) (up wb : Bool) (rn : RegNo) (d : BitVec 5) (count words : Nat) :
    KeepsPins (fpLoadMany p up wb rn d count words) :=
  .bind (vfpReady_keepsPins _) fun _ => .bind (checkCount_keepsPins _ _ _ _ _) fun _ => .bind (.look _) fun _ =>
    .bind (.look _) fun _ => fpLoad_keepsPins _ _ _ _ _

theorem fpStoreMany_keepsPins (p : Prec) (up wb : Bool) (rn : RegNo) (d : BitVec 5) (count words : Nat) :
    KeepsPins (fpStoreMany p up wb rn d count words) :=
  .bind (vfpReady_keepsPins _) fun _ => .bind (checkCount_keepsPins _ _ _ _ _) fun _ => .bind (.look _) fun _ =>
    .bind (.look _) fun _ => fpStore_keepsPins _ _ _ _

theorem fpFromCore_keepsPins (cp11 : Bool) (sources : List RegNo) {f : State → State}
    (h : ∀ s, (f s).pins = s.pins) : KeepsPins (fpFromCore cp11 sources f) :=
  .bind (vfpReady_keepsPins _) fun _ => .bind (noPc_keepsPins _) fun _ => .bind (.update h) fun _ => advance_keepsPins

theorem fpToCore_keepsPins (cp11 : Bool) (rd : RegNo) (value : State → Word) : KeepsPins (fpToCore cp11 rd value) :=
  .bind (vfpReady_keepsPins _) fun _ => .bind (noPc_keepsPins _) fun _ => .bind (.look _) fun _ => finishReg_keepsPins _ _

theorem fpFromPair_keepsPins (cp11 last : Bool) (rd rn : RegNo) (a b : BitVec 5) :
    KeepsPins (fpFromPair cp11 last rd rn a b) :=
  .bind (vfpReady_keepsPins _) fun _ => .bind (checkPair_keepsPins _ _ _ _) fun _ => .bind (.update fun _ => rfl) fun _ =>
    advance_keepsPins

theorem fpToPair_keepsPins (cp11 last : Bool) (rd rn : RegNo) (a b : BitVec 5) :
    KeepsPins (fpToPair cp11 last rd rn a b) :=
  .bind (vfpReady_keepsPins _) fun _ => .bind (checkPair_keepsPins _ _ _ _) fun _ => .bind (.look _) fun _ =>
    .bind (.look _) fun _ => .bind (.update fun _ => rfl) fun _ => finishReg_keepsPins _ _

theorem fpSystem_keepsPins (sysReg : BitVec 4) : KeepsPins (fpSystem sysReg) := by
  refine .bind (vfpAccess_keepsPins _ _) fun _ => .bind (.look _) fun _ => .ite takeUndefined_keepsPins
    (.bind (.look _) fun _ => ?_)
  cases FpReg.of? sysReg with
  | none => exact takeUndefined_keepsPins
  | some r => exact .ite takeUndefined_keepsPins (.pure _)

/-! Coprocessor instructions -/

theorem noCoprocessor_keepsPins (cp : BitVec 4) : KeepsPins (noCoprocessor cp) := by
  have absent (cp11 : Bool) {m : Exec Unit} (h : KeepsPins m) : KeepsPins (do vfpAccess cp11 false; m) :=
    .bind (vfpAccess_keepsPins _ _) fun _ => h
  have second := KeepsPins.ite (p := cp = 11) (absent true takeUndefined_keepsPins) takeUndefined_keepsPins
  exact .ite (absent false second) second

theorem coprocWrite_keepsPins (cp : BitVec 4) (op1 : BitVec 3) (crn crm : BitVec 4) (op2 : BitVec 3) (rd : RegNo) :
    KeepsPins (coprocWrite cp op1 crn crm op2 rd) :=
  .ite (cp15Write_keepsPins _ _ _ _ _) (.ite (cp14Write_keepsPins _ _ _ _ _) (noCoprocessor_keepsPins _))

theorem coprocRead_keepsPins (cp : BitVec 4) (op1 : BitVec 3) (crn crm : BitVec 4) (op2 : BitVec 3) (rd : RegNo) :
    KeepsPins (coprocRead cp op1 crn crm op2 rd) :=
  .ite (cp15Read_keepsPins _ _ _ _ _) (.ite (cp14Read_keepsPins _ _ _ _ _) (noCoprocessor_keepsPins _))

theorem coprocLoad_keepsPins (cp : BitVec 4) (nBit : Bool) (crd : BitVec 4) (rn : RegNo) (m : Mode5) :
    KeepsPins (coprocLoad cp nBit crd rn m) := .ite (debugLoad_keepsPins _ _ _ _) (noCoprocessor_keepsPins _)

theorem coprocStore_keepsPins (cp : BitVec 4) (nBit : Bool) (crd : BitVec 4) (rn : RegNo) (m : Mode5) :
    KeepsPins (coprocStore cp nBit crd rn m) := .ite (debugStore_keepsPins _ _ _ _) (noCoprocessor_keepsPins _)

theorem execSrs_keepsPins (p u wb : Bool) (mode : BitVec 5) (s : State) :
    Sound (fun t => t.pins = s.pins) (execSrs p u wb mode s) := by
  refine KeepsPins.outcome (.bind currentSpsr_keepsPins fun _ => .bind (.look _) fun _ => .ite takeUndefined_keepsPins ?_) s
  cases Mode.ofBits? mode with
  | none => exact .refuse _
  | some m =>
    exact .bind (.look _) fun _ => .bind (.look _) fun _ => .bind (storeBlock_keepsPins _ _) fun _ =>
      .bind (.update fun _ => ite_field _ _ _ _ rfl rfl) fun _ => advance_keepsPins

/-- No instruction changes the pins. (Each case is a lemma of its own: together the unfoldings of `exec` are too large for
one declaration.) -/
theorem exec_keepsPins (i : Instr) (s : State) : Sound (fun t => t.pins = s.pins) (exec i s) := by
  have run {m : Exec Unit} (h : KeepsPins m) : Sound (fun t => t.pins = s.pins) (outcome m s) := h.outcome s
  have runIf {c : Cond} {m : Exec Unit} (h : KeepsPins m) : Sound (fun t => t.pins = s.pins) (outcome (conditional c m) s) :=
    run (conditional_keepsPins c h)
  cases i
  case cps | tCps => as_aux_lemma => exact run (.ite (.refuse _) (changeState_keepsPins _ _ _ _ _ _))
  case setend | tSetend => as_aux_lemma => exact run (setEndian_keepsPins _)
  case clrex => as_aux_lemma =>
    unfold exec
    refine run ?_
    exact .bind (.update fun _ => rfl) fun _ => advance_keepsPins
  case pldImm | nop | yield | nopReservedHint => as_aux_lemma => exact run advance_keepsPins
  case pldReg => as_aux_lemma => exact run (.bind (noPc_keepsPins _) fun _ => advance_keepsPins)
  case srs => exact execSrs_keepsPins _ _ _ _ s
  case rfe => as_aux_lemma =>
    exact run (.bind (.look _) fun _ => .ite (.refuse _) (.lookThen fun _ => .bind (.look _) fun _ =>
      .bind (alignData_keepsPins _ _ _) fun _ => .bind (readWordAt_keepsPins _ _ _) fun _ =>
        .bind (dmaInterval_keepsPins _) fun _ => .bind (readWordAt_keepsPins _ _ _) fun _ =>
          .bind (writeBase_keepsPins _ _ _) fun _ => exceptionReturn_keepsPins _ _ _))
  case bkpt | tBkpt => as_aux_lemma => exact run softwareBreakpoint_keepsPins
  case smc => as_aux_lemma =>
    exact runIf (.bind (.look _) fun _ => .bind (.look _) fun _ => .ite advance_keepsPins
      (.ite (.endWith fun _ => enterException_pins _ _) takeUndefined_keepsPins))
  case svc => as_aux_lemma => exact runIf supervisorCall_keepsPins
  case tSvc => as_aux_lemma => exact run supervisorCall_keepsPins
  case mrs => as_aux_lemma =>
    exact runIf (.bind (noPc_keepsPins _) fun _ => .bind (.look _) fun _ =>
      .ite (.bind currentSpsr_keepsPins fun _ => finishReg_keepsPins _ _) (.bind (.pure _) fun _ => finishReg_keepsPins _ _))
  case msrReg => as_aux_lemma =>
    exact runIf (.bind (noPc_keepsPins _) fun _ => .bind (.look _) fun _ =>
      writeStatus_keepsPins _ _ _)
  case msrImm => as_aux_lemma => exact runIf (writeStatus_keepsPins _ _ _)
  -- branches
  case blxImm => as_aux_lemma =>
    unfold exec
    refine run ?_
    exact .bind (.look _) fun _ => .update fun _ => rfl
  case b => as_aux_lemma => exact run (conditionalBranch_keepsPins _ (.update fun _ => rfl))
  case bl => as_aux_lemma =>
    exact run (conditionalBranch_keepsPins _ (.bind (.look _) fun _ => .bind (link_keepsPins _ _) fun _ => .update fun _ => rfl))
  case bx => as_aux_lemma => exact run (conditionalBranch_keepsPins _ (.bind (.look _) fun _ => bxWritePc_keepsPins _))
  case bxj => as_aux_lemma =>
    exact run (conditionalBranch_keepsPins _ (.bind (noPc_keepsPins _) fun _ => .bind (.look _) fun _ => bxWritePc_keepsPins _))
  case blxReg => as_aux_lemma =>
    exact run (conditionalBranch_keepsPins _ (.bind (noPc_keepsPins _) fun _ => .bind (.look _) fun _ =>
      .bind (link_keepsPins _ _) fun _ => bxWritePc_keepsPins _))
  case tBx => as_aux_lemma => exact run (.bind (.look _) fun _ => bxWritePc_keepsPins _)
  case tBlx2 => as_aux_lemma =>
    exact run (.bind (noPc_keepsPins _) fun _ => .bind (.look _) fun _ => .bind (link_keepsPins _ _) fun _ => bxWritePc_keepsPins _)
  case tB1 => as_aux_lemma => exact run (conditionalBranch_keepsPins _ (.update fun _ => rfl))
  case tB2 | tBlSuffix | tBlx1Suffix => as_aux_lemma =>
    unfold exec
    refine run ?_
    exact .update fun _ => rfl
  -- data processing
  case andImm | andShift | eorImm | eorShift | orrImm | orrShift | bicImm | bicShift => as_aux_lemma =>
    exact runIf (dpLogical_keepsPins _ _ _ _ _)
  case andRegShift | eorRegShift | orrRegShift | bicRegShift => as_aux_lemma =>
    exact runIf (.bind (noPc_keepsPins _) fun _ => dpLogical_keepsPins _ _ _ _ _)
  case subImm | subShift | rsbImm | rsbShift | addImm | addShift | adcImm | adcShift | sbcImm | sbcShift | rscImm
    | rscShift => as_aux_lemma => exact runIf (dpArithmetic_keepsPins _ _ _ _ _)
  case subRegShift | rsbRegShift | addRegShift | adcRegShift | sbcRegShift | rscRegShift => as_aux_lemma =>
    exact runIf (.bind (noPc_keepsPins _) fun _ => dpArithmetic_keepsPins _ _ _ _ _)
  case movImm | movShift | mvnImm | mvnShift => as_aux_lemma => exact runIf (dpMove_keepsPins _ _ _ _)
  case movRegShift | mvnRegShift => as_aux_lemma =>
    exact runIf (.bind (noPc_keepsPins _) fun _ => dpMove_keepsPins _ _ _ _)
  case cpy => as_aux_lemma => exact runIf (dpMove_keepsPins _ _ _ _)
  case tstImm | tstShift | teqImm | teqShift => as_aux_lemma => exact runIf (dpTest_keepsPins _ _ _)
  case tstRegShift | teqRegShift => as_aux_lemma => exact runIf (.bind (noPc_keepsPins _) fun _ => dpTest_keepsPins _ _ _)
  case cmpImm | cmpShift | cmnImm | cmnShift => as_aux_lemma => exact runIf (dpCompare_keepsPins _ _ _)
  case cmpRegShift | cmnRegShift => as_aux_lemma => exact runIf (.bind (noPc_keepsPins _) fun _ => dpCompare_keepsPins _ _ _)
  case tMov2 | tAdd3 | tSub3 | tAdd1 | tSub1 | tAdd2 | tSub2 | tAdc | tSbc | tNeg => as_aux_lemma =>
    exact run (dpArithmetic_keepsPins _ _ _ _ _)
  case tLsl1 | tLsr1 | tAsr1 | tMov1 | tLsl2 | tLsr2 | tAsr2 | tRor | tMvn => as_aux_lemma => exact run (dpMove_keepsPins _ _ _ _)
  case tAnd | tEor | tOrr | tBic => as_aux_lemma => exact run (dpLogical_keepsPins _ _ _ _ _)
  case tCmp1 | tCmp2 | tCmn => as_aux_lemma => unfold exec; exact run (dpCompare_keepsPins _ _ _)
  case tCmp3 => as_aux_lemma => exact run (.bind (refuseIf_keepsPins _) fun _ => dpCompare_keepsPins _ _ _)
  case tTst => as_aux_lemma => exact run (dpTest_keepsPins _ _ _)
  case tAdd4 => as_aux_lemma => exact run (.bind (refuseIf_keepsPins _) fun _ => .bind (.look _) fun _ => finishHigh_keepsPins _ _)
  case tMov3 => as_aux_lemma => exact run (.bind (.look _) fun _ => finishHigh_keepsPins _ _)
  case tCpy | tAdd5 | tAdd6 | tAdd7 | tSub4 | tSxth | tSxtb | tUxth | tUxtb | tRev | tRev16 | tRevsh | tBlBlxPrefix => as_aux_lemma =>
    unfold exec
    exact run (.bind (.look _) fun _ => finishReg_keepsPins _ _)
  -- multiplies and media
  case clz | sel | rev | rev16 | revsh | smusd | smmul | usad8 | usada8 => as_aux_lemma =>
    exact runIf (.bind (noPc_keepsPins _) fun _ => .bind (.look _) fun _ => finishReg_keepsPins _ _)
  case pkhbt | pkhtb | smmla | smmls => as_aux_lemma =>
    exact runIf (.bind (noPc_keepsPins _) fun _ => .bind (.look _) fun _ => .bind (.look _) fun _ =>
      finishReg_keepsPins _ _)
  case qadd | qsub | qdadd | qdsub => as_aux_lemma => exact runIf (saturating_keepsPins _ _ _ _ _)
  case smlaXY | smlawY | ssat16 | usat16 | ssat | usat | smuad => as_aux_lemma =>
    exact runIf (.bind (noPc_keepsPins _) fun _ => .bind (.look _) fun _ => finishQ_keepsPins _ _ _)
  case smlad | smlsd => as_aux_lemma =>
    exact runIf (.bind (noPc_keepsPins _) fun _ => .bind (.look _) fun _ => .bind (.look _) fun _ =>
      finishQ_keepsPins _ _ _)
  case smulwY | smulXY | mul | mla => as_aux_lemma =>
    exact runIf (.bind (noPc_keepsPins _) fun _ => .bind (.look _) fun _ => finishMul_keepsPins _ _ _)
  case tMul => as_aux_lemma => unfold exec; exact run (.bind (.look _) fun _ => finishMul_keepsPins _ _ _)
  case smlalXY | umaal | umull | umlal | smull | smlal => as_aux_lemma =>
    exact runIf (.bind (noPc_keepsPins _) fun _ => .bind (distinct_keepsPins _ _) fun _ => .bind (.look _) fun _ =>
      finishLong_keepsPins _ _ _ _)
  case smlald | smlsld => as_aux_lemma =>
    exact runIf (.bind (noPc_keepsPins _) fun _ => .bind (distinct_keepsPins _ _) fun _ => .bind (.look _) fun _ =>
      .bind (.look _) fun _ => finishLong_keepsPins _ _ _ _)
  case sadd16 | qadd16 | shadd16 | uadd16 | uqadd16 | uhadd16 | saddsubx | qaddsubx | shaddsubx | uaddsubx | uqaddsubx
    | uhaddsubx | ssubaddx | qsubaddx | shsubaddx | usubaddx | uqsubaddx | uhsubaddx | ssub16 | qsub16 | shsub16 | usub16
    | uqsub16 | uhsub16 | sadd8 | qadd8 | shadd8 | uadd8 | uqadd8 | uhadd8 | ssub8 | qsub8 | shsub8 | usub8 | uqsub8
    | uhsub8 => as_aux_lemma => exact runIf (parallel_keepsPins _ _ _ _ _)
  case sxtb16 | sxtb | sxth | uxtb16 | uxtb | uxth => as_aux_lemma => exact runIf (extend_keepsPins _ _ _ _)
  case sxtab16 | sxtab | sxtah | uxtab16 | uxtab | uxtah => as_aux_lemma => exact runIf (extendAdd_keepsPins _ _ _ _ _)
  -- loads and stores
  case ldrImm | ldrReg => as_aux_lemma =>
    exact runIf (.bind (checkSingle_keepsPins _ _ _ _ _) fun _ => .bind (.look _) fun _ => loadWord_keepsPins _ _ _)
  case ldrtImm | ldrtReg | ldrbtImm | ldrbtReg | ldrbImm | ldrbReg => as_aux_lemma =>
    exact runIf (.bind (checkSingle_keepsPins _ _ _ _ _) fun _ => .bind (.look _) fun _ =>
      loadSingle_keepsPins _ _ _ _ _ _ _)
  case strtImm | strtReg | strbtImm | strbtReg | strImm | strReg | strbImm | strbReg => as_aux_lemma =>
    exact runIf (.bind (checkSingle_keepsPins _ _ _ _ _) fun _ => .bind (.look _) fun _ =>
      storeSingle_keepsPins _ _ _ _ _ _)
  case ldrhImm | ldrhReg | ldrsbImm | ldrsbReg | ldrshImm | ldrshReg => as_aux_lemma =>
    exact runIf (.bind (checkMode3_keepsPins _ _) fun _ => .bind (checkSingle_keepsPins _ _ _ _ _) fun _ =>
      .bind (.look _) fun _ => loadSingle_keepsPins _ _ _ _ _ _ _)
  case strhImm | strhReg => as_aux_lemma =>
    exact runIf (.bind (checkMode3_keepsPins _ _) fun _ => .bind (checkSingle_keepsPins _ _ _ _ _) fun _ =>
      .bind (.look _) fun _ => storeSingle_keepsPins _ _ _ _ _ _)
  case ldrdImm | ldrdReg => as_aux_lemma =>
    exact runIf (.bind (checkMode3_keepsPins _ _) fun _ => .bind (checkDouble_keepsPins _ _ _ _ _) fun _ =>
      .bind (.look _) fun _ => loadDouble_keepsPins _ _ _)
  case strdImm | strdReg => as_aux_lemma =>
    exact runIf (.bind (checkMode3_keepsPins _ _) fun _ => .bind (checkDouble_keepsPins _ _ _ _ _) fun _ =>
      .bind (.look _) fun _ => storeDouble_keepsPins _ _ _)
  case tLdr3 | tLdrsb | tLdr2 | tLdrh2 | tLdrb2 | tLdrsh | tLdr1 | tLdrb1 | tLdrh1 | tLdr4 => as_aux_lemma =>
    exact run (.bind (.look _) fun _ => loadSingle_keepsPins _ _ _ _ _ _ _)
  case tStr2 | tStrh2 | tStrb2 | tStr1 | tStrb1 | tStrh1 | tStr3 => as_aux_lemma =>
    exact run (.bind (.look _) fun _ => storeSingle_keepsPins _ _ _ _ _ _)
  case swp | swpb => as_aux_lemma => exact runIf (swap_keepsPins _ _ _ _)
  case ldrex | ldrexb | ldrexh => as_aux_lemma => exact runIf (loadExclusiveReg_keepsPins _ _ _ _)
  case strex | strexb | strexh => as_aux_lemma => exact runIf (storeExclusiveReg_keepsPins _ _ _ _ _)
  case ldrexd => as_aux_lemma =>
    exact runIf (.bind (noPc_keepsPins _) fun _ => .bind (refuseIf_keepsPins _) fun _ =>
      .bind (loadExclusive_keepsPins _ _ _) fun _ => .bind (.look _) fun _ => .bind (.update fun _ => rfl) fun _ =>
        finishReg_keepsPins _ _)
  case strexd => as_aux_lemma =>
    exact runIf (.bind (noPc_keepsPins _) fun _ => .bind (refuseIf_keepsPins _) fun _ => storeExclusive_keepsPins _ _ _ _)
  case ldm1 => as_aux_lemma => exact runIf (loadMultiple_keepsPins _ _ _ _ _)
  case tPop => as_aux_lemma => exact run (loadMultiple_keepsPins _ _ _ _ _)
  case stm1 => as_aux_lemma => exact runIf (storeMultiple_keepsPins _ _ _ _ _)
  case tPush | tStmia => as_aux_lemma => exact run (storeMultiple_keepsPins _ _ _ _ _)
  case ldm3 => as_aux_lemma =>
    exact runIf (.bind exceptionModeOnly_keepsPins fun _ => .bind (checkLoadList_keepsPins _ _ _) fun _ =>
      .lookThen fun _ => .bind (.look _) fun _ => .bind (.look _) fun _ => .bind (loadBlock_keepsPins _ _ _ _ _ _) fun _ =>
        .bind (writeBase_keepsPins _ _ _) fun _ => .bind (.update fun s hs => (s.putRegs_pins _ _).trans hs) fun _ =>
          .bind currentSpsr_stays fun _ => exceptionReturn_keepsPins _ _ _)
  case ldm2 => as_aux_lemma =>
    exact runIf (.bind exceptionModeOnly_keepsPins fun _ => .bind (checkLoadList_keepsPins _ _ _) fun _ =>
      .bind (.look _) fun _ => .bind (loadBlock_keepsPins _ _ _ _ _) fun _ =>
        .bind (.update fun s => s.putRegs_pins _ _) fun _ => advance_keepsPins)
  case stm2 => as_aux_lemma =>
    exact runIf (.bind exceptionModeOnly_keepsPins fun _ => .bind (checkStoreList_keepsPins _ _ _) fun _ =>
      .bind (.look _) fun _ => .bind (.look _) fun _ => .bind (storeBlock_keepsPins _ _) fun _ => advance_keepsPins)
  case tLdmia => as_aux_lemma =>
    exact run (.bind (.ite (.refuse _) (.pure _)) fun _ => .bind (.look _) fun _ => .bind (.look _) fun _ =>
      .bind (loadBlock_keepsPins _ _ _ _ _) fun _ => .bind (writeBase_keepsPins _ _) fun _ =>
        .bind (.update fun s => s.putRegs_pins _ _) fun _ => advance_keepsPins)
  -- coprocessors
  case mcrr2 => as_aux_lemma => exact run (.ite (cp15Range_keepsPins _ _ _ _) takeUndefined_keepsPins)
  case mrrc2 | stc2Offset | stc2Post | stc2Unindexed | ldc2Offset | ldc2Post | ldc2Unindexed | cdp2 | mcr2 | mrc2
    | undefinedArm | tUndefined => as_aux_lemma => exact run takeUndefined_keepsPins
  case mcrr => as_aux_lemma => exact runIf (.ite (cp15Range_keepsPins _ _ _ _) (noCoprocessor_keepsPins _))
  case mrrc | cdp => as_aux_lemma => exact runIf (noCoprocessor_keepsPins _)
  case stcOffset | stcPost | stcUnindexed => as_aux_lemma => exact runIf (coprocStore_keepsPins _ _ _ _ _)
  case ldcOffset | ldcPost | ldcUnindexed => as_aux_lemma => exact runIf (coprocLoad_keepsPins _ _ _ _ _)
  case mcr => as_aux_lemma => exact runIf (coprocWrite_keepsPins _ _ _ _ _ _)
  case mrc => as_aux_lemma => exact runIf (coprocRead_keepsPins _ _ _ _ _ _)
  -- the VFP11
  case fmacs | fmacd | fnmacs | fnmacd | fmscs | fmscd | fnmscs | fnmscd | fmuls | fmuld | fnmuls | fnmuld | fadds | faddd
    | fsubs | fsubd | fdivs | fdivd | fsqrts | fsqrtd => as_aux_lemma =>
    exact runIf (vectorArithmetic_keepsPins _ _ _ _ _ _)
  case fcpys | fcpyd | fabss | fabsd | fnegs | fnegd => as_aux_lemma => exact runIf (vectorMove_keepsPins _ _ _ _)
  case fcmps | fcmpd | fcmpes | fcmped | fcmpzs | fcmpzd | fcmpezs | fcmpezd => as_aux_lemma =>
    exact runIf (fpCompare_keepsPins _ _ _ _ _)
  case fcvtds | fcvtsd => as_aux_lemma => exact runIf (scalarOnly_keepsPins _ _ _ fun _ s => s.setFp_pins _ _ _)
  case fuitos | fuitod | fsitos | fsitod => as_aux_lemma => exact runIf (fpFromInt_keepsPins _ _ _ _ _)
  case ftouis | ftouid | ftouizs | ftouizd | ftosis | ftosid | ftosizs | ftosizd => as_aux_lemma =>
    exact runIf (fpToInt_keepsPins _ _ _ _ _ _)
  case flds | fldd => as_aux_lemma => exact runIf (fpLoadOne_keepsPins _ _ _ _ _)
  case fsts | fstd => as_aux_lemma => exact runIf (fpStoreOne_keepsPins _ _ _ _ _)
  case fldmsIa | fldmsDb | fldmdIa | fldmdDb | fldmxIa | fldmxDb => as_aux_lemma =>
    exact runIf (fpLoadMany_keepsPins _ _ _ _ _ _ _)
  case fstmsIa | fstmsDb | fstmdIa | fstmdDb | fstmxIa | fstmxDb => as_aux_lemma =>
    exact runIf (fpStoreMany_keepsPins _ _ _ _ _ _ _)
  case fmsr | fmdlr | fmdhr => as_aux_lemma => exact runIf (fpFromCore_keepsPins _ _ fun s => s.setSingle_pins _ _)
  case fmrs | fmrdl | fmrdh => as_aux_lemma => exact runIf (fpToCore_keepsPins _ _ _)
  case fmdrr | fmsrr => as_aux_lemma => exact runIf (fpFromPair_keepsPins _ _ _ _ _ _)
  case fmrrd | fmrrs => as_aux_lemma => exact runIf (fpToPair_keepsPins _ _ _ _ _ _)
  case fmxr => as_aux_lemma =>
    exact runIf (.bind (fpSystem_keepsPins _) fun _ => .bind (noPc_keepsPins _) fun _ =>
      .bind (.update fun s => s.writeFpReg_pins _ _) fun _ => advance_keepsPins)
  case fmrx => as_aux_lemma =>
    exact runIf (.bind (fpSystem_keepsPins _) fun _ => .bind (readFpReg_keepsPins _) fun _ =>
      .ite (.bind openFlags_keepsPins fun _ => advance_keepsPins) (finishReg_keepsPins _ _))
  case fmstat => as_aux_lemma =>
    exact runIf (.bind (fpSystem_keepsPins _) fun _ =>
      .bind (.update fun s => s.setFlags_pins _) fun _ => advance_keepsPins)

/-! A step -/

theorem fetch_keepsPins (n : Nat) : KeepsPins (fetch n) := by
  refine .of_run fun s => ?_
  have h := s.translate_pins (!s.isSecure) (s.asidOf !s.isSecure) (s.fcse (!s.isSecure) s.pc) .execute s.privileged .fetch
  unfold fetch
  dsimp only
  revert h
  cases s.translate (!s.isSecure) (s.asidOf !s.isSecure) (s.fcse (!s.isSecure) s.pc) .execute s.privileged .fetch with
  | refused r => exact id
  | abort f t => intro (h : t.pins = s.pins); exact (t.prefetchAbort_pins f).trans h
  | ok x t =>
    intro (h : t.pins = s.pins)
    dsimp only
    split
    · exact (t.prefetchAbort_pins _).trans h
    · split
      · trivial
      · split
        · exact draw_keepsPins.run h
        · exact h

theorem KeepsPins.keeps {α : Type} {m : Exec α} (h : KeepsPins m) (p : Pins) : Keeps (fun s => s.pins = p) m := by
  intro s hs
  have post := h p s hs
  match m s, post with
  | .ok _, post => exact post
  | .error (.took _), post => exact post
  | .error (.refused _), _ => trivial

/-- Nothing at the boundary changes the pins; a misaligned PC is a fault, after which there is no state. -/
theorem nextInstruction_keeps (p : Pins) : Keeps (fun s => s.pins = p) nextInstruction := by
  have ends {f : State → State} (h : ∀ s, (f s).pins = s.pins) : Keeps (fun s => s.pins = p) (endWith f : Exec Decoded) :=
    .endWith fun s hs => (h s).trans hs
  refine .bind (.look _) fun request => .bind (.look _) fun interrupt => .bind (.look _) fun jazelle =>
    .bind (.look _) fun thumb => .bind (.look _) fun aligned => ?_
  cases request with
  | some e => exact ends fun _ => rfl
  | none =>
    cases interrupt with
    | some x => exact ends fun s => enterException_pins x s
    | none =>
      dsimp only
      split
      · exact .refuse _
      · split
        · exact fun _ _ => trivial
        · refine .bind ((fetch_keepsPins _).keeps p) fun w => .bind (.look _) fun event => .bind (.look _) fun abort => ?_
          cases event with
          | some e => exact ends fun s => s.instructionEvent_pins e
          | none =>
            cases abort with
            | some a => exact ends fun s => s.takeImprecise_pins a
            | none =>
              dsimp only
              split
              · exact takeUndefined_keepsPins.keeps p
              · exact .bind (.update fun _ => id) fun _ => .pure _

theorem execDecoded_keepsPins (d : Decoded) (s : State) : Sound (fun t => t.pins = s.pins) (execDecoded d s) := by
  cases d with
  | instr i => exact exec_keepsPins i s
  | shouldBe _ => trivial
  | bkptCond => trivial
  | unallocated c => exact (conditional_keepsPins c takeUndefined_keepsPins).outcome s
  | unallocatedThumb => exact takeUndefined_keepsPins.outcome s

theorem runDecoded_pins {s t u : State} {d : Decoded} (h : runDecoded s t d = .next u) : u.pins = t.pins := by
  have run := execDecoded_keepsPins d t
  unfold runDecoded at h
  split at h
  · rename_i v e
    rw [e] at run
    split at h
    · cases h
    · cases h
      exact (State.count_pins _ _ _).trans ((State.watchpointEvent_pins _ _).trans run)
  · cases h
  · cases h

theorem stopped_pins {s t : State} {e : Stop} (h : stopped s e = .next t) : ∃ u, e = .took u ∧ t.pins = u.pins := by
  cases e with
  | took u => cases h; exact ⟨u, rfl, State.count_pins _ _ _⟩
  | fault f => cases h
  | refused r => cases h

theorem coreStep_pins {s t u : State} (h : coreStep s t = .next u) : u.pins = t.pins := by
  have next := nextInstruction_keeps t.pins t rfl
  unfold coreStep at h
  split at h
  · cases h
    exact State.count_pins _ _ _
  · split at h
    · rename_i e
      rw [e] at next
      obtain ⟨v, rfl, hv⟩ := stopped_pins h
      exact hv.trans next
    · rename_i e
      rw [e] at next
      exact (runDecoded_pins h).trans next

/-- Settles O5: each part of an instruction leaves the pins (`KeepsPins`), and so do the DMA engine, the boundary and what
follows the instruction. -/
theorem stepKeepsPins : Obligations.StepKeepsPins := by
  intro s t h
  have dma := dmaInterval_keepsPins.run (s := s) rfl
  unfold step machineStep at h
  split at h
  · rename_i e
    rw [e] at dma
    obtain ⟨u, rfl, hu⟩ := stopped_pins h
    exact hu.trans dma
  · rename_i e
    rw [e] at dma
    exact (coreStep_pins h).trans dma

end Sys2Proof.Machine
